-- ==== Sys2Proof/Word.lean ====
section
/-! DEFINITION. The word types of the XH-128's registers, SRAM and protocols, and their plainest conversions (R1). -/
namespace Sys2Proof

/-- A 32-bit register or SRAM word. -/
abbrev Word := BitVec 32

/-- A byte of SRAM, of flash, or of a frame. -/
abbrev Byte := BitVec 8

/-- A binary32 value, held as its IEEE 754 encoding (R166). -/
abbrev F32 := BitVec 32

/-- The low 32 bits of an integer, as a register holds them. -/
def wordOfInt (i : Int) : Word := BitVec.ofInt 32 i

/-- A word of a Nat, modulo 2^32. -/
def wordOfNat (n : Nat) : Word := BitVec.ofNat 32 n

/-- The four bytes of a word, least significant first (R1). -/
def Word.toBytes (w : Word) : List Byte :=
  [w.extractLsb' 0 8, w.extractLsb' 8 8, w.extractLsb' 16 8, w.extractLsb' 24 8]

/-- The little-endian number that a list of bytes spells (R1). -/
def natOfBytes : List Byte → Nat
  | [] => 0
  | b :: bs => b.toNat + 256 * natOfBytes bs

/-- `n` little-endian bytes of a number (R1). -/
def bytesOfNat : Nat → Nat → List Byte
  | 0, _ => []
  | n + 1, v => BitVec.ofNat 8 v :: bytesOfNat n (v / 256)

/-- The big-endian number that a list of bytes spells: the byte order of the published standards (R1, R46). -/
def natOfBytesBE (bs : List Byte) : Nat := bs.foldl (fun a b => a * 256 + b.toNat) 0

/-- `n` big-endian bytes of a number. -/
def bytesOfNatBE (n v : Nat) : List Byte := (bytesOfNat n v).reverse

/-- The signed reading of the low `n` bits of a number. -/
def signExtend (n v : Nat) : Int :=
  if n = 0 then 0 else if v % 2 ^ n < 2 ^ (n - 1) then ((v % 2 ^ n : Nat) : Int) else ((v % 2 ^ n : Nat) : Int) - 2 ^ n

end Sys2Proof
end

