-- ==== Sys2Proof/Operand.lean ====
section
/-! DEFINITION. The operand types of the commands: access paths, Strap frames, samples, readings and records as they arrive from outside the module. -/
namespace Sys2Proof

/-- An access path to the registers (R4): a Strap session, the Awl port, or the Tansy firmware (the loader among it). -/
inductive Path where
  | strap (sid : Nat)
  | awl
  | tansy
deriving DecidableEq, Repr

/-- Where a datagram came from: Ethernet port, VLAN identifier (0 untagged), source MAC, IP address and UDP port (R68). -/
structure SrcAddr where
  eport : Nat
  vlan : Nat
  mac : Nat
  ip : Word
  udp : Nat
deriving DecidableEq, Repr

/-- The 16-byte Strap header of Table 3.2 with its TAG (R69), and where the datagram came from. -/
structure StrapHdr where
  src : SrcAddr
  magic : Nat
  ver : Nat
  kind : Nat
  session : Nat
  seq : Nat
  len : Nat
  count : Nat
  status : Nat
  flags : Nat
  rsvd : Nat
  echo : Nat
  tag : List Byte
  /-- The length of the UDP payload that carried the frame (Table 3.2). -/
  payload : Nat
deriving DecidableEq, Repr

/-- One Strap operation of Table 3.3; `unknown` is an OP the table does not list. -/
inductive StrapOp where
  | read (addr words : Nat)
  | write (addr : Nat) (data : List Word)
  | rmw (addr : Nat) (mask value : Word)
  | nop
  | hello (slot : Nat) (nh : List Byte)
  | openS (arg : Nat)
  | close
  | subscribe (mask : Nat)
  | evAck (seq : Nat)
  | unknown (op words addr : Nat)
deriving DecidableEq, Repr

/-- What a register access that meets no acknowledge was (R111): a request of one word, a read where none is given, or a Strap frame. -/
inductive PathReq where
  | word (wr : Option Word)
  | frame (h : StrapHdr) (ops : List StrapOp)
deriving DecidableEq, Repr

/-- How the sensor bus stood at the check before a START (R430, R431): free; SDA low, and freed by a recovery; or SDA still low after the third attempt. -/
inductive BusCheck where
  | free | recovered | held
deriving DecidableEq, Repr

/-- A request of the Awl access engine (R81). -/
inductive AwlAccess where
  | read (addr : Nat)
  | write (addr : Nat) (value : Word)
deriving DecidableEq, Repr

/-- The crossing kinds of Table 4.3. -/
inductive CrossKind where
  | level | pulse | counted | word
deriving DecidableEq, Repr

/-- A crossing, named by the codes of the islands it joins (Table 2.3 as R101 extends it), its kind, and which signal of that kind it carries between them. -/
structure CrossId where
  src : Nat
  dst : Nat
  kind : CrossKind
  line : Nat := 0
deriving DecidableEq, Repr

/-- A transfer a requester asks of a bank arbiter (R126): a read, or a write of the given words. -/
structure Xfer where
  rq : Nat
  offset : Nat
  words : Nat
  wr : Option (List Word)
deriving DecidableEq, Repr

/-- An ECC finding of a read (R122, R124): a correctable or an uncorrectable error at an SRAM address. -/
inductive EccFault where
  | ce (addr : Nat)
  | ue (addr : Nat)
deriving DecidableEq, Repr

/-- What a lane's converters deliver for one frame (R199, R201, R203): the 16-bit words of U, V, W and the DC link on an F-lane; the two shunt holds and BUS on an S-lane, and whether FAULT_N is low. -/
structure LaneSample where
  lane : Nat
  u : BitVec 16
  v : BitVec 16
  w : BitVec 16
  dc : BitVec 16
  pu : BitVec 16
  pv : BitVec 16
  pw : BitVec 16
  faultLow : Bool
deriving DecidableEq, Repr

/-- What one input of a lane delivers for a frame: a conversion, or the modulator bits under the decimator's impulse response, oldest first (R199). -/
inductive Conv where
  | word (w : BitVec 16)
  | bits (b : List Bool)
deriving DecidableEq, Repr

/-- What a lane's inputs deliver at a frame start: its frame samples, those at the end of a test vector or probe of the frame just ended (R211, R212), and the level of FAULT_N. -/
structure LaneInput where
  lane : Nat
  u : Conv
  v : Conv
  w : Conv
  dc : Conv
  pu : Conv
  pv : Conv
  pw : Conv
  faultLow : Bool
deriving DecidableEq, Repr

/-- The outcome of an engine's self-check in a frame (R180). -/
inductive Canary where
  | pass | openFail | closeFail | contextEcc
deriving DecidableEq, Repr

/-- What the serial receiver of a port saw in one transaction (R225, R226, R234, R241). -/
structure SerialReading where
  ack : Bool
  start : Bool
  data : Nat
  nE : Bool
  nW : Bool
  crc : Nat
  parity : Bool
  dataHigh : Bool
deriving DecidableEq, Repr

/-- The PTP header fields the module uses (R253, Table 10.1); `corr` is correctionField in units of 2^-16 ns. -/
structure PtpHdr where
  domain : Nat
  clockId : Nat
  portNo : Nat
  seq : Nat
  corr : Int
  logInterval : Int
  twoStep : Bool
deriving DecidableEq, Repr

/-- A Sync or Follow_Up: header, origin seconds and nanoseconds, and the scaled rate offset of the Follow_Up TLV. -/
structure PtpSync where
  hdr : PtpHdr
  sec : Nat
  ns : Nat
  rateOffset : Int
deriving DecidableEq, Repr

/-- An Announce: the priority vector the BMCA compares (R255). -/
structure PtpAnnounce where
  hdr : PtpHdr
  prio1 : Nat
  clockClass : Nat
  accuracy : Nat
  variance : Nat
  prio2 : Nat
  gmId : Nat
  steps : Nat
deriving DecidableEq, Repr

/-- A Pdelay_Req or Pdelay_Resp (R253, R256). -/
structure PtpPdelay where
  hdr : PtpHdr
  rxSec : Nat
  rxNs : Nat
deriving DecidableEq, Repr

/-- A CAN frame on the wire (Table 12.1). -/
structure CanFrame where
  id : Nat
  ide : Bool
  fdf : Bool
  brs : Bool
  esi : Bool
  rtr : Bool
  dlc : Nat
  data : List Byte
deriving DecidableEq, Repr

/-- The XB-2's status of R338: live seal, power-on reference, watch-line latches, seal latch and output levels. -/
structure Xb2Status where
  sealLive : BitVec 40
  sealRef : BitVec 40
  htrip : BitVec 16
  sealLatch : Bool
  genB : BitVec 16
  path2 : BitVec 8
deriving DecidableEq, Repr

/-- The pin levels that Bridle-P reads back (R358). -/
structure Readback where
  genA : BitVec 16
  genB : BitVec 16
  path1 : BitVec 8
  path2 : BitVec 8
deriving DecidableEq, Repr

/-- A HEARTBEAT record (Table 15.2): the role byte's role, bit 6 HANDOVER_SEEN and bit 7 stuck reset, incarnation, LINK_VER, TW_NOTREADY and time, and the sender's PT_DIGEST that R53 compares. -/
structure HeartbeatRec where
  role : Nat
  handoverSeen : Bool
  stuck : Bool
  incarn : Word
  linkVer : Nat
  notReady : Nat
  ready : Bool
  timeNs : Word
  digest : List Word
deriving DecidableEq, Repr

/-- A SLOT record (Table 15.3). -/
structure SlotRec where
  slot : Nat
  late : Bool
  decim : Bool
  repeated : Bool
  unplaced : Bool
  est : Nat
  tries : Nat
  pstate : Nat
  pdone : Bool
  reversing : Bool
  frame : Word
  ppos : Int
  rtarget : Int
  pvel : F32
  iVel : F32
  iD : F32
  iQ : F32
  vcmd : F32
  icmd : F32
  vd : F32
  vq : F32
  thetaE : BitVec 16
  dutyU : BitVec 16
  dutyV : BitVec 16
  dutyW : BitVec 16
  /-- The record carries the poison mark of a word of the Lead's bank 4 (Table 5.2). -/
  poisoned : Bool := false
deriving DecidableEq, Repr

/-- A GRID record (Table 15.2). -/
structure GridRec where
  period : Nat
  fcnt : Word
  fepoch : Nat
  startNs : Nat
  debt : Nat
  shift : Nat
  level : Nat
  /-- Every SLOT, GRID and GROUP record of the frame that this record opens' predecessor arrived (R380). -/
  complete : Bool
  /-- The record carries the poison mark of a word of the Lead's bank 4 (Table 5.2). -/
  poisoned : Bool := false
deriving DecidableEq, Repr

/-- A GROUP record (Table 15.2): the Bridle state of a group, and whether its first brake path is released (on). -/
structure GroupRec where
  group : Nat
  state : Nat
  cause : Nat
  latched : Bool
  latches : BitVec 16
  ss1Start : Nat
  v0 : F32
  brakeOn : Bool
  /-- The record carries the poison mark of a word of the Lead's bank 4 (Table 5.2). -/
  poisoned : Bool := false
deriving DecidableEq, Repr

/-- A CHANGE record (R369): one register write, or a lane or port fault or clear; or one that carries a poison mark (Table 5.2). -/
inductive ChangeRec where
  | write (addr : Nat) (value : Word)
  | laneFault (lane cause : Nat)
  | laneClear (lane : Nat)
  | portFault (port cause : Nat)
  | portClear (port : Nat)
  | poisoned
deriving DecidableEq, Repr

/-- The gearing of a slot in a SNAPSHOT record (Table 15.2): whether it is engaged, the offset (with what a port master has counted so far), the ratio, and the ramp: profile ticks left of how many, and between which ratios. -/
structure GearRec where
  engaged : Bool
  offset : Int
  num : Int
  den : Int
  left : Nat
  total : Nat
  num0 : Int
  den0 : Int
  num1 : Int
  den1 : Int
deriving DecidableEq, Repr

/-- An interpolation path in a SNAPSHOT record (Table 15.2): the path parameter and its speed now, where it goes, its V, A and D, its master, and each member's slot, start and distance. -/
structure PathRec where
  moving : Bool
  stopping : Bool
  lead : Nat
  s : Int
  v : F32
  len : Nat
  last : Nat
  vmax : F32
  acc : F32
  dec : F32
  master : Nat
  m0 : Int
  back : Bool
  members : List (Nat × Int × Int)
deriving DecidableEq, Repr

/-- A SNAPSHOT record (Table 15.2): state that no per-frame record carries; or one that carries a poison mark (Table 5.2). -/
inductive SnapRec where
  | gear (slot : Nat) (g : GearRec)
  | ipath (group : Nat) (p : PathRec)
  | capture (slot : Nat) (arm : Word)
  | laneFault (lane cause : Nat)
  | portFault (port cause : Nat)
  | canTx (ch obj : Nat) (frame : List Byte)
  | fieldString (f seq : Nat) (outs : List Word)
  | canPhase (ch obj phase : Nat)
  | poisoned
deriving DecidableEq, Repr

/-- A HANDOVER record (Table 15.2). -/
structure HandoverRec where
  firstSeq : Word
  relSec : Word
  relNs : Word
deriving DecidableEq, Repr

/-- The safety input pairs of Table 14.2. -/
inductive SafetyPair where
  | stoReq | ss1Req | door
deriving DecidableEq, Repr

/-- The inputs of the reset conditioner (R414). -/
inductive ResetInput where
  | button | pin
deriving DecidableEq, Repr

end Sys2Proof
end

