-- ==== Sys2Proof/Syntax.lean ====
section
/-! DEFINITION. The commands: one constructor per row of the table of operations and events, with the operands the row needs; those with operands first, then those without, each in the table's order. -/
namespace Sys2Proof

/-- A command that reaches the module from outside, or an event of its own that the table lists as a row. -/
inductive Instr where
  /-- REGISTER_WRITE (R5): A write to a register with no row of its own stores, discards or acts on each field by its access code, refusing RWX fields outside an Expert session. -/
  | registerWrite (p : Path) (addr : Nat) (v : Word)
  /-- QUAD_LOW_READ (R4): A read of the low word of a 64-bit quantity returns it and copies the high word into the path's holding register. -/
  | quadLowRead (p : Path) (addr : Nat)
  /-- QUAD_LOW_WRITE (R4): A write of the low word of a writable 64-bit quantity is held pending for the path, replacing any earlier pending low word. -/
  | quadLowWrite (p : Path) (addr : Nat) (v : Word)
  /-- QUAD_HIGH_WRITE (R4): A write of the high word applies it with the path's pending low word, or with the low word in force, in one island cycle. -/
  | quadHighWrite (p : Path) (addr : Nat) (v : Word)
  /-- RC_FIELD_READ (R5): A read of a register holding an RC field returns the value and then clears the field, keeping any event of the same cycle. -/
  | rcFieldRead (p : Path) (addr : Nat)
  /-- STAGE_OPEN (R49): CMD 1 opens staging and sets PHASE 1. -/
  | stageOpen (p : Path)
  /-- VERIFY (R49): CMD 2 closes staging and starts the checks of Table 2.8 on the image in bank 14. -/
  | verify (p : Path)
  /-- VERIFY_COMPLETE (R50): VERIFY finishes, recording per-island digests and setting VERIFIED with PHASE 3, or refusing with the first failing check and record. -/
  | verifyComplete (reads : Bool)
  /-- ACTIVATE (R51): CMD 3 starts a full load of the verified staged image after the command refusal checks. -/
  | activate (p : Path)
  /-- LOAD_FLASH (R51): CMD 7 verifies and fully loads PAT0 or PAT1 as PT_CTRL.BANK selects. -/
  | loadFlash (p : Path) (bank : Bool)
  /-- RELACE (R54): CMD 4 checks scope, fence, policy and room and starts re-lacing the island in PT_CTRL.ISLAND. -/
  | relace (p : Path) (isl : Nat)
  /-- RELACE_REBUILD_DONE (R57): The target island's rebuild and preloads finish and its canary self-check runs, fencing it and aborting on failure. -/
  | relaceRebuildDone (canary : Bool)
  /-- COMMIT (R52): CMD 5 starts erasing and writing the verified image to the flash bank not named by PT_BOOT.BANK. -/
  | commit (p : Path) (setBoot : Bool)
  /-- COMMIT_COMPLETE (R52): COMMIT reads back and compares the image and toggles PT_BOOT.BANK when SET_BOOT was 1, or reports FLASH_FAIL. -/
  | commitComplete (equal : Bool)
  /-- STAGE_CLOSE (R49): CMD 6 returns PHASE to 0. -/
  | stageClose (p : Path)
  /-- STAGING_WRITE (R49): A Strap write to SRAM bank 14 is stored in PHASE 1 from an Expert session, and otherwise discarded with STAGE_CLOSED or EXPERT_ONLY. -/
  | stagingWrite (p : Path) (addr : Nat) (v : Word)
  /-- STRAP_READ (R71): A READ operation returns WORDS words from consecutive addresses within one block, after frame, tag, window and address checks. -/
  | strapRead (h : StrapHdr) (addr words : Nat) (rest : List StrapOp)
  /-- STRAP_WRITE (R71): A WRITE operation writes WORDS words to consecutive addresses within one block, in address order. -/
  | strapWrite (h : StrapHdr) (addr : Nat) (data : List Word) (rest : List StrapOp)
  /-- STRAP_RMW (R71): An RMW reads a register and writes (old AND NOT MASK) OR (VALUE AND MASK) atomically, refusing registers with WO, W1C, W1S or RC fields. -/
  | strapRmw (h : StrapHdr) (addr : Nat) (mask value : Word) (rest : List StrapOp)
  /-- STRAP_NOP (R70): A NOP operation does nothing and returns its status. -/
  | strapNop (h : StrapHdr) (rest : List StrapOp)
  /-- HELLO (R77): A sessionless HELLO allocates a half-open SID, derives the session key and answers tagged with NM, serial and incarnation. -/
  | hello (h : StrapHdr) (slot : Nat) (nh : List Byte) (rest : List StrapOp)
  /-- OPEN (R77): OPEN on a half-open SID opens the session at the key's level, sets the window head and optionally takes HOST_WD. -/
  | openSession (h : StrapHdr) (arg : Nat) (rest : List StrapOp)
  /-- CLOSE (R75): CLOSE ends the session, discarding its pending low words and queues. -/
  | closeSession (h : StrapHdr) (rest : List StrapOp)
  /-- SUBSCRIBE (R82): SUBSCRIBE replaces the session's event class mask, starting or ending event delivery. -/
  | subscribe (h : StrapHdr) (mask : Nat) (rest : List StrapOp)
  /-- EV_ACK (R82): EV_ACK acknowledges the outstanding event frame by SEQ, so the next queued frame may be sent. -/
  | evAck (h : StrapHdr) (seq : Nat) (rest : List StrapOp)
  /-- ARP_REQUEST (R68): An ARP request for the module's address is answered. -/
  | arpRequest (src : SrcAddr) (ip : Word)
  /-- ICMP_ECHO (R68): An ICMP echo request to the module's address is answered. -/
  | icmpEcho (src : SrcAddr) (ip : Word) (ident seq : Nat) (payload : List Byte)
  /-- OTHER_IP_FRAME (R68): An IP fragment, IPv6 or other-protocol frame is discarded. -/
  | otherIpFrame (src : SrcAddr)
  /-- HALF_OPEN_TIMEOUT (R77): A half-open session that receives no valid OPEN within 1 s is discarded. -/
  | halfOpenTimeout (sid : Nat)
  /-- SESSION_IDLE_TIMEOUT (R75): A session with no accepted request for IDLE_TIMEOUT closes and the closure is logged. -/
  | sessionIdleTimeout (sid : Nat)
  /-- EVENT_RETRANSMIT (R82): The outstanding event frame is resent every 20 ms until acknowledged, and dropped and counted after 5 retransmissions. -/
  | eventRetransmit (sid : Nat)
  /-- AWL_ENABLE (R81): A write of SYS_AWL.ENABLE enables or disables the Awl port, logging AWL_ENABLED and clearing the Standby's READY. -/
  | awlEnable (p : Path) (en : Bool)
  /-- AWL_ACCESS (R81): An access through the Awl private instruction reaches registers and SRAM with Expert rights, except bank 15 and SF_. -/
  | awlAccess (a : AwlAccess)
  /-- OP_CHANGE_SETTLED (R93): The regulator reports settled or the downward clock switch completes, and the new operating point is in force. -/
  | opChangeSettled (e : Nat)
  /-- CROSSING_ACK (R96): A crossing's round trip ends and a set PENDING or accumulated delta starts the next delivery. -/
  | crossingAck (c : CrossId)
  /-- CROSS_MERGE (R115): A frame-start delivery arrives with MERGED set, so the receiving island is declared FAILED. -/
  | crossMerge (c : CrossId)
  /-- CROSSING_RESYNC (R100): A side leaving reset signals RESYNC and the surviving side discards queued words and deltas, zeroes pointers and acknowledges. -/
  | crossingResync (c : CrossId) (words : Nat)
  /-- RESYNC_TIMEOUT (R115): A resynchronisation whose acknowledge does not return within 1 ms declares the silent island FAILED. -/
  | resyncTimeout (isl : Nat)
  /-- CROSS_HANG (R114): An acknowledge missing for 200 µs on a hang-limited crossing declares the receiving island FAILED and logs CROSS_HANG. -/
  | crossHang (c : CrossId)
  /-- ACCESS_TIMEOUT (R111): A register access not acknowledged within 10 ms is withdrawn at the crossing and returns TIMEOUT unless the acknowledge wins. -/
  | accessTimeout (p : Path) (addr : Nat) (req : PathReq) (ackWins : Bool)
  /-- ISLAND_QUIESCED (R102): An island whose accepted requests are all acknowledged enters CLOCK_STOPPED, POWER_GATED or ISLAND_RESET. -/
  | islandQuiesced (isl target : Nat)
  /-- WAKE_ON_ACCESS_READY (R104): A stalled access completes once the accessed island's clock, power or reset release has finished. -/
  | wakeOnAccessReady (isl : Nat)
  /-- WAKE_ACCESS_TIMEOUT (R104): A wake-on-access stall reaching 5 ms completes as ASLEEP and sets WAKE_FAIL. -/
  | wakeAccessTimeout (isl : Nat)
  /-- WOKEN_ISLAND_IDLE (R105): An island woken by access returns to its power-state condition after 10 ms without access. -/
  | wokenIslandIdle (isl : Nat)
  /-- ISLAND_RESET_REQ (R107): A write of SYS_ISL_RST.REQ resets the named island where Table 4.6 allows, or refuses with a RESULT code. -/
  | islandResetReq (p : Path) (isl : Nat)
  /-- ISLAND_RESET_DONE (R107): A host-requested island reset releases, the island is rebuilt from bank 15 and a stitch island's canary runs. -/
  | islandResetDone (canary : Bool)
  /-- BANK_REQUEST (R126): A requester's transfer request arrives at an idle bank arbiter and is decided by priority and round robin. -/
  | bankRequest (bank : Nat) (x : Xfer)
  /-- TRANSFER_END (R126): A granted transfer moves its last word and the arbiter decides the next grant, counting lost decisions. -/
  | transferEnd (bank : Nat) (ecc : List EccFault)
  /-- EMERGENCY_TRANSFER (R131): At the next word boundary an emergency requester suspends the transfer in progress, takes one transfer and resumes it. -/
  | emergencyTransfer (bank : Nat) (x : Xfer)
  /-- BANK_LOCK_REQ (R133): A bank lock request is granted, or refused at once with LOCK_ORDER when out of order or the bank is not lockable. -/
  | bankLockReq (rq bank : Nat)
  /-- BANK_LOCK_RELEASE (R133): A holder releases its bank lock. -/
  | bankLockRelease (rq bank : Nat)
  /-- HOLD_OVERRUN (R134): A grant outlasting AR_HOLD.LIMIT sets OVERRUN and logs HOLD_OVERRUN while the grant continues. -/
  | holdOverrun (bank : Nat)
  /-- SCRUB_PASS (R123): The scrubber reads and corrects every word of every powered bank once per PERIOD, rewriting queued words and flagging stuck addresses. -/
  | scrubPass (ecc : List EccFault)
  /-- PATTERN_LINE_REPAIR (R124): Tansy rewrites a poisoned bank-15 line from the matching flash bank, or logs PATTERN_DAMAGED and hands over. -/
  | patternLineRepair (addr : Nat)
  /-- PRIO_WRITE (R127): A write to AR_PRIO reaches all sixteen arbiters as one event, effective in the memory cycle it is applied. -/
  | prioWrite (p : Path) (bank : Nat) (hi : Bool) (v : Word)
  /-- RETAIN_WRITE (R120): A write to AR_RETAIN.MASK is stored, or discarded with REFUSED when more than three banks are selected. -/
  | retainWrite (p : Path) (v : Word)
  /-- TARGET_WRITE (R142): A completed write of AX_TARGET commands a move, a replan or a superimposed move from the next profile tick, subject to mode, limits and state. -/
  | targetWrite (p : Path) (slot : Nat) (v : BitVec 64)
  /-- JOG (R146): AX_CMD 1 runs the profile or superimposed offset at AX_JOG_VEL, replacing any move. -/
  | jog (p : Path) (slot : Nat)
  /-- STOP (R146): AX_CMD 2 decelerates the profile, offset or member path to rest at AX_DECEL and holds. -/
  | stop (p : Path) (slot : Nat)
  /-- GEAR_ENGAGE (R155): AX_CMD 3 engages gearing with OFFSET set so position is unchanged at the engaging tick. -/
  | gearEngage (p : Path) (slot : Nat)
  /-- GEAR_DISENGAGE (R155): AX_CMD 4 ends gearing and leaves the follower running at its present velocity as a jog. -/
  | gearDisengage (p : Path) (slot : Nat)
  /-- RATIO_WRITE (R155): A write to GR_NUM or GR_DEN starts a ratio ramp over GR_CFG.RAMP ticks, or is refused when GR_DEN is 0. -/
  | ratioWrite (p : Path) (slot : Nat) (den : Bool) (v : Word)
  /-- PROFILE_PARAM_WRITE (R143): A write to AX_VMAX, AX_ACCEL, AX_DECEL or AX_SS1_DEC is stored and used if valid, or refused with PARAM_REFUSED. -/
  | profileParamWrite (p : Path) (slot param : Nat) (v : Word)
  /-- IG_GO (R149): IG_CTRL.GO starts a straight-line path of the group's members to their stored targets, or refuses with REFUSED. -/
  | igGo (p : Path) (g : Nat)
  /-- IG_STOP (R151): IG_CTRL.STOP decelerates the group's path to rest at D along the line. -/
  | igStop (p : Path) (g : Nat)
  /-- IG_CFG_WRITE (R150): A write of IG_CFG sets a master slot for the path, or is refused with CFG_REFUSED for an invalid master. -/
  | igCfgWrite (p : Path) (g : Nat) (v : Word)
  /-- FRAME_START (R276): A grid opens a frame at the planned start or after late work, stamping it, sampling lanes and ports, advancing setpoints and applying debt, SS1 and release steps. -/
  | frameStart (grid : Nat) (samples : List LaneInput)
  /-- ENGINE_DISPATCH (R272): Once its frame's samples and serial readings are ready, an engine runs its opening canary, its contexts by class and its closing canary. -/
  | engineDispatch (e : Nat) (c : Canary) (busyNs : Nat)
  /-- ENGINE_HANG (R290): An engine not done with a frame two frames after its deadline is fenced with HANG. -/
  | engineHang (e : Nat)
  /-- COEF_DATA_ACCESS (R177): An access to AX_COEF_DATA reads or writes the shadow coefficient at AX_COEF_IDX and increments IDX modulo 128. -/
  | coefDataAccess (p : Path) (slot : Nat) (wr : Option Word)
  /-- COEF_COMMIT (R177): A write of AX_COEF_CTRL.COMMIT makes the shadow array, ORDER and NSTATE active at the slot's next frame start, or refuses non-finite words. -/
  | coefCommit (p : Path) (slot : Nat) (v : Word)
  /-- MAN_SWITCH (R182): A write of AX_LCFG.MAN starts or ends manual operation of the loop named by MAN_LOOP. -/
  | manSwitch (p : Path) (slot : Nat) (v : Word)
  /-- LOOP_PARAM_WRITE (R187): A write of a gain, limit, AX_VMOD or AX_VBUS_NOM is used at the loop's next run, or refused with CFG_REFUSED. -/
  | loopParamWrite (p : Path) (slot param : Nat) (v : Word)
  /-- INJECT (R180): ST_CHECK.INJECT makes the engine's next opening canary fail and logs INJECT_FENCE. -/
  | inject (p : Path) (e : Nat)
  /-- LANE_FAULT_N (R219): A lane's filtered FAULT_N goes low and the lane is disabled, latching FAULT and logging LANE_FAULT. -/
  | laneFaultN (lane : Nat)
  /-- SD_LOST (R219): A bitstream without a transition for 128 SDCLK periods disables the lane. -/
  | sdLost (lane : Nat)
  /-- LANE_CLEAR (R219): A write of LN_CTRL.CLEAR re-arms the lane at the next frame start when its cause is absent, or sets CLEAR_REFUSED. -/
  | laneClear (p : Path) (lane : Nat)
  /-- SL_RETRY_WAIT (R215): A failed sensorless start's retry wait expires and the estimator retries from IPD or enters FAILED. -/
  | slRetryWait (slot : Nat)
  /-- PA_DATA_ACCESS (R209): An access to AX_PA_DATA writes or reads the phase-advance entry at IDX, discarding invalid entries, and increments IDX modulo 16. -/
  | paDataAccess (p : Path) (slot : Nat) (wr : Option Word)
  /-- ENCODER_EDGE (R231): A valid ABZ or Hall transition changes the port count and is repeated on any pass-through output. -/
  | encoderEdge (port : Nat) (lines : BitVec 3)
  /-- SERIAL_POLL (R233): A serial port starts a transaction LATCH before its poll stamp so the encoder takes its position at the stamp. -/
  | serialPoll (port : Nat)
  /-- SERIAL_READING (R231): A serial transaction completes and is checked, extending the multi-turn count or being discarded as erroneous or slow. -/
  | serialReading (port : Nat) (r : SerialReading)
  /-- PORT_PERSISTENT_ERROR (R241): A persistent port error such as LINE, ILLEGAL, RATE, LOS, DOS, LOT or EXC puts the port into FAULT at once. -/
  | portPersistentError (port cause : Nat)
  /-- PORT_CLEAR (R242): A write of FB_CTRL.CLEAR leaves FAULT when the cause is absent, or sets CFG_REFUSED. -/
  | portClear (p : Path) (port : Nat) (absent : Bool)
  /-- REF_OK (R242): A write of FB_CTRL.REF_OK clears REF_LOST. -/
  | refOk (p : Path) (port : Nat)
  /-- CPR_WRITE (R230): A write of FB_CPR sets COUNTS_PER_REV at the next sample, or is refused while a naming slot is out of STO. -/
  | cprWrite (p : Path) (port : Nat) (v : Word)
  /-- SER_WRITE (R227): A write of FB_SER changes serial framing at the next reading, or is refused when invalid or the port is in use. -/
  | serWrite (p : Path) (port : Nat) (v : Word)
  /-- SPEED_ZERO_TIMEOUT (R236): No counted edge for ZERO_T × 10 µs sets a period-method port speed to 0. -/
  | speedZeroTimeout (port : Nat)
  /-- REPEAT_UPDATE (R237): Every 1 µs an emulating repeat output emits owed quadrature transitions, counting LAG and OVERRUN. -/
  | repeatUpdate (q : Nat)
  /-- RESOLVER_TRACK (R228): Every 1 µs a resolver's tracking loop updates its angle from demodulated sin and cos samples. -/
  | resolverTrack (port : Nat) (sinS cosS excS : BitVec 16)
  /-- NT_SET (R251): A write of NT_CTRL.SET from an Expert session steps network time to NT_SET_*, or is refused with SET_REFUSED. -/
  | ntSet (p : Path)
  /-- PTP_SYNC (R254): A received Sync yields an offset from which the servo steps or slews network time and judges SYNCED. -/
  | ptpSync (m : PtpSync)
  /-- PTP_FOLLOW_UP (R253): A received Follow_Up completes a two-step Sync. -/
  | ptpFollowUp (m : PtpSync)
  /-- PTP_ANNOUNCE (R255): A received Announce feeds the BMCA that chooses the master or grandmaster role. -/
  | ptpAnnounce (m : PtpAnnounce)
  /-- PDELAY_REQ_RX (R256): A received Pdelay_Req is answered one-step with the turnaround in correctionField. -/
  | pdelayReqRx (m : PtpPdelay)
  /-- PDELAY_RESP_RX (R253): A received Pdelay_Resp updates meanLinkDelay and asCapable. -/
  | pdelayRespRx (m : PtpPdelay)
  /-- DI_EDGE (R315): A direct input's filtered level changes, is stamped into its FIFO, and feeds limit, capture and wake functions. -/
  | diEdge (n : Nat) (level : Bool)
  /-- DI_POP (R261): A write of CP_DI_STAT.POP removes the head of the input's stamp FIFO. -/
  | diPop (p : Path) (n : Nat)
  /-- Z_EDGE (R261): An ABZ port's Z edge is stamped into CP_Z and may be captured. -/
  | zEdge (port : Nat)
  /-- CAPTURE_ARM (R263): A write of CP_ARM arms a capture of the slot's probe, home or Z edge, discarding any pending capture. -/
  | captureArm (p : Path) (slot : Nat) (v : Word)
  /-- CAPTURE (R263): When the entry after a captured stamp is written the position is reconstructed into CP_RES and DONE is set. -/
  | capture (slot : Nat)
  /-- CAPTURE_QUERY (R264): A write of CP_Q_CTRL.GO reconstructs a slot's position at a host-given stamp. -/
  | captureQuery (p : Path) (v : Word)
  /-- RECON_TIMEOUT (R262): A reconstruction with no later entry within 1 s ends with TIMEOUT. -/
  | reconTimeout (slot : Option Nat)
  /-- CAN_FRAME_RX (R296): A received CAN frame is matched to a receive object and stored with stamp, into the shadow if locked, or counted as unmatched. -/
  | canFrameRx (ch : Nat) (f : CanFrame)
  /-- CAN_TX_DONE (R309): A queued frame is sent, clearing TX_PENDING and recording its stamp. -/
  | canTxDone (ch : Nat)
  /-- CAN_OBJ_WORD0_READ (R299): A read of object word 0 locks and freezes the object for a path holding no lock, or restarts its lock timer. -/
  | canObjWord0Read (p : Path) (ch obj : Nat)
  /-- CAN_OBJ_LAST_READ (R300): The holding path's read of the object's last word releases the lock and promotes a full shadow. -/
  | canObjLastRead (p : Path) (ch obj : Nat)
  /-- CAN_LOCK_TIMEOUT (R301): A lock not released within 100 µs is released automatically and sets LOCK_TIMEOUT. -/
  | canLockTimeout (ch obj : Nat)
  /-- CAN_TX_REQ (R309): A write of TX_REQ on a host-only transmit object queues its staging bytes, or on a Standby sets NOT_LEAD. -/
  | canTxReq (p : Path) (ch obj : Nat)
  /-- CAN_ERROR (R310): A bus error updates the error counters, entering error-passive or bus-off with logging and discard of queued frames. -/
  | canError (ch tec rec : Nat)
  /-- CAN_BOFF_HOLD_EXPIRY (R310): BOFF_HOLD ms after bus-off with AUTO_RECOVER the channel starts ISO recovery. -/
  | canBoffHoldExpiry (ch : Nat)
  /-- CAN_RECOVER (R310): A write of CN_CTRL.RECOVER starts bus-off recovery. -/
  | canRecover (p : Path) (ch : Nat)
  /-- CAN_RECOVERY_DONE (R310): 128 occurrences of 11 recessive bits complete recovery and the channel rejoins the bus. -/
  | canRecoveryDone (ch : Nat)
  /-- CAN_RESTART (R313): A write of CN_CTRL.RESTART takes the channel offline, applies NSP, DSP and COMP and integrates again. -/
  | canRestart (p : Path) (ch : Nat)
  /-- CAN_INTEGRATED (R313): Integration completes and the channel becomes ERROR_ACTIVE on the Lead or MONITORING on the Standby. -/
  | canIntegrated (ch : Nat)
  /-- CAN_RX_LOST (R311): A slot-bound receive object without a frame for LOSS_T is lost, holding its slot and losing it as a master. -/
  | canRxLost (ch obj : Nat)
  /-- FIELD_SUPPLY_CHANGE (R323): FS+ held beyond a threshold for 1 ms enters or leaves LOW or MISSING with the stated reactions. -/
  | fieldSupplyChange (mv : Nat)
  /-- DO_OVERLOAD (R321): An output current-limited for 100 µs latches OVERLOAD and switches off. -/
  | doOverload (n : Nat)
  /-- DO_OVERTEMP (R321): An output switch overheating latches OVERTEMP and switches off. -/
  | doOvertemp (n : Nat)
  /-- DO_OPEN_LOAD (R321): An on output carrying under 5 mA for 10 ms sets OPEN_LOAD. -/
  | doOpenLoad (n : Nat)
  /-- DO_CLEAR (R321): A write of FI_DO_CTRL.CLEAR re-arms a latched output whose switch has cooled. -/
  | doClear (p : Path) (mask cooled : BitVec 8)
  /-- STRING_CYCLE (R325): Every 250 µs of profile time the Lead sends the outbound field-string frame and takes the sample instant. -/
  | stringCycle (f : Nat)
  /-- STRING_REPLY (R329): An accepted block reply updates the block's inputs, diagnostics and stamp and may rejoin a LOST block. -/
  | stringReply (f b : Nat) (bytes : List Byte)
  /-- STRING_REPLY_MISS (R329): A block's reply window closes with no accepted reply, counting it and declaring BLOCK_LOST after MISS_MAX. -/
  | stringReplyMiss (f b : Nat) (crcBad : Bool)
  /-- STO_REQ_INPUT (R350): The STO_REQ pair requests and both channels remove GEN_B and GEN_A of every claimed group. -/
  | stoReqInput (a b : Bool)
  /-- SS1_REQ_INPUT (R351): The SS1_REQ pair requests, starting XB-2 timers and SS1 of every group at its next frame start. -/
  | ss1ReqInput (a b : Bool)
  /-- DOOR_INPUT (R356): With SB33 ON the DOOR pair requests and every code-1 group enters SS1 with cause DOOR. -/
  | doorInput (a b : Bool)
  /-- SRST_N (R357): An accepted SRST_N low pulse clears the absent-cause latches in both channels of both modules at its rising edge. -/
  | srstN (lowMs : Nat)
  /-- DISCREPANCY (R344): Two channels of a safety pair disagreeing for 10 ms latch DISCREPANCY. -/
  | discrepancy (pair : SafetyPair)
  /-- SEAL_FAULT (R348): A seal difference, parity error or live change requests SS1 of all groups and latches SEAL until power cycle. -/
  | sealFault (live : BitVec 40)
  /-- XB2_STATUS (R338): Every 100 µs the XB-2 status arrives and Bridle-P compares seals, latches and outputs with its own readings. -/
  | xb2Status (st : Xb2Status)
  /-- READBACK_CHECK (R358): Every 100 µs Bridle-P reads back GEN and brake levels and latches READBACK on a mismatch over 200 µs. -/
  | readbackCheck (r : Readback)
  /-- HOST_STO (R350): A write of LG_STO_REQ removes GEN_A of the masked groups within 1 ms and asserts their XSTO. -/
  | hostSto (p : Path) (mask : BitVec 16)
  /-- HOST_SS1 (R351): A write of LG_SS1_REQ starts SS1 of the masked groups at their next frame start. -/
  | hostSs1 (p : Path) (mask : BitVec 16)
  /-- SS1_BRAKE_LEAD_EXPIRY (R353): 20 ms after the brake path drops at a normal SS1 end GEN_A is removed. -/
  | ss1BrakeLeadExpiry (g : Nat)
  /-- SS1_TIME_END (R353): At t_ss1 after SS1 start Bridle-P removes GEN_A and drops the first brake path if not done. -/
  | ss1TimeEnd (g : Nat)
  /-- XB2_SS1_TIMER (R339): An XB-2 SS1 timer expires and GEN_B and second brake paths of its groups go inactive. -/
  | xb2Ss1Timer (g : Nat)
  /-- WATCH_LINE_TRIP (R352): Eight consecutive watch-line intervals shorter than 1/f_lim latch HTRIP and start SS1 with cause SLS_H. -/
  | watchLineTrip (g : Nat)
  /-- LG_RELEASE (R357): A write of LG_RELEASE judges each group and withdraws its requests, or refuses with the first reason. -/
  | lgRelease (p : Path) (mask : BitVec 16)
  /-- RELEASE_GEN_B_CHECK (R357): GEN_B is read back active and GEN_A is armed for the next frame start, or after 5 ms the release is refused with GEN_B_ABSENT. -/
  | releaseGenBCheck (g : Nat)
  /-- DUAL_CLAIM (R26): Both OWN lines of a group asserted make each XB-2 remove GEN_B, and the later or position-B module releases its line, `within` nanoseconds after it found both (R374: at most 10 µs). -/
  | dualClaim (g within : Nat)
  /-- ISLAND_FAILURE (R27): An island declared failed triggers the reaction of Table 1.6 for the module's role and READY state. -/
  | islandFailure (isl : Nat)
  /-- LATIGO_BAD_FRAME (R382): A Latigo frame with a bad CRC makes the Standby send NAK. -/
  | latigoBadFrame (seq : Word)
  /-- HEARTBEAT (R364): A received heartbeat updates partner role, readiness and incarnation, discarding mirrored state on an incarnation change. -/
  | heartbeat (r : HeartbeatRec)
  /-- SLOT_RECORD (R370): A received SLOT record updates the mirrored slot state, and the hot shadow context's profile and integrators. -/
  | slotRecord (r : SlotRec)
  /-- GRID_RECORD (R286): A received GRID record sets the Standby's frame start, counters, debt, shift and LEVEL. -/
  | gridRecord (r : GridRec)
  /-- GROUP_RECORD (R368): A received GROUP record mirrors a group's Bridle state and the Standby asserts the same XSTO and XSS1. -/
  | groupRecord (r : GroupRec)
  /-- CHANGE_RECORD (R369): A received CHANGE record stores a mirrored register write, command or fault event. -/
  | changeRecord (r : ChangeRec)
  /-- SNAPSHOT_RECORD (R380): A received SNAPSHOT record loads state not carried per frame during resync. -/
  | snapshotRecord (r : SnapRec)
  /-- NAK_RECORD (R382): A received NAK makes the Lead resend the named frame once within 20 µs. -/
  | nakRecord (seq : Word)
  /-- HANDOVER_RECORD (R375): A received HANDOVER record makes the Standby set HANDOVER_SEEN and prepare to take over at the release instant. -/
  | handoverRecord (r : HandoverRec)
  /-- TRAINING_COMPLETE (R379): Training locks and deskews the lanes, exchanges heartbeats and decides roles or starts the register image. -/
  | trainingComplete (r : HeartbeatRec) (partnerPos : Bool) (partnerSerial : Word)
  /-- HANDOVER_REQ (R375): A write of TW_CTRL.REQ on the Lead chooses the release instant and sends the HANDOVER record, or refuses. -/
  | handoverReq (p : Path)
  /-- POWER_REQ_RUN (R393): PW_REQ.TARGET 0 requests Run, waking Idle or Sleep or queuing in the pending slot. -/
  | powerReqRun (p : Path)
  /-- POWER_REQ_IDLE (R393): PW_REQ.TARGET 1 requests Idle. -/
  | powerReqIdle (p : Path)
  /-- POWER_REQ_SLEEP (R394): PW_REQ.TARGET 2 requests Sleep, refused unless every group is in STO and every step and CAN slot is at rest. -/
  | powerReqSleep (p : Path)
  /-- POWER_REQ_DEEP_SLEEP (R399): PW_REQ.TARGET 3 requests Deep Sleep, which runs the entry of Table 16.5 when its checks pass. -/
  | powerReqDeepSleep (p : Path)
  /-- POWER_REQ_OFF (R399): PW_REQ.TARGET 4 requests Off, which runs the Deep Sleep entry and also gates keeper rail and SRAM. -/
  | powerReqOff (p : Path)
  /-- POWER_REQ_BAD_TARGET (R394): A PW_REQ.TARGET of 5–7 is refused with BAD_TARGET. -/
  | powerReqBadTarget (p : Path) (target : Nat)
  /-- PHY_WAKE (R402): An enabled PHY_WAKE edge requests Run. -/
  | phyWake (k : Nat)
  /-- CAN_WAKE (R402): An enabled transceiver CAN_WAKE edge requests Run. -/
  | canWake (ch : Nat)
  /-- WARM_RESET_REQ (R412): RST_CTRL.REQ 1 with KEY 0x5A resets every main-domain island, waiting for a running takeover. -/
  | warmResetReq (p : Path) (key : Byte)
  /-- MODULE_RESET_REQ (R412): RST_CTRL.REQ 2 with KEY 0x5A takes a module reset at once. -/
  | moduleResetReq (p : Path) (key : Byte)
  /-- CLEAN_RESET_REQ (R415): RST_CTRL.REQ 3 with KEY 0x5A takes a module reset with a clean start. -/
  | cleanResetReq (p : Path) (key : Byte)
  /-- RESET_INPUT_ASSERT (R414): SERVICE RESET or RESET_N active for 50 ms asserts module reset. -/
  | resetInputAssert (i : ResetInput)
  /-- RESET_INPUT_RELEASE (R414): A reset input released after 50 ms releases module reset, as a clean start from 4 s. -/
  | resetInputRelease (i : ResetInput) (heldMs : Nat)
  /-- STUCK_RESET (R416): A reset input active for 10 s is declared stuck and masked, and module reset is released. -/
  | stuckReset (i : ResetInput)
  /-- RESET_MASK_LIFT (R416): A masked reset input seen inactive for 1 s has its mask lifted. -/
  | resetMaskLift (i : ResetInput)
  /-- MODULE_RESET_RELEASE (R411): A warm, module, unseat or power-on reset releases, incrementing the incarnation and starting as STARTING with every group in STO. -/
  | moduleResetRelease (pos0 pos1 frecOk : Bool)
  /-- START_RETRY (R423): A rail not in range within 20 ms holds reset and retries each 1 s, showing START_FAIL after 3 failures. -/
  | startRetry (ok : Bool)
  /-- SENSOR_READ (R427): A scheduled read of a temperature or humidity point updates it or marks it STALE after failures. -/
  | sensorRead (point : Nat) (bus : BusCheck) (r : Option Int)
  /-- I2C_SCL_STUCK (R431): A segment whose SCL stays low for 2 ms is isolated at once. -/
  | i2cSclStuck (seg : Nat)
  /-- SEGMENT_RETRY (R432): Every 60 s isolated segments are reconnected and checked, restoring those that pass. -/
  | segmentRetry (pass recovered : BitVec 4)
  /-- I2C_RETRY (R432): A write of MG_I2C.RETRY checks every isolated segment at once. -/
  | i2cRetry (p : Path) (pass recovered : BitVec 4)
  /-- RAIL_FAULT (R428): A rail outside its range for 100 µs sets FAULT and logs RAIL_FAULT. -/
  | railFault (rail mv : Nat)
  /-- HUMIDITY_HIGH (R429): RH above 85 % for 10 minutes sets HUMIDITY_HIGH and logs it. -/
  | humidityHigh (rh : Nat)
  /-- LOG_FLASH_WRITE (R437): Saddler drains queued log entries to the pinned region or ring in flash at up to 1,000 per second. -/
  | logFlashWrite (failed : Bool)
  /-- LOG_READ (R450): MG_LOG_CTRL.READ loads the ring entry whose LSEQ is in MG_LOG_SEL into MG_LOG_DATA within 200 µs. -/
  | logRead (p : Path)
  /-- LOG_READ_PIN (R450): MG_LOG_CTRL.READ_PIN loads the pinned entry at the selected index. -/
  | logReadPin (p : Path)
  /-- PIN_CLEAR (R436): MG_LOG_CTRL.PIN_CLEAR with KEY 0x5A from an Expert session starts erasing the pinned region. -/
  | pinClear (p : Path) (key : Byte)
  /-- KEY_DATA_ACCESS (R441): An access to MG_KEY_DATA writes the window word at IDX and advances IDX. -/
  | keyDataAccess (p : Path) (wr : Option Word)
  /-- KEY_LOAD (R441): MG_KEY_CTRL.LOAD checks and commits a key from the window into its slot, or refuses with a RESULT. -/
  | keyLoad (p : Path) (v : Word)
  /-- KEY_CLEAR (R441): MG_KEY_CTRL.CLEAR checks and empties a key slot, or refuses with a RESULT. -/
  | keyClear (p : Path) (v : Word)
  /-- KEY_COMMIT_DONE (R441): The key store commit completes atomically and logs KEY_LOADED. -/
  | keyCommitDone (ok : Bool)
  /-- IMG_OPEN (R445): MG_IMG_CTRL OPEN starts erasing the bank not booted and sets PHASE 1. -/
  | imgOpen (p : Path)
  /-- IMG_DATA_WRITE (R445): A write of MG_IMG_DATA stores one word at MG_IMG_ADDR and advances it by 4. -/
  | imgDataWrite (p : Path) (v : Word)
  /-- IMG_VERIFY (R445): MG_IMG_CTRL VERIFY checks header, product, digests, signature and SEC_VER of the loaded image. -/
  | imgVerify (p : Path)
  /-- IMG_ACTIVATE (R446): MG_IMG_CTRL ACTIVATE marks a verified bank TRIAL and takes a module reset, or refuses. -/
  | imgActivate (p : Path)
  /-- IMG_CONFIRM (R447): MG_IMG_CTRL CONFIRM makes the trial bank the boot bank and raises MG_IMG_FLOOR. -/
  | imgConfirm (p : Path)
  /-- IMG_CLOSE (R445): MG_IMG_CTRL CLOSE ends the image command sequence. -/
  | imgClose (p : Path)
  /-- LOCATE (R473): A write of SYS_LED.LOCATE flashes all four LEDs green at 2 Hz. -/
  | locate (p : Path)
  /-- OVERCURRENT (R219): A decimator output or shunt hold above LN_OC_LIM in magnitude disables the lane within 100 ns of the sample. -/
  | overcurrent (lane : Nat)
  /-- POWN_LINE_CHANGE (R375): A change of the partner's OWN line of a group, as read on POWN, lets a taking-over Standby claim, makes a STARTING module STANDBY, and changes the XB-2's GEN_B condition. -/
  | pownLineChange (g : Nat) (level : Bool)
  /-- SAFETY_INPUT_RETURN (R339): A STO_REQ, SS1_REQ or DOOR pair stops requesting, clearing STO_IN, SS1_IN or DOOR_OPEN and letting the XB-2 drive GEN_B again where its other conditions hold. -/
  | safetyInputReturn (pair : SafetyPair)
  /-- SAMPLE_CYCLE_STAMP (R232): At each multiple of FB_SER_CYCLE × 125 ns of network time a port that no slot names takes a sample, updating its registers, speed and any pending FB_CPR change. -/
  | sampleCycleStamp (port : Nat)
  /-- LOG_READ_DONE (R450): A READ or READ_PIN finishes loading MG_LOG_DATA0–7 within 200 µs and clears MG_LOG_STAT.BUSY, setting NOT_FOUND or CRC_BAD as needed. -/
  | logReadDone (stored : Option (List Byte))
  /-- FULL_LOAD_COMPLETE (R51): A full load finishes copying, building structure, writing preloads and commits, updating digest and bind map and logging PATTERN_LOADED. -/
  | fullLoadComplete
  /-- RELACE_HANDOFF (R55): At the next frame start of the hosted contexts a HANDOVER re-lace moves them to other engines and puts the target into island reset. -/
  | relaceHandoff
  /-- RELACE_RETURN (R57): At the next frame start after rebuild the handed-over contexts return to the target and their AX_ preloads are written. -/
  | relaceReturn
  /-- RELACE_DONE (R55): The re-lace completes, updating PHASE, RESULT, PT_DIGEST and PT_RELACE_CNT and logging RELACE_DONE. -/
  | relaceDone
  /-- HOST_WD_EXPIRY (R83): An armed host watchdog with no feed for TIMEOUT sets EXPIRED, logs HOST_LOST, and on a Lead stops profiles or requests SS1. -/
  | hostWdExpiry
  /-- PROFILE_TICK (R141): Every 10 µs of profile time the profile island applies pending writes and commands and advances every profile, path, gear and step generator. -/
  | profileTick
  /-- BACKUP_TIME_COPY (R257): At every whole second the time island copies network time into the backup counts. -/
  | backupTimeCopy
  /-- PDELAY_REQ_TX (R253): Every 1 s the module sends Pdelay_Req on E0. -/
  | pdelayReqTx
  /-- PTP_SIGNALING (R253): A received Signaling message is discarded. -/
  | ptpSignaling
  /-- PTP_FOREIGN_FRAME (R253): A PTP frame on E1 or of another domain is discarded and counted in FOREIGN. -/
  | ptpForeignFrame
  /-- GM_SYNC_TX (R256): As grandmaster the module sends a one-step Sync every 125 ms. -/
  | gmSyncTx
  /-- GM_ANNOUNCE_TX (R255): As grandmaster the module sends Announce every 1 s. -/
  | gmAnnounceTx
  /-- ANNOUNCE_TIMEOUT (R253): announceReceiptTimeout expires and the BMCA re-evaluates the master. -/
  | announceTimeout
  /-- TIME_HOLDOVER (R266): syncReceiptTimeout, link loss or loss of asCapable clears SYNCED, holds NT_ADJ and logs TIME_HOLDOVER. -/
  | timeHoldover
  /-- E0_LINK_LOSS (R266): E0 loses link and time enters holdover. -/
  | e0LinkLoss
  /-- RING_TICK (R259): Every 62.5 µs of profile time step and virtual slots write a history ring entry. -/
  | ringTick
  /-- BUDGET_TICK (R275): Every 1 ms the scheduler forms the power allowance and sets decimation level and operating points. -/
  | budgetTick
  /-- THERMAL_CLEAR (R289): Every die point below 115 °C for 1 s clears the thermal limit. -/
  | thermalClear
  /-- XB2_LINK_LOSS (R358): A missing or malformed XB-2 status for 1 ms removes every GEN_A with cause XB2_LINK. -/
  | xb2LinkLoss
  /-- XB2_SUPPLY_LOSS (R15): The XB-2 regulator leaves its range and every GEN_B and second brake path is removed. -/
  | xb2SupplyLoss
  /-- XB2_SEAL_REFERENCE (R360): After the seal bank has been stable for 20 ms at power-on the XB-2 stores it as its reference. -/
  | xb2SealReference
  /-- LATIGO_TICK (R367): Every 10 µs each module increments its transmit SEQ and sends at least a HEARTBEAT, or its ordered sets on an untrained link. -/
  | latigoTick
  /-- BEACON (R379): A partner BEACON ordered set is recorded for relink and answered with TRAIN by a module running no timer. -/
  | beacon
  /-- LEAD_PRESENT (R363): A partner LEAD_PRESENT ordered set makes a STARTING module become STANDBY. -/
  | leadPresent
  /-- TRAIN (R379): A partner TRAIN ordered set starts or continues link training. -/
  | train
  /-- LINK_STOP (R400): A partner LINK_STOP ordered set stops the link without loss or takeover. -/
  | linkStop
  /-- REGISTER_IMAGE_DONE (R380): The Lead completes sending the register image and snapshots follow at the next frame start. -/
  | registerImageDone
  /-- LATIGO_LOSS (R367): No valid frame for 3 ticks declares link loss, starts the relink timer and may start a takeover. -/
  | latigoLoss
  /-- FAIL_IN (R375): The partner's FAIL line low for 1 µs starts a takeover. -/
  | failIn
  /-- HANDOVER_RELEASE (R375): At the release instant the Lead releases every claim if the Standby reported HANDOVER_SEEN, or keeps them with NO_READY. -/
  | handoverRelease
  /-- TAKEOVER_OWN_TIMEOUT (R375): A partner OWN line still asserted 20 µs after loss logs LINK_DOWN_LEAD_ALIVE and the Standby does not claim. -/
  | takeoverOwnTimeout
  /-- OWN_REFRESH (R373): Every 5 µs Bridle-P refreshes the OWN lines of a Lead's groups, which release 10 µs after the last refresh. -/
  | ownRefresh
  /-- RELINK_EXPIRY (R379): Every 2 s after loss the relink timer expires and the module sends TRAIN if it has recently seen the partner. -/
  | relinkExpiry
  /-- SOLO_WAIT_EXPIRY (R363): With no partner seen for SOLO_WAIT after pattern load, a STARTING module becomes LEAD. -/
  | soloWaitExpiry
  /-- PRESENCE_LOSS (R381): A presence pin lost for more than 50 µs asserts unseat reset, releasing claims and asserting FAIL. -/
  | presenceLoss
  /-- UNSEAT_RELEASE (R422): Both presence pins made for 100 ms release an unseat reset. -/
  | unseatRelease
  /-- POWER_TRANSITION_START (R394): A pending power request starts when the active transition or held work ends and is checked then. -/
  | powerTransitionStart
  /-- POWER_ENTRY_COMPLETE (R398): A power-state entry finishes gating the parts of its state and sets PW_STAT.STATE. -/
  | powerEntryComplete
  /-- WAKE_PIN (R402): A filtered active edge on WAKE requests Run, aborting an entry before its abort point. -/
  | wakePin
  /-- ALARM (R402): The backup seconds count reaching PW_ALARM requests Run when enabled. -/
  | alarm
  /-- WAKE_COMPLETE (R403): A wake reaches Run with every group in STO with cause STARTUP and logs POWER_WAKE. -/
  | wakeComplete
  /-- APP_ISLAND_IDLE (R389): In Idle or Sleep the application island stops its clock 1 ms after its last work. -/
  | appIslandIdle
  /-- CELL_REMOVED (R405): Cell removal while charging stops the charger and sets CELL_ABSENT and logs it. -/
  | cellRemoved
  /-- CELL_PRESENT (R405): A cell present for 5 s continuously re-enables charging. -/
  | cellPresent
  /-- CHARGE_DONE (R404): Charge current falling below 50 µA stops charging. -/
  | chargeDone
  /-- BACKUP_LOSS (R405): With neither supply nor cell the backup domain loses its state and its fields reset. -/
  | backupLoss
  /-- SUPPLY_FAIL (R407): VIN below 7.0 V for 100 µs starts the unabortable supply-fail shutdown of Table 16.8. -/
  | supplyFail
  /-- SUPPLY_OVERVOLT (R407): VIN above 62 V for 400 ms starts the supply-fail shutdown with OVERVOLT_SEEN. -/
  | supplyOvervolt
  /-- SUPPLY_RESTORED (R407): VIN within 8–60 V for 10 ms after a supply-fail shutdown starts the module as from power-on. -/
  | supplyRestored
  /-- POWER_ON (R418): The module supply rises through 8.0 V, asserting power-on reset and starting the rails. -/
  | powerOn
  /-- PHY_RESET_RELEASE (R478): 10 ms after module reset release PHY_RSTk_N is released. -/
  | phyResetRelease
  /-- PIN_CLEARED (R436): The pinned region erase completes and PIN_CLEARED is written to the ring. -/
  | pinCleared
  /-- IMG_VERIFY_DONE (R445): Image verification finishes, passing the bank or logging IMAGE_REFUSED with its code. -/
  | imgVerifyDone
  /-- IMG_LEAD_CONFIRM (R447): A trial image that has been LEAD in RUN for 60 s is confirmed. -/
  | imgLeadConfirm
  /-- IMG_TRIAL_TIMEOUT (R447): A trial start not reaching RUN within 2 s makes the next start boot the former bank. -/
  | imgTrialTimeout
  /-- SADDLER_HEARTBEAT_LOSS (R449): Tansy seeing no Saddler heartbeat for 10 ms declares Saddler FAILED. -/
  | saddlerHeartbeatLoss
  /-- LOCATE_END (R473): The 30 s locate pattern ends. -/
  | locateEnd
  /-- E0_LINK_UP (R268): E0 gains link and gPTP starts running on it when PTP_EN is 1. -/
  | e0LinkUp
  /-- TRAINING_TIMEOUT (R379): Training that has not completed within 1 ms ends, TRAIN stops, and the module waits for its next relink expiry. -/
  | trainingTimeout
  /-- TAKEOVER_COMPLETE (R376): A takeover finishes, TAKEOVER is logged and sent, HANDOVER_SEEN clears, and held warm resets and power requests may start while BUSY refusals end. -/
  | takeoverComplete
  /-- IMG_ERASE_DONE (R445): The erase that OPEN started on the non-booted image bank completes within 10 s and the bank is ready for MG_IMG_DATA writes in PHASE 1. -/
  | imgEraseDone
deriving DecidableEq, Repr

end Sys2Proof
end

