-- ==== Sys2Proof/Decode.lean ====
section
/-! DEFINITION. The word decoder. The module is a block: its table gives no row any bits, so no word spells a command. -/
namespace Sys2Proof

/-- The command that a word of `nbits` bits spells by the bits of the table of operations: the table gives none to any row. -/
def decodeTableWord (_nbits _w : Nat) : Option Instr := none

end Sys2Proof
end

