-- ==== Sys2Proof/Config.lean ====
section
/-! DEFINITION. What the spec leaves open: free values, constants with no body, so that no proof can see one. Each has a row in the assumption log. -/
namespace Sys2Proof

/-- A fresh free word, applied to the count of free values taken so far. -/
opaque Config.freeWord : Nat → BitVec 32
/-- The random bytes of a nonce NM (R77), by the count of free values taken and the byte's place. -/
opaque Config.nonceByte : Nat → Nat → BitVec 8
/-- The words that the queue of a word crossing holds, less one (R98): the manual gives no depth. -/
opaque Config.crossDepth : Nat
/-- The direct input whose stamp a word of bank 7 holds (Table 5.2): the manual lays no stamps out there. -/
opaque Config.stampInput : Nat → Nat
/-- The bytes of the keys that the factory fixed (Table 18.4), by slot and place. -/
opaque Config.factoryByte : Nat → Nat → BitVec 8
/-- sin of an electrical angle in 65,536 counts, as the engine's transform computes it (R172): the manual states no rounding. -/
opaque Config.sin : BitVec 16 → BitVec 32
/-- cos of an electrical angle. -/
opaque Config.cos : BitVec 16 → BitVec 32
/-- The angle of a vector (R211, R212), in 65,536 counts per revolution. -/
opaque Config.atan2 : BitVec 32 → BitVec 32 → BitVec 16
/-- The zero-sequence voltage that space-vector modulation adds to the three legs (R172): the manual names the method only. -/
opaque Config.svmZero : BitVec 32 → BitVec 32 → BitVec 32 → BitVec 32
/-- The HFI tracking loop's next angle and frequency from angle, frequency, error and bandwidth (R213): the manual gives its bandwidth only. -/
opaque Config.hfiTheta : BitVec 16 → BitVec 32 → BitVec 32 → Nat → BitVec 16
/-- The HFI loop's next frequency. -/
opaque Config.hfiFreq : BitVec 16 → BitVec 32 → BitVec 32 → Nat → BitVec 32
/-- The back-EMF observer's next angle from its angle, frequency, v_d, v_q, i_d, i_q (R213): the manual names its inputs only. -/
opaque Config.obsTheta : BitVec 16 → BitVec 32 → List (BitVec 32) → BitVec 16
/-- The observer's next frequency. -/
opaque Config.obsFreq : BitVec 16 → BitVec 32 → List (BitVec 32) → BitVec 32
/-- The value of π that a port's tracking loop forms ω from (R235). -/
opaque Config.pi : Rat
/-- A tracking loop's position as it holds it, in 2^-16 counts (R228, R235): the manual states no rounding. -/
opaque Config.trackRound : Rat → Int
/-- What a resolver's latency compensation adds to its angle, in 2^-16 counts, by its speed estimate (R228): the manual gives no latency. -/
opaque Config.resolverLag : BitVec 32 → Int
/-- sin as demodulated from the latest samples, newest first, against the excitation sense delayed by PHASE (R228): the manual gives no filter. -/
opaque Config.resolverSin : List (BitVec 16 × BitVec 16 × BitVec 16) → Nat → Int
/-- cos as demodulated from the latest samples. -/
opaque Config.resolverCos : List (BitVec 16 × BitVec 16 × BitVec 16) → Nat → Int
/-- The amplitude of the sensed excitation, in EXC_AMP's units (R241): the manual gives no scale of the sense input. -/
opaque Config.excLevel : List (BitVec 16 × BitVec 16 × BitVec 16) → Rat
/-- The type byte of a Latigo record, by its row of Table 15.2: the manual gives none. -/
opaque Config.recordType : Nat → BitVec 8
/-- A Latigo record with its poison mark (Table 5.2): the manual does not say where the mark stands. -/
opaque Config.poisonMark : List (BitVec 8) → List (BitVec 8)
/-- The levels of a digital port's lines before their first change. -/
opaque Config.pinLevels : Nat → BitVec 3
/-- Whether a bit of the vendor image check passes (R445): the image header's layout is not in the manual. -/
opaque Config.imageCheck : List (BitVec 8) → Nat
/-- SEC_VER and LINK_VER of an image, from its header. -/
opaque Config.imageSecVer : List (BitVec 8) → BitVec 32
/-- LINK_VER of an image. -/
opaque Config.imageLinkVer : List (BitVec 8) → BitVec 16
/-- The module's own offsetScaledLogVariance (0) and the clock identity of its port (1), which the manual does not give (R255). -/
opaque Config.ptpFree : Nat → Nat
/-- The neighbour rate ratio as the latest peer-delay exchange measured it (R254): its inputs are on the wire, beside the row's operands. -/
opaque Config.neighborRate : Nat → Rat

end Sys2Proof
end

