-- ==== Sys2Proof/Machine/Crypto.lean ====
section
/-! DEFINITION. The published functions the spec names: SHA-256 (FIPS 180-4), HMAC (RFC 2104), ECDSA verification on P-256 (FIPS 186-4), CRC-32 of IEEE 802.3, CRC-16 0x1021 (R327) and the BiSS-C CRCs (Table 9.2). -/
namespace Sys2Proof.Crypto

/-- The 64 round constants of SHA-256 as one number, the first in its topmost word. -/
def roundConsts : BitVec 2048 := 0x428a2f9871374491b5c0fbcfe9b5dba53956c25b59f111f1923f82a4ab1c5ed5d807aa9812835b01243185be550c7dc372be5d7480deb1fe9bdc06a7c19bf174e49b69c1efbe47860fc19dc6240ca1cc2de92c6f4a7484aa5cb0a9dc76f988da983e5152a831c66db00327c8bf597fc7c6e00bf3d5a7914706ca63511429296727b70a852e1b21384d2c6dfc53380d13650a7354766a0abb81c2c92e92722c85a2bfe8a1a81a664bc24b8b70c76c51a3d192e819d6990624f40e3585106aa07019a4c1161e376c082748774c34b0bcb5391c0cb34ed8aa4a5b9cca4f682e6ff3748f82ee78a5636f84c878148cc7020890befffaa4506cebbef9a3f7c67178f2
/-- The initial hash value of SHA-256 as one number, its first word topmost. -/
def startHash : BitVec 256 := 0x6a09e667bb67ae853c6ef372a54ff53a510e527f9b05688c1f83d9ab5be0cd19
/-- Word `i` of a row of words, counted from the topmost one of `n`. -/
def wordOf {w : Nat} (n i : Nat) (v : BitVec w) : Word := v.extractLsb' (32 * (n - 1 - i)) 32
/-- The exclusive or of two rotations of a word and a third term. -/
def twist (x : Word) (a b : Nat) (third : Word) : Word := x.rotateRight a ^^^ (x.rotateRight b ^^^ third)
/-- The window of sixteen schedule words moves on by one: its first word leaves, and the next of the schedule enters. -/
def nextWindow (m : BitVec 512) : BitVec 512 :=
  let lo := wordOf 16 1 m
  let hi := wordOf 16 14 m
  let fresh := wordOf 16 0 m + twist lo 7 18 (lo >>> 3) + wordOf 16 9 m + twist hi 17 19 (hi >>> 10)
  (m <<< 32) ||| fresh.setWidth 512
/-- A round: the eight working words move down by one; the topmost and the middle one take the round's sums. -/
def roundOf (v : BitVec 256) (m : BitVec 512) (k : Word) : BitVec 256 :=
  let top := wordOf 8 0 v
  let mid := wordOf 8 4 v
  let pick := wordOf 8 6 v ^^^ (mid &&& (wordOf 8 5 v ^^^ wordOf 8 6 v))
  let vote := (top &&& (wordOf 8 1 v ||| wordOf 8 2 v)) ||| (wordOf 8 1 v &&& wordOf 8 2 v)
  let in_ := wordOf 8 7 v + k + wordOf 16 0 m + pick + twist mid 6 11 (mid.rotateRight 25)
  let out := in_ + vote + twist top 2 13 (top.rotateRight 22)
  let low := wordOf 8 3 v
  ((v >>> 32) ^^^ ((low ^^^ (low + in_)).setWidth 256 <<< 96)) ||| (out.setWidth 256 <<< 224)
/-- A block of 512 bits taken into a hash value: 64 rounds, then word by word the sum with the value before. -/
def absorb (h : BitVec 256) (block : BitVec 512) : BitVec 256 :=
  let end_ := (List.range 64).foldl (fun (s : BitVec 256 × BitVec 512) i => (roundOf s.1 s.2 (wordOf 64 i roundConsts), nextWindow s.2)) (h, block)
  (List.range 8).foldl (fun r i => (r <<< 32) ||| (wordOf 8 i h + wordOf 8 i end_.1).setWidth 256) 0
/-- The blocks of a filled message, 64 bytes each. -/
def absorbAll : Nat → BitVec 256 → List Byte → BitVec 256
  | 0, h, _ => h
  | n + 1, h, m => absorbAll n (absorb h (BitVec.ofNat 512 (natOfBytesBE (m.take 64)))) (m.drop 64)
/-- SHA-256 of a list of bytes: the message, a bit 1, zeros and its length in bits fill whole blocks. -/
def sha256 (m : List Byte) : List Byte :=
  let blocks := (m.length + 72) / 64
  let tail := bytesOfNatBE (64 * blocks - m.length) (128 * 256 ^ (64 * blocks - m.length - 1) + 8 * m.length)
  bytesOfNatBE 32 (absorbAll blocks startHash (m ++ tail)).toNat

/-- HMAC-SHA-256: two hashes, each behind the key masked by a byte of its own. -/
def hmac (key msg : List Byte) : List Byte :=
  let short := if 64 < key.length then sha256 key else key
  let masked (b : Byte) : List Byte := (List.range 64).map (fun i => short.getD i 0 ^^^ b)
  sha256 (masked 0x5C ++ sha256 (masked 0x36 ++ msg))

/-- The field prime of P-256. -/
def p : Nat := 0xffffffff00000001000000000000000000000000ffffffffffffffffffffffff
/-- The group order of P-256. -/
def n : Nat := 0xffffffff00000000ffffffffffffffffbce6faada7179e84f3b9cac2fc632551
/-- The curve coefficient b of P-256. -/
def b : Nat := 0x5ac635d8aa3a93e7b3ebbd55769886bc651d06b0cc53b0f63bce3c3e27d2604b
/-- The base point of P-256. -/
def base : Nat × Nat := (0x6b17d1f2e12c4247f8bce6e563a440f277037d812deb33a0f4a13945d898c296, 0x4fe342e2fe1a7f9b8ee7eb4a7c0f9e162bce33576b315ececbb6406837bf51f5)

/-- Modular power by the low `k` bits of an exponent. -/
def powMod (m : Nat) : Nat → Nat → Nat → Nat
  | 0, _, _ => 1
  | k + 1, x, e => let r := powMod m k (x * x % m) (e / 2); if e % 2 = 1 then x * r % m else r
/-- The inverse modulo a prime. -/
def invMod (m x : Nat) : Nat := powMod m 256 (x % m) (m - 2)

/-- A point of the curve, `none` the point at infinity. -/
abbrev Point := Option (Nat × Nat)
/-- The sum of two points. -/
def padd (a c : Point) : Point :=
  match a, c with
  | none, q => q
  | q, none => q
  | some (x1, y1), some (x2, y2) =>
    if x1 = x2 && (y1 + y2) % p = 0 then none
    else
      let l := if x1 = x2 then (3 * x1 * x1 + (p - 3)) * invMod p (2 * y1) % p
        else (y2 + (p - y1)) * invMod p (x2 + (p - x1)) % p
      let x := (l * l + (p - x1) + (p - x2)) % p
      some (x, (l * (x1 + (p - x)) + (p - y1)) % p)
/-- A multiple of a point by the low `k` bits of a number. -/
def pmul : Nat → Nat → Point → Point
  | 0, _, _ => none
  | k + 1, e, q => let r := pmul k (e / 2) (padd q q); if e % 2 = 1 then padd q r else r

/-- The key is a point of the curve. -/
def onCurve (x y : Nat) : Bool := decide (x < p) && decide (y < p) && (y * y % p == (x * x * x + (p - 3) * x + b) % p)

/-- ECDSA verification: key X ‖ Y, signature R ‖ S, over a 32-byte digest. -/
def ecdsa (key sig digest : List Byte) : Bool :=
  let x := natOfBytesBE (key.take 32)
  let y := natOfBytesBE ((key.drop 32).take 32)
  let r := natOfBytesBE (sig.take 32)
  let s := natOfBytesBE ((sig.drop 32).take 32)
  if r = 0 || s = 0 || n ≤ r || n ≤ s || !onCurve x y then false
  else
    let z := natOfBytesBE digest
    let w := invMod n s
    match padd (pmul 256 (z * w % n) (some base)) (pmul 256 (r * w % n) (some (x, y))) with
    | none => false
    | some (xx, _) => xx % n == r

/-- One bit step of CRC-32. -/
def crc32Bit (c : Word) : Word := if c.getLsbD 0 then (c >>> 1) ^^^ 0xEDB88320 else c >>> 1
/-- CRC-32 of IEEE 802.3 (R433, Table 15.1). -/
def crc32 (m : List Byte) : Word :=
  ~~~ (m.foldl (fun c x => Nat.repeat crc32Bit 8 (c ^^^ BitVec.setWidth 32 x)) 0xFFFFFFFF)
/-- One bit step of CRC-16 0x1021. -/
def crc16Bit (c : BitVec 16) : BitVec 16 := if c.getLsbD 15 then (c <<< 1) ^^^ 0x1021 else c <<< 1
/-- The CRC-16 of the field strings (R327). -/
def crc16 (m : List Byte) : BitVec 16 :=
  m.foldl (fun c x => Nat.repeat crc16Bit 8 (c ^^^ ((BitVec.setWidth 16 x) <<< (8 : Nat)))) 0xFFFF
/-- A CRC of `w` bits with polynomial `poly` (top bit left out) over bits, first bit first, start value 0. -/
def crcBits (w poly : Nat) (bits : List Bool) : Nat :=
  bits.foldl (fun c x =>
    let top := (c / 2 ^ (w - 1)) % 2 == 1
    let c' := c * 2 % 2 ^ w
    if top != x then Nat.xor c' poly else c') 0

end Sys2Proof.Crypto
end

