-- ==== Sys2Proof/Machine/Regs.lean ====
section
/-! DEFINITION. The register map (R63, Table 3.1): every register of the spec with its base address, instances, holding island, fields, access codes (Table 0.3), reset values and retention classes (Table 0.4). -/
namespace Sys2Proof.Machine

/-- The access codes of Table 0.3 (R5). -/
inductive Acc where
  | rw | ro | wo | w1c | w1s | rc | rwx
deriving DecidableEq, Repr

/-- The retention classes of Table 0.4 (R9). -/
inductive RetClass where
  | V | W | K | B | F | S
deriving DecidableEq, Repr

/-- Where the instances of a register lie: at a stride, or as the word of a CAN object (Table 12.3) or of a field-string block (Table 13.4). -/
inductive Place where
  | lin (stride : Nat)
  | canWord (word : Nat)
  | canData
  | fieldString
deriving DecidableEq, Repr

/-- The island that holds a register (Table 3.1): a code of R101, or by the instance's index. -/
inductive Hold where
  | isl (code : Nat)
  | stitch
  | hosting
  | lane
  | group
deriving DecidableEq, Repr

/-- A field of a register: its bits, access code, reset value, retention class and level. -/
structure FldDesc where
  msb : Nat
  lsb : Nat
  acc : Acc
  reset : Nat
  cls : RetClass
  expert : Bool
deriving DecidableEq, Repr

/-- A register of the map. `resets` overrides `reset` per instance where the spec gives a table (Table 5.3). -/
structure Reg where
  id : Nat
  base : Nat
  count : Nat
  place : Place
  hold : Hold
  flds : List FldDesc
  reset : Nat
  resets : List Nat
deriving DecidableEq, Repr

/-- A field of a register, by its lowest bit and width. -/
structure Fld where
  reg : Reg
  lsb : Nat
  width : Nat
deriving DecidableEq, Repr

/-- SYS_ID (R28). -/
def R.SYS_ID : Reg := ⟨0, 0x40000000, 1, .lin 0, .isl 0x23, [⟨31, 16, .ro, 0x128, .F, false⟩,
    ⟨15, 8, .ro, 0x1, .F, false⟩,
    ⟨7, 0, .ro, 0x1, .F, false⟩], 0x1280101, []⟩
/-- SYS_CAPS (R28). -/
def R.SYS_CAPS : Reg := ⟨1, 0x40000004, 1, .lin 0, .isl 0x23, [⟨31, 27, .ro, 0x10, .F, false⟩,
    ⟨26, 21, .ro, 0x30, .F, false⟩,
    ⟨20, 14, .ro, 0x40, .F, false⟩,
    ⟨13, 8, .ro, 0x20, .F, false⟩,
    ⟨7, 0, .ro, 0x80, .F, false⟩], 0x86102080, []⟩
/-- SYS_PLACE (R28). -/
def R.SYS_PLACE : Reg := ⟨2, 0x40000008, 1, .lin 0, .isl 0x23, [⟨1, 1, .ro, 0x0, .V, false⟩,
    ⟨0, 0, .ro, 0x0, .V, false⟩], 0x0, []⟩
/-- SYS_SERIAL (R28). -/
def R.SYS_SERIAL : Reg := ⟨3, 0x4000000C, 1, .lin 0, .isl 0x23, [⟨31, 0, .ro, 0x0, .F, false⟩], 0x0, []⟩
/-- SYS_BINDMAP (R28). -/
def R.SYS_BINDMAP : Reg := ⟨4, 0x40000010, 8, .lin 4, .isl 0x23, [⟨31, 0, .ro, 0x0, .K, false⟩], 0x0, []⟩
/-- SYS_AWL (R90). -/
def R.SYS_AWL : Reg := ⟨5, 0x40000040, 1, .lin 0, .isl 0x23, [⟨1, 1, .ro, 0x0, .V, false⟩,
    ⟨0, 0, .rwx, 0x0, .V, true⟩], 0x0, []⟩
/-- SYS_WAKE_ON_ACCESS (R117). -/
def R.SYS_WAKE_ON_ACCESS : Reg := ⟨6, 0x40000050, 1, .lin 0, .isl 0x23, [⟨1, 1, .rwx, 0x0, .K, true⟩,
    ⟨0, 0, .rwx, 0x0, .K, true⟩], 0x0, []⟩
/-- SYS_ISL_RST (R117). -/
def R.SYS_ISL_RST : Reg := ⟨7, 0x40000054, 1, .lin 0, .isl 0x23, [⟨31, 31, .rwx, 0x0, .V, true⟩,
    ⟨30, 28, .ro, 0x0, .V, false⟩,
    ⟨7, 0, .rwx, 0x0, .V, true⟩], 0x0, []⟩
/-- SYS_XDROP (R117). -/
def R.SYS_XDROP : Reg := ⟨8, 0x40000058, 1, .lin 0, .isl 0x23, [⟨31, 31, .w1c, 0x0, .W, false⟩,
    ⟨30, 0, .ro, 0x0, .W, false⟩], 0x0, []⟩
/-- SYS_ISL_STATE (R117). -/
def R.SYS_ISL_STATE : Reg := ⟨9, 0x40000060, 6, .lin 4, .isl 0x23, [⟨31, 0, .ro, 0x0, .V, false⟩], 0x0, []⟩
/-- SYS_PINS (R479). -/
def R.SYS_PINS : Reg := ⟨10, 0x40000080, 1, .lin 0, .isl 0x23, [⟨8, 8, .ro, 0x0, .V, false⟩,
    ⟨7, 7, .ro, 0x0, .V, false⟩,
    ⟨6, 6, .ro, 0x0, .V, false⟩,
    ⟨5, 5, .ro, 0x0, .V, false⟩,
    ⟨4, 4, .ro, 0x0, .V, false⟩,
    ⟨3, 3, .ro, 0x0, .V, false⟩,
    ⟨2, 2, .ro, 0x0, .V, false⟩,
    ⟨1, 1, .ro, 0x0, .V, false⟩,
    ⟨0, 0, .ro, 0x0, .V, false⟩], 0x0, []⟩
/-- SYS_LED (R479). -/
def R.SYS_LED : Reg := ⟨11, 0x40000084, 1, .lin 0, .isl 0x23, [⟨0, 0, .wo, 0x0, .V, false⟩], 0x0, []⟩
/-- PW_REQ (R409). -/
def R.PW_REQ : Reg := ⟨12, 0x40010000, 1, .lin 0, .isl 0x28, [⟨8, 8, .rw, 0x0, .K, false⟩,
    ⟨2, 0, .wo, 0x0, .V, false⟩], 0x0, []⟩
/-- PW_STAT (R409). -/
def R.PW_STAT : Reg := ⟨13, 0x40010004, 1, .lin 0, .isl 0x28, [⟨31, 29, .ro, 0x0, .V, false⟩,
    ⟨28, 26, .ro, 0x7, .V, false⟩,
    ⟨25, 23, .ro, 0x7, .V, false⟩,
    ⟨22, 20, .ro, 0x0, .V, false⟩,
    ⟨15, 0, .ro, 0x0, .W, false⟩], 0x1F800000, []⟩
/-- PW_WAKE_EN (R409). -/
def R.PW_WAKE_EN : Reg := ⟨14, 0x40010008, 1, .lin 0, .isl 0x29, [⟨10, 1, .rw, 0x200, .B, false⟩,
    ⟨0, 0, .ro, 0x1, .B, false⟩], 0x401, []⟩
/-- PW_WAKE_DI (R409). -/
def R.PW_WAKE_DI : Reg := ⟨15, 0x4001000C, 1, .lin 0, .isl 0x28, [⟨15, 0, .rw, 0x0, .K, false⟩], 0x0, []⟩
/-- PW_CANWAKE (R409). -/
def R.PW_CANWAKE : Reg := ⟨16, 0x40010010, 1, .lin 0, .isl 0x28, [⟨10, 9, .rw, 0x0, .K, false⟩,
    ⟨8, 0, .rw, 0x0, .K, false⟩], 0x0, []⟩
/-- PW_ALARM_LO (R409). -/
def R.PW_ALARM_LO : Reg := ⟨17, 0x40010014, 1, .lin 0, .isl 0x29, [⟨31, 0, .rw, 0x0, .B, false⟩], 0x0, []⟩
/-- PW_ALARM_HI (R409). -/
def R.PW_ALARM_HI : Reg := ⟨18, 0x40010018, 1, .lin 0, .isl 0x29, [⟨31, 0, .rw, 0x0, .B, false⟩], 0x0, []⟩
/-- PW_WAKE_SRC (R409). -/
def R.PW_WAKE_SRC : Reg := ⟨19, 0x4001001C, 1, .lin 0, .isl 0x29, [⟨31, 29, .ro, 0x0, .B, false⟩,
    ⟨10, 0, .w1c, 0x0, .B, false⟩], 0x0, []⟩
/-- PW_CELL (R409). -/
def R.PW_CELL : Reg := ⟨20, 0x40010020, 1, .lin 0, .isl 0x29, [⟨31, 16, .ro, 0x0, .V, false⟩,
    ⟨3, 3, .ro, 0x0, .V, false⟩,
    ⟨2, 2, .ro, 0x0, .V, false⟩,
    ⟨1, 1, .w1c, 0x0, .B, false⟩,
    ⟨0, 0, .ro, 0x0, .B, false⟩], 0x0, []⟩
/-- PW_SUPPLY (R409). -/
def R.PW_SUPPLY : Reg := ⟨21, 0x40010024, 1, .lin 0, .isl 0x28, [⟨31, 16, .ro, 0x0, .V, false⟩,
    ⟨1, 1, .w1c, 0x0, .B, false⟩,
    ⟨0, 0, .w1c, 0x0, .B, false⟩], 0x0, []⟩
/-- PW_CNT (R409). -/
def R.PW_CNT : Reg := ⟨22, 0x40010028, 1, .lin 0, .isl 0x28, [⟨31, 16, .ro, 0x0, .W, false⟩,
    ⟨15, 0, .ro, 0x0, .W, false⟩], 0x0, []⟩
/-- RST_CTRL (R425). -/
def R.RST_CTRL : Reg := ⟨23, 0x40020000, 1, .lin 0, .isl 0x28, [⟨31, 24, .rwx, 0x0, .V, true⟩,
    ⟨1, 0, .rwx, 0x0, .V, true⟩], 0x0, []⟩
/-- RST_CAUSE (R425). -/
def R.RST_CAUSE : Reg := ⟨24, 0x40020004, 1, .lin 0, .isl 0x29, [⟨31, 28, .ro, 0x0, .B, false⟩,
    ⟨23, 16, .ro, 0x0, .B, false⟩,
    ⟨15, 15, .ro, 0x0, .B, false⟩,
    ⟨14, 14, .ro, 0x0, .B, false⟩], 0x0, []⟩
/-- RST_STUCK (R425). -/
def R.RST_STUCK : Reg := ⟨25, 0x40020008, 1, .lin 0, .isl 0x29, [⟨5, 5, .ro, 0x0, .V, false⟩,
    ⟨4, 4, .ro, 0x0, .V, false⟩,
    ⟨3, 3, .ro, 0x0, .B, false⟩,
    ⟨2, 2, .ro, 0x0, .B, false⟩,
    ⟨1, 1, .w1c, 0x0, .B, false⟩,
    ⟨0, 0, .w1c, 0x0, .B, false⟩], 0x0, []⟩
/-- RST_STAT (R425). -/
def R.RST_STAT : Reg := ⟨26, 0x4002000C, 1, .lin 0, .isl 0x28, [⟨31, 16, .ro, 0x0, .V, false⟩,
    ⟨2, 2, .ro, 0x0, .V, false⟩,
    ⟨1, 1, .w1c, 0x0, .V, false⟩,
    ⟨0, 0, .ro, 0x0, .V, false⟩], 0x0, []⟩
/-- RST_CNT0 (R425). -/
def R.RST_CNT0 : Reg := ⟨27, 0x40020010, 1, .lin 0, .isl 0x29, [⟨31, 16, .ro, 0x0, .B, false⟩,
    ⟨15, 0, .ro, 0x0, .B, false⟩], 0x0, []⟩
/-- RST_CNT1 (R425). -/
def R.RST_CNT1 : Reg := ⟨28, 0x40020014, 1, .lin 0, .isl 0x29, [⟨31, 16, .ro, 0x0, .B, false⟩,
    ⟨15, 0, .ro, 0x0, .B, false⟩], 0x0, []⟩
/-- AR_PRIO_LO (R137). -/
def R.AR_PRIO_LO : Reg := ⟨29, 0x40030000, 16, .lin 8, .isl 0x24, [⟨31, 28, .rwx, 0xC, .K, true⟩,
    ⟨27, 24, .rwx, 0x5, .K, true⟩,
    ⟨23, 20, .rwx, 0x6, .K, true⟩,
    ⟨19, 16, .rwx, 0xE, .K, true⟩,
    ⟨15, 12, .rwx, 0xB, .K, true⟩,
    ⟨11, 8, .rwx, 0xD, .K, true⟩,
    ⟨7, 4, .rwx, 0xC, .K, true⟩,
    ⟨3, 0, .rwx, 0xC, .K, true⟩], 0xC56EBDCC, []⟩
/-- AR_PRIO_HI (R137). -/
def R.AR_PRIO_HI : Reg := ⟨30, 0x40030004, 16, .lin 8, .isl 0x24, [⟨15, 12, .rwx, 0x1, .K, true⟩,
    ⟨11, 8, .rwx, 0x2, .K, true⟩,
    ⟨7, 4, .ro, 0xF, .K, false⟩,
    ⟨3, 0, .rwx, 0xA, .K, true⟩], 0x12FA, []⟩
/-- AR_STARVE_THR (R137). -/
def R.AR_STARVE_THR : Reg := ⟨31, 0x40030080, 6, .lin 4, .isl 0x24, [⟨31, 16, .rwx, 0x0, .K, true⟩,
    ⟨15, 0, .rwx, 0x0, .K, true⟩], 0x0, [0x00400040, 0x00400040, 0x10000040, 0x00401000, 0x00400080, 0x40000100]⟩
/-- AR_STARVE (R137). -/
def R.AR_STARVE : Reg := ⟨32, 0x400300A0, 1, .lin 0, .isl 0x24, [⟨31, 28, .ro, 0x0, .W, false⟩,
    ⟨27, 24, .ro, 0x0, .W, false⟩,
    ⟨11, 0, .w1c, 0x0, .W, false⟩], 0x0, []⟩
/-- AR_HOLD (R137). -/
def R.AR_HOLD : Reg := ⟨33, 0x400300A4, 1, .lin 0, .isl 0x24, [⟨31, 31, .w1c, 0x0, .W, false⟩,
    ⟨27, 24, .ro, 0x0, .W, false⟩,
    ⟨23, 20, .ro, 0x0, .W, false⟩,
    ⟨15, 0, .rwx, 0xFA0, .K, true⟩], 0xFA0, []⟩
/-- AR_LOCK (R137). -/
def R.AR_LOCK : Reg := ⟨34, 0x400300A8, 1, .lin 0, .isl 0x24, [⟨31, 31, .w1c, 0x0, .W, false⟩,
    ⟨30, 30, .w1c, 0x0, .W, false⟩,
    ⟨23, 20, .ro, 0x0, .W, false⟩,
    ⟨15, 0, .ro, 0x0, .V, false⟩], 0x0, []⟩
/-- AR_REVOKE (R137). -/
def R.AR_REVOKE : Reg := ⟨35, 0x400300AC, 1, .lin 0, .isl 0x24, [⟨31, 31, .w1c, 0x0, .W, false⟩,
    ⟨30, 0, .ro, 0x0, .W, false⟩], 0x0, []⟩
/-- AR_SCRUB (R137). -/
def R.AR_SCRUB : Reg := ⟨36, 0x400300B0, 1, .lin 0, .isl 0x24, [⟨31, 16, .ro, 0x0, .W, false⟩,
    ⟨7, 0, .rwx, 0xA, .K, true⟩], 0xA, []⟩
/-- AR_ECC_STAT (R137). -/
def R.AR_ECC_STAT : Reg := ⟨37, 0x400300B4, 1, .lin 0, .isl 0x24, [⟨31, 31, .w1c, 0x0, .W, false⟩,
    ⟨30, 30, .w1c, 0x0, .W, false⟩,
    ⟨29, 29, .w1c, 0x0, .W, false⟩], 0x0, []⟩
/-- AR_ECC_CE_CNT (R137). -/
def R.AR_ECC_CE_CNT : Reg := ⟨38, 0x400300B8, 1, .lin 0, .isl 0x24, [⟨31, 0, .ro, 0x0, .W, false⟩], 0x0, []⟩
/-- AR_ECC_UE_CNT (R137). -/
def R.AR_ECC_UE_CNT : Reg := ⟨39, 0x400300BC, 1, .lin 0, .isl 0x24, [⟨31, 0, .ro, 0x0, .W, false⟩], 0x0, []⟩
/-- AR_ECC_CE_ADDR (R137). -/
def R.AR_ECC_CE_ADDR : Reg := ⟨40, 0x400300C0, 1, .lin 0, .isl 0x24, [⟨31, 0, .ro, 0x0, .W, false⟩], 0x0, []⟩
/-- AR_ECC_UE_ADDR (R137). -/
def R.AR_ECC_UE_ADDR : Reg := ⟨41, 0x400300C4, 1, .lin 0, .isl 0x24, [⟨31, 0, .ro, 0x0, .W, false⟩], 0x0, []⟩
/-- AR_RETAIN (R137). -/
def R.AR_RETAIN : Reg := ⟨42, 0x400300C8, 1, .lin 0, .isl 0x24, [⟨31, 31, .w1c, 0x0, .K, false⟩,
    ⟨15, 15, .ro, 0x1, .K, false⟩,
    ⟨14, 0, .rwx, 0x0, .K, true⟩], 0x8000, []⟩
/-- AR_FAULT (R117). -/
def R.AR_FAULT : Reg := ⟨43, 0x40030100, 1, .lin 0, .isl 0x24, [⟨31, 31, .w1c, 0x0, .W, false⟩,
    ⟨30, 30, .w1c, 0x0, .W, false⟩,
    ⟨29, 29, .w1c, 0x0, .W, false⟩,
    ⟨23, 16, .ro, 0x0, .W, false⟩,
    ⟨15, 0, .ro, 0x0, .W, false⟩], 0x0, []⟩
/-- BS_CFG (R292). -/
def R.BS_CFG : Reg := ⟨44, 0x40040000, 1, .lin 0, .isl 0x26, [⟨23, 16, .rwx, 0x64, .K, true⟩,
    ⟨2, 0, .rwx, 0x0, .K, true⟩], 0x640000, []⟩
/-- BS_STAT (R292). -/
def R.BS_STAT : Reg := ⟨45, 0x40040004, 1, .lin 0, .isl 0x26, [⟨15, 15, .w1c, 0x0, .V, false⟩,
    ⟨14, 14, .w1c, 0x0, .V, false⟩,
    ⟨13, 13, .ro, 0x0, .V, false⟩,
    ⟨12, 12, .ro, 0x0, .V, false⟩,
    ⟨11, 11, .ro, 0x0, .V, false⟩,
    ⟨10, 10, .ro, 0x0, .V, false⟩,
    ⟨9, 9, .ro, 0x0, .V, false⟩,
    ⟨2, 0, .ro, 0x0, .V, false⟩], 0x0, []⟩
/-- BS_HEAT (R292). -/
def R.BS_HEAT : Reg := ⟨46, 0x40040008, 1, .lin 0, .isl 0x26, [⟨31, 24, .rwx, 0x73, .K, true⟩,
    ⟨23, 16, .rwx, 0x50, .K, true⟩,
    ⟨15, 0, .rwx, 0x384, .K, true⟩], 0x73500384, []⟩
/-- BS_ENERGY (R292). -/
def R.BS_ENERGY : Reg := ⟨47, 0x4004000C, 1, .lin 0, .isl 0x26, [⟨15, 0, .rw, 0x0, .K, false⟩], 0x0, []⟩
/-- BS_ALLOW (R292). -/
def R.BS_ALLOW : Reg := ⟨48, 0x40040010, 1, .lin 0, .isl 0x26, [⟨31, 16, .ro, 0x0, .V, false⟩,
    ⟨15, 0, .ro, 0x0, .V, false⟩], 0x0, []⟩
/-- BS_PWR (R292). -/
def R.BS_PWR : Reg := ⟨49, 0x40040014, 1, .lin 0, .isl 0x26, [⟨31, 16, .ro, 0x0, .V, false⟩,
    ⟨15, 0, .ro, 0x0, .V, false⟩], 0x0, []⟩
/-- BS_EIN_LO (R292). -/
def R.BS_EIN_LO : Reg := ⟨50, 0x40040018, 1, .lin 0, .isl 0x26, [⟨31, 0, .ro, 0x0, .W, false⟩], 0x0, []⟩
/-- BS_EIN_HI (R292). -/
def R.BS_EIN_HI : Reg := ⟨51, 0x4004001C, 1, .lin 0, .isl 0x26, [⟨31, 0, .ro, 0x0, .W, false⟩], 0x0, []⟩
/-- BS_ESTITCH_LO (R292). -/
def R.BS_ESTITCH_LO : Reg := ⟨52, 0x40040020, 1, .lin 0, .isl 0x26, [⟨31, 0, .ro, 0x0, .W, false⟩], 0x0, []⟩
/-- BS_ESTITCH_HI (R292). -/
def R.BS_ESTITCH_HI : Reg := ⟨53, 0x40040024, 1, .lin 0, .isl 0x26, [⟨31, 0, .ro, 0x0, .W, false⟩], 0x0, []⟩
/-- BS_FCNT (R292). -/
def R.BS_FCNT : Reg := ⟨54, 0x40040100, 6, .lin 0x20, .isl 0x26, [⟨31, 0, .ro, 0x0, .V, false⟩], 0x0, []⟩
/-- BS_FEPOCH (R292). -/
def R.BS_FEPOCH : Reg := ⟨55, 0x40040104, 6, .lin 0x20, .isl 0x26, [⟨15, 0, .ro, 0x0, .V, false⟩], 0x0, []⟩
/-- BS_DEBT (R292). -/
def R.BS_DEBT : Reg := ⟨56, 0x40040108, 6, .lin 0x20, .isl 0x26, [⟨31, 0, .ro, 0x0, .V, false⟩], 0x0, []⟩
/-- BS_LATE_CNT (R292). -/
def R.BS_LATE_CNT : Reg := ⟨57, 0x4004010C, 6, .lin 0x20, .isl 0x26, [⟨31, 0, .ro, 0x0, .W, false⟩], 0x0, []⟩
/-- BS_LOST_CNT (R292). -/
def R.BS_LOST_CNT : Reg := ⟨58, 0x40040110, 6, .lin 0x20, .isl 0x26, [⟨31, 0, .ro, 0x0, .W, false⟩], 0x0, []⟩
/-- BS_SHIFT (R292). -/
def R.BS_SHIFT : Reg := ⟨59, 0x40040114, 6, .lin 0x20, .isl 0x26, [⟨31, 0, .ro, 0x0, .V, false⟩], 0x0, []⟩
/-- BS_OVR_MAX (R292). -/
def R.BS_OVR_MAX : Reg := ⟨60, 0x40040118, 6, .lin 0x20, .isl 0x26, [⟨31, 0, .rc, 0x0, .V, false⟩], 0x0, []⟩
/-- BS_ENG_STAT (R292). -/
def R.BS_ENG_STAT : Reg := ⟨61, 0x40040200, 16, .lin 0x10, .isl 0x26, [⟨31, 16, .ro, 0x0, .V, false⟩,
    ⟨15, 12, .ro, 0xF, .V, false⟩,
    ⟨11, 7, .ro, 0x0, .V, false⟩,
    ⟨6, 6, .w1c, 0x0, .W, false⟩,
    ⟨5, 5, .ro, 0x0, .V, false⟩,
    ⟨4, 4, .ro, 0x0, .W, false⟩,
    ⟨2, 0, .ro, 0x0, .V, false⟩], 0xF000, []⟩
/-- BS_ENG_NEED (R292). -/
def R.BS_ENG_NEED : Reg := ⟨62, 0x40040204, 16, .lin 0x10, .isl 0x26, [⟨15, 0, .ro, 0x0, .V, false⟩], 0x0, []⟩
/-- BS_ENG_OVR (R292). -/
def R.BS_ENG_OVR : Reg := ⟨63, 0x40040208, 16, .lin 0x10, .isl 0x26, [⟨31, 0, .ro, 0x0, .W, false⟩], 0x0, []⟩
/-- BS_ENG_RECV (R292). -/
def R.BS_ENG_RECV : Reg := ⟨64, 0x4004020C, 16, .lin 0x10, .isl 0x26, [⟨31, 0, .ro, 0x0, .W, false⟩], 0x0, []⟩
/-- ST_CLK (R117). -/
def R.ST_CLK : Reg := ⟨65, 0x40080000, 16, .lin 0x1000, .stitch, [⟨31, 16, .ro, 0x0, .W, false⟩,
    ⟨4, 4, .ro, 0x0, .V, false⟩,
    ⟨2, 0, .ro, 0x7, .V, false⟩], 0x7, []⟩
/-- ST_CHECK (R191). -/
def R.ST_CHECK : Reg := ⟨66, 0x40080004, 16, .lin 0x1000, .stitch, [⟨31, 31, .ro, 0x0, .W, false⟩,
    ⟨30, 29, .ro, 0x0, .W, false⟩,
    ⟨28, 28, .rwx, 0x0, .V, true⟩,
    ⟨27, 0, .ro, 0x0, .W, false⟩], 0x0, []⟩
/-- AX_CMD (R165). -/
def R.AX_CMD : Reg := ⟨67, 0x40100000, 128, .lin 0x100, .hosting, [⟨2, 0, .wo, 0x0, .V, false⟩], 0x0, []⟩
/-- AX_PCFG (R165). -/
def R.AX_PCFG : Reg := ⟨68, 0x40100004, 128, .lin 0x100, .hosting, [⟨1, 1, .rw, 0x0, .K, false⟩,
    ⟨0, 0, .rw, 0x0, .K, false⟩], 0x0, []⟩
/-- AX_TARGET_LO (R165). -/
def R.AX_TARGET_LO : Reg := ⟨69, 0x40100008, 128, .lin 0x100, .hosting, [⟨31, 0, .rw, 0x0, .V, false⟩], 0x0, []⟩
/-- AX_TARGET_HI (R165). -/
def R.AX_TARGET_HI : Reg := ⟨70, 0x4010000C, 128, .lin 0x100, .hosting, [⟨31, 0, .rw, 0x0, .V, false⟩], 0x0, []⟩
/-- AX_VMAX (R165). -/
def R.AX_VMAX : Reg := ⟨71, 0x40100010, 128, .lin 0x100, .hosting, [⟨31, 0, .rw, 0x0, .K, false⟩], 0x0, []⟩
/-- AX_ACCEL (R165). -/
def R.AX_ACCEL : Reg := ⟨72, 0x40100014, 128, .lin 0x100, .hosting, [⟨31, 0, .rw, 0x0, .K, false⟩], 0x0, []⟩
/-- AX_DECEL (R165). -/
def R.AX_DECEL : Reg := ⟨73, 0x40100018, 128, .lin 0x100, .hosting, [⟨31, 0, .rw, 0x0, .K, false⟩], 0x0, []⟩
/-- AX_SS1_DEC (R165). -/
def R.AX_SS1_DEC : Reg := ⟨74, 0x4010001C, 128, .lin 0x100, .hosting, [⟨31, 0, .rw, 0x0, .K, false⟩], 0x0, []⟩
/-- AX_JOG_VEL (R165). -/
def R.AX_JOG_VEL : Reg := ⟨75, 0x40100020, 128, .lin 0x100, .hosting, [⟨31, 0, .rw, 0x0, .K, false⟩], 0x0, []⟩
/-- AX_SOFT_MIN_LO (R165). -/
def R.AX_SOFT_MIN_LO : Reg := ⟨76, 0x40100028, 128, .lin 0x100, .hosting, [⟨31, 0, .rw, 0x0, .K, false⟩], 0x0, []⟩
/-- AX_SOFT_MIN_HI (R165). -/
def R.AX_SOFT_MIN_HI : Reg := ⟨77, 0x4010002C, 128, .lin 0x100, .hosting, [⟨31, 0, .rw, 0x0, .K, false⟩], 0x0, []⟩
/-- AX_SOFT_MAX_LO (R165). -/
def R.AX_SOFT_MAX_LO : Reg := ⟨78, 0x40100030, 128, .lin 0x100, .hosting, [⟨31, 0, .rw, 0x0, .K, false⟩], 0x0, []⟩
/-- AX_SOFT_MAX_HI (R165). -/
def R.AX_SOFT_MAX_HI : Reg := ⟨79, 0x40100034, 128, .lin 0x100, .hosting, [⟨31, 0, .rw, 0x0, .K, false⟩], 0x0, []⟩
/-- AX_PPOS_LO (R165). -/
def R.AX_PPOS_LO : Reg := ⟨80, 0x40100038, 128, .lin 0x100, .hosting, [⟨31, 0, .ro, 0x0, .V, false⟩], 0x0, []⟩
/-- AX_PPOS_HI (R165). -/
def R.AX_PPOS_HI : Reg := ⟨81, 0x4010003C, 128, .lin 0x100, .hosting, [⟨31, 0, .ro, 0x0, .V, false⟩], 0x0, []⟩
/-- AX_PVEL (R165). -/
def R.AX_PVEL : Reg := ⟨82, 0x40100040, 128, .lin 0x100, .hosting, [⟨31, 0, .ro, 0x0, .V, false⟩], 0x0, []⟩
/-- AX_PSTAT (R165). -/
def R.AX_PSTAT : Reg := ⟨83, 0x40100044, 128, .lin 0x100, .hosting, [⟨15, 15, .w1c, 0x0, .V, false⟩,
    ⟨14, 14, .w1c, 0x0, .V, false⟩,
    ⟨13, 13, .w1c, 0x0, .V, false⟩,
    ⟨12, 12, .w1c, 0x0, .V, false⟩,
    ⟨11, 11, .ro, 0x0, .V, false⟩,
    ⟨10, 10, .w1c, 0x0, .V, false⟩,
    ⟨9, 9, .w1c, 0x0, .V, false⟩,
    ⟨8, 8, .w1c, 0x0, .V, false⟩,
    ⟨4, 4, .ro, 0x0, .V, false⟩,
    ⟨3, 3, .ro, 0x0, .V, false⟩,
    ⟨2, 0, .ro, 0x6, .V, false⟩], 0x6, []⟩
/-- AX_SCALE_NUM (R165). -/
def R.AX_SCALE_NUM : Reg := ⟨84, 0x40100048, 128, .lin 0x100, .hosting, [⟨31, 0, .rw, 0x1, .K, false⟩], 0x1, []⟩
/-- AX_SCALE_DEN (R165). -/
def R.AX_SCALE_DEN : Reg := ⟨85, 0x4010004C, 128, .lin 0x100, .hosting, [⟨31, 0, .rw, 0x1, .K, false⟩], 0x1, []⟩
/-- AX_MOVES (R165). -/
def R.AX_MOVES : Reg := ⟨86, 0x40100050, 128, .lin 0x100, .hosting, [⟨31, 0, .ro, 0x0, .W, false⟩], 0x0, []⟩
/-- AX_STAT (R292). -/
def R.AX_STAT : Reg := ⟨87, 0x40100054, 128, .lin 0x100, .hosting, [⟨31, 24, .ro, 0x0, .W, false⟩,
    ⟨15, 12, .ro, 0x0, .V, false⟩,
    ⟨11, 10, .ro, 0x0, .K, false⟩,
    ⟨9, 8, .ro, 0x0, .V, false⟩,
    ⟨2, 2, .ro, 0x0, .V, false⟩,
    ⟨1, 1, .w1c, 0x0, .V, false⟩], 0x0, []⟩
/-- AX_LCFG (R191). -/
def R.AX_LCFG : Reg := ⟨88, 0x40100060, 128, .lin 0x100, .hosting, [⟨4, 4, .rw, 0x0, .K, false⟩,
    ⟨3, 2, .rwx, 0x0, .K, true⟩,
    ⟨1, 1, .rwx, 0x1, .K, true⟩,
    ⟨0, 0, .rwx, 0x0, .V, true⟩], 0x2, []⟩
/-- AX_LSTAT (R191). -/
def R.AX_LSTAT : Reg := ⟨89, 0x40100064, 128, .lin 0x100, .hosting, [⟨31, 24, .ro, 0x0, .V, false⟩,
    ⟨12, 12, .ro, 0x0, .V, false⟩,
    ⟨11, 11, .w1c, 0x0, .V, false⟩,
    ⟨10, 10, .w1c, 0x0, .V, false⟩,
    ⟨9, 9, .w1c, 0x0, .V, false⟩,
    ⟨8, 8, .w1c, 0x0, .V, false⟩,
    ⟨4, 4, .ro, 0x0, .V, false⟩,
    ⟨3, 3, .ro, 0x0, .V, false⟩,
    ⟨2, 2, .ro, 0x0, .V, false⟩,
    ⟨1, 1, .ro, 0x0, .V, false⟩,
    ⟨0, 0, .ro, 0x0, .V, false⟩], 0x0, []⟩
/-- AX_KPP (R191). -/
def R.AX_KPP : Reg := ⟨90, 0x40100068, 128, .lin 0x100, .hosting, [⟨31, 0, .rwx, 0x0, .K, true⟩], 0x0, []⟩
/-- AX_KVFF (R191). -/
def R.AX_KVFF : Reg := ⟨91, 0x4010006C, 128, .lin 0x100, .hosting, [⟨31, 0, .rwx, 0x0, .K, true⟩], 0x0, []⟩
/-- AX_VLIM (R191). -/
def R.AX_VLIM : Reg := ⟨92, 0x40100070, 128, .lin 0x100, .hosting, [⟨31, 0, .rwx, 0x0, .K, true⟩], 0x0, []⟩
/-- AX_KPV (R191). -/
def R.AX_KPV : Reg := ⟨93, 0x40100074, 128, .lin 0x100, .hosting, [⟨31, 0, .rwx, 0x0, .K, true⟩], 0x0, []⟩
/-- AX_KIV (R191). -/
def R.AX_KIV : Reg := ⟨94, 0x40100078, 128, .lin 0x100, .hosting, [⟨31, 0, .rwx, 0x0, .K, true⟩], 0x0, []⟩
/-- AX_ILIM (R191). -/
def R.AX_ILIM : Reg := ⟨95, 0x4010007C, 128, .lin 0x100, .hosting, [⟨31, 0, .rwx, 0x0, .K, true⟩], 0x0, []⟩
/-- AX_KAFF (R191). -/
def R.AX_KAFF : Reg := ⟨96, 0x40100080, 128, .lin 0x100, .hosting, [⟨31, 0, .rwx, 0x0, .K, true⟩], 0x0, []⟩
/-- AX_KPI (R191). -/
def R.AX_KPI : Reg := ⟨97, 0x40100084, 128, .lin 0x100, .hosting, [⟨31, 0, .rwx, 0x0, .K, true⟩], 0x0, []⟩
/-- AX_KII (R191). -/
def R.AX_KII : Reg := ⟨98, 0x40100088, 128, .lin 0x100, .hosting, [⟨31, 0, .rwx, 0x0, .K, true⟩], 0x0, []⟩
/-- AX_VMOD (R191). -/
def R.AX_VMOD : Reg := ⟨99, 0x4010008C, 128, .lin 0x100, .hosting, [⟨31, 0, .rwx, 0x3F733333, .K, true⟩], 0x3F733333, []⟩
/-- AX_VBUS_NOM (R191). -/
def R.AX_VBUS_NOM : Reg := ⟨100, 0x40100090, 128, .lin 0x100, .hosting, [⟨31, 0, .rwx, 0x42400000, .K, true⟩], 0x42400000, []⟩
/-- AX_FRIC_VDB (R191). -/
def R.AX_FRIC_VDB : Reg := ⟨101, 0x40100094, 128, .lin 0x100, .hosting, [⟨31, 0, .rwx, 0x0, .K, true⟩], 0x0, []⟩
/-- AX_TB_GAIN (R191). -/
def R.AX_TB_GAIN : Reg := ⟨102, 0x40100098, 128, .lin 0x100, .hosting, [⟨31, 0, .rwx, 0x0, .K, true⟩], 0x0, []⟩
/-- AX_FERR_LIM (R191). -/
def R.AX_FERR_LIM : Reg := ⟨103, 0x4010009C, 128, .lin 0x100, .hosting, [⟨31, 0, .rw, 0x0, .K, false⟩], 0x0, []⟩
/-- AX_INPOS_WIN (R191). -/
def R.AX_INPOS_WIN : Reg := ⟨104, 0x401000A0, 128, .lin 0x100, .hosting, [⟨31, 0, .rw, 0x0, .K, false⟩], 0x0, []⟩
/-- AX_INPOS_CFG (R191). -/
def R.AX_INPOS_CFG : Reg := ⟨105, 0x401000A4, 128, .lin 0x100, .hosting, [⟨7, 0, .rw, 0x4, .K, false⟩], 0x4, []⟩
/-- AX_MAN_OUT (R191). -/
def R.AX_MAN_OUT : Reg := ⟨106, 0x401000A8, 128, .lin 0x100, .hosting, [⟨31, 0, .rwx, 0x0, .V, true⟩], 0x0, []⟩
/-- AX_COEF_CTRL (R191). -/
def R.AX_COEF_CTRL : Reg := ⟨107, 0x401000AC, 128, .lin 0x100, .hosting, [⟨8, 8, .rwx, 0x0, .V, true⟩,
    ⟨7, 4, .rwx, 0x8, .K, true⟩,
    ⟨3, 0, .rwx, 0x0, .K, true⟩], 0x80, []⟩
/-- AX_COEF_IDX (R191). -/
def R.AX_COEF_IDX : Reg := ⟨108, 0x401000B0, 128, .lin 0x100, .hosting, [⟨6, 0, .rwx, 0x0, .V, true⟩], 0x0, []⟩
/-- AX_COEF_DATA (R191). -/
def R.AX_COEF_DATA : Reg := ⟨109, 0x401000B4, 128, .lin 0x100, .hosting, [⟨31, 0, .rwx, 0x0, .K, true⟩], 0x0, []⟩
/-- AX_PERR (R191). -/
def R.AX_PERR : Reg := ⟨110, 0x401000B8, 128, .lin 0x100, .hosting, [⟨31, 0, .ro, 0x0, .V, false⟩], 0x0, []⟩
/-- AX_ICMD (R191). -/
def R.AX_ICMD : Reg := ⟨111, 0x401000BC, 128, .lin 0x100, .hosting, [⟨31, 0, .ro, 0x0, .V, false⟩], 0x0, []⟩
/-- AX_COMM (R222). -/
def R.AX_COMM : Reg := ⟨112, 0x401000C0, 128, .lin 0x100, .hosting, [⟨31, 16, .rwx, 0x0, .K, true⟩,
    ⟨15, 8, .rwx, 0x1, .K, true⟩,
    ⟨0, 0, .rwx, 0x0, .K, true⟩], 0x100, []⟩
/-- AX_MOT_RS (R222). -/
def R.AX_MOT_RS : Reg := ⟨113, 0x401000C4, 128, .lin 0x100, .hosting, [⟨31, 0, .rwx, 0x0, .K, true⟩], 0x0, []⟩
/-- AX_MOT_LD (R222). -/
def R.AX_MOT_LD : Reg := ⟨114, 0x401000C8, 128, .lin 0x100, .hosting, [⟨31, 0, .rwx, 0x0, .K, true⟩], 0x0, []⟩
/-- AX_MOT_LQ (R222). -/
def R.AX_MOT_LQ : Reg := ⟨115, 0x401000CC, 128, .lin 0x100, .hosting, [⟨31, 0, .rwx, 0x0, .K, true⟩], 0x0, []⟩
/-- AX_MOT_FLUX (R222). -/
def R.AX_MOT_FLUX : Reg := ⟨116, 0x401000D0, 128, .lin 0x100, .hosting, [⟨31, 0, .rwx, 0x0, .K, true⟩], 0x0, []⟩
/-- AX_SL_CFG (R222). -/
def R.AX_SL_CFG : Reg := ⟨117, 0x401000D4, 128, .lin 0x100, .hosting, [⟨31, 24, .rwx, 0x40, .K, true⟩,
    ⟨23, 16, .rwx, 0x28, .K, true⟩,
    ⟨15, 8, .rwx, 0x5A, .K, true⟩,
    ⟨7, 5, .rwx, 0x3, .K, true⟩,
    ⟨4, 4, .rwx, 0x0, .K, true⟩,
    ⟨3, 0, .rwx, 0x4, .K, true⟩], 0x40285A64, []⟩
/-- AX_SL_HFI_V (R222). -/
def R.AX_SL_HFI_V : Reg := ⟨118, 0x401000D8, 128, .lin 0x100, .hosting, [⟨31, 0, .rwx, 0x0, .K, true⟩], 0x0, []⟩
/-- AX_SL_BW (R222). -/
def R.AX_SL_BW : Reg := ⟨119, 0x401000DC, 128, .lin 0x100, .hosting, [⟨31, 16, .rwx, 0xC8, .K, true⟩,
    ⟨15, 0, .rwx, 0x32, .K, true⟩], 0xC80032, []⟩
/-- AX_SL_VLO (R222). -/
def R.AX_SL_VLO : Reg := ⟨120, 0x401000E0, 128, .lin 0x100, .hosting, [⟨31, 0, .rwx, 0x0, .K, true⟩], 0x0, []⟩
/-- AX_SL_VHI (R222). -/
def R.AX_SL_VHI : Reg := ⟨121, 0x401000E4, 128, .lin 0x100, .hosting, [⟨31, 0, .rwx, 0x0, .K, true⟩], 0x0, []⟩
/-- AX_PA_WSTART (R222). -/
def R.AX_PA_WSTART : Reg := ⟨122, 0x401000E8, 128, .lin 0x100, .hosting, [⟨31, 0, .rwx, 0x0, .K, true⟩], 0x0, []⟩
/-- AX_PA_WSTEP (R222). -/
def R.AX_PA_WSTEP : Reg := ⟨123, 0x401000EC, 128, .lin 0x100, .hosting, [⟨31, 0, .rwx, 0x0, .K, true⟩], 0x0, []⟩
/-- AX_PA_WIN (R222). -/
def R.AX_PA_WIN : Reg := ⟨124, 0x401000F0, 128, .lin 0x100, .hosting, [⟨4, 4, .rwx, 0x0, .K, true⟩,
    ⟨3, 0, .rwx, 0x0, .V, true⟩], 0x0, []⟩
/-- AX_PA_DATA (R222). -/
def R.AX_PA_DATA : Reg := ⟨125, 0x401000F4, 128, .lin 0x100, .hosting, [⟨31, 0, .rwx, 0x0, .K, true⟩], 0x0, []⟩
/-- AX_SL_STAT (R222). -/
def R.AX_SL_STAT : Reg := ⟨126, 0x401000F8, 128, .lin 0x100, .hosting, [⟨31, 29, .ro, 0x0, .V, false⟩,
    ⟨28, 26, .ro, 0x0, .V, false⟩,
    ⟨25, 25, .w1c, 0x0, .V, false⟩,
    ⟨24, 24, .w1c, 0x0, .V, false⟩,
    ⟨23, 23, .w1c, 0x0, .V, false⟩], 0x0, []⟩
/-- AX_COMM_STAT (R222). -/
def R.AX_COMM_STAT : Reg := ⟨127, 0x401000FC, 128, .lin 0x100, .hosting, [⟨19, 19, .ro, 0x0, .V, false⟩,
    ⟨18, 16, .ro, 0x4, .V, false⟩,
    ⟨15, 0, .ro, 0x0, .V, false⟩], 0x40000, []⟩
/-- LN_CFG (R222). -/
def R.LN_CFG : Reg := ⟨128, 0x40200000, 96, .lin 0x100, .lane, [⟨31, 16, .rwx, 0xC80, .K, true⟩,
    ⟨15, 8, .rwx, 0x28, .K, true⟩,
    ⟨5, 4, .rwx, 0x1, .K, true⟩,
    ⟨3, 3, .rwx, 0x0, .K, true⟩,
    ⟨2, 2, .rwx, 0x0, .K, true⟩,
    ⟨1, 1, .rwx, 0x0, .K, true⟩], 0xC802810, []⟩
/-- LN_CTRL (R222). -/
def R.LN_CTRL : Reg := ⟨129, 0x40200004, 96, .lin 0x100, .lane, [⟨0, 0, .wo, 0x0, .V, false⟩], 0x0, []⟩
/-- LN_STAT (R222). -/
def R.LN_STAT : Reg := ⟨130, 0x40200008, 96, .lin 0x100, .lane, [⟨31, 31, .ro, 0x0, .V, false⟩,
    ⟨30, 28, .ro, 0x0, .V, false⟩,
    ⟨27, 27, .ro, 0x0, .V, false⟩,
    ⟨26, 26, .ro, 0x0, .V, false⟩,
    ⟨25, 25, .ro, 0x0, .V, false⟩,
    ⟨24, 24, .w1c, 0x0, .V, false⟩], 0x0, []⟩
/-- LN_IGAIN (R222). -/
def R.LN_IGAIN : Reg := ⟨131, 0x4020000C, 96, .lin 0x100, .lane, [⟨31, 0, .rwx, 0x0, .K, true⟩], 0x0, []⟩
/-- LN_VGAIN (R222). -/
def R.LN_VGAIN : Reg := ⟨132, 0x40200010, 96, .lin 0x100, .lane, [⟨31, 0, .rwx, 0x0, .K, true⟩], 0x0, []⟩
/-- LN_OC_LIM (R222). -/
def R.LN_OC_LIM : Reg := ⟨133, 0x40200014, 96, .lin 0x100, .lane, [⟨31, 0, .rwx, 0x0, .K, true⟩], 0x0, []⟩
/-- LN_OFS_UV (R222). -/
def R.LN_OFS_UV : Reg := ⟨134, 0x40200018, 96, .lin 0x100, .lane, [⟨31, 16, .ro, 0x0, .V, false⟩,
    ⟨15, 0, .ro, 0x0, .V, false⟩], 0x0, []⟩
/-- LN_OFS_W (R222). -/
def R.LN_OFS_W : Reg := ⟨135, 0x4020001C, 96, .lin 0x100, .lane, [⟨15, 0, .ro, 0x0, .V, false⟩], 0x0, []⟩
/-- LN_SAMPLE (R222). -/
def R.LN_SAMPLE : Reg := ⟨136, 0x40200020, 96, .lin 0x100, .lane, [⟨31, 16, .ro, 0x0, .V, false⟩,
    ⟨15, 0, .ro, 0x0, .V, false⟩], 0x0, []⟩
/-- LN_SAMPLE2 (R222). -/
def R.LN_SAMPLE2 : Reg := ⟨137, 0x40200024, 96, .lin 0x100, .lane, [⟨31, 16, .ro, 0x0, .V, false⟩,
    ⟨15, 0, .ro, 0x0, .V, false⟩], 0x0, []⟩
/-- LN_SHUNT_CFG (R222). -/
def R.LN_SHUNT_CFG : Reg := ⟨138, 0x40200028, 96, .lin 0x100, .lane, [⟨7, 0, .rwx, 0x4, .K, true⟩], 0x4, []⟩
/-- LN_SHUNT_CNT (R222). -/
def R.LN_SHUNT_CNT : Reg := ⟨139, 0x4020002C, 96, .lin 0x100, .lane, [⟨31, 16, .ro, 0x0, .W, false⟩,
    ⟨15, 0, .ro, 0x0, .W, false⟩], 0x0, []⟩
/-- LN_FAULTS (R222). -/
def R.LN_FAULTS : Reg := ⟨140, 0x40200030, 96, .lin 0x100, .lane, [⟨31, 0, .ro, 0x0, .W, false⟩], 0x0, []⟩
/-- LG_CFG (R222). -/
def R.LG_CFG : Reg := ⟨141, 0x40210000, 16, .lin 0x10, .group, [⟨23, 16, .ro, 0x0, .K, false⟩,
    ⟨15, 8, .ro, 0x0, .K, false⟩,
    ⟨7, 0, .ro, 0x0, .K, false⟩], 0x0, []⟩
/-- LG_SDCFG (R222). -/
def R.LG_SDCFG : Reg := ⟨142, 0x40210004, 16, .lin 0x10, .group, [⟨3, 3, .rwx, 0x0, .K, true⟩,
    ⟨2, 0, .rwx, 0x0, .K, true⟩], 0x0, []⟩
/-- LG_STAT (R222). -/
def R.LG_STAT : Reg := ⟨143, 0x40210008, 16, .lin 0x10, .group, [⟨15, 8, .ro, 0x0, .V, false⟩,
    ⟨3, 3, .ro, 0x0, .V, false⟩,
    ⟨2, 2, .ro, 0x0, .V, false⟩,
    ⟨1, 1, .ro, 0x0, .V, false⟩,
    ⟨0, 0, .ro, 0x0, .V, false⟩], 0x0, []⟩
/-- LG_STO_REQ (R362). -/
def R.LG_STO_REQ : Reg := ⟨144, 0x40210100, 1, .lin 0, .isl 0x27, [⟨15, 0, .w1s, 0x0, .V, false⟩], 0x0, []⟩
/-- LG_SS1_REQ (R362). -/
def R.LG_SS1_REQ : Reg := ⟨145, 0x40210104, 1, .lin 0, .isl 0x27, [⟨15, 0, .w1s, 0x0, .V, false⟩], 0x0, []⟩
/-- LG_RELEASE (R362). -/
def R.LG_RELEASE : Reg := ⟨146, 0x40210108, 1, .lin 0, .isl 0x27, [⟨15, 0, .wo, 0x0, .V, false⟩], 0x0, []⟩
/-- LG_REL_RESULT (R362). -/
def R.LG_REL_RESULT : Reg := ⟨147, 0x4021010C, 1, .lin 0, .isl 0x27, [⟨31, 28, .ro, 0x0, .V, false⟩,
    ⟨15, 0, .ro, 0x0, .V, false⟩], 0x0, []⟩
/-- FB_CFG (R246). -/
def R.FB_CFG : Reg := ⟨148, 0x40300000, 56, .lin 0x80, .isl 0x20, [⟨31, 29, .ro, 0x0, .K, false⟩,
    ⟨25, 24, .rwx, 0x1, .K, true⟩,
    ⟨23, 16, .rwx, 0x3, .K, true⟩,
    ⟨8, 8, .rwx, 0x0, .K, true⟩,
    ⟨7, 7, .rwx, 0x0, .K, true⟩], 0x1030000, []⟩
/-- FB_CPR (R246). -/
def R.FB_CPR : Reg := ⟨149, 0x40300004, 56, .lin 0x80, .isl 0x20, [⟨31, 0, .rwx, 0x1000, .K, true⟩], 0x1000, []⟩
/-- FB_ST (R246). -/
def R.FB_ST : Reg := ⟨150, 0x40300008, 56, .lin 0x80, .isl 0x20, [⟨31, 0, .ro, 0x0, .V, false⟩], 0x0, []⟩
/-- FB_MT (R246). -/
def R.FB_MT : Reg := ⟨151, 0x4030000C, 56, .lin 0x80, .isl 0x20, [⟨31, 0, .ro, 0x0, .V, false⟩], 0x0, []⟩
/-- FB_POS_LO (R246). -/
def R.FB_POS_LO : Reg := ⟨152, 0x40300010, 56, .lin 0x80, .isl 0x20, [⟨31, 0, .ro, 0x0, .V, false⟩], 0x0, []⟩
/-- FB_POS_HI (R246). -/
def R.FB_POS_HI : Reg := ⟨153, 0x40300014, 56, .lin 0x80, .isl 0x20, [⟨31, 0, .ro, 0x0, .V, false⟩], 0x0, []⟩
/-- FB_SPEED (R246). -/
def R.FB_SPEED : Reg := ⟨154, 0x40300018, 56, .lin 0x80, .isl 0x20, [⟨31, 0, .ro, 0x0, .V, false⟩], 0x0, []⟩
/-- FB_SPD_CFG (R246). -/
def R.FB_SPD_CFG : Reg := ⟨155, 0x4030001C, 56, .lin 0x80, .isl 0x20, [⟨31, 30, .rwx, 0x1, .K, true⟩,
    ⟨23, 16, .rwx, 0x10, .K, true⟩,
    ⟨15, 0, .rwx, 0x320, .K, true⟩], 0x40100320, []⟩
/-- FB_ZERO_T (R246). -/
def R.FB_ZERO_T : Reg := ⟨156, 0x40300020, 56, .lin 0x80, .isl 0x20, [⟨15, 0, .rwx, 0x3E8, .K, true⟩], 0x3E8, []⟩
/-- FB_SER (R246). -/
def R.FB_SER : Reg := ⟨157, 0x40300024, 56, .lin 0x80, .isl 0x20, [⟨31, 24, .rwx, 0x31, .K, true⟩,
    ⟨23, 18, .rwx, 0xD, .K, true⟩,
    ⟨17, 12, .rwx, 0xC, .K, true⟩,
    ⟨11, 10, .rwx, 0x0, .K, true⟩,
    ⟨9, 9, .rwx, 0x0, .K, true⟩,
    ⟨8, 8, .rwx, 0x0, .K, true⟩,
    ⟨7, 0, .rwx, 0x0, .K, true⟩], 0x3134C000, []⟩
/-- FB_SER_T (R246). -/
def R.FB_SER_T : Reg := ⟨158, 0x40300028, 56, .lin 0x80, .isl 0x20, [⟨15, 8, .rwx, 0x14, .K, true⟩,
    ⟨7, 0, .rwx, 0x14, .K, true⟩], 0x1414, []⟩
/-- FB_SER_CYCLE (R246). -/
def R.FB_SER_CYCLE : Reg := ⟨159, 0x4030002C, 56, .lin 0x80, .isl 0x20, [⟨15, 0, .rwx, 0x1F4, .K, true⟩], 0x1F4, []⟩
/-- FB_RES (R246). -/
def R.FB_RES : Reg := ⟨160, 0x40300030, 56, .lin 0x80, .isl 0x20, [⟨31, 24, .rwx, 0x50, .K, true⟩,
    ⟨23, 16, .rwx, 0x0, .K, true⟩,
    ⟨15, 8, .rwx, 0x5, .K, true⟩], 0x50000500, []⟩
/-- FB_STAT (R246). -/
def R.FB_STAT : Reg := ⟨161, 0x40300038, 56, .lin 0x80, .isl 0x20, [⟨31, 31, .ro, 0x0, .V, false⟩,
    ⟨30, 27, .ro, 0x0, .V, false⟩,
    ⟨26, 26, .ro, 0x0, .V, false⟩,
    ⟨25, 25, .ro, 0x0, .V, false⟩,
    ⟨24, 24, .w1c, 0x0, .V, false⟩,
    ⟨23, 23, .w1c, 0x0, .V, false⟩,
    ⟨22, 22, .w1c, 0x0, .V, false⟩,
    ⟨21, 21, .w1c, 0x0, .V, false⟩,
    ⟨20, 20, .ro, 0x0, .V, false⟩], 0x0, []⟩
/-- FB_CNT (R246). -/
def R.FB_CNT : Reg := ⟨162, 0x4030003C, 56, .lin 0x80, .isl 0x20, [⟨31, 16, .ro, 0x0, .W, false⟩,
    ⟨15, 0, .ro, 0x0, .W, false⟩], 0x0, []⟩
/-- FB_CTRL (R246). -/
def R.FB_CTRL : Reg := ⟨163, 0x40300040, 56, .lin 0x80, .isl 0x20, [⟨1, 1, .wo, 0x0, .V, false⟩,
    ⟨0, 0, .wo, 0x0, .V, false⟩], 0x0, []⟩
/-- FB_JUMP (R246). -/
def R.FB_JUMP : Reg := ⟨164, 0x40300044, 56, .lin 0x80, .isl 0x20, [⟨31, 0, .rwx, 0x0, .K, true⟩], 0x0, []⟩
/-- Q_CFG (R246). -/
def R.Q_CFG : Reg := ⟨165, 0x40301C00, 8, .lin 0x80, .isl 0x20, [⟨31, 29, .ro, 0x7, .K, false⟩,
    ⟨21, 16, .ro, 0x0, .K, false⟩,
    ⟨15, 12, .rwx, 0x0, .K, true⟩,
    ⟨11, 11, .rwx, 0x0, .K, true⟩,
    ⟨10, 10, .rwx, 0x0, .K, true⟩], 0xE0000000, []⟩
/-- Q_STAT (R246). -/
def R.Q_STAT : Reg := ⟨166, 0x40301C38, 8, .lin 0x80, .isl 0x20, [⟨31, 31, .w1c, 0x0, .V, false⟩,
    ⟨30, 30, .ro, 0x0, .V, false⟩,
    ⟨15, 0, .ro, 0x0, .V, false⟩], 0x0, []⟩
/-- IG_CTRL (R165). -/
def R.IG_CTRL : Reg := ⟨167, 0x40400000, 16, .lin 0x40, .isl 0x21, [⟨1, 1, .wo, 0x0, .V, false⟩,
    ⟨0, 0, .wo, 0x0, .V, false⟩], 0x0, []⟩
/-- IG_CFG (R165). -/
def R.IG_CFG : Reg := ⟨168, 0x40400004, 16, .lin 0x40, .isl 0x21, [⟨8, 8, .rw, 0x0, .K, false⟩,
    ⟨7, 0, .rw, 0xFF, .K, false⟩], 0xFF, []⟩
/-- IG_STAT (R165). -/
def R.IG_STAT : Reg := ⟨169, 0x40400008, 16, .lin 0x40, .isl 0x21, [⟨15, 8, .ro, 0xFF, .V, false⟩,
    ⟨7, 4, .ro, 0x0, .K, false⟩,
    ⟨3, 3, .w1c, 0x0, .V, false⟩,
    ⟨2, 2, .w1c, 0x0, .V, false⟩,
    ⟨1, 1, .w1c, 0x0, .V, false⟩,
    ⟨0, 0, .ro, 0x0, .V, false⟩], 0xFF00, []⟩
/-- GR_NUM (R165). -/
def R.GR_NUM : Reg := ⟨170, 0x40401000, 128, .lin 0x10, .isl 0x21, [⟨31, 0, .rw, 0x1, .K, false⟩], 0x1, []⟩
/-- GR_DEN (R165). -/
def R.GR_DEN : Reg := ⟨171, 0x40401004, 128, .lin 0x10, .isl 0x21, [⟨31, 0, .rw, 0x1, .K, false⟩], 0x1, []⟩
/-- GR_CFG (R165). -/
def R.GR_CFG : Reg := ⟨172, 0x40401008, 128, .lin 0x10, .isl 0x21, [⟨16, 16, .rw, 0x0, .K, false⟩,
    ⟨15, 0, .rw, 0x0, .K, false⟩], 0x0, []⟩
/-- GR_STAT (R165). -/
def R.GR_STAT : Reg := ⟨173, 0x4040100C, 128, .lin 0x10, .isl 0x21, [⟨2, 2, .w1c, 0x0, .V, false⟩,
    ⟨1, 1, .ro, 0x0, .V, false⟩,
    ⟨0, 0, .ro, 0x0, .V, false⟩], 0x0, []⟩
/-- SP_CFG (R165). -/
def R.SP_CFG : Reg := ⟨174, 0x40402000, 16, .lin 0x20, .isl 0x21, [⟨31, 18, .rw, 0x40, .K, false⟩,
    ⟨17, 17, .rw, 0x0, .K, false⟩,
    ⟨16, 16, .rw, 0x0, .K, false⟩,
    ⟨15, 8, .rw, 0x14, .K, false⟩,
    ⟨7, 0, .rw, 0xA, .K, false⟩], 0x100140A, []⟩
/-- SP_COUNT (R165). -/
def R.SP_COUNT : Reg := ⟨175, 0x40402004, 16, .lin 0x20, .isl 0x21, [⟨31, 0, .ro, 0x0, .V, false⟩], 0x0, []⟩
/-- SP_STAT (R165). -/
def R.SP_STAT : Reg := ⟨176, 0x40402008, 16, .lin 0x20, .isl 0x21, [⟨17, 17, .w1c, 0x0, .V, false⟩,
    ⟨16, 16, .w1c, 0x0, .V, false⟩,
    ⟨15, 0, .ro, 0x0, .V, false⟩], 0x0, []⟩
/-- NT_SEC_LO (R269). -/
def R.NT_SEC_LO : Reg := ⟨177, 0x40500000, 1, .lin 0, .isl 0x22, [⟨31, 0, .ro, 0x0, .V, false⟩], 0x0, []⟩
/-- NT_SEC_HI (R269). -/
def R.NT_SEC_HI : Reg := ⟨178, 0x40500004, 1, .lin 0, .isl 0x22, [⟨31, 0, .ro, 0x0, .V, false⟩], 0x0, []⟩
/-- NT_NS (R269). -/
def R.NT_NS : Reg := ⟨179, 0x40500008, 1, .lin 0, .isl 0x22, [⟨29, 0, .ro, 0x0, .V, false⟩], 0x0, []⟩
/-- NT_FRAC (R269). -/
def R.NT_FRAC : Reg := ⟨180, 0x4050000C, 1, .lin 0, .isl 0x22, [⟨15, 0, .ro, 0x0, .V, false⟩], 0x0, []⟩
/-- NT_ADJ (R269). -/
def R.NT_ADJ : Reg := ⟨181, 0x40500010, 1, .lin 0, .isl 0x22, [⟨31, 0, .rwx, 0x0, .V, true⟩], 0x0, []⟩
/-- NT_CTRL (R269). -/
def R.NT_CTRL : Reg := ⟨182, 0x40500014, 1, .lin 0, .isl 0x22, [⟨0, 0, .rwx, 0x0, .V, true⟩], 0x0, []⟩
/-- NT_SET_SEC_LO (R269). -/
def R.NT_SET_SEC_LO : Reg := ⟨183, 0x40500018, 1, .lin 0, .isl 0x22, [⟨31, 0, .rwx, 0x0, .V, true⟩], 0x0, []⟩
/-- NT_SET_SEC_HI (R269). -/
def R.NT_SET_SEC_HI : Reg := ⟨184, 0x4050001C, 1, .lin 0, .isl 0x22, [⟨15, 0, .rwx, 0x0, .V, true⟩], 0x0, []⟩
/-- NT_SET_NS (R269). -/
def R.NT_SET_NS : Reg := ⟨185, 0x40500020, 1, .lin 0, .isl 0x22, [⟨31, 0, .rwx, 0x0, .V, true⟩], 0x0, []⟩
/-- NT_STAT (R269). -/
def R.NT_STAT : Reg := ⟨186, 0x40500024, 1, .lin 0, .isl 0x22, [⟨31, 31, .ro, 0x0, .V, false⟩,
    ⟨30, 30, .ro, 0x0, .V, false⟩,
    ⟨29, 29, .ro, 0x0, .V, false⟩,
    ⟨28, 28, .ro, 0x0, .V, false⟩,
    ⟨27, 27, .w1c, 0x0, .V, false⟩,
    ⟨26, 26, .w1c, 0x0, .V, false⟩,
    ⟨3, 0, .ro, 0x0, .V, false⟩], 0x0, []⟩
/-- NT_OFFSET (R269). -/
def R.NT_OFFSET : Reg := ⟨187, 0x40500028, 1, .lin 0, .isl 0x22, [⟨31, 0, .ro, 0x0, .V, false⟩], 0x0, []⟩
/-- NT_PDELAY (R269). -/
def R.NT_PDELAY : Reg := ⟨188, 0x4050002C, 1, .lin 0, .isl 0x22, [⟨31, 0, .ro, 0x0, .V, false⟩], 0x0, []⟩
/-- NT_PTP_CFG (R269). -/
def R.NT_PTP_CFG : Reg := ⟨189, 0x40500030, 1, .lin 0, .isl 0x22, [⟨31, 24, .rwx, 0xF6, .K, true⟩,
    ⟨23, 16, .rwx, 0xF8, .K, true⟩,
    ⟨2, 2, .rwx, 0x1, .K, true⟩,
    ⟨1, 1, .rwx, 0x0, .K, true⟩,
    ⟨0, 0, .rwx, 0x1, .K, true⟩], 0xF6F80005, []⟩
/-- NT_LAT (R269). -/
def R.NT_LAT : Reg := ⟨190, 0x40500034, 1, .lin 0, .isl 0x22, [⟨31, 16, .rwx, 0x0, .K, true⟩,
    ⟨15, 0, .rwx, 0x0, .K, true⟩], 0x0, []⟩
/-- NT_STEP_SUM_LO (R269). -/
def R.NT_STEP_SUM_LO : Reg := ⟨191, 0x40500038, 1, .lin 0, .isl 0x22, [⟨31, 0, .ro, 0x0, .V, false⟩], 0x0, []⟩
/-- NT_STEP_SUM_HI (R269). -/
def R.NT_STEP_SUM_HI : Reg := ⟨192, 0x4050003C, 1, .lin 0, .isl 0x22, [⟨31, 0, .ro, 0x0, .V, false⟩], 0x0, []⟩
/-- NT_CNT (R269). -/
def R.NT_CNT : Reg := ⟨193, 0x40500040, 1, .lin 0, .isl 0x22, [⟨31, 16, .ro, 0x0, .W, false⟩,
    ⟨15, 0, .ro, 0x0, .W, false⟩], 0x0, []⟩
/-- CP_Q_SLOT (R269). -/
def R.CP_Q_SLOT : Reg := ⟨194, 0x40500800, 1, .lin 0, .isl 0x22, [⟨6, 0, .rw, 0x0, .V, false⟩], 0x0, []⟩
/-- CP_Q_NS (R269). -/
def R.CP_Q_NS : Reg := ⟨195, 0x40500804, 1, .lin 0, .isl 0x22, [⟨31, 0, .rw, 0x0, .V, false⟩], 0x0, []⟩
/-- CP_Q_SEC (R269). -/
def R.CP_Q_SEC : Reg := ⟨196, 0x40500808, 1, .lin 0, .isl 0x22, [⟨31, 0, .rw, 0x0, .V, false⟩], 0x0, []⟩
/-- CP_Q_CTRL (R269). -/
def R.CP_Q_CTRL : Reg := ⟨197, 0x4050080C, 1, .lin 0, .isl 0x22, [⟨31, 31, .wo, 0x0, .V, false⟩,
    ⟨4, 4, .rw, 0x0, .V, false⟩,
    ⟨3, 0, .rw, 0x0, .V, false⟩], 0x0, []⟩
/-- CP_Q_POS_LO (R269). -/
def R.CP_Q_POS_LO : Reg := ⟨198, 0x40500810, 1, .lin 0, .isl 0x22, [⟨31, 0, .ro, 0x0, .V, false⟩], 0x0, []⟩
/-- CP_Q_POS_HI (R269). -/
def R.CP_Q_POS_HI : Reg := ⟨199, 0x40500814, 1, .lin 0, .isl 0x22, [⟨31, 0, .ro, 0x0, .V, false⟩], 0x0, []⟩
/-- CP_Q_STAT (R269). -/
def R.CP_Q_STAT : Reg := ⟨200, 0x40500818, 1, .lin 0, .isl 0x22, [⟨31, 31, .ro, 0x0, .V, false⟩,
    ⟨29, 29, .ro, 0x0, .V, false⟩,
    ⟨2, 0, .ro, 0x0, .V, false⟩], 0x0, []⟩
/-- CP_DI_CFG (R269). -/
def R.CP_DI_CFG : Reg := ⟨201, 0x40501000, 16, .lin 0x10, .isl 0x22, [⟨17, 16, .rw, 0x1, .K, false⟩,
    ⟨15, 0, .rw, 0x0, .K, false⟩], 0x10000, []⟩
/-- CP_DI_NS (R269). -/
def R.CP_DI_NS : Reg := ⟨202, 0x40501004, 16, .lin 0x10, .isl 0x22, [⟨31, 31, .ro, 0x0, .V, false⟩,
    ⟨29, 0, .ro, 0x0, .V, false⟩], 0x0, []⟩
/-- CP_DI_SEC (R269). -/
def R.CP_DI_SEC : Reg := ⟨203, 0x40501008, 16, .lin 0x10, .isl 0x22, [⟨31, 0, .ro, 0x0, .V, false⟩], 0x0, []⟩
/-- CP_DI_STAT (R269). -/
def R.CP_DI_STAT : Reg := ⟨204, 0x4050100C, 16, .lin 0x10, .isl 0x22, [⟨31, 31, .wo, 0x0, .V, false⟩,
    ⟨30, 30, .w1c, 0x0, .V, false⟩,
    ⟨2, 0, .ro, 0x0, .V, false⟩], 0x0, []⟩
/-- CP_Z_NS (R269). -/
def R.CP_Z_NS : Reg := ⟨205, 0x40501400, 48, .lin 8, .isl 0x22, [⟨31, 0, .ro, 0x0, .V, false⟩], 0x0, []⟩
/-- CP_Z_SEC (R269). -/
def R.CP_Z_SEC : Reg := ⟨206, 0x40501404, 48, .lin 8, .isl 0x22, [⟨31, 0, .ro, 0x0, .V, false⟩], 0x0, []⟩
/-- CP_HEAD (R269). -/
def R.CP_HEAD : Reg := ⟨207, 0x40502000, 128, .lin 0x20, .isl 0x22, [⟨16, 8, .ro, 0x0, .V, false⟩,
    ⟨7, 0, .ro, 0x0, .V, false⟩], 0x0, []⟩
/-- CP_ARM (R269). -/
def R.CP_ARM : Reg := ⟨208, 0x40502004, 128, .lin 0x20, .isl 0x22, [⟨31, 31, .rw, 0x0, .V, false⟩,
    ⟨3, 2, .rw, 0x1, .V, false⟩,
    ⟨1, 0, .rw, 0x0, .V, false⟩], 0x4, []⟩
/-- CP_RES_NS (R269). -/
def R.CP_RES_NS : Reg := ⟨209, 0x40502008, 128, .lin 0x20, .isl 0x22, [⟨31, 0, .ro, 0x0, .V, false⟩], 0x0, []⟩
/-- CP_RES_SEC (R269). -/
def R.CP_RES_SEC : Reg := ⟨210, 0x4050200C, 128, .lin 0x20, .isl 0x22, [⟨31, 0, .ro, 0x0, .V, false⟩], 0x0, []⟩
/-- CP_RES_POS_LO (R269). -/
def R.CP_RES_POS_LO : Reg := ⟨211, 0x40502010, 128, .lin 0x20, .isl 0x22, [⟨31, 0, .ro, 0x0, .V, false⟩], 0x0, []⟩
/-- CP_RES_POS_HI (R269). -/
def R.CP_RES_POS_HI : Reg := ⟨212, 0x40502014, 128, .lin 0x20, .isl 0x22, [⟨31, 0, .ro, 0x0, .V, false⟩], 0x0, []⟩
/-- CP_RES_STAT (R269). -/
def R.CP_RES_STAT : Reg := ⟨213, 0x40502018, 128, .lin 0x20, .isl 0x22, [⟨31, 31, .w1c, 0x0, .V, false⟩,
    ⟨30, 30, .w1c, 0x0, .V, false⟩,
    ⟨29, 29, .ro, 0x0, .V, false⟩,
    ⟨23, 16, .ro, 0x0, .V, false⟩,
    ⟨2, 0, .ro, 0x0, .V, false⟩], 0x0, []⟩
/-- CN_CFG (R314). -/
def R.CN_CFG : Reg := ⟨214, 0x40600000, 4, .lin 0x10000, .isl 0x23, [⟨31, 25, .rwx, 0x50, .K, true⟩,
    ⟨24, 18, .rwx, 0x4B, .K, true⟩,
    ⟨17, 16, .ro, 0x0, .K, false⟩,
    ⟨15, 8, .rwx, 0x0, .K, true⟩,
    ⟨0, 0, .rwx, 0x1, .K, true⟩], 0xA12C0001, []⟩
/-- CN_CTRL (R314). -/
def R.CN_CTRL : Reg := ⟨215, 0x40600004, 4, .lin 0x10000, .isl 0x23, [⟨1, 1, .wo, 0x0, .V, false⟩,
    ⟨0, 0, .wo, 0x0, .V, false⟩], 0x0, []⟩
/-- CN_STAT (R314). -/
def R.CN_STAT : Reg := ⟨216, 0x40600008, 4, .lin 0x10000, .isl 0x23, [⟨31, 29, .ro, 0x0, .V, false⟩,
    ⟨23, 16, .ro, 0x0, .V, false⟩,
    ⟨15, 8, .ro, 0x0, .V, false⟩,
    ⟨7, 7, .w1c, 0x0, .V, false⟩,
    ⟨6, 6, .w1c, 0x0, .V, false⟩,
    ⟨5, 5, .w1c, 0x0, .V, false⟩,
    ⟨4, 4, .w1c, 0x0, .V, false⟩], 0x0, []⟩
/-- CN_LOSS (R314). -/
def R.CN_LOSS : Reg := ⟨217, 0x4060000C, 4, .lin 0x10000, .isl 0x23, [⟨31, 16, .rwx, 0x64, .K, true⟩,
    ⟨15, 0, .rwx, 0x64, .K, true⟩], 0x640064, []⟩
/-- CN_BT_NOM (R314). -/
def R.CN_BT_NOM : Reg := ⟨218, 0x40600010, 4, .lin 0x10000, .isl 0x23, [⟨31, 24, .ro, 0x0, .K, false⟩,
    ⟨23, 16, .ro, 0x0, .K, false⟩,
    ⟨15, 8, .ro, 0x0, .K, false⟩,
    ⟨7, 0, .ro, 0x0, .K, false⟩], 0x0, []⟩
/-- CN_BT_DATA (R314). -/
def R.CN_BT_DATA : Reg := ⟨219, 0x40600014, 4, .lin 0x10000, .isl 0x23, [⟨31, 24, .ro, 0x0, .K, false⟩,
    ⟨23, 16, .ro, 0x0, .K, false⟩,
    ⟨15, 8, .ro, 0x0, .K, false⟩,
    ⟨7, 0, .ro, 0x0, .K, false⟩], 0x0, []⟩
/-- CN_CNT_RX (R314). -/
def R.CN_CNT_RX : Reg := ⟨220, 0x40600018, 4, .lin 0x10000, .isl 0x23, [⟨31, 0, .ro, 0x0, .W, false⟩], 0x0, []⟩
/-- CN_CNT_TX (R314). -/
def R.CN_CNT_TX : Reg := ⟨221, 0x4060001C, 4, .lin 0x10000, .isl 0x23, [⟨31, 0, .ro, 0x0, .W, false⟩], 0x0, []⟩
/-- CN_CNT_UNMATCHED (R314). -/
def R.CN_CNT_UNMATCHED : Reg := ⟨222, 0x40600020, 4, .lin 0x10000, .isl 0x23, [⟨31, 0, .ro, 0x0, .W, false⟩], 0x0, []⟩
/-- CN_CNT_ERR (R314). -/
def R.CN_CNT_ERR : Reg := ⟨223, 0x40600024, 4, .lin 0x10000, .isl 0x23, [⟨31, 16, .ro, 0x0, .W, false⟩,
    ⟨15, 0, .ro, 0x0, .W, false⟩], 0x0, []⟩
/-- CN_CNT_LOST (R314). -/
def R.CN_CNT_LOST : Reg := ⟨224, 0x40600028, 4, .lin 0x10000, .isl 0x23, [⟨31, 0, .ro, 0x0, .W, false⟩], 0x0, []⟩
/-- CN_OBJ_W0 (R314). -/
def R.CN_OBJ_W0 : Reg := ⟨225, 0x40601000, 2048, .canWord 0, .isl 0x23, [⟨31, 31, .ro, 0x0, .V, false⟩,
    ⟨30, 30, .ro, 0x0, .V, false⟩,
    ⟨29, 29, .ro, 0x0, .V, false⟩,
    ⟨28, 28, .ro, 0x0, .V, false⟩,
    ⟨27, 27, .ro, 0x0, .V, false⟩,
    ⟨26, 26, .ro, 0x0, .V, false⟩,
    ⟨25, 25, .ro, 0x0, .V, false⟩,
    ⟨24, 24, .ro, 0x0, .V, false⟩,
    ⟨23, 20, .ro, 0x0, .V, false⟩,
    ⟨15, 0, .ro, 0x0, .V, false⟩], 0x0, []⟩
/-- CN_OBJ_W1 (R314). -/
def R.CN_OBJ_W1 : Reg := ⟨226, 0x40601004, 2048, .canWord 1, .isl 0x23, [⟨31, 0, .ro, 0x0, .V, false⟩], 0x0, []⟩
/-- CN_OBJ_W2 (R314). -/
def R.CN_OBJ_W2 : Reg := ⟨227, 0x40601008, 2048, .canWord 2, .isl 0x23, [⟨31, 31, .ro, 0x0, .K, false⟩,
    ⟨30, 30, .ro, 0x0, .K, false⟩,
    ⟨29, 29, .ro, 0x0, .K, false⟩,
    ⟨28, 0, .ro, 0x0, .K, false⟩], 0x0, []⟩
/-- CN_OBJ_W3 (R314). -/
def R.CN_OBJ_W3 : Reg := ⟨228, 0x4060100C, 2048, .canWord 3, .isl 0x23, [⟨31, 31, .wo, 0x0, .V, false⟩,
    ⟨30, 30, .ro, 0x0, .K, false⟩,
    ⟨29, 29, .ro, 0x0, .K, false⟩,
    ⟨28, 25, .ro, 0x0, .K, false⟩,
    ⟨24, 17, .ro, 0x0, .K, false⟩,
    ⟨15, 0, .ro, 0x0, .W, false⟩], 0x0, []⟩
/-- CN_OBJ_DATA (R314). -/
def R.CN_OBJ_DATA : Reg := ⟨229, 0x40601010, 32768, .canData, .isl 0x23, [⟨31, 0, .ro, 0x0, .V, false⟩], 0x0, []⟩
/-- EN_IPV4 (R90). -/
def R.EN_IPV4 : Reg := ⟨230, 0x40700010, 1, .lin 0, .isl 0x23, [⟨31, 0, .rwx, 0xA9FE800A, .F, true⟩], 0xA9FE800A, []⟩
/-- EN_IPCFG (R90). -/
def R.EN_IPCFG : Reg := ⟨231, 0x40700014, 1, .lin 0, .isl 0x23, [⟨17, 16, .rwx, 0x3, .F, true⟩,
    ⟨12, 12, .rwx, 0x0, .F, true⟩,
    ⟨11, 0, .rwx, 0x0, .F, true⟩], 0x30000, []⟩
/-- EN_IPV4_LIVE (R90). -/
def R.EN_IPV4_LIVE : Reg := ⟨232, 0x40700018, 1, .lin 0, .isl 0x23, [⟨31, 0, .ro, 0x0, .V, false⟩], 0x0, []⟩
/-- EN_SESS_CFG (R90). -/
def R.EN_SESS_CFG : Reg := ⟨233, 0x40700020, 1, .lin 0, .isl 0x23, [⟨15, 0, .rwx, 0x1388, .K, true⟩], 0x1388, []⟩
/-- EN_HOST_WD (R90). -/
def R.EN_HOST_WD : Reg := ⟨234, 0x40700024, 1, .lin 0, .isl 0x25, [⟨31, 31, .w1c, 0x0, .V, false⟩,
    ⟨30, 30, .ro, 0x0, .V, false⟩,
    ⟨29, 28, .rwx, 0x1, .K, true⟩,
    ⟨27, 27, .rwx, 0x0, .K, true⟩,
    ⟨26, 25, .rwx, 0x0, .K, true⟩,
    ⟨24, 16, .rwx, 0x0, .K, true⟩,
    ⟨15, 0, .rwx, 0xC8, .K, true⟩], 0x100000C8, []⟩
/-- EN_STRAP_STAT (R90). -/
def R.EN_STRAP_STAT : Reg := ⟨235, 0x40700028, 1, .lin 0, .isl 0x23, [⟨31, 28, .ro, 0x0, .V, false⟩,
    ⟨27, 26, .ro, 0x0, .V, false⟩,
    ⟨1, 1, .ro, 0x0, .V, false⟩,
    ⟨0, 0, .w1c, 0x0, .V, false⟩], 0x0, []⟩
/-- EN_BAD_TAG (R90). -/
def R.EN_BAD_TAG : Reg := ⟨236, 0x40700030, 1, .lin 0, .isl 0x23, [⟨31, 0, .ro, 0x0, .W, false⟩], 0x0, []⟩
/-- EN_BAD_FRAME (R90). -/
def R.EN_BAD_FRAME : Reg := ⟨237, 0x40700034, 1, .lin 0, .isl 0x23, [⟨31, 0, .ro, 0x0, .W, false⟩], 0x0, []⟩
/-- EN_OLD_SEQ (R90). -/
def R.EN_OLD_SEQ : Reg := ⟨238, 0x40700038, 1, .lin 0, .isl 0x23, [⟨31, 0, .ro, 0x0, .W, false⟩], 0x0, []⟩
/-- EN_RX_DROP (R90). -/
def R.EN_RX_DROP : Reg := ⟨239, 0x4070003C, 1, .lin 0, .isl 0x23, [⟨31, 0, .ro, 0x0, .W, false⟩], 0x0, []⟩
/-- EN_EV_DROPPED (R90). -/
def R.EN_EV_DROPPED : Reg := ⟨240, 0x40700040, 1, .lin 0, .isl 0x23, [⟨31, 0, .ro, 0x0, .W, false⟩], 0x0, []⟩
/-- FI_DI_STATE (R335). -/
def R.FI_DI_STATE : Reg := ⟨241, 0x40800000, 1, .lin 0, .isl 0x22, [⟨16, 16, .ro, 0x0, .V, false⟩,
    ⟨15, 0, .ro, 0x0, .V, false⟩], 0x0, []⟩
/-- FI_DI_CFG (R335). -/
def R.FI_DI_CFG : Reg := ⟨242, 0x40800010, 16, .lin 4, .isl 0x22, [⟨9, 8, .rwx, 0x2, .K, true⟩,
    ⟨0, 0, .rwx, 0x0, .K, true⟩], 0x200, []⟩
/-- FI_DO_CMD (R335). -/
def R.FI_DO_CMD : Reg := ⟨243, 0x40800060, 1, .lin 0, .isl 0x22, [⟨7, 0, .rw, 0x0, .V, false⟩], 0x0, []⟩
/-- FI_DO_STAT (R335). -/
def R.FI_DO_STAT : Reg := ⟨244, 0x40800064, 1, .lin 0, .isl 0x22, [⟨31, 24, .ro, 0x0, .V, false⟩,
    ⟨23, 16, .ro, 0x0, .V, false⟩,
    ⟨15, 8, .w1c, 0x0, .V, false⟩,
    ⟨7, 0, .ro, 0x0, .V, false⟩], 0x0, []⟩
/-- FI_DO_CTRL (R335). -/
def R.FI_DO_CTRL : Reg := ⟨245, 0x40800068, 1, .lin 0, .isl 0x22, [⟨7, 0, .wo, 0x0, .V, false⟩], 0x0, []⟩
/-- FI_DO_CFG (R335). -/
def R.FI_DO_CFG : Reg := ⟨246, 0x4080006C, 1, .lin 0, .isl 0x22, [⟨7, 0, .rwx, 0x0, .K, true⟩], 0x0, []⟩
/-- FI_SUPPLY (R335). -/
def R.FI_SUPPLY : Reg := ⟨247, 0x40800070, 1, .lin 0, .isl 0x22, [⟨31, 16, .ro, 0x0, .V, false⟩,
    ⟨3, 3, .w1c, 0x0, .W, false⟩,
    ⟨2, 2, .w1c, 0x0, .W, false⟩,
    ⟨1, 1, .ro, 0x0, .V, false⟩,
    ⟨0, 0, .ro, 0x0, .V, false⟩], 0x0, []⟩
/-- FI_LIM_ACTIVE (R335). -/
def R.FI_LIM_ACTIVE : Reg := ⟨248, 0x40800080, 8, .lin 4, .isl 0x22, [⟨31, 0, .ro, 0x0, .V, false⟩], 0x0, []⟩
/-- FI_FS_CFG (R335). -/
def R.FI_FS_CFG : Reg := ⟨249, 0x40800100, 2, .lin 0x80, .isl 0x22, [⟨31, 28, .ro, 0x0, .K, false⟩,
    ⟨23, 16, .rwx, 0x3, .K, true⟩,
    ⟨0, 0, .rwx, 0x0, .K, true⟩], 0x30000, []⟩
/-- FI_FS_STAT (R335). -/
def R.FI_FS_STAT : Reg := ⟨250, 0x40800104, 2, .lin 0x80, .isl 0x22, [⟨31, 28, .ro, 0x0, .V, false⟩,
    ⟨27, 24, .ro, 0x0, .V, false⟩,
    ⟨23, 20, .w1c, 0x0, .W, false⟩,
    ⟨7, 0, .ro, 0x0, .V, false⟩], 0x0, []⟩
/-- FI_FS_CNT (R335). -/
def R.FI_FS_CNT : Reg := ⟨251, 0x40800108, 2, .lin 0x80, .isl 0x22, [⟨31, 16, .ro, 0x0, .W, false⟩,
    ⟨15, 0, .ro, 0x0, .W, false⟩], 0x0, []⟩
/-- FI_FS_IN (R335). -/
def R.FI_FS_IN : Reg := ⟨252, 0x40800110, 8, .fieldString, .isl 0x22, [⟨31, 0, .ro, 0x0, .V, false⟩], 0x0, []⟩
/-- FI_FS_OUT (R335). -/
def R.FI_FS_OUT : Reg := ⟨253, 0x40800114, 8, .fieldString, .isl 0x22, [⟨15, 0, .rw, 0x0, .V, false⟩], 0x0, []⟩
/-- FI_FS_DIAG (R335). -/
def R.FI_FS_DIAG : Reg := ⟨254, 0x40800118, 8, .fieldString, .isl 0x22, [⟨31, 16, .ro, 0x0, .V, false⟩,
    ⟨15, 8, .ro, 0x0, .V, false⟩], 0x0, []⟩
/-- FI_FS_STAMP (R335). -/
def R.FI_FS_STAMP : Reg := ⟨255, 0x4080011C, 8, .fieldString, .isl 0x22, [⟨31, 0, .ro, 0x0, .V, false⟩], 0x0, []⟩
/-- SF_SEAL_LO (R362). -/
def R.SF_SEAL_LO : Reg := ⟨256, 0x40900000, 1, .lin 0, .isl 0x27, [⟨31, 0, .ro, 0x0, .S, false⟩], 0x0, []⟩
/-- SF_SEAL_HI (R362). -/
def R.SF_SEAL_HI : Reg := ⟨257, 0x40900004, 1, .lin 0, .isl 0x27, [⟨7, 0, .ro, 0x0, .S, false⟩], 0x0, []⟩
/-- SF_XSEAL_LO (R362). -/
def R.SF_XSEAL_LO : Reg := ⟨258, 0x40900008, 1, .lin 0, .isl 0x27, [⟨31, 0, .ro, 0x0, .S, false⟩], 0x0, []⟩
/-- SF_XSEAL_HI (R362). -/
def R.SF_XSEAL_HI : Reg := ⟨259, 0x4090000C, 1, .lin 0, .isl 0x27, [⟨7, 0, .ro, 0x0, .S, false⟩], 0x0, []⟩
/-- SF_STATE (R362). -/
def R.SF_STATE : Reg := ⟨260, 0x40900010, 1, .lin 0, .isl 0x27, [⟨31, 31, .ro, 0x0, .V, false⟩,
    ⟨30, 30, .ro, 0x0, .V, false⟩,
    ⟨29, 29, .ro, 0x0, .V, false⟩,
    ⟨28, 28, .ro, 0x0, .V, false⟩,
    ⟨27, 27, .ro, 0x0, .V, false⟩,
    ⟨26, 26, .ro, 0x0, .V, false⟩,
    ⟨25, 25, .ro, 0x0, .V, false⟩,
    ⟨24, 24, .ro, 0x0, .V, false⟩,
    ⟨23, 23, .ro, 0x0, .V, false⟩,
    ⟨18, 18, .ro, 0x0, .S, false⟩,
    ⟨17, 17, .ro, 0x0, .S, false⟩,
    ⟨16, 16, .ro, 0x0, .S, false⟩,
    ⟨15, 12, .ro, 0x0, .S, false⟩,
    ⟨11, 0, .ro, 0x0, .V, false⟩], 0x0, []⟩
/-- SF_GRP (R362). -/
def R.SF_GRP : Reg := ⟨261, 0x40900040, 16, .lin 4, .isl 0x27, [⟨31, 30, .ro, 0x2, .V, false⟩,
    ⟨29, 26, .ro, 0x0, .V, false⟩,
    ⟨25, 25, .ro, 0x0, .V, false⟩,
    ⟨24, 24, .ro, 0x0, .V, false⟩,
    ⟨23, 23, .ro, 0x0, .V, false⟩,
    ⟨22, 22, .ro, 0x0, .V, false⟩,
    ⟨21, 21, .ro, 0x0, .V, false⟩,
    ⟨20, 20, .ro, 0x0, .V, false⟩,
    ⟨19, 18, .ro, 0x0, .S, false⟩,
    ⟨15, 8, .ro, 0x0, .K, false⟩], 0x80000000, []⟩
/-- SF_CNT (R362). -/
def R.SF_CNT : Reg := ⟨262, 0x40900080, 1, .lin 0, .isl 0x27, [⟨31, 16, .ro, 0x0, .W, false⟩,
    ⟨15, 0, .ro, 0x0, .W, false⟩], 0x0, []⟩
/-- SF_BRK (R362). -/
def R.SF_BRK : Reg := ⟨263, 0x40900084, 1, .lin 0, .isl 0x27, [⟨15, 8, .ro, 0x0, .V, false⟩,
    ⟨7, 0, .ro, 0x0, .V, false⟩], 0x0, []⟩
/-- TW_ROLE (R387). -/
def R.TW_ROLE : Reg := ⟨264, 0x40A00000, 1, .lin 0, .isl 0x23, [⟨15, 15, .ro, 0x0, .V, false⟩,
    ⟨14, 14, .ro, 0x0, .V, false⟩,
    ⟨13, 13, .ro, 0x0, .V, false⟩,
    ⟨12, 12, .ro, 0x0, .V, false⟩,
    ⟨11, 8, .ro, 0x0, .V, false⟩,
    ⟨1, 0, .ro, 0x0, .K, false⟩], 0x0, []⟩
/-- TW_NOTREADY (R387). -/
def R.TW_NOTREADY : Reg := ⟨265, 0x40A00004, 1, .lin 0, .isl 0x23, [⟨11, 0, .ro, 0xFFF, .V, false⟩], 0xFFF, []⟩
/-- TW_CTRL (R387). -/
def R.TW_CTRL : Reg := ⟨266, 0x40A00008, 1, .lin 0, .isl 0x23, [⟨31, 31, .rwx, 0x0, .V, true⟩,
    ⟨30, 28, .ro, 0x0, .V, false⟩], 0x0, []⟩
/-- TW_CFG (R387). -/
def R.TW_CFG : Reg := ⟨267, 0x40A0000C, 1, .lin 0, .isl 0x23, [⟨15, 0, .rwx, 0x1F4, .K, true⟩], 0x1F4, []⟩
/-- TW_INCARN (R387). -/
def R.TW_INCARN : Reg := ⟨268, 0x40A00010, 1, .lin 0, .isl 0x23, [⟨31, 0, .ro, 0x0, .F, false⟩], 0x0, []⟩
/-- TW_PINCARN (R387). -/
def R.TW_PINCARN : Reg := ⟨269, 0x40A00014, 1, .lin 0, .isl 0x23, [⟨31, 0, .ro, 0x0, .V, false⟩], 0x0, []⟩
/-- TW_SEQ (R387). -/
def R.TW_SEQ : Reg := ⟨270, 0x40A00018, 1, .lin 0, .isl 0x23, [⟨31, 0, .ro, 0x0, .V, false⟩], 0x0, []⟩
/-- TW_RELINK (R387). -/
def R.TW_RELINK : Reg := ⟨271, 0x40A0001C, 1, .lin 0, .isl 0x23, [⟨31, 31, .ro, 0x0, .V, false⟩,
    ⟨10, 0, .ro, 0x0, .V, false⟩], 0x0, []⟩
/-- TW_CNT (R387). -/
def R.TW_CNT : Reg := ⟨272, 0x40A00020, 1, .lin 0, .isl 0x23, [⟨31, 16, .ro, 0x0, .W, false⟩,
    ⟨15, 0, .ro, 0x0, .W, false⟩], 0x0, []⟩
/-- TW_ERR (R387). -/
def R.TW_ERR : Reg := ⟨273, 0x40A00024, 1, .lin 0, .isl 0x23, [⟨31, 16, .ro, 0x0, .W, false⟩,
    ⟨15, 0, .ro, 0x0, .W, false⟩], 0x0, []⟩
/-- TW_LAST (R387). -/
def R.TW_LAST : Reg := ⟨274, 0x40A00028, 1, .lin 0, .isl 0x23, [⟨31, 28, .ro, 0x0, .W, false⟩,
    ⟨15, 0, .ro, 0x0, .W, false⟩], 0x0, []⟩
/-- TW_CLAIM (R387). -/
def R.TW_CLAIM : Reg := ⟨275, 0x40A00030, 1, .lin 0, .isl 0x27, [⟨31, 16, .ro, 0x0, .V, false⟩,
    ⟨15, 0, .ro, 0x0, .V, false⟩], 0x0, []⟩
/-- MG_TEMP (R450). -/
def R.MG_TEMP : Reg := ⟨276, 0x40B00000, 14, .lin 4, .isl 0x28, [⟨31, 31, .ro, 0x1, .V, false⟩,
    ⟨15, 0, .ro, 0x0, .V, false⟩], 0x80000000, []⟩
/-- MG_RAIL (R450). -/
def R.MG_RAIL : Reg := ⟨277, 0x40B00040, 10, .lin 4, .isl 0x28, [⟨31, 31, .ro, 0x0, .V, false⟩,
    ⟨30, 30, .w1c, 0x0, .W, false⟩,
    ⟨15, 0, .ro, 0x0, .V, false⟩], 0x0, []⟩
/-- MG_IIN (R450). -/
def R.MG_IIN : Reg := ⟨278, 0x40B00068, 1, .lin 0, .isl 0x28, [⟨15, 0, .ro, 0x0, .V, false⟩], 0x0, []⟩
/-- MG_RH (R450). -/
def R.MG_RH : Reg := ⟨279, 0x40B0006C, 1, .lin 0, .isl 0x28, [⟨31, 31, .ro, 0x1, .V, false⟩,
    ⟨7, 0, .ro, 0x0, .V, false⟩], 0x80000000, []⟩
/-- MG_HEALTH (R450). -/
def R.MG_HEALTH : Reg := ⟨280, 0x40B00070, 1, .lin 0, .isl 0x28, [⟨15, 15, .ro, 0x0, .V, false⟩,
    ⟨14, 14, .ro, 0x0, .V, false⟩,
    ⟨13, 13, .ro, 0x0, .V, false⟩,
    ⟨12, 12, .ro, 0x0, .V, false⟩,
    ⟨11, 11, .ro, 0x0, .V, false⟩,
    ⟨10, 10, .w1c, 0x0, .W, false⟩,
    ⟨9, 9, .ro, 0x0, .V, false⟩,
    ⟨8, 8, .ro, 0x0, .V, false⟩,
    ⟨7, 7, .w1c, 0x0, .W, false⟩,
    ⟨6, 6, .ro, 0x0, .V, false⟩,
    ⟨5, 5, .ro, 0x0, .V, false⟩,
    ⟨4, 4, .w1c, 0x0, .W, false⟩,
    ⟨3, 0, .ro, 0x0, .V, false⟩], 0x0, []⟩
/-- MG_I2C (R450). -/
def R.MG_I2C : Reg := ⟨281, 0x40B00074, 1, .lin 0, .isl 0x28, [⟨31, 31, .wo, 0x0, .V, false⟩,
    ⟨15, 0, .ro, 0x0, .W, false⟩], 0x0, []⟩
/-- MG_LOG_STAT (R450). -/
def R.MG_LOG_STAT : Reg := ⟨282, 0x40B00080, 1, .lin 0, .isl 0x28, [⟨31, 31, .ro, 0x0, .V, false⟩,
    ⟨30, 30, .ro, 0x0, .V, false⟩,
    ⟨29, 29, .ro, 0x0, .V, false⟩,
    ⟨11, 0, .ro, 0x0, .V, false⟩], 0x0, []⟩
/-- MG_LOG_NEWEST (R450). -/
def R.MG_LOG_NEWEST : Reg := ⟨283, 0x40B00084, 1, .lin 0, .isl 0x28, [⟨31, 0, .ro, 0x0, .F, false⟩], 0x0, []⟩
/-- MG_LOG_OLDEST (R450). -/
def R.MG_LOG_OLDEST : Reg := ⟨284, 0x40B00088, 1, .lin 0, .isl 0x28, [⟨31, 0, .ro, 0x0, .F, false⟩], 0x0, []⟩
/-- MG_LOG_SEL (R450). -/
def R.MG_LOG_SEL : Reg := ⟨285, 0x40B0008C, 1, .lin 0, .isl 0x28, [⟨31, 0, .rw, 0x0, .V, false⟩], 0x0, []⟩
/-- MG_LOG_CTRL (R450). -/
def R.MG_LOG_CTRL : Reg := ⟨286, 0x40B00090, 1, .lin 0, .isl 0x28, [⟨31, 24, .rwx, 0x0, .V, true⟩,
    ⟨2, 2, .rwx, 0x0, .V, true⟩,
    ⟨1, 1, .wo, 0x0, .V, false⟩,
    ⟨0, 0, .wo, 0x0, .V, false⟩], 0x0, []⟩
/-- MG_LOG_DROPPED (R450). -/
def R.MG_LOG_DROPPED : Reg := ⟨287, 0x40B00094, 1, .lin 0, .isl 0x28, [⟨31, 0, .ro, 0x0, .W, false⟩], 0x0, []⟩
/-- MG_LOG_WEAR (R450). -/
def R.MG_LOG_WEAR : Reg := ⟨288, 0x40B00098, 1, .lin 0, .isl 0x28, [⟨31, 0, .ro, 0x0, .F, false⟩], 0x0, []⟩
/-- MG_LOG_DATA (R450). -/
def R.MG_LOG_DATA : Reg := ⟨289, 0x40B000A0, 8, .lin 4, .isl 0x28, [⟨31, 0, .ro, 0x0, .V, false⟩], 0x0, []⟩
/-- MG_IMG_CTRL (R450). -/
def R.MG_IMG_CTRL : Reg := ⟨290, 0x40B00100, 1, .lin 0, .isl 0x28, [⟨3, 0, .rwx, 0x0, .V, true⟩], 0x0, []⟩
/-- MG_IMG_STAT (R450). -/
def R.MG_IMG_STAT : Reg := ⟨291, 0x40B00104, 1, .lin 0, .isl 0x28, [⟨31, 28, .ro, 0x0, .V, false⟩,
    ⟨25, 25, .w1c, 0x0, .W, false⟩,
    ⟨24, 24, .ro, 0x0, .V, false⟩,
    ⟨23, 20, .ro, 0x0, .V, false⟩,
    ⟨16, 16, .ro, 0x0, .F, false⟩], 0x0, []⟩
/-- MG_IMG_ADDR (R450). -/
def R.MG_IMG_ADDR : Reg := ⟨292, 0x40B00108, 1, .lin 0, .isl 0x28, [⟨23, 2, .rwx, 0x0, .V, true⟩], 0x0, []⟩
/-- MG_IMG_DATA (R450). -/
def R.MG_IMG_DATA : Reg := ⟨293, 0x40B0010C, 1, .lin 0, .isl 0x28, [⟨31, 0, .rwx, 0x0, .V, true⟩], 0x0, []⟩
/-- MG_IMG_SECVER (R450). -/
def R.MG_IMG_SECVER : Reg := ⟨294, 0x40B00110, 2, .lin 4, .isl 0x28, [⟨31, 0, .ro, 0x0, .F, false⟩], 0x0, []⟩
/-- MG_IMG_LINK (R450). -/
def R.MG_IMG_LINK : Reg := ⟨295, 0x40B00118, 2, .lin 4, .isl 0x28, [⟨31, 30, .ro, 0x0, .F, false⟩,
    ⟨15, 0, .ro, 0x0, .F, false⟩], 0x0, [0x80000000, 0x0]⟩
/-- MG_IMG_FLOOR (R450). -/
def R.MG_IMG_FLOOR : Reg := ⟨296, 0x40B00120, 1, .lin 0, .isl 0x28, [⟨31, 0, .ro, 0x0, .F, false⟩], 0x0, []⟩
/-- MG_KEY_CTRL (R450). -/
def R.MG_KEY_CTRL : Reg := ⟨297, 0x40B00140, 1, .lin 0, .isl 0x28, [⟨31, 31, .rwx, 0x0, .V, true⟩,
    ⟨30, 30, .rwx, 0x0, .V, true⟩,
    ⟨7, 4, .rwx, 0x0, .V, true⟩,
    ⟨0, 0, .rwx, 0x0, .V, true⟩], 0x0, []⟩
/-- MG_KEY_STAT (R450). -/
def R.MG_KEY_STAT : Reg := ⟨298, 0x40B00144, 1, .lin 0, .isl 0x28, [⟨31, 28, .ro, 0x0, .V, false⟩,
    ⟨27, 27, .ro, 0x0, .V, false⟩], 0x0, []⟩
/-- MG_KEY_IDX (R450). -/
def R.MG_KEY_IDX : Reg := ⟨299, 0x40B00148, 1, .lin 0, .isl 0x28, [⟨4, 0, .rwx, 0x0, .V, true⟩], 0x0, []⟩
/-- MG_KEY_DATA (R450). -/
def R.MG_KEY_DATA : Reg := ⟨300, 0x40B0014C, 1, .lin 0, .isl 0x28, [⟨31, 0, .rwx, 0x0, .V, true⟩], 0x0, []⟩
/-- MG_KEY_ID (R450). -/
def R.MG_KEY_ID : Reg := ⟨301, 0x40B00160, 10, .lin 4, .isl 0x28, [⟨31, 31, .ro, 0x0, .F, false⟩,
    ⟨30, 30, .ro, 0x0, .F, false⟩,
    ⟨23, 0, .ro, 0x0, .F, false⟩], 0x0, []⟩
/-- PT_CTRL (R62). -/
def R.PT_CTRL : Reg := ⟨302, 0x40C00000, 1, .lin 0, .isl 0x25, [⟨31, 24, .rwx, 0x0, .V, true⟩,
    ⟨13, 13, .rwx, 0x0, .V, true⟩,
    ⟨12, 12, .rwx, 0x0, .V, true⟩,
    ⟨3, 0, .rwx, 0x0, .V, true⟩], 0x0, []⟩
/-- PT_STAT (R62). -/
def R.PT_STAT : Reg := ⟨303, 0x40C00004, 1, .lin 0, .isl 0x25, [⟨31, 24, .ro, 0x0, .V, false⟩,
    ⟨23, 23, .w1c, 0x0, .V, false⟩,
    ⟨22, 20, .ro, 0x0, .V, false⟩,
    ⟨16, 16, .ro, 0x0, .K, false⟩,
    ⟨15, 0, .ro, 0xFFFF, .V, false⟩], 0xFFFF, []⟩
/-- PT_BOOT (R62). -/
def R.PT_BOOT : Reg := ⟨304, 0x40C00008, 1, .lin 0, .isl 0x25, [⟨2, 2, .ro, 0x0, .V, false⟩,
    ⟨1, 1, .ro, 0x0, .V, false⟩,
    ⟨0, 0, .rwx, 0x0, .F, true⟩], 0x0, []⟩
/-- PT_ACTIVE_ID (R62). -/
def R.PT_ACTIVE_ID : Reg := ⟨305, 0x40C0000C, 1, .lin 0, .isl 0x25, [⟨31, 0, .ro, 0x0, .K, false⟩], 0x0, []⟩
/-- PT_ACTIVE_VER (R62). -/
def R.PT_ACTIVE_VER : Reg := ⟨306, 0x40C00010, 1, .lin 0, .isl 0x25, [⟨31, 0, .ro, 0x0, .K, false⟩], 0x0, []⟩
/-- PT_FLOOR (R62). -/
def R.PT_FLOOR : Reg := ⟨307, 0x40C00014, 1, .lin 0, .isl 0x25, [⟨31, 0, .rwx, 0x0, .F, true⟩], 0x0, []⟩
/-- PT_RELACE_CNT (R62). -/
def R.PT_RELACE_CNT : Reg := ⟨308, 0x40C00018, 1, .lin 0, .isl 0x25, [⟨31, 0, .ro, 0x0, .W, false⟩], 0x0, []⟩
/-- PT_DIGEST (R62). -/
def R.PT_DIGEST : Reg := ⟨309, 0x40C00020, 8, .lin 4, .isl 0x25, [⟨31, 0, .ro, 0x0, .K, false⟩], 0x0, []⟩
/-- Registers 0 and on, in the order of their numbers. -/
def allRegs0 : List Reg := [R.SYS_ID, R.SYS_CAPS, R.SYS_PLACE, R.SYS_SERIAL, R.SYS_BINDMAP, R.SYS_AWL, R.SYS_WAKE_ON_ACCESS, R.SYS_ISL_RST, R.SYS_XDROP, R.SYS_ISL_STATE, R.SYS_PINS, R.SYS_LED, R.PW_REQ, R.PW_STAT, R.PW_WAKE_EN, R.PW_WAKE_DI, R.PW_CANWAKE, R.PW_ALARM_LO, R.PW_ALARM_HI, R.PW_WAKE_SRC, R.PW_CELL, R.PW_SUPPLY, R.PW_CNT, R.RST_CTRL, R.RST_CAUSE, R.RST_STUCK, R.RST_STAT, R.RST_CNT0, R.RST_CNT1, R.AR_PRIO_LO, R.AR_PRIO_HI, R.AR_STARVE_THR, R.AR_STARVE, R.AR_HOLD, R.AR_LOCK, R.AR_REVOKE, R.AR_SCRUB, R.AR_ECC_STAT, R.AR_ECC_CE_CNT, R.AR_ECC_UE_CNT]
/-- Registers 40 and on, in the order of their numbers. -/
def allRegs1 : List Reg := [R.AR_ECC_CE_ADDR, R.AR_ECC_UE_ADDR, R.AR_RETAIN, R.AR_FAULT, R.BS_CFG, R.BS_STAT, R.BS_HEAT, R.BS_ENERGY, R.BS_ALLOW, R.BS_PWR, R.BS_EIN_LO, R.BS_EIN_HI, R.BS_ESTITCH_LO, R.BS_ESTITCH_HI, R.BS_FCNT, R.BS_FEPOCH, R.BS_DEBT, R.BS_LATE_CNT, R.BS_LOST_CNT, R.BS_SHIFT, R.BS_OVR_MAX, R.BS_ENG_STAT, R.BS_ENG_NEED, R.BS_ENG_OVR, R.BS_ENG_RECV, R.ST_CLK, R.ST_CHECK, R.AX_CMD, R.AX_PCFG, R.AX_TARGET_LO, R.AX_TARGET_HI, R.AX_VMAX, R.AX_ACCEL, R.AX_DECEL, R.AX_SS1_DEC, R.AX_JOG_VEL, R.AX_SOFT_MIN_LO, R.AX_SOFT_MIN_HI, R.AX_SOFT_MAX_LO, R.AX_SOFT_MAX_HI]
/-- Registers 80 and on, in the order of their numbers. -/
def allRegs2 : List Reg := [R.AX_PPOS_LO, R.AX_PPOS_HI, R.AX_PVEL, R.AX_PSTAT, R.AX_SCALE_NUM, R.AX_SCALE_DEN, R.AX_MOVES, R.AX_STAT, R.AX_LCFG, R.AX_LSTAT, R.AX_KPP, R.AX_KVFF, R.AX_VLIM, R.AX_KPV, R.AX_KIV, R.AX_ILIM, R.AX_KAFF, R.AX_KPI, R.AX_KII, R.AX_VMOD, R.AX_VBUS_NOM, R.AX_FRIC_VDB, R.AX_TB_GAIN, R.AX_FERR_LIM, R.AX_INPOS_WIN, R.AX_INPOS_CFG, R.AX_MAN_OUT, R.AX_COEF_CTRL, R.AX_COEF_IDX, R.AX_COEF_DATA, R.AX_PERR, R.AX_ICMD, R.AX_COMM, R.AX_MOT_RS, R.AX_MOT_LD, R.AX_MOT_LQ, R.AX_MOT_FLUX, R.AX_SL_CFG, R.AX_SL_HFI_V, R.AX_SL_BW]
/-- Registers 120 and on, in the order of their numbers. -/
def allRegs3 : List Reg := [R.AX_SL_VLO, R.AX_SL_VHI, R.AX_PA_WSTART, R.AX_PA_WSTEP, R.AX_PA_WIN, R.AX_PA_DATA, R.AX_SL_STAT, R.AX_COMM_STAT, R.LN_CFG, R.LN_CTRL, R.LN_STAT, R.LN_IGAIN, R.LN_VGAIN, R.LN_OC_LIM, R.LN_OFS_UV, R.LN_OFS_W, R.LN_SAMPLE, R.LN_SAMPLE2, R.LN_SHUNT_CFG, R.LN_SHUNT_CNT, R.LN_FAULTS, R.LG_CFG, R.LG_SDCFG, R.LG_STAT, R.LG_STO_REQ, R.LG_SS1_REQ, R.LG_RELEASE, R.LG_REL_RESULT, R.FB_CFG, R.FB_CPR, R.FB_ST, R.FB_MT, R.FB_POS_LO, R.FB_POS_HI, R.FB_SPEED, R.FB_SPD_CFG, R.FB_ZERO_T, R.FB_SER, R.FB_SER_T, R.FB_SER_CYCLE]
/-- Registers 160 and on, in the order of their numbers. -/
def allRegs4 : List Reg := [R.FB_RES, R.FB_STAT, R.FB_CNT, R.FB_CTRL, R.FB_JUMP, R.Q_CFG, R.Q_STAT, R.IG_CTRL, R.IG_CFG, R.IG_STAT, R.GR_NUM, R.GR_DEN, R.GR_CFG, R.GR_STAT, R.SP_CFG, R.SP_COUNT, R.SP_STAT, R.NT_SEC_LO, R.NT_SEC_HI, R.NT_NS, R.NT_FRAC, R.NT_ADJ, R.NT_CTRL, R.NT_SET_SEC_LO, R.NT_SET_SEC_HI, R.NT_SET_NS, R.NT_STAT, R.NT_OFFSET, R.NT_PDELAY, R.NT_PTP_CFG, R.NT_LAT, R.NT_STEP_SUM_LO, R.NT_STEP_SUM_HI, R.NT_CNT, R.CP_Q_SLOT, R.CP_Q_NS, R.CP_Q_SEC, R.CP_Q_CTRL, R.CP_Q_POS_LO, R.CP_Q_POS_HI]
/-- Registers 200 and on, in the order of their numbers. -/
def allRegs5 : List Reg := [R.CP_Q_STAT, R.CP_DI_CFG, R.CP_DI_NS, R.CP_DI_SEC, R.CP_DI_STAT, R.CP_Z_NS, R.CP_Z_SEC, R.CP_HEAD, R.CP_ARM, R.CP_RES_NS, R.CP_RES_SEC, R.CP_RES_POS_LO, R.CP_RES_POS_HI, R.CP_RES_STAT, R.CN_CFG, R.CN_CTRL, R.CN_STAT, R.CN_LOSS, R.CN_BT_NOM, R.CN_BT_DATA, R.CN_CNT_RX, R.CN_CNT_TX, R.CN_CNT_UNMATCHED, R.CN_CNT_ERR, R.CN_CNT_LOST, R.CN_OBJ_W0, R.CN_OBJ_W1, R.CN_OBJ_W2, R.CN_OBJ_W3, R.CN_OBJ_DATA, R.EN_IPV4, R.EN_IPCFG, R.EN_IPV4_LIVE, R.EN_SESS_CFG, R.EN_HOST_WD, R.EN_STRAP_STAT, R.EN_BAD_TAG, R.EN_BAD_FRAME, R.EN_OLD_SEQ, R.EN_RX_DROP]
/-- Registers 240 and on, in the order of their numbers. -/
def allRegs6 : List Reg := [R.EN_EV_DROPPED, R.FI_DI_STATE, R.FI_DI_CFG, R.FI_DO_CMD, R.FI_DO_STAT, R.FI_DO_CTRL, R.FI_DO_CFG, R.FI_SUPPLY, R.FI_LIM_ACTIVE, R.FI_FS_CFG, R.FI_FS_STAT, R.FI_FS_CNT, R.FI_FS_IN, R.FI_FS_OUT, R.FI_FS_DIAG, R.FI_FS_STAMP, R.SF_SEAL_LO, R.SF_SEAL_HI, R.SF_XSEAL_LO, R.SF_XSEAL_HI, R.SF_STATE, R.SF_GRP, R.SF_CNT, R.SF_BRK, R.TW_ROLE, R.TW_NOTREADY, R.TW_CTRL, R.TW_CFG, R.TW_INCARN, R.TW_PINCARN, R.TW_SEQ, R.TW_RELINK, R.TW_CNT, R.TW_ERR, R.TW_LAST, R.TW_CLAIM, R.MG_TEMP, R.MG_RAIL, R.MG_IIN, R.MG_RH]
/-- Registers 280 and on, in the order of their numbers. -/
def allRegs7 : List Reg := [R.MG_HEALTH, R.MG_I2C, R.MG_LOG_STAT, R.MG_LOG_NEWEST, R.MG_LOG_OLDEST, R.MG_LOG_SEL, R.MG_LOG_CTRL, R.MG_LOG_DROPPED, R.MG_LOG_WEAR, R.MG_LOG_DATA, R.MG_IMG_CTRL, R.MG_IMG_STAT, R.MG_IMG_ADDR, R.MG_IMG_DATA, R.MG_IMG_SECVER, R.MG_IMG_LINK, R.MG_IMG_FLOOR, R.MG_KEY_CTRL, R.MG_KEY_STAT, R.MG_KEY_IDX, R.MG_KEY_DATA, R.MG_KEY_ID, R.PT_CTRL, R.PT_STAT, R.PT_BOOT, R.PT_ACTIVE_ID, R.PT_ACTIVE_VER, R.PT_FLOOR, R.PT_RELACE_CNT, R.PT_DIGEST]
/-- Every register of the map, in the order of its number. -/
def allRegs : List Reg := allRegs0 ++ allRegs1 ++ allRegs2 ++ allRegs3 ++ allRegs4 ++ allRegs5 ++ allRegs6 ++ allRegs7
end Sys2Proof.Machine
end

