-- ==== Sys2Proof/Machine/Fields.lean ====
section
/-! DEFINITION. The fields of the registers, by name, as the field tables of the spec list them. -/
namespace Sys2Proof.Machine
/-- SYS_ID.PRODUCT (R28). -/
def F.SYS_ID_PRODUCT : Fld := ⟨R.SYS_ID, 16, 16⟩
/-- SYS_ID.SOC_STEP (R28). -/
def F.SYS_ID_SOC_STEP : Fld := ⟨R.SYS_ID, 8, 8⟩
/-- SYS_ID.XB2_STEP (R28). -/
def F.SYS_ID_XB2_STEP : Fld := ⟨R.SYS_ID, 0, 8⟩
/-- SYS_CAPS.ENGINES (R28). -/
def F.SYS_CAPS_ENGINES : Fld := ⟨R.SYS_CAPS, 27, 5⟩
/-- SYS_CAPS.PORTS (R28). -/
def F.SYS_CAPS_PORTS : Fld := ⟨R.SYS_CAPS, 21, 6⟩
/-- SYS_CAPS.S_LANES (R28). -/
def F.SYS_CAPS_S_LANES : Fld := ⟨R.SYS_CAPS, 14, 7⟩
/-- SYS_CAPS.F_LANES (R28). -/
def F.SYS_CAPS_F_LANES : Fld := ⟨R.SYS_CAPS, 8, 6⟩
/-- SYS_CAPS.SLOTS (R28). -/
def F.SYS_CAPS_SLOTS : Fld := ⟨R.SYS_CAPS, 0, 8⟩
/-- SYS_PLACE.PLACE_FAULT (R28). -/
def F.SYS_PLACE_PLACE_FAULT : Fld := ⟨R.SYS_PLACE, 1, 1⟩
/-- SYS_PLACE.POSITION (R28). -/
def F.SYS_PLACE_POSITION : Fld := ⟨R.SYS_PLACE, 0, 1⟩
/-- SYS_SERIAL.SERIAL (R28). -/
def F.SYS_SERIAL_SERIAL : Fld := ⟨R.SYS_SERIAL, 0, 32⟩
/-- SYS_BINDMAP.KINDS (R28). -/
def F.SYS_BINDMAP_KINDS : Fld := ⟨R.SYS_BINDMAP, 0, 32⟩
/-- SYS_AWL.ACTIVE (R90). -/
def F.SYS_AWL_ACTIVE : Fld := ⟨R.SYS_AWL, 1, 1⟩
/-- SYS_AWL.ENABLE (R90). -/
def F.SYS_AWL_ENABLE : Fld := ⟨R.SYS_AWL, 0, 1⟩
/-- SYS_WAKE_ON_ACCESS.PGATED (R117). -/
def F.SYS_WAKE_ON_ACCESS_PGATED : Fld := ⟨R.SYS_WAKE_ON_ACCESS, 1, 1⟩
/-- SYS_WAKE_ON_ACCESS.EN (R117). -/
def F.SYS_WAKE_ON_ACCESS_EN : Fld := ⟨R.SYS_WAKE_ON_ACCESS, 0, 1⟩
/-- SYS_ISL_RST.REQ (R117). -/
def F.SYS_ISL_RST_REQ : Fld := ⟨R.SYS_ISL_RST, 31, 1⟩
/-- SYS_ISL_RST.RESULT (R117). -/
def F.SYS_ISL_RST_RESULT : Fld := ⟨R.SYS_ISL_RST, 28, 3⟩
/-- SYS_ISL_RST.ISLAND (R117). -/
def F.SYS_ISL_RST_ISLAND : Fld := ⟨R.SYS_ISL_RST, 0, 8⟩
/-- SYS_XDROP.DELTA_LOST (R117). -/
def F.SYS_XDROP_DELTA_LOST : Fld := ⟨R.SYS_XDROP, 31, 1⟩
/-- SYS_XDROP.WORDS (R117). -/
def F.SYS_XDROP_WORDS : Fld := ⟨R.SYS_XDROP, 0, 31⟩
/-- SYS_ISL_STATE.STATES (R117). -/
def F.SYS_ISL_STATE_STATES : Fld := ⟨R.SYS_ISL_STATE, 0, 32⟩
/-- SYS_PINS.AWL_DET (R479). -/
def F.SYS_PINS_AWL_DET : Fld := ⟨R.SYS_PINS, 8, 1⟩
/-- SYS_PINS.FAIL_IN (R479). -/
def F.SYS_PINS_FAIL_IN : Fld := ⟨R.SYS_PINS, 7, 1⟩
/-- SYS_PINS.FAIL_OUT (R479). -/
def F.SYS_PINS_FAIL_OUT : Fld := ⟨R.SYS_PINS, 6, 1⟩
/-- SYS_PINS.WAKE (R479). -/
def F.SYS_PINS_WAKE : Fld := ⟨R.SYS_PINS, 5, 1⟩
/-- SYS_PINS.PPRES (R479). -/
def F.SYS_PINS_PPRES : Fld := ⟨R.SYS_PINS, 4, 1⟩
/-- SYS_PINS.PRES_L (R479). -/
def F.SYS_PINS_PRES_L : Fld := ⟨R.SYS_PINS, 3, 1⟩
/-- SYS_PINS.PRES_E (R479). -/
def F.SYS_PINS_PRES_E : Fld := ⟨R.SYS_PINS, 2, 1⟩
/-- SYS_PINS.POS1 (R479). -/
def F.SYS_PINS_POS1 : Fld := ⟨R.SYS_PINS, 1, 1⟩
/-- SYS_PINS.POS0 (R479). -/
def F.SYS_PINS_POS0 : Fld := ⟨R.SYS_PINS, 0, 1⟩
/-- SYS_LED.LOCATE (R479). -/
def F.SYS_LED_LOCATE : Fld := ⟨R.SYS_LED, 0, 1⟩
/-- PW_REQ.CLEAN (R409). -/
def F.PW_REQ_CLEAN : Fld := ⟨R.PW_REQ, 8, 1⟩
/-- PW_REQ.TARGET (R409). -/
def F.PW_REQ_TARGET : Fld := ⟨R.PW_REQ, 0, 3⟩
/-- PW_STAT.STATE (R409). -/
def F.PW_STAT_STATE : Fld := ⟨R.PW_STAT, 29, 3⟩
/-- PW_STAT.ACTIVE (R409). -/
def F.PW_STAT_ACTIVE : Fld := ⟨R.PW_STAT, 26, 3⟩
/-- PW_STAT.PENDING (R409). -/
def F.PW_STAT_PENDING : Fld := ⟨R.PW_STAT, 23, 3⟩
/-- PW_STAT.RESULT (R409). -/
def F.PW_STAT_RESULT : Fld := ⟨R.PW_STAT, 20, 3⟩
/-- PW_STAT.SUPERSEDED (R409). -/
def F.PW_STAT_SUPERSEDED : Fld := ⟨R.PW_STAT, 0, 16⟩
/-- PW_WAKE_EN.EN (R409). -/
def F.PW_WAKE_EN_EN : Fld := ⟨R.PW_WAKE_EN, 1, 10⟩
/-- PW_WAKE_EN.WAKE_PIN (R409). -/
def F.PW_WAKE_EN_WAKE_PIN : Fld := ⟨R.PW_WAKE_EN, 0, 1⟩
/-- PW_WAKE_DI.MASK (R409). -/
def F.PW_WAKE_DI_MASK : Fld := ⟨R.PW_WAKE_DI, 0, 16⟩
/-- PW_CANWAKE.CH (R409). -/
def F.PW_CANWAKE_CH : Fld := ⟨R.PW_CANWAKE, 9, 2⟩
/-- PW_CANWAKE.OBJ (R409). -/
def F.PW_CANWAKE_OBJ : Fld := ⟨R.PW_CANWAKE, 0, 9⟩
/-- PW_ALARM_LO.SEC (R409). -/
def F.PW_ALARM_LO_SEC : Fld := ⟨R.PW_ALARM_LO, 0, 32⟩
/-- PW_ALARM_HI.SEC (R409). -/
def F.PW_ALARM_HI_SEC : Fld := ⟨R.PW_ALARM_HI, 0, 32⟩
/-- PW_WAKE_SRC.FROM (R409). -/
def F.PW_WAKE_SRC_FROM : Fld := ⟨R.PW_WAKE_SRC, 29, 3⟩
/-- PW_WAKE_SRC.SRC (R409). -/
def F.PW_WAKE_SRC_SRC : Fld := ⟨R.PW_WAKE_SRC, 0, 11⟩
/-- PW_CELL.CELL_MV (R409). -/
def F.PW_CELL_CELL_MV : Fld := ⟨R.PW_CELL, 16, 16⟩
/-- PW_CELL.CHARGING (R409). -/
def F.PW_CELL_CHARGING : Fld := ⟨R.PW_CELL, 3, 1⟩
/-- PW_CELL.CELL_LOW (R409). -/
def F.PW_CELL_CELL_LOW : Fld := ⟨R.PW_CELL, 2, 1⟩
/-- PW_CELL.CELL_ABSENT_SEEN (R409). -/
def F.PW_CELL_CELL_ABSENT_SEEN : Fld := ⟨R.PW_CELL, 1, 1⟩
/-- PW_CELL.CELL_ABSENT (R409). -/
def F.PW_CELL_CELL_ABSENT : Fld := ⟨R.PW_CELL, 0, 1⟩
/-- PW_SUPPLY.VIN (R409). -/
def F.PW_SUPPLY_VIN : Fld := ⟨R.PW_SUPPLY, 16, 16⟩
/-- PW_SUPPLY.OVERVOLT_SEEN (R409). -/
def F.PW_SUPPLY_OVERVOLT_SEEN : Fld := ⟨R.PW_SUPPLY, 1, 1⟩
/-- PW_SUPPLY.SUPPLY_FAIL_SEEN (R409). -/
def F.PW_SUPPLY_SUPPLY_FAIL_SEEN : Fld := ⟨R.PW_SUPPLY, 0, 1⟩
/-- PW_CNT.WAKES (R409). -/
def F.PW_CNT_WAKES : Fld := ⟨R.PW_CNT, 16, 16⟩
/-- PW_CNT.DENIED (R409). -/
def F.PW_CNT_DENIED : Fld := ⟨R.PW_CNT, 0, 16⟩
/-- RST_CTRL.KEY (R425). -/
def F.RST_CTRL_KEY : Fld := ⟨R.RST_CTRL, 24, 8⟩
/-- RST_CTRL.REQ (R425). -/
def F.RST_CTRL_REQ : Fld := ⟨R.RST_CTRL, 0, 2⟩
/-- RST_CAUSE.TYPE (R425). -/
def F.RST_CAUSE_TYPE : Fld := ⟨R.RST_CAUSE, 28, 4⟩
/-- RST_CAUSE.SOURCE (R425). -/
def F.RST_CAUSE_SOURCE : Fld := ⟨R.RST_CAUSE, 16, 8⟩
/-- RST_CAUSE.CLEAN (R425). -/
def F.RST_CAUSE_CLEAN : Fld := ⟨R.RST_CAUSE, 15, 1⟩
/-- RST_CAUSE.BACKUP_LOST (R425). -/
def F.RST_CAUSE_BACKUP_LOST : Fld := ⟨R.RST_CAUSE, 14, 1⟩
/-- RST_STUCK.PIN_ACTIVE (R425). -/
def F.RST_STUCK_PIN_ACTIVE : Fld := ⟨R.RST_STUCK, 5, 1⟩
/-- RST_STUCK.BUTTON_ACTIVE (R425). -/
def F.RST_STUCK_BUTTON_ACTIVE : Fld := ⟨R.RST_STUCK, 4, 1⟩
/-- RST_STUCK.PIN_MASKED (R425). -/
def F.RST_STUCK_PIN_MASKED : Fld := ⟨R.RST_STUCK, 3, 1⟩
/-- RST_STUCK.BUTTON_MASKED (R425). -/
def F.RST_STUCK_BUTTON_MASKED : Fld := ⟨R.RST_STUCK, 2, 1⟩
/-- RST_STUCK.PIN_STUCK (R425). -/
def F.RST_STUCK_PIN_STUCK : Fld := ⟨R.RST_STUCK, 1, 1⟩
/-- RST_STUCK.BUTTON_STUCK (R425). -/
def F.RST_STUCK_BUTTON_STUCK : Fld := ⟨R.RST_STUCK, 0, 1⟩
/-- RST_STAT.START_MS (R425). -/
def F.RST_STAT_START_MS : Fld := ⟨R.RST_STAT, 16, 16⟩
/-- RST_STAT.INCARN_UNSAVED (R425). -/
def F.RST_STAT_INCARN_UNSAVED : Fld := ⟨R.RST_STAT, 2, 1⟩
/-- RST_STAT.KEY_REFUSED (R425). -/
def F.RST_STAT_KEY_REFUSED : Fld := ⟨R.RST_STAT, 1, 1⟩
/-- RST_STAT.PARTNER_STUCK (R425). -/
def F.RST_STAT_PARTNER_STUCK : Fld := ⟨R.RST_STAT, 0, 1⟩
/-- RST_CNT0.MODULE (R425). -/
def F.RST_CNT0_MODULE : Fld := ⟨R.RST_CNT0, 16, 16⟩
/-- RST_CNT0.WARM (R425). -/
def F.RST_CNT0_WARM : Fld := ⟨R.RST_CNT0, 0, 16⟩
/-- RST_CNT1.UNSEAT (R425). -/
def F.RST_CNT1_UNSEAT : Fld := ⟨R.RST_CNT1, 16, 16⟩
/-- RST_CNT1.POWER_ON (R425). -/
def F.RST_CNT1_POWER_ON : Fld := ⟨R.RST_CNT1, 0, 16⟩
/-- AR_PRIO_LO.PRIO_7 (R137). -/
def F.AR_PRIO_LO_PRIO_7 : Fld := ⟨R.AR_PRIO_LO, 28, 4⟩
/-- AR_PRIO_LO.PRIO_6 (R137). -/
def F.AR_PRIO_LO_PRIO_6 : Fld := ⟨R.AR_PRIO_LO, 24, 4⟩
/-- AR_PRIO_LO.PRIO_5 (R137). -/
def F.AR_PRIO_LO_PRIO_5 : Fld := ⟨R.AR_PRIO_LO, 20, 4⟩
/-- AR_PRIO_LO.PRIO_4 (R137). -/
def F.AR_PRIO_LO_PRIO_4 : Fld := ⟨R.AR_PRIO_LO, 16, 4⟩
/-- AR_PRIO_LO.PRIO_3 (R137). -/
def F.AR_PRIO_LO_PRIO_3 : Fld := ⟨R.AR_PRIO_LO, 12, 4⟩
/-- AR_PRIO_LO.PRIO_2 (R137). -/
def F.AR_PRIO_LO_PRIO_2 : Fld := ⟨R.AR_PRIO_LO, 8, 4⟩
/-- AR_PRIO_LO.PRIO_1 (R137). -/
def F.AR_PRIO_LO_PRIO_1 : Fld := ⟨R.AR_PRIO_LO, 4, 4⟩
/-- AR_PRIO_LO.PRIO_0 (R137). -/
def F.AR_PRIO_LO_PRIO_0 : Fld := ⟨R.AR_PRIO_LO, 0, 4⟩
/-- AR_PRIO_HI.PRIO_11 (R137). -/
def F.AR_PRIO_HI_PRIO_11 : Fld := ⟨R.AR_PRIO_HI, 12, 4⟩
/-- AR_PRIO_HI.PRIO_10 (R137). -/
def F.AR_PRIO_HI_PRIO_10 : Fld := ⟨R.AR_PRIO_HI, 8, 4⟩
/-- AR_PRIO_HI.PRIO_9 (R137). -/
def F.AR_PRIO_HI_PRIO_9 : Fld := ⟨R.AR_PRIO_HI, 4, 4⟩
/-- AR_PRIO_HI.PRIO_8 (R137). -/
def F.AR_PRIO_HI_PRIO_8 : Fld := ⟨R.AR_PRIO_HI, 0, 4⟩
/-- AR_STARVE_THR.THR_HI (R137). -/
def F.AR_STARVE_THR_THR_HI : Fld := ⟨R.AR_STARVE_THR, 16, 16⟩
/-- AR_STARVE_THR.THR_LO (R137). -/
def F.AR_STARVE_THR_THR_LO : Fld := ⟨R.AR_STARVE_THR, 0, 16⟩
/-- AR_STARVE.RQ (R137). -/
def F.AR_STARVE_RQ : Fld := ⟨R.AR_STARVE, 28, 4⟩
/-- AR_STARVE.BANK (R137). -/
def F.AR_STARVE_BANK : Fld := ⟨R.AR_STARVE, 24, 4⟩
/-- AR_STARVE.FLAGS (R137). -/
def F.AR_STARVE_FLAGS : Fld := ⟨R.AR_STARVE, 0, 12⟩
/-- AR_HOLD.OVERRUN (R137). -/
def F.AR_HOLD_OVERRUN : Fld := ⟨R.AR_HOLD, 31, 1⟩
/-- AR_HOLD.BANK (R137). -/
def F.AR_HOLD_BANK : Fld := ⟨R.AR_HOLD, 24, 4⟩
/-- AR_HOLD.RQ (R137). -/
def F.AR_HOLD_RQ : Fld := ⟨R.AR_HOLD, 20, 4⟩
/-- AR_HOLD.LIMIT (R137). -/
def F.AR_HOLD_LIMIT : Fld := ⟨R.AR_HOLD, 0, 16⟩
/-- AR_LOCK.ORDER_REFUSED (R137). -/
def F.AR_LOCK_ORDER_REFUSED : Fld := ⟨R.AR_LOCK, 31, 1⟩
/-- AR_LOCK.WRONG_BANK (R137). -/
def F.AR_LOCK_WRONG_BANK : Fld := ⟨R.AR_LOCK, 30, 1⟩
/-- AR_LOCK.RQ (R137). -/
def F.AR_LOCK_RQ : Fld := ⟨R.AR_LOCK, 20, 4⟩
/-- AR_LOCK.HELD (R137). -/
def F.AR_LOCK_HELD : Fld := ⟨R.AR_LOCK, 0, 16⟩
/-- AR_REVOKE.AWL_IN_LOCK (R137). -/
def F.AR_REVOKE_AWL_IN_LOCK : Fld := ⟨R.AR_REVOKE, 31, 1⟩
/-- AR_REVOKE.COUNT (R137). -/
def F.AR_REVOKE_COUNT : Fld := ⟨R.AR_REVOKE, 0, 31⟩
/-- AR_SCRUB.PASSES (R137). -/
def F.AR_SCRUB_PASSES : Fld := ⟨R.AR_SCRUB, 16, 16⟩
/-- AR_SCRUB.PERIOD (R137). -/
def F.AR_SCRUB_PERIOD : Fld := ⟨R.AR_SCRUB, 0, 8⟩
/-- AR_ECC_STAT.UE (R137). -/
def F.AR_ECC_STAT_UE : Fld := ⟨R.AR_ECC_STAT, 31, 1⟩
/-- AR_ECC_STAT.CE (R137). -/
def F.AR_ECC_STAT_CE : Fld := ⟨R.AR_ECC_STAT, 30, 1⟩
/-- AR_ECC_STAT.STUCK (R137). -/
def F.AR_ECC_STAT_STUCK : Fld := ⟨R.AR_ECC_STAT, 29, 1⟩
/-- AR_ECC_CE_CNT.COUNT (R137). -/
def F.AR_ECC_CE_CNT_COUNT : Fld := ⟨R.AR_ECC_CE_CNT, 0, 32⟩
/-- AR_ECC_UE_CNT.COUNT (R137). -/
def F.AR_ECC_UE_CNT_COUNT : Fld := ⟨R.AR_ECC_UE_CNT, 0, 32⟩
/-- AR_ECC_CE_ADDR.ADDR (R137). -/
def F.AR_ECC_CE_ADDR_ADDR : Fld := ⟨R.AR_ECC_CE_ADDR, 0, 32⟩
/-- AR_ECC_UE_ADDR.ADDR (R137). -/
def F.AR_ECC_UE_ADDR_ADDR : Fld := ⟨R.AR_ECC_UE_ADDR, 0, 32⟩
/-- AR_RETAIN.REFUSED (R137). -/
def F.AR_RETAIN_REFUSED : Fld := ⟨R.AR_RETAIN, 31, 1⟩
/-- AR_RETAIN.MASK_15 (R137). -/
def F.AR_RETAIN_MASK_15 : Fld := ⟨R.AR_RETAIN, 15, 1⟩
/-- AR_RETAIN.MASK (R137). -/
def F.AR_RETAIN_MASK : Fld := ⟨R.AR_RETAIN, 0, 15⟩
/-- AR_FAULT.ASLEEP (R117). -/
def F.AR_FAULT_ASLEEP : Fld := ⟨R.AR_FAULT, 31, 1⟩
/-- AR_FAULT.WAKE_FAIL (R117). -/
def F.AR_FAULT_WAKE_FAIL : Fld := ⟨R.AR_FAULT, 30, 1⟩
/-- AR_FAULT.TIMEOUT (R117). -/
def F.AR_FAULT_TIMEOUT : Fld := ⟨R.AR_FAULT, 29, 1⟩
/-- AR_FAULT.ISLAND (R117). -/
def F.AR_FAULT_ISLAND : Fld := ⟨R.AR_FAULT, 16, 8⟩
/-- AR_FAULT.COUNT (R117). -/
def F.AR_FAULT_COUNT : Fld := ⟨R.AR_FAULT, 0, 16⟩
/-- BS_CFG.HOLD (R292). -/
def F.BS_CFG_HOLD : Fld := ⟨R.BS_CFG, 16, 8⟩
/-- BS_CFG.OP_FLOOR (R292). -/
def F.BS_CFG_OP_FLOOR : Fld := ⟨R.BS_CFG, 0, 3⟩
/-- BS_STAT.SCHED_LOST (R292). -/
def F.BS_STAT_SCHED_LOST : Fld := ⟨R.BS_STAT, 15, 1⟩
/-- BS_STAT.THERMAL_LIMIT (R292). -/
def F.BS_STAT_THERMAL_LIMIT : Fld := ⟨R.BS_STAT, 14, 1⟩
/-- BS_STAT.HOT_SUSPENDED (R292). -/
def F.BS_STAT_HOT_SUSPENDED : Fld := ⟨R.BS_STAT, 13, 1⟩
/-- BS_STAT.STALE_WC (R292). -/
def F.BS_STAT_STALE_WC : Fld := ⟨R.BS_STAT, 12, 1⟩
/-- BS_STAT.A_OVER (R292). -/
def F.BS_STAT_A_OVER : Fld := ⟨R.BS_STAT, 11, 1⟩
/-- BS_STAT.ENERGY_LIMITED (R292). -/
def F.BS_STAT_ENERGY_LIMITED : Fld := ⟨R.BS_STAT, 10, 1⟩
/-- BS_STAT.HEAT_LIMITED (R292). -/
def F.BS_STAT_HEAT_LIMITED : Fld := ⟨R.BS_STAT, 9, 1⟩
/-- BS_STAT.LEVEL (R292). -/
def F.BS_STAT_LEVEL : Fld := ⟨R.BS_STAT, 0, 3⟩
/-- BS_HEAT.TDIE_TGT (R292). -/
def F.BS_HEAT_TDIE_TGT : Fld := ⟨R.BS_HEAT, 24, 8⟩
/-- BS_HEAT.RTH_JP (R292). -/
def F.BS_HEAT_RTH_JP : Fld := ⟨R.BS_HEAT, 16, 8⟩
/-- BS_HEAT.P_FIXED (R292). -/
def F.BS_HEAT_P_FIXED : Fld := ⟨R.BS_HEAT, 0, 16⟩
/-- BS_ENERGY.P_HOST (R292). -/
def F.BS_ENERGY_P_HOST : Fld := ⟨R.BS_ENERGY, 0, 16⟩
/-- BS_ALLOW.P_HEAT (R292). -/
def F.BS_ALLOW_P_HEAT : Fld := ⟨R.BS_ALLOW, 16, 16⟩
/-- BS_ALLOW.P_ENERGY (R292). -/
def F.BS_ALLOW_P_ENERGY : Fld := ⟨R.BS_ALLOW, 0, 16⟩
/-- BS_PWR.P_IN (R292). -/
def F.BS_PWR_P_IN : Fld := ⟨R.BS_PWR, 16, 16⟩
/-- BS_PWR.P_STITCH (R292). -/
def F.BS_PWR_P_STITCH : Fld := ⟨R.BS_PWR, 0, 16⟩
/-- BS_EIN_LO.MJ (R292). -/
def F.BS_EIN_LO_MJ : Fld := ⟨R.BS_EIN_LO, 0, 32⟩
/-- BS_EIN_HI.MJ (R292). -/
def F.BS_EIN_HI_MJ : Fld := ⟨R.BS_EIN_HI, 0, 32⟩
/-- BS_ESTITCH_LO.MJ (R292). -/
def F.BS_ESTITCH_LO_MJ : Fld := ⟨R.BS_ESTITCH_LO, 0, 32⟩
/-- BS_ESTITCH_HI.MJ (R292). -/
def F.BS_ESTITCH_HI_MJ : Fld := ⟨R.BS_ESTITCH_HI, 0, 32⟩
/-- BS_FCNT.CNT (R292). -/
def F.BS_FCNT_CNT : Fld := ⟨R.BS_FCNT, 0, 32⟩
/-- BS_FEPOCH.WRAPS (R292). -/
def F.BS_FEPOCH_WRAPS : Fld := ⟨R.BS_FEPOCH, 0, 16⟩
/-- BS_DEBT.NS (R292). -/
def F.BS_DEBT_NS : Fld := ⟨R.BS_DEBT, 0, 32⟩
/-- BS_LATE_CNT.COUNT (R292). -/
def F.BS_LATE_CNT_COUNT : Fld := ⟨R.BS_LATE_CNT, 0, 32⟩
/-- BS_LOST_CNT.COUNT (R292). -/
def F.BS_LOST_CNT_COUNT : Fld := ⟨R.BS_LOST_CNT, 0, 32⟩
/-- BS_SHIFT.NS (R292). -/
def F.BS_SHIFT_NS : Fld := ⟨R.BS_SHIFT, 0, 32⟩
/-- BS_OVR_MAX.NS (R292). -/
def F.BS_OVR_MAX_NS : Fld := ⟨R.BS_OVR_MAX, 0, 32⟩
/-- BS_ENG_STAT.BUSY (R292). -/
def F.BS_ENG_STAT_BUSY : Fld := ⟨R.BS_ENG_STAT, 16, 16⟩
/-- BS_ENG_STAT.PERIOD (R292). -/
def F.BS_ENG_STAT_PERIOD : Fld := ⟨R.BS_ENG_STAT, 12, 4⟩
/-- BS_ENG_STAT.NCTX (R292). -/
def F.BS_ENG_STAT_NCTX : Fld := ⟨R.BS_ENG_STAT, 7, 5⟩
/-- BS_ENG_STAT.HANG (R292). -/
def F.BS_ENG_STAT_HANG : Fld := ⟨R.BS_ENG_STAT, 6, 1⟩
/-- BS_ENG_STAT.FORCED (R292). -/
def F.BS_ENG_STAT_FORCED : Fld := ⟨R.BS_ENG_STAT, 5, 1⟩
/-- BS_ENG_STAT.FENCED (R292). -/
def F.BS_ENG_STAT_FENCED : Fld := ⟨R.BS_ENG_STAT, 4, 1⟩
/-- BS_ENG_STAT.OP_SET (R292). -/
def F.BS_ENG_STAT_OP_SET : Fld := ⟨R.BS_ENG_STAT, 0, 3⟩
/-- BS_ENG_NEED.NEED (R292). -/
def F.BS_ENG_NEED_NEED : Fld := ⟨R.BS_ENG_NEED, 0, 16⟩
/-- BS_ENG_OVR.COUNT (R292). -/
def F.BS_ENG_OVR_COUNT : Fld := ⟨R.BS_ENG_OVR, 0, 32⟩
/-- BS_ENG_RECV.COUNT (R292). -/
def F.BS_ENG_RECV_COUNT : Fld := ⟨R.BS_ENG_RECV, 0, 32⟩
/-- ST_CLK.CHANGES (R117). -/
def F.ST_CLK_CHANGES : Fld := ⟨R.ST_CLK, 16, 16⟩
/-- ST_CLK.CHANGING (R117). -/
def F.ST_CLK_CHANGING : Fld := ⟨R.ST_CLK, 4, 1⟩
/-- ST_CLK.OP (R117). -/
def F.ST_CLK_OP : Fld := ⟨R.ST_CLK, 0, 3⟩
/-- ST_CHECK.FAILED (R191). -/
def F.ST_CHECK_FAILED : Fld := ⟨R.ST_CHECK, 31, 1⟩
/-- ST_CHECK.CAUSE (R191). -/
def F.ST_CHECK_CAUSE : Fld := ⟨R.ST_CHECK, 29, 2⟩
/-- ST_CHECK.INJECT (R191). -/
def F.ST_CHECK_INJECT : Fld := ⟨R.ST_CHECK, 28, 1⟩
/-- ST_CHECK.PASSES (R191). -/
def F.ST_CHECK_PASSES : Fld := ⟨R.ST_CHECK, 0, 28⟩
/-- AX_CMD.CMD (R165). -/
def F.AX_CMD_CMD : Fld := ⟨R.AX_CMD, 0, 3⟩
/-- AX_PCFG.SOFT_EN (R165). -/
def F.AX_PCFG_SOFT_EN : Fld := ⟨R.AX_PCFG, 1, 1⟩
/-- AX_PCFG.MODE (R165). -/
def F.AX_PCFG_MODE : Fld := ⟨R.AX_PCFG, 0, 1⟩
/-- AX_TARGET_LO.TARGET (R165). -/
def F.AX_TARGET_LO_TARGET : Fld := ⟨R.AX_TARGET_LO, 0, 32⟩
/-- AX_TARGET_HI.TARGET (R165). -/
def F.AX_TARGET_HI_TARGET : Fld := ⟨R.AX_TARGET_HI, 0, 32⟩
/-- AX_VMAX.VALUE (R165). -/
def F.AX_VMAX_VALUE : Fld := ⟨R.AX_VMAX, 0, 32⟩
/-- AX_ACCEL.VALUE (R165). -/
def F.AX_ACCEL_VALUE : Fld := ⟨R.AX_ACCEL, 0, 32⟩
/-- AX_DECEL.VALUE (R165). -/
def F.AX_DECEL_VALUE : Fld := ⟨R.AX_DECEL, 0, 32⟩
/-- AX_SS1_DEC.VALUE (R165). -/
def F.AX_SS1_DEC_VALUE : Fld := ⟨R.AX_SS1_DEC, 0, 32⟩
/-- AX_JOG_VEL.VEL (R165). -/
def F.AX_JOG_VEL_VEL : Fld := ⟨R.AX_JOG_VEL, 0, 32⟩
/-- AX_SOFT_MIN_LO.LIMIT (R165). -/
def F.AX_SOFT_MIN_LO_LIMIT : Fld := ⟨R.AX_SOFT_MIN_LO, 0, 32⟩
/-- AX_SOFT_MIN_HI.LIMIT (R165). -/
def F.AX_SOFT_MIN_HI_LIMIT : Fld := ⟨R.AX_SOFT_MIN_HI, 0, 32⟩
/-- AX_SOFT_MAX_LO.LIMIT (R165). -/
def F.AX_SOFT_MAX_LO_LIMIT : Fld := ⟨R.AX_SOFT_MAX_LO, 0, 32⟩
/-- AX_SOFT_MAX_HI.LIMIT (R165). -/
def F.AX_SOFT_MAX_HI_LIMIT : Fld := ⟨R.AX_SOFT_MAX_HI, 0, 32⟩
/-- AX_PPOS_LO.POS (R165). -/
def F.AX_PPOS_LO_POS : Fld := ⟨R.AX_PPOS_LO, 0, 32⟩
/-- AX_PPOS_HI.POS (R165). -/
def F.AX_PPOS_HI_POS : Fld := ⟨R.AX_PPOS_HI, 0, 32⟩
/-- AX_PVEL.VEL (R165). -/
def F.AX_PVEL_VEL : Fld := ⟨R.AX_PVEL, 0, 32⟩
/-- AX_PSTAT.CMD_REFUSED (R165). -/
def F.AX_PSTAT_CMD_REFUSED : Fld := ⟨R.AX_PSTAT, 15, 1⟩
/-- AX_PSTAT.GEAR_OVERFLOW (R165). -/
def F.AX_PSTAT_GEAR_OVERFLOW : Fld := ⟨R.AX_PSTAT, 14, 1⟩
/-- AX_PSTAT.SOFT_STOP (R165). -/
def F.AX_PSTAT_SOFT_STOP : Fld := ⟨R.AX_PSTAT, 13, 1⟩
/-- AX_PSTAT.MASTER_LOST (R165). -/
def F.AX_PSTAT_MASTER_LOST : Fld := ⟨R.AX_PSTAT, 12, 1⟩
/-- AX_PSTAT.VCLAMP (R165). -/
def F.AX_PSTAT_VCLAMP : Fld := ⟨R.AX_PSTAT, 11, 1⟩
/-- AX_PSTAT.PARAM_REFUSED (R165). -/
def F.AX_PSTAT_PARAM_REFUSED : Fld := ⟨R.AX_PSTAT, 10, 1⟩
/-- AX_PSTAT.TARGET_REFUSED (R165). -/
def F.AX_PSTAT_TARGET_REFUSED : Fld := ⟨R.AX_PSTAT, 9, 1⟩
/-- AX_PSTAT.TARGET_IGNORED (R165). -/
def F.AX_PSTAT_TARGET_IGNORED : Fld := ⟨R.AX_PSTAT, 8, 1⟩
/-- AX_PSTAT.REVERSING (R165). -/
def F.AX_PSTAT_REVERSING : Fld := ⟨R.AX_PSTAT, 4, 1⟩
/-- AX_PSTAT.DONE (R165). -/
def F.AX_PSTAT_DONE : Fld := ⟨R.AX_PSTAT, 3, 1⟩
/-- AX_PSTAT.STATE (R165). -/
def F.AX_PSTAT_STATE : Fld := ⟨R.AX_PSTAT, 0, 3⟩
/-- AX_SCALE_NUM.NUM (R165). -/
def F.AX_SCALE_NUM_NUM : Fld := ⟨R.AX_SCALE_NUM, 0, 32⟩
/-- AX_SCALE_DEN.DEN (R165). -/
def F.AX_SCALE_DEN_DEN : Fld := ⟨R.AX_SCALE_DEN, 0, 32⟩
/-- AX_MOVES.COUNT (R165). -/
def F.AX_MOVES_COUNT : Fld := ⟨R.AX_MOVES, 0, 32⟩
/-- AX_STAT.REHOMED (R292). -/
def F.AX_STAT_REHOMED : Fld := ⟨R.AX_STAT, 24, 8⟩
/-- AX_STAT.ENGINE (R292). -/
def F.AX_STAT_ENGINE : Fld := ⟨R.AX_STAT, 12, 4⟩
/-- AX_STAT.CLASS (R292). -/
def F.AX_STAT_CLASS : Fld := ⟨R.AX_STAT, 10, 2⟩
/-- AX_STAT.DECIM (R292). -/
def F.AX_STAT_DECIM : Fld := ⟨R.AX_STAT, 8, 2⟩
/-- AX_STAT.UNPLACED (R292). -/
def F.AX_STAT_UNPLACED : Fld := ⟨R.AX_STAT, 2, 1⟩
/-- AX_STAT.LATE (R292). -/
def F.AX_STAT_LATE : Fld := ⟨R.AX_STAT, 1, 1⟩
/-- AX_LCFG.FERR_ACT (R191). -/
def F.AX_LCFG_FERR_ACT : Fld := ⟨R.AX_LCFG, 4, 1⟩
/-- AX_LCFG.MAN_LOOP (R191). -/
def F.AX_LCFG_MAN_LOOP : Fld := ⟨R.AX_LCFG, 2, 2⟩
/-- AX_LCFG.MAN_TRACK (R191). -/
def F.AX_LCFG_MAN_TRACK : Fld := ⟨R.AX_LCFG, 1, 1⟩
/-- AX_LCFG.MAN (R191). -/
def F.AX_LCFG_MAN : Fld := ⟨R.AX_LCFG, 0, 1⟩
/-- AX_LSTAT.PRESETS (R191). -/
def F.AX_LSTAT_PRESETS : Fld := ⟨R.AX_LSTAT, 24, 8⟩
/-- AX_LSTAT.COEF_PENDING (R191). -/
def F.AX_LSTAT_COEF_PENDING : Fld := ⟨R.AX_LSTAT, 12, 1⟩
/-- AX_LSTAT.PRESET_APPROX (R191). -/
def F.AX_LSTAT_PRESET_APPROX : Fld := ⟨R.AX_LSTAT, 11, 1⟩
/-- AX_LSTAT.CFG_REFUSED (R191). -/
def F.AX_LSTAT_CFG_REFUSED : Fld := ⟨R.AX_LSTAT, 10, 1⟩
/-- AX_LSTAT.NONFINITE (R191). -/
def F.AX_LSTAT_NONFINITE : Fld := ⟨R.AX_LSTAT, 9, 1⟩
/-- AX_LSTAT.FOLLOW_ERR (R191). -/
def F.AX_LSTAT_FOLLOW_ERR : Fld := ⟨R.AX_LSTAT, 8, 1⟩
/-- AX_LSTAT.MAN_ACTIVE (R191). -/
def F.AX_LSTAT_MAN_ACTIVE : Fld := ⟨R.AX_LSTAT, 4, 1⟩
/-- AX_LSTAT.INPOS (R191). -/
def F.AX_LSTAT_INPOS : Fld := ⟨R.AX_LSTAT, 3, 1⟩
/-- AX_LSTAT.SAT_VOLT (R191). -/
def F.AX_LSTAT_SAT_VOLT : Fld := ⟨R.AX_LSTAT, 2, 1⟩
/-- AX_LSTAT.SAT_CUR (R191). -/
def F.AX_LSTAT_SAT_CUR : Fld := ⟨R.AX_LSTAT, 1, 1⟩
/-- AX_LSTAT.SAT_VEL (R191). -/
def F.AX_LSTAT_SAT_VEL : Fld := ⟨R.AX_LSTAT, 0, 1⟩
/-- AX_KPP.VALUE (R191). -/
def F.AX_KPP_VALUE : Fld := ⟨R.AX_KPP, 0, 32⟩
/-- AX_KVFF.VALUE (R191). -/
def F.AX_KVFF_VALUE : Fld := ⟨R.AX_KVFF, 0, 32⟩
/-- AX_VLIM.VALUE (R191). -/
def F.AX_VLIM_VALUE : Fld := ⟨R.AX_VLIM, 0, 32⟩
/-- AX_KPV.VALUE (R191). -/
def F.AX_KPV_VALUE : Fld := ⟨R.AX_KPV, 0, 32⟩
/-- AX_KIV.VALUE (R191). -/
def F.AX_KIV_VALUE : Fld := ⟨R.AX_KIV, 0, 32⟩
/-- AX_ILIM.VALUE (R191). -/
def F.AX_ILIM_VALUE : Fld := ⟨R.AX_ILIM, 0, 32⟩
/-- AX_KAFF.VALUE (R191). -/
def F.AX_KAFF_VALUE : Fld := ⟨R.AX_KAFF, 0, 32⟩
/-- AX_KPI.VALUE (R191). -/
def F.AX_KPI_VALUE : Fld := ⟨R.AX_KPI, 0, 32⟩
/-- AX_KII.VALUE (R191). -/
def F.AX_KII_VALUE : Fld := ⟨R.AX_KII, 0, 32⟩
/-- AX_VMOD.VALUE (R191). -/
def F.AX_VMOD_VALUE : Fld := ⟨R.AX_VMOD, 0, 32⟩
/-- AX_VBUS_NOM.VALUE (R191). -/
def F.AX_VBUS_NOM_VALUE : Fld := ⟨R.AX_VBUS_NOM, 0, 32⟩
/-- AX_FRIC_VDB.VALUE (R191). -/
def F.AX_FRIC_VDB_VALUE : Fld := ⟨R.AX_FRIC_VDB, 0, 32⟩
/-- AX_TB_GAIN.VALUE (R191). -/
def F.AX_TB_GAIN_VALUE : Fld := ⟨R.AX_TB_GAIN, 0, 32⟩
/-- AX_FERR_LIM.VALUE (R191). -/
def F.AX_FERR_LIM_VALUE : Fld := ⟨R.AX_FERR_LIM, 0, 32⟩
/-- AX_INPOS_WIN.VALUE (R191). -/
def F.AX_INPOS_WIN_VALUE : Fld := ⟨R.AX_INPOS_WIN, 0, 32⟩
/-- AX_INPOS_CFG.RUNS (R191). -/
def F.AX_INPOS_CFG_RUNS : Fld := ⟨R.AX_INPOS_CFG, 0, 8⟩
/-- AX_MAN_OUT.VALUE (R191). -/
def F.AX_MAN_OUT_VALUE : Fld := ⟨R.AX_MAN_OUT, 0, 32⟩
/-- AX_COEF_CTRL.COMMIT (R191). -/
def F.AX_COEF_CTRL_COMMIT : Fld := ⟨R.AX_COEF_CTRL, 8, 1⟩
/-- AX_COEF_CTRL.NSTATE (R191). -/
def F.AX_COEF_CTRL_NSTATE : Fld := ⟨R.AX_COEF_CTRL, 4, 4⟩
/-- AX_COEF_CTRL.ORDER (R191). -/
def F.AX_COEF_CTRL_ORDER : Fld := ⟨R.AX_COEF_CTRL, 0, 4⟩
/-- AX_COEF_IDX.IDX (R191). -/
def F.AX_COEF_IDX_IDX : Fld := ⟨R.AX_COEF_IDX, 0, 7⟩
/-- AX_COEF_DATA.DATA (R191). -/
def F.AX_COEF_DATA_DATA : Fld := ⟨R.AX_COEF_DATA, 0, 32⟩
/-- AX_PERR.VALUE (R191). -/
def F.AX_PERR_VALUE : Fld := ⟨R.AX_PERR, 0, 32⟩
/-- AX_ICMD.VALUE (R191). -/
def F.AX_ICMD_VALUE : Fld := ⟨R.AX_ICMD, 0, 32⟩
/-- AX_COMM.OFS (R222). -/
def F.AX_COMM_OFS : Fld := ⟨R.AX_COMM, 16, 16⟩
/-- AX_COMM.POLE_PAIRS (R222). -/
def F.AX_COMM_POLE_PAIRS : Fld := ⟨R.AX_COMM, 8, 8⟩
/-- AX_COMM.DIR (R222). -/
def F.AX_COMM_DIR : Fld := ⟨R.AX_COMM, 0, 1⟩
/-- AX_MOT_RS.VALUE (R222). -/
def F.AX_MOT_RS_VALUE : Fld := ⟨R.AX_MOT_RS, 0, 32⟩
/-- AX_MOT_LD.VALUE (R222). -/
def F.AX_MOT_LD_VALUE : Fld := ⟨R.AX_MOT_LD, 0, 32⟩
/-- AX_MOT_LQ.VALUE (R222). -/
def F.AX_MOT_LQ_VALUE : Fld := ⟨R.AX_MOT_LQ, 0, 32⟩
/-- AX_MOT_FLUX.VALUE (R222). -/
def F.AX_MOT_FLUX_VALUE : Fld := ⟨R.AX_MOT_FLUX, 0, 32⟩
/-- AX_SL_CFG.IPD_V (R222). -/
def F.AX_SL_CFG_IPD_V : Fld := ⟨R.AX_SL_CFG, 24, 8⟩
/-- AX_SL_CFG.IPD_T (R222). -/
def F.AX_SL_CFG_IPD_T : Fld := ⟨R.AX_SL_CFG, 16, 8⟩
/-- AX_SL_CFG.BACK (R222). -/
def F.AX_SL_CFG_BACK : Fld := ⟨R.AX_SL_CFG, 8, 8⟩
/-- AX_SL_CFG.RETRIES (R222). -/
def F.AX_SL_CFG_RETRIES : Fld := ⟨R.AX_SL_CFG, 5, 3⟩
/-- AX_SL_CFG.CATCH_EN (R222). -/
def F.AX_SL_CFG_CATCH_EN : Fld := ⟨R.AX_SL_CFG, 4, 1⟩
/-- AX_SL_CFG.WAIT (R222). -/
def F.AX_SL_CFG_WAIT : Fld := ⟨R.AX_SL_CFG, 0, 4⟩
/-- AX_SL_HFI_V.VALUE (R222). -/
def F.AX_SL_HFI_V_VALUE : Fld := ⟨R.AX_SL_HFI_V, 0, 32⟩
/-- AX_SL_BW.OBS_BW (R222). -/
def F.AX_SL_BW_OBS_BW : Fld := ⟨R.AX_SL_BW, 16, 16⟩
/-- AX_SL_BW.HFI_BW (R222). -/
def F.AX_SL_BW_HFI_BW : Fld := ⟨R.AX_SL_BW, 0, 16⟩
/-- AX_SL_VLO.VALUE (R222). -/
def F.AX_SL_VLO_VALUE : Fld := ⟨R.AX_SL_VLO, 0, 32⟩
/-- AX_SL_VHI.VALUE (R222). -/
def F.AX_SL_VHI_VALUE : Fld := ⟨R.AX_SL_VHI, 0, 32⟩
/-- AX_PA_WSTART.VALUE (R222). -/
def F.AX_PA_WSTART_VALUE : Fld := ⟨R.AX_PA_WSTART, 0, 32⟩
/-- AX_PA_WSTEP.VALUE (R222). -/
def F.AX_PA_WSTEP_VALUE : Fld := ⟨R.AX_PA_WSTEP, 0, 32⟩
/-- AX_PA_WIN.EN (R222). -/
def F.AX_PA_WIN_EN : Fld := ⟨R.AX_PA_WIN, 4, 1⟩
/-- AX_PA_WIN.IDX (R222). -/
def F.AX_PA_WIN_IDX : Fld := ⟨R.AX_PA_WIN, 0, 4⟩
/-- AX_PA_DATA.ENTRY (R222). -/
def F.AX_PA_DATA_ENTRY : Fld := ⟨R.AX_PA_DATA, 0, 32⟩
/-- AX_SL_STAT.STATE (R222). -/
def F.AX_SL_STAT_STATE : Fld := ⟨R.AX_SL_STAT, 29, 3⟩
/-- AX_SL_STAT.TRIES (R222). -/
def F.AX_SL_STAT_TRIES : Fld := ⟨R.AX_SL_STAT, 26, 3⟩
/-- AX_SL_STAT.BACK_EXCEEDED (R222). -/
def F.AX_SL_STAT_BACK_EXCEEDED : Fld := ⟨R.AX_SL_STAT, 25, 1⟩
/-- AX_SL_STAT.LOW_CONTRAST (R222). -/
def F.AX_SL_STAT_LOW_CONTRAST : Fld := ⟨R.AX_SL_STAT, 24, 1⟩
/-- AX_SL_STAT.HANDOVER_REJ (R222). -/
def F.AX_SL_STAT_HANDOVER_REJ : Fld := ⟨R.AX_SL_STAT, 23, 1⟩
/-- AX_COMM_STAT.VALID (R222). -/
def F.AX_COMM_STAT_VALID : Fld := ⟨R.AX_COMM_STAT, 19, 1⟩
/-- AX_COMM_STAT.SRC (R222). -/
def F.AX_COMM_STAT_SRC : Fld := ⟨R.AX_COMM_STAT, 16, 3⟩
/-- AX_COMM_STAT.THETA_E (R222). -/
def F.AX_COMM_STAT_THETA_E : Fld := ⟨R.AX_COMM_STAT, 0, 16⟩
/-- LN_CFG.DEAD (R222). -/
def F.LN_CFG_DEAD : Fld := ⟨R.LN_CFG, 16, 16⟩
/-- LN_CFG.MINP (R222). -/
def F.LN_CFG_MINP : Fld := ⟨R.LN_CFG, 8, 8⟩
/-- LN_CFG.FLT_FILT (R222). -/
def F.LN_CFG_FLT_FILT : Fld := ⟨R.LN_CFG, 4, 2⟩
/-- LN_CFG.BOOT (R222). -/
def F.LN_CFG_BOOT : Fld := ⟨R.LN_CFG, 3, 1⟩
/-- LN_CFG.LPOL (R222). -/
def F.LN_CFG_LPOL : Fld := ⟨R.LN_CFG, 2, 1⟩
/-- LN_CFG.HPOL (R222). -/
def F.LN_CFG_HPOL : Fld := ⟨R.LN_CFG, 1, 1⟩
/-- LN_CTRL.CLEAR (R222). -/
def F.LN_CTRL_CLEAR : Fld := ⟨R.LN_CTRL, 0, 1⟩
/-- LN_STAT.FAULT (R222). -/
def F.LN_STAT_FAULT : Fld := ⟨R.LN_STAT, 31, 1⟩
/-- LN_STAT.CAUSE (R222). -/
def F.LN_STAT_CAUSE : Fld := ⟨R.LN_STAT, 28, 3⟩
/-- LN_STAT.FAULT_N_LIVE (R222). -/
def F.LN_STAT_FAULT_N_LIVE : Fld := ⟨R.LN_STAT, 27, 1⟩
/-- LN_STAT.SHIFTING (R222). -/
def F.LN_STAT_SHIFTING : Fld := ⟨R.LN_STAT, 26, 1⟩
/-- LN_STAT.OFS_SHORT (R222). -/
def F.LN_STAT_OFS_SHORT : Fld := ⟨R.LN_STAT, 25, 1⟩
/-- LN_STAT.CLEAR_REFUSED (R222). -/
def F.LN_STAT_CLEAR_REFUSED : Fld := ⟨R.LN_STAT, 24, 1⟩
/-- LN_IGAIN.VALUE (R222). -/
def F.LN_IGAIN_VALUE : Fld := ⟨R.LN_IGAIN, 0, 32⟩
/-- LN_VGAIN.VALUE (R222). -/
def F.LN_VGAIN_VALUE : Fld := ⟨R.LN_VGAIN, 0, 32⟩
/-- LN_OC_LIM.VALUE (R222). -/
def F.LN_OC_LIM_VALUE : Fld := ⟨R.LN_OC_LIM, 0, 32⟩
/-- LN_OFS_UV.V (R222). -/
def F.LN_OFS_UV_V : Fld := ⟨R.LN_OFS_UV, 16, 16⟩
/-- LN_OFS_UV.U (R222). -/
def F.LN_OFS_UV_U : Fld := ⟨R.LN_OFS_UV, 0, 16⟩
/-- LN_OFS_W.W (R222). -/
def F.LN_OFS_W_W : Fld := ⟨R.LN_OFS_W, 0, 16⟩
/-- LN_SAMPLE.V (R222). -/
def F.LN_SAMPLE_V : Fld := ⟨R.LN_SAMPLE, 16, 16⟩
/-- LN_SAMPLE.U (R222). -/
def F.LN_SAMPLE_U : Fld := ⟨R.LN_SAMPLE, 0, 16⟩
/-- LN_SAMPLE2.DC (R222). -/
def F.LN_SAMPLE2_DC : Fld := ⟨R.LN_SAMPLE2, 16, 16⟩
/-- LN_SAMPLE2.W (R222). -/
def F.LN_SAMPLE2_W : Fld := ⟨R.LN_SAMPLE2, 0, 16⟩
/-- LN_SHUNT_CFG.MISS_MAX (R222). -/
def F.LN_SHUNT_CFG_MISS_MAX : Fld := ⟨R.LN_SHUNT_CFG, 0, 8⟩
/-- LN_SHUNT_CNT.CONFLICTS (R222). -/
def F.LN_SHUNT_CNT_CONFLICTS : Fld := ⟨R.LN_SHUNT_CNT, 16, 16⟩
/-- LN_SHUNT_CNT.MISSES (R222). -/
def F.LN_SHUNT_CNT_MISSES : Fld := ⟨R.LN_SHUNT_CNT, 0, 16⟩
/-- LN_FAULTS.COUNT (R222). -/
def F.LN_FAULTS_COUNT : Fld := ⟨R.LN_FAULTS, 0, 32⟩
/-- LG_CFG.DECIM (R222). -/
def F.LG_CFG_DECIM : Fld := ⟨R.LG_CFG, 16, 8⟩
/-- LG_CFG.PWM_DIV (R222). -/
def F.LG_CFG_PWM_DIV : Fld := ⟨R.LG_CFG, 8, 8⟩
/-- LG_CFG.PERIOD (R222). -/
def F.LG_CFG_PERIOD : Fld := ⟨R.LG_CFG, 0, 8⟩
/-- LG_SDCFG.EDGE (R222). -/
def F.LG_SDCFG_EDGE : Fld := ⟨R.LG_SDCFG, 3, 1⟩
/-- LG_SDCFG.DLY (R222). -/
def F.LG_SDCFG_DLY : Fld := ⟨R.LG_SDCFG, 0, 3⟩
/-- LG_STAT.FAULTED (R222). -/
def F.LG_STAT_FAULTED : Fld := ⟨R.LG_STAT, 8, 8⟩
/-- LG_STAT.SDCLK_SEEN (R222). -/
def F.LG_STAT_SDCLK_SEEN : Fld := ⟨R.LG_STAT, 3, 1⟩
/-- LG_STAT.SDCLK_OWN (R222). -/
def F.LG_STAT_SDCLK_OWN : Fld := ⟨R.LG_STAT, 2, 1⟩
/-- LG_STAT.GEN_B (R222). -/
def F.LG_STAT_GEN_B : Fld := ⟨R.LG_STAT, 1, 1⟩
/-- LG_STAT.GEN_A (R222). -/
def F.LG_STAT_GEN_A : Fld := ⟨R.LG_STAT, 0, 1⟩
/-- LG_STO_REQ.MASK (R362). -/
def F.LG_STO_REQ_MASK : Fld := ⟨R.LG_STO_REQ, 0, 16⟩
/-- LG_SS1_REQ.MASK (R362). -/
def F.LG_SS1_REQ_MASK : Fld := ⟨R.LG_SS1_REQ, 0, 16⟩
/-- LG_RELEASE.MASK (R362). -/
def F.LG_RELEASE_MASK : Fld := ⟨R.LG_RELEASE, 0, 16⟩
/-- LG_REL_RESULT.RESULT (R362). -/
def F.LG_REL_RESULT_RESULT : Fld := ⟨R.LG_REL_RESULT, 28, 4⟩
/-- LG_REL_RESULT.GRANTED (R362). -/
def F.LG_REL_RESULT_GRANTED : Fld := ⟨R.LG_REL_RESULT, 0, 16⟩
/-- FB_CFG.TYPE (R246). -/
def F.FB_CFG_TYPE : Fld := ⟨R.FB_CFG, 29, 3⟩
/-- FB_CFG.FILT (R246). -/
def F.FB_CFG_FILT : Fld := ⟨R.FB_CFG, 24, 2⟩
/-- FB_CFG.ERR_MAX (R246). -/
def F.FB_CFG_ERR_MAX : Fld := ⟨R.FB_CFG, 16, 8⟩
/-- FB_CFG.SLEEP_RUN (R246). -/
def F.FB_CFG_SLEEP_RUN : Fld := ⟨R.FB_CFG, 8, 1⟩
/-- FB_CFG.DIR (R246). -/
def F.FB_CFG_DIR : Fld := ⟨R.FB_CFG, 7, 1⟩
/-- FB_CPR.N (R246). -/
def F.FB_CPR_N : Fld := ⟨R.FB_CPR, 0, 32⟩
/-- FB_ST.ST (R246). -/
def F.FB_ST_ST : Fld := ⟨R.FB_ST, 0, 32⟩
/-- FB_MT.MT (R246). -/
def F.FB_MT_MT : Fld := ⟨R.FB_MT, 0, 32⟩
/-- FB_POS_LO.POS (R246). -/
def F.FB_POS_LO_POS : Fld := ⟨R.FB_POS_LO, 0, 32⟩
/-- FB_POS_HI.POS (R246). -/
def F.FB_POS_HI_POS : Fld := ⟨R.FB_POS_HI, 0, 32⟩
/-- FB_SPEED.SPEED (R246). -/
def F.FB_SPEED_SPEED : Fld := ⟨R.FB_SPEED, 0, 32⟩
/-- FB_SPD_CFG.MODE (R246). -/
def F.FB_SPD_CFG_MODE : Fld := ⟨R.FB_SPD_CFG, 30, 2⟩
/-- FB_SPD_CFG.N_SW (R246). -/
def F.FB_SPD_CFG_N_SW : Fld := ⟨R.FB_SPD_CFG, 16, 8⟩
/-- FB_SPD_CFG.TRK_BW (R246). -/
def F.FB_SPD_CFG_TRK_BW : Fld := ⟨R.FB_SPD_CFG, 0, 16⟩
/-- FB_ZERO_T.ZERO_T (R246). -/
def F.FB_ZERO_T_ZERO_T : Fld := ⟨R.FB_ZERO_T, 0, 16⟩
/-- FB_SER.CLKDIV (R246). -/
def F.FB_SER_CLKDIV : Fld := ⟨R.FB_SER, 24, 8⟩
/-- FB_SER.ST_BITS (R246). -/
def F.FB_SER_ST_BITS : Fld := ⟨R.FB_SER, 18, 6⟩
/-- FB_SER.MT_BITS (R246). -/
def F.FB_SER_MT_BITS : Fld := ⟨R.FB_SER, 12, 6⟩
/-- FB_SER.CRC (R246). -/
def F.FB_SER_CRC : Fld := ⟨R.FB_SER, 10, 2⟩
/-- FB_SER.MT_SIGNED (R246). -/
def F.FB_SER_MT_SIGNED : Fld := ⟨R.FB_SER, 9, 1⟩
/-- FB_SER.PARITY (R246). -/
def F.FB_SER_PARITY : Fld := ⟨R.FB_SER, 8, 1⟩
/-- FB_SER.LATCH (R246). -/
def F.FB_SER_LATCH : Fld := ⟨R.FB_SER, 0, 8⟩
/-- FB_SER_T.MONO_US (R246). -/
def F.FB_SER_T_MONO_US : Fld := ⟨R.FB_SER_T, 8, 8⟩
/-- FB_SER_T.ACK_US (R246). -/
def F.FB_SER_T_ACK_US : Fld := ⟨R.FB_SER_T, 0, 8⟩
/-- FB_SER_CYCLE.CYCLE (R246). -/
def F.FB_SER_CYCLE_CYCLE : Fld := ⟨R.FB_SER_CYCLE, 0, 16⟩
/-- FB_RES.EXC_AMP (R246). -/
def F.FB_RES_EXC_AMP : Fld := ⟨R.FB_RES, 24, 8⟩
/-- FB_RES.PHASE (R246). -/
def F.FB_RES_PHASE : Fld := ⟨R.FB_RES, 16, 8⟩
/-- FB_RES.LOT_DEG (R246). -/
def F.FB_RES_LOT_DEG : Fld := ⟨R.FB_RES, 8, 8⟩
/-- FB_STAT.FAULT (R246). -/
def F.FB_STAT_FAULT : Fld := ⟨R.FB_STAT, 31, 1⟩
/-- FB_STAT.CAUSE (R246). -/
def F.FB_STAT_CAUSE : Fld := ⟨R.FB_STAT, 27, 4⟩
/-- FB_STAT.REF_LOST (R246). -/
def F.FB_STAT_REF_LOST : Fld := ⟨R.FB_STAT, 26, 1⟩
/-- FB_STAT.STALE (R246). -/
def F.FB_STAT_STALE : Fld := ⟨R.FB_STAT, 25, 1⟩
/-- FB_STAT.SLOW (R246). -/
def F.FB_STAT_SLOW : Fld := ⟨R.FB_STAT, 24, 1⟩
/-- FB_STAT.WARN (R246). -/
def F.FB_STAT_WARN : Fld := ⟨R.FB_STAT, 23, 1⟩
/-- FB_STAT.CFG_REFUSED (R246). -/
def F.FB_STAT_CFG_REFUSED : Fld := ⟨R.FB_STAT, 22, 1⟩
/-- FB_STAT.MT_WRAP (R246). -/
def F.FB_STAT_MT_WRAP : Fld := ⟨R.FB_STAT, 21, 1⟩
/-- FB_STAT.SPD_MODE (R246). -/
def F.FB_STAT_SPD_MODE : Fld := ⟨R.FB_STAT, 20, 1⟩
/-- FB_CNT.ERRORS (R246). -/
def F.FB_CNT_ERRORS : Fld := ⟨R.FB_CNT, 16, 16⟩
/-- FB_CNT.FAULTS (R246). -/
def F.FB_CNT_FAULTS : Fld := ⟨R.FB_CNT, 0, 16⟩
/-- FB_CTRL.REF_OK (R246). -/
def F.FB_CTRL_REF_OK : Fld := ⟨R.FB_CTRL, 1, 1⟩
/-- FB_CTRL.CLEAR (R246). -/
def F.FB_CTRL_CLEAR : Fld := ⟨R.FB_CTRL, 0, 1⟩
/-- FB_JUMP.JUMP_MAX (R246). -/
def F.FB_JUMP_JUMP_MAX : Fld := ⟨R.FB_JUMP, 0, 32⟩
/-- Q_CFG.TYPE (R246). -/
def F.Q_CFG_TYPE : Fld := ⟨R.Q_CFG, 29, 3⟩
/-- Q_CFG.SRC (R246). -/
def F.Q_CFG_SRC : Fld := ⟨R.Q_CFG, 16, 6⟩
/-- Q_CFG.DIV (R246). -/
def F.Q_CFG_DIV : Fld := ⟨R.Q_CFG, 12, 4⟩
/-- Q_CFG.ZEN (R246). -/
def F.Q_CFG_ZEN : Fld := ⟨R.Q_CFG, 11, 1⟩
/-- Q_CFG.INV (R246). -/
def F.Q_CFG_INV : Fld := ⟨R.Q_CFG, 10, 1⟩
/-- Q_STAT.OVERRUN (R246). -/
def F.Q_STAT_OVERRUN : Fld := ⟨R.Q_STAT, 31, 1⟩
/-- Q_STAT.MODE (R246). -/
def F.Q_STAT_MODE : Fld := ⟨R.Q_STAT, 30, 1⟩
/-- Q_STAT.LAG (R246). -/
def F.Q_STAT_LAG : Fld := ⟨R.Q_STAT, 0, 16⟩
/-- IG_CTRL.STOP (R165). -/
def F.IG_CTRL_STOP : Fld := ⟨R.IG_CTRL, 1, 1⟩
/-- IG_CTRL.GO (R165). -/
def F.IG_CTRL_GO : Fld := ⟨R.IG_CTRL, 0, 1⟩
/-- IG_CFG.MDIR (R165). -/
def F.IG_CFG_MDIR : Fld := ⟨R.IG_CFG, 8, 1⟩
/-- IG_CFG.MASTER (R165). -/
def F.IG_CFG_MASTER : Fld := ⟨R.IG_CFG, 0, 8⟩
/-- IG_STAT.LEAD (R165). -/
def F.IG_STAT_LEAD : Fld := ⟨R.IG_STAT, 8, 8⟩
/-- IG_STAT.MEMBERS (R165). -/
def F.IG_STAT_MEMBERS : Fld := ⟨R.IG_STAT, 4, 4⟩
/-- IG_STAT.CFG_REFUSED (R165). -/
def F.IG_STAT_CFG_REFUSED : Fld := ⟨R.IG_STAT, 3, 1⟩
/-- IG_STAT.BROKEN (R165). -/
def F.IG_STAT_BROKEN : Fld := ⟨R.IG_STAT, 2, 1⟩
/-- IG_STAT.REFUSED (R165). -/
def F.IG_STAT_REFUSED : Fld := ⟨R.IG_STAT, 1, 1⟩
/-- IG_STAT.MOVING (R165). -/
def F.IG_STAT_MOVING : Fld := ⟨R.IG_STAT, 0, 1⟩
/-- GR_NUM.NUM (R165). -/
def F.GR_NUM_NUM : Fld := ⟨R.GR_NUM, 0, 32⟩
/-- GR_DEN.DEN (R165). -/
def F.GR_DEN_DEN : Fld := ⟨R.GR_DEN, 0, 32⟩
/-- GR_CFG.AUTO_ENGAGE (R165). -/
def F.GR_CFG_AUTO_ENGAGE : Fld := ⟨R.GR_CFG, 16, 1⟩
/-- GR_CFG.RAMP (R165). -/
def F.GR_CFG_RAMP : Fld := ⟨R.GR_CFG, 0, 16⟩
/-- GR_STAT.DEN_REFUSED (R165). -/
def F.GR_STAT_DEN_REFUSED : Fld := ⟨R.GR_STAT, 2, 1⟩
/-- GR_STAT.RAMPING (R165). -/
def F.GR_STAT_RAMPING : Fld := ⟨R.GR_STAT, 1, 1⟩
/-- GR_STAT.ENGAGED (R165). -/
def F.GR_STAT_ENGAGED : Fld := ⟨R.GR_STAT, 0, 1⟩
/-- SP_CFG.LAG_MAX (R165). -/
def F.SP_CFG_LAG_MAX : Fld := ⟨R.SP_CFG, 18, 14⟩
/-- SP_CFG.DIR_POL (R165). -/
def F.SP_CFG_DIR_POL : Fld := ⟨R.SP_CFG, 17, 1⟩
/-- SP_CFG.STEP_POL (R165). -/
def F.SP_CFG_STEP_POL : Fld := ⟨R.SP_CFG, 16, 1⟩
/-- SP_CFG.DIR_SETUP (R165). -/
def F.SP_CFG_DIR_SETUP : Fld := ⟨R.SP_CFG, 8, 8⟩
/-- SP_CFG.PULSE_W (R165). -/
def F.SP_CFG_PULSE_W : Fld := ⟨R.SP_CFG, 0, 8⟩
/-- SP_COUNT.COUNT (R165). -/
def F.SP_COUNT_COUNT : Fld := ⟨R.SP_COUNT, 0, 32⟩
/-- SP_STAT.LAG_FAULT (R165). -/
def F.SP_STAT_LAG_FAULT : Fld := ⟨R.SP_STAT, 17, 1⟩
/-- SP_STAT.OVERSPEED (R165). -/
def F.SP_STAT_OVERSPEED : Fld := ⟨R.SP_STAT, 16, 1⟩
/-- SP_STAT.LAG (R165). -/
def F.SP_STAT_LAG : Fld := ⟨R.SP_STAT, 0, 16⟩
/-- NT_SEC_LO.SEC (R269). -/
def F.NT_SEC_LO_SEC : Fld := ⟨R.NT_SEC_LO, 0, 32⟩
/-- NT_SEC_HI.SEC (R269). -/
def F.NT_SEC_HI_SEC : Fld := ⟨R.NT_SEC_HI, 0, 32⟩
/-- NT_NS.NS (R269). -/
def F.NT_NS_NS : Fld := ⟨R.NT_NS, 0, 30⟩
/-- NT_FRAC.FRAC (R269). -/
def F.NT_FRAC_FRAC : Fld := ⟨R.NT_FRAC, 0, 16⟩
/-- NT_ADJ.ADJ (R269). -/
def F.NT_ADJ_ADJ : Fld := ⟨R.NT_ADJ, 0, 32⟩
/-- NT_CTRL.SET (R269). -/
def F.NT_CTRL_SET : Fld := ⟨R.NT_CTRL, 0, 1⟩
/-- NT_SET_SEC_LO.SEC (R269). -/
def F.NT_SET_SEC_LO_SEC : Fld := ⟨R.NT_SET_SEC_LO, 0, 32⟩
/-- NT_SET_SEC_HI.SEC (R269). -/
def F.NT_SET_SEC_HI_SEC : Fld := ⟨R.NT_SET_SEC_HI, 0, 16⟩
/-- NT_SET_NS.NS (R269). -/
def F.NT_SET_NS_NS : Fld := ⟨R.NT_SET_NS, 0, 32⟩
/-- NT_STAT.TIME_VALID (R269). -/
def F.NT_STAT_TIME_VALID : Fld := ⟨R.NT_STAT, 31, 1⟩
/-- NT_STAT.SYNCED (R269). -/
def F.NT_STAT_SYNCED : Fld := ⟨R.NT_STAT, 30, 1⟩
/-- NT_STAT.GM (R269). -/
def F.NT_STAT_GM : Fld := ⟨R.NT_STAT, 29, 1⟩
/-- NT_STAT.AS_CAPABLE (R269). -/
def F.NT_STAT_AS_CAPABLE : Fld := ⟨R.NT_STAT, 28, 1⟩
/-- NT_STAT.STEP_STORM (R269). -/
def F.NT_STAT_STEP_STORM : Fld := ⟨R.NT_STAT, 27, 1⟩
/-- NT_STAT.SET_REFUSED (R269). -/
def F.NT_STAT_SET_REFUSED : Fld := ⟨R.NT_STAT, 26, 1⟩
/-- NT_STAT.EPOCH (R269). -/
def F.NT_STAT_EPOCH : Fld := ⟨R.NT_STAT, 0, 4⟩
/-- NT_OFFSET.NS (R269). -/
def F.NT_OFFSET_NS : Fld := ⟨R.NT_OFFSET, 0, 32⟩
/-- NT_PDELAY.NS (R269). -/
def F.NT_PDELAY_NS : Fld := ⟨R.NT_PDELAY, 0, 32⟩
/-- NT_PTP_CFG.PRIO1 (R269). -/
def F.NT_PTP_CFG_PRIO1 : Fld := ⟨R.NT_PTP_CFG, 24, 8⟩
/-- NT_PTP_CFG.PRIO2 (R269). -/
def F.NT_PTP_CFG_PRIO2 : Fld := ⟨R.NT_PTP_CFG, 16, 8⟩
/-- NT_PTP_CFG.SERVO_EN (R269). -/
def F.NT_PTP_CFG_SERVO_EN : Fld := ⟨R.NT_PTP_CFG, 2, 1⟩
/-- NT_PTP_CFG.GM_EN (R269). -/
def F.NT_PTP_CFG_GM_EN : Fld := ⟨R.NT_PTP_CFG, 1, 1⟩
/-- NT_PTP_CFG.PTP_EN (R269). -/
def F.NT_PTP_CFG_PTP_EN : Fld := ⟨R.NT_PTP_CFG, 0, 1⟩
/-- NT_LAT.TX_LAT (R269). -/
def F.NT_LAT_TX_LAT : Fld := ⟨R.NT_LAT, 16, 16⟩
/-- NT_LAT.RX_LAT (R269). -/
def F.NT_LAT_RX_LAT : Fld := ⟨R.NT_LAT, 0, 16⟩
/-- NT_STEP_SUM_LO.NS (R269). -/
def F.NT_STEP_SUM_LO_NS : Fld := ⟨R.NT_STEP_SUM_LO, 0, 32⟩
/-- NT_STEP_SUM_HI.NS (R269). -/
def F.NT_STEP_SUM_HI_NS : Fld := ⟨R.NT_STEP_SUM_HI, 0, 32⟩
/-- NT_CNT.STEPS (R269). -/
def F.NT_CNT_STEPS : Fld := ⟨R.NT_CNT, 16, 16⟩
/-- NT_CNT.FOREIGN (R269). -/
def F.NT_CNT_FOREIGN : Fld := ⟨R.NT_CNT, 0, 16⟩
/-- CP_Q_SLOT.SLOT (R269). -/
def F.CP_Q_SLOT_SLOT : Fld := ⟨R.CP_Q_SLOT, 0, 7⟩
/-- CP_Q_NS.NS (R269). -/
def F.CP_Q_NS_NS : Fld := ⟨R.CP_Q_NS, 0, 32⟩
/-- CP_Q_SEC.SEC (R269). -/
def F.CP_Q_SEC_SEC : Fld := ⟨R.CP_Q_SEC, 0, 32⟩
/-- CP_Q_CTRL.GO (R269). -/
def F.CP_Q_CTRL_GO : Fld := ⟨R.CP_Q_CTRL, 31, 1⟩
/-- CP_Q_CTRL.EPOCH_SET (R269). -/
def F.CP_Q_CTRL_EPOCH_SET : Fld := ⟨R.CP_Q_CTRL, 4, 1⟩
/-- CP_Q_CTRL.EPOCH (R269). -/
def F.CP_Q_CTRL_EPOCH : Fld := ⟨R.CP_Q_CTRL, 0, 4⟩
/-- CP_Q_POS_LO.POS (R269). -/
def F.CP_Q_POS_LO_POS : Fld := ⟨R.CP_Q_POS_LO, 0, 32⟩
/-- CP_Q_POS_HI.POS (R269). -/
def F.CP_Q_POS_HI_POS : Fld := ⟨R.CP_Q_POS_HI, 0, 32⟩
/-- CP_Q_STAT.BUSY (R269). -/
def F.CP_Q_STAT_BUSY : Fld := ⟨R.CP_Q_STAT, 31, 1⟩
/-- CP_Q_STAT.APPROX (R269). -/
def F.CP_Q_STAT_APPROX : Fld := ⟨R.CP_Q_STAT, 29, 1⟩
/-- CP_Q_STAT.RESULT (R269). -/
def F.CP_Q_STAT_RESULT : Fld := ⟨R.CP_Q_STAT, 0, 3⟩
/-- CP_DI_CFG.EDGE (R269). -/
def F.CP_DI_CFG_EDGE : Fld := ⟨R.CP_DI_CFG, 16, 2⟩
/-- CP_DI_CFG.COMP (R269). -/
def F.CP_DI_CFG_COMP : Fld := ⟨R.CP_DI_CFG, 0, 16⟩
/-- CP_DI_NS.POL (R269). -/
def F.CP_DI_NS_POL : Fld := ⟨R.CP_DI_NS, 31, 1⟩
/-- CP_DI_NS.NS (R269). -/
def F.CP_DI_NS_NS : Fld := ⟨R.CP_DI_NS, 0, 30⟩
/-- CP_DI_SEC.SEC (R269). -/
def F.CP_DI_SEC_SEC : Fld := ⟨R.CP_DI_SEC, 0, 32⟩
/-- CP_DI_STAT.POP (R269). -/
def F.CP_DI_STAT_POP : Fld := ⟨R.CP_DI_STAT, 31, 1⟩
/-- CP_DI_STAT.OVERRUN (R269). -/
def F.CP_DI_STAT_OVERRUN : Fld := ⟨R.CP_DI_STAT, 30, 1⟩
/-- CP_DI_STAT.LEVEL (R269). -/
def F.CP_DI_STAT_LEVEL : Fld := ⟨R.CP_DI_STAT, 0, 3⟩
/-- CP_Z_NS.NS (R269). -/
def F.CP_Z_NS_NS : Fld := ⟨R.CP_Z_NS, 0, 32⟩
/-- CP_Z_SEC.SEC (R269). -/
def F.CP_Z_SEC_SEC : Fld := ⟨R.CP_Z_SEC, 0, 32⟩
/-- CP_HEAD.FILL (R269). -/
def F.CP_HEAD_FILL : Fld := ⟨R.CP_HEAD, 8, 9⟩
/-- CP_HEAD.HEAD (R269). -/
def F.CP_HEAD_HEAD : Fld := ⟨R.CP_HEAD, 0, 8⟩
/-- CP_ARM.ARM (R269). -/
def F.CP_ARM_ARM : Fld := ⟨R.CP_ARM, 31, 1⟩
/-- CP_ARM.EDGE (R269). -/
def F.CP_ARM_EDGE : Fld := ⟨R.CP_ARM, 2, 2⟩
/-- CP_ARM.SRC (R269). -/
def F.CP_ARM_SRC : Fld := ⟨R.CP_ARM, 0, 2⟩
/-- CP_RES_NS.NS (R269). -/
def F.CP_RES_NS_NS : Fld := ⟨R.CP_RES_NS, 0, 32⟩
/-- CP_RES_SEC.SEC (R269). -/
def F.CP_RES_SEC_SEC : Fld := ⟨R.CP_RES_SEC, 0, 32⟩
/-- CP_RES_POS_LO.POS (R269). -/
def F.CP_RES_POS_LO_POS : Fld := ⟨R.CP_RES_POS_LO, 0, 32⟩
/-- CP_RES_POS_HI.POS (R269). -/
def F.CP_RES_POS_HI_POS : Fld := ⟨R.CP_RES_POS_HI, 0, 32⟩
/-- CP_RES_STAT.DONE (R269). -/
def F.CP_RES_STAT_DONE : Fld := ⟨R.CP_RES_STAT, 31, 1⟩
/-- CP_RES_STAT.DISCARDED (R269). -/
def F.CP_RES_STAT_DISCARDED : Fld := ⟨R.CP_RES_STAT, 30, 1⟩
/-- CP_RES_STAT.APPROX (R269). -/
def F.CP_RES_STAT_APPROX : Fld := ⟨R.CP_RES_STAT, 29, 1⟩
/-- CP_RES_STAT.EXTRA (R269). -/
def F.CP_RES_STAT_EXTRA : Fld := ⟨R.CP_RES_STAT, 16, 8⟩
/-- CP_RES_STAT.RESULT (R269). -/
def F.CP_RES_STAT_RESULT : Fld := ⟨R.CP_RES_STAT, 0, 3⟩
/-- CN_CFG.NSP (R314). -/
def F.CN_CFG_NSP : Fld := ⟨R.CN_CFG, 25, 7⟩
/-- CN_CFG.DSP (R314). -/
def F.CN_CFG_DSP : Fld := ⟨R.CN_CFG, 18, 7⟩
/-- CN_CFG.MODE (R314). -/
def F.CN_CFG_MODE : Fld := ⟨R.CN_CFG, 16, 2⟩
/-- CN_CFG.COMP (R314). -/
def F.CN_CFG_COMP : Fld := ⟨R.CN_CFG, 8, 8⟩
/-- CN_CFG.AUTO_RECOVER (R314). -/
def F.CN_CFG_AUTO_RECOVER : Fld := ⟨R.CN_CFG, 0, 1⟩
/-- CN_CTRL.RESTART (R314). -/
def F.CN_CTRL_RESTART : Fld := ⟨R.CN_CTRL, 1, 1⟩
/-- CN_CTRL.RECOVER (R314). -/
def F.CN_CTRL_RECOVER : Fld := ⟨R.CN_CTRL, 0, 1⟩
/-- CN_STAT.STATE (R314). -/
def F.CN_STAT_STATE : Fld := ⟨R.CN_STAT, 29, 3⟩
/-- CN_STAT.TEC (R314). -/
def F.CN_STAT_TEC : Fld := ⟨R.CN_STAT, 16, 8⟩
/-- CN_STAT.REC (R314). -/
def F.CN_STAT_REC : Fld := ⟨R.CN_STAT, 8, 8⟩
/-- CN_STAT.BOFF_STORM (R314). -/
def F.CN_STAT_BOFF_STORM : Fld := ⟨R.CN_STAT, 7, 1⟩
/-- CN_STAT.NOT_LEAD (R314). -/
def F.CN_STAT_NOT_LEAD : Fld := ⟨R.CN_STAT, 6, 1⟩
/-- CN_STAT.LOCK_TIMEOUT (R314). -/
def F.CN_STAT_LOCK_TIMEOUT : Fld := ⟨R.CN_STAT, 5, 1⟩
/-- CN_STAT.RX_LOST (R314). -/
def F.CN_STAT_RX_LOST : Fld := ⟨R.CN_STAT, 4, 1⟩
/-- CN_LOSS.BOFF_HOLD (R314). -/
def F.CN_LOSS_BOFF_HOLD : Fld := ⟨R.CN_LOSS, 16, 16⟩
/-- CN_LOSS.LOSS_T (R314). -/
def F.CN_LOSS_LOSS_T : Fld := ⟨R.CN_LOSS, 0, 16⟩
/-- CN_BT_NOM.BRP (R314). -/
def F.CN_BT_NOM_BRP : Fld := ⟨R.CN_BT_NOM, 24, 8⟩
/-- CN_BT_NOM.N (R314). -/
def F.CN_BT_NOM_N : Fld := ⟨R.CN_BT_NOM, 16, 8⟩
/-- CN_BT_NOM.TSEG1 (R314). -/
def F.CN_BT_NOM_TSEG1 : Fld := ⟨R.CN_BT_NOM, 8, 8⟩
/-- CN_BT_NOM.TSEG2 (R314). -/
def F.CN_BT_NOM_TSEG2 : Fld := ⟨R.CN_BT_NOM, 0, 8⟩
/-- CN_BT_DATA.BRP (R314). -/
def F.CN_BT_DATA_BRP : Fld := ⟨R.CN_BT_DATA, 24, 8⟩
/-- CN_BT_DATA.N (R314). -/
def F.CN_BT_DATA_N : Fld := ⟨R.CN_BT_DATA, 16, 8⟩
/-- CN_BT_DATA.TSEG1 (R314). -/
def F.CN_BT_DATA_TSEG1 : Fld := ⟨R.CN_BT_DATA, 8, 8⟩
/-- CN_BT_DATA.TSEG2 (R314). -/
def F.CN_BT_DATA_TSEG2 : Fld := ⟨R.CN_BT_DATA, 0, 8⟩
/-- CN_CNT_RX.COUNT (R314). -/
def F.CN_CNT_RX_COUNT : Fld := ⟨R.CN_CNT_RX, 0, 32⟩
/-- CN_CNT_TX.COUNT (R314). -/
def F.CN_CNT_TX_COUNT : Fld := ⟨R.CN_CNT_TX, 0, 32⟩
/-- CN_CNT_UNMATCHED.COUNT (R314). -/
def F.CN_CNT_UNMATCHED_COUNT : Fld := ⟨R.CN_CNT_UNMATCHED, 0, 32⟩
/-- CN_CNT_ERR.BUS_OFF (R314). -/
def F.CN_CNT_ERR_BUS_OFF : Fld := ⟨R.CN_CNT_ERR, 16, 16⟩
/-- CN_CNT_ERR.PASSIVE (R314). -/
def F.CN_CNT_ERR_PASSIVE : Fld := ⟨R.CN_CNT_ERR, 0, 16⟩
/-- CN_CNT_LOST.COUNT (R314). -/
def F.CN_CNT_LOST_COUNT : Fld := ⟨R.CN_CNT_LOST, 0, 32⟩
/-- CN_OBJ_W0.NEW (R314). -/
def F.CN_OBJ_W0_NEW : Fld := ⟨R.CN_OBJ_W0, 31, 1⟩
/-- CN_OBJ_W0.LOST (R314). -/
def F.CN_OBJ_W0_LOST : Fld := ⟨R.CN_OBJ_W0, 30, 1⟩
/-- CN_OBJ_W0.LEN_MISMATCH (R314). -/
def F.CN_OBJ_W0_LEN_MISMATCH : Fld := ⟨R.CN_OBJ_W0, 29, 1⟩
/-- CN_OBJ_W0.LOCK_TIMEOUT (R314). -/
def F.CN_OBJ_W0_LOCK_TIMEOUT : Fld := ⟨R.CN_OBJ_W0, 28, 1⟩
/-- CN_OBJ_W0.RX_TIMEOUT (R314). -/
def F.CN_OBJ_W0_RX_TIMEOUT : Fld := ⟨R.CN_OBJ_W0, 27, 1⟩
/-- CN_OBJ_W0.TX_PENDING (R314). -/
def F.CN_OBJ_W0_TX_PENDING : Fld := ⟨R.CN_OBJ_W0, 26, 1⟩
/-- CN_OBJ_W0.TX_LATE (R314). -/
def F.CN_OBJ_W0_TX_LATE : Fld := ⟨R.CN_OBJ_W0, 25, 1⟩
/-- CN_OBJ_W0.ESI (R314). -/
def F.CN_OBJ_W0_ESI : Fld := ⟨R.CN_OBJ_W0, 24, 1⟩
/-- CN_OBJ_W0.RDLC (R314). -/
def F.CN_OBJ_W0_RDLC : Fld := ⟨R.CN_OBJ_W0, 20, 4⟩
/-- CN_OBJ_W0.SEC_IDX (R314). -/
def F.CN_OBJ_W0_SEC_IDX : Fld := ⟨R.CN_OBJ_W0, 0, 16⟩
/-- CN_OBJ_W1.STAMP (R314). -/
def F.CN_OBJ_W1_STAMP : Fld := ⟨R.CN_OBJ_W1, 0, 32⟩
/-- CN_OBJ_W2.IDE (R314). -/
def F.CN_OBJ_W2_IDE : Fld := ⟨R.CN_OBJ_W2, 31, 1⟩
/-- CN_OBJ_W2.FDF (R314). -/
def F.CN_OBJ_W2_FDF : Fld := ⟨R.CN_OBJ_W2, 30, 1⟩
/-- CN_OBJ_W2.BRS (R314). -/
def F.CN_OBJ_W2_BRS : Fld := ⟨R.CN_OBJ_W2, 29, 1⟩
/-- CN_OBJ_W2.ID (R314). -/
def F.CN_OBJ_W2_ID : Fld := ⟨R.CN_OBJ_W2, 0, 29⟩
/-- CN_OBJ_W3.TX_REQ (R314). -/
def F.CN_OBJ_W3_TX_REQ : Fld := ⟨R.CN_OBJ_W3, 31, 1⟩
/-- CN_OBJ_W3.DIR (R314). -/
def F.CN_OBJ_W3_DIR : Fld := ⟨R.CN_OBJ_W3, 30, 1⟩
/-- CN_OBJ_W3.CYCLIC (R314). -/
def F.CN_OBJ_W3_CYCLIC : Fld := ⟨R.CN_OBJ_W3, 29, 1⟩
/-- CN_OBJ_W3.DLC (R314). -/
def F.CN_OBJ_W3_DLC : Fld := ⟨R.CN_OBJ_W3, 25, 4⟩
/-- CN_OBJ_W3.LAYOUT (R314). -/
def F.CN_OBJ_W3_LAYOUT : Fld := ⟨R.CN_OBJ_W3, 17, 8⟩
/-- CN_OBJ_W3.COUNT (R314). -/
def F.CN_OBJ_W3_COUNT : Fld := ⟨R.CN_OBJ_W3, 0, 16⟩
/-- CN_OBJ_DATA.DATA (R314). -/
def F.CN_OBJ_DATA_DATA : Fld := ⟨R.CN_OBJ_DATA, 0, 32⟩
/-- EN_IPV4.ADDR (R90). -/
def F.EN_IPV4_ADDR : Fld := ⟨R.EN_IPV4, 0, 32⟩
/-- EN_IPCFG.STRAP_PORTS (R90). -/
def F.EN_IPCFG_STRAP_PORTS : Fld := ⟨R.EN_IPCFG, 16, 2⟩
/-- EN_IPCFG.VLAN_EN (R90). -/
def F.EN_IPCFG_VLAN_EN : Fld := ⟨R.EN_IPCFG, 12, 1⟩
/-- EN_IPCFG.VLAN_ID (R90). -/
def F.EN_IPCFG_VLAN_ID : Fld := ⟨R.EN_IPCFG, 0, 12⟩
/-- EN_IPV4_LIVE.ADDR (R90). -/
def F.EN_IPV4_LIVE_ADDR : Fld := ⟨R.EN_IPV4_LIVE, 0, 32⟩
/-- EN_SESS_CFG.IDLE_TIMEOUT (R90). -/
def F.EN_SESS_CFG_IDLE_TIMEOUT : Fld := ⟨R.EN_SESS_CFG, 0, 16⟩
/-- EN_HOST_WD.EXPIRED (R90). -/
def F.EN_HOST_WD_EXPIRED : Fld := ⟨R.EN_HOST_WD, 31, 1⟩
/-- EN_HOST_WD.ARMED (R90). -/
def F.EN_HOST_WD_ARMED : Fld := ⟨R.EN_HOST_WD, 30, 1⟩
/-- EN_HOST_WD.ACTION (R90). -/
def F.EN_HOST_WD_ACTION : Fld := ⟨R.EN_HOST_WD, 28, 2⟩
/-- EN_HOST_WD.CAN_FEED (R90). -/
def F.EN_HOST_WD_CAN_FEED : Fld := ⟨R.EN_HOST_WD, 27, 1⟩
/-- EN_HOST_WD.CAN_CH (R90). -/
def F.EN_HOST_WD_CAN_CH : Fld := ⟨R.EN_HOST_WD, 25, 2⟩
/-- EN_HOST_WD.CAN_OBJ (R90). -/
def F.EN_HOST_WD_CAN_OBJ : Fld := ⟨R.EN_HOST_WD, 16, 9⟩
/-- EN_HOST_WD.TIMEOUT (R90). -/
def F.EN_HOST_WD_TIMEOUT : Fld := ⟨R.EN_HOST_WD, 0, 16⟩
/-- EN_STRAP_STAT.OPEN (R90). -/
def F.EN_STRAP_STAT_OPEN : Fld := ⟨R.EN_STRAP_STAT, 28, 4⟩
/-- EN_STRAP_STAT.EXPERT (R90). -/
def F.EN_STRAP_STAT_EXPERT : Fld := ⟨R.EN_STRAP_STAT, 26, 2⟩
/-- EN_STRAP_STAT.WD_HELD (R90). -/
def F.EN_STRAP_STAT_WD_HELD : Fld := ⟨R.EN_STRAP_STAT, 1, 1⟩
/-- EN_STRAP_STAT.EVENT_LOST (R90). -/
def F.EN_STRAP_STAT_EVENT_LOST : Fld := ⟨R.EN_STRAP_STAT, 0, 1⟩
/-- EN_BAD_TAG.COUNT (R90). -/
def F.EN_BAD_TAG_COUNT : Fld := ⟨R.EN_BAD_TAG, 0, 32⟩
/-- EN_BAD_FRAME.COUNT (R90). -/
def F.EN_BAD_FRAME_COUNT : Fld := ⟨R.EN_BAD_FRAME, 0, 32⟩
/-- EN_OLD_SEQ.COUNT (R90). -/
def F.EN_OLD_SEQ_COUNT : Fld := ⟨R.EN_OLD_SEQ, 0, 32⟩
/-- EN_RX_DROP.COUNT (R90). -/
def F.EN_RX_DROP_COUNT : Fld := ⟨R.EN_RX_DROP, 0, 32⟩
/-- EN_EV_DROPPED.COUNT (R90). -/
def F.EN_EV_DROPPED_COUNT : Fld := ⟨R.EN_EV_DROPPED, 0, 32⟩
/-- FI_DI_STATE.STALE (R335). -/
def F.FI_DI_STATE_STALE : Fld := ⟨R.FI_DI_STATE, 16, 1⟩
/-- FI_DI_STATE.LEVEL (R335). -/
def F.FI_DI_STATE_LEVEL : Fld := ⟨R.FI_DI_STATE, 0, 16⟩
/-- FI_DI_CFG.FILT (R335). -/
def F.FI_DI_CFG_FILT : Fld := ⟨R.FI_DI_CFG, 8, 2⟩
/-- FI_DI_CFG.INV (R335). -/
def F.FI_DI_CFG_INV : Fld := ⟨R.FI_DI_CFG, 0, 1⟩
/-- FI_DO_CMD.ON (R335). -/
def F.FI_DO_CMD_ON : Fld := ⟨R.FI_DO_CMD, 0, 8⟩
/-- FI_DO_STAT.OVERLOAD (R335). -/
def F.FI_DO_STAT_OVERLOAD : Fld := ⟨R.FI_DO_STAT, 24, 8⟩
/-- FI_DO_STAT.OVERTEMP (R335). -/
def F.FI_DO_STAT_OVERTEMP : Fld := ⟨R.FI_DO_STAT, 16, 8⟩
/-- FI_DO_STAT.OPEN_LOAD (R335). -/
def F.FI_DO_STAT_OPEN_LOAD : Fld := ⟨R.FI_DO_STAT, 8, 8⟩
/-- FI_DO_STAT.DRIVEN (R335). -/
def F.FI_DO_STAT_DRIVEN : Fld := ⟨R.FI_DO_STAT, 0, 8⟩
/-- FI_DO_CTRL.CLEAR (R335). -/
def F.FI_DO_CTRL_CLEAR : Fld := ⟨R.FI_DO_CTRL, 0, 8⟩
/-- FI_DO_CFG.OLD_EN (R335). -/
def F.FI_DO_CFG_OLD_EN : Fld := ⟨R.FI_DO_CFG, 0, 8⟩
/-- FI_SUPPLY.FS_MV (R335). -/
def F.FI_SUPPLY_FS_MV : Fld := ⟨R.FI_SUPPLY, 16, 16⟩
/-- FI_SUPPLY.MISSING_SEEN (R335). -/
def F.FI_SUPPLY_MISSING_SEEN : Fld := ⟨R.FI_SUPPLY, 3, 1⟩
/-- FI_SUPPLY.LOW_SEEN (R335). -/
def F.FI_SUPPLY_LOW_SEEN : Fld := ⟨R.FI_SUPPLY, 2, 1⟩
/-- FI_SUPPLY.MISSING (R335). -/
def F.FI_SUPPLY_MISSING : Fld := ⟨R.FI_SUPPLY, 1, 1⟩
/-- FI_SUPPLY.LOW (R335). -/
def F.FI_SUPPLY_LOW : Fld := ⟨R.FI_SUPPLY, 0, 1⟩
/-- FI_LIM_ACTIVE.LIMITS (R335). -/
def F.FI_LIM_ACTIVE_LIMITS : Fld := ⟨R.FI_LIM_ACTIVE, 0, 32⟩
/-- FI_FS_CFG.EXPECT (R335). -/
def F.FI_FS_CFG_EXPECT : Fld := ⟨R.FI_FS_CFG, 28, 4⟩
/-- FI_FS_CFG.MISS_MAX (R335). -/
def F.FI_FS_CFG_MISS_MAX : Fld := ⟨R.FI_FS_CFG, 16, 8⟩
/-- FI_FS_CFG.SUBST (R335). -/
def F.FI_FS_CFG_SUBST : Fld := ⟨R.FI_FS_CFG, 0, 1⟩
/-- FI_FS_STAT.PRESENT (R335). -/
def F.FI_FS_STAT_PRESENT : Fld := ⟨R.FI_FS_STAT, 28, 4⟩
/-- FI_FS_STAT.LOST (R335). -/
def F.FI_FS_STAT_LOST : Fld := ⟨R.FI_FS_STAT, 24, 4⟩
/-- FI_FS_STAT.LOST_SEEN (R335). -/
def F.FI_FS_STAT_LOST_SEEN : Fld := ⟨R.FI_FS_STAT, 20, 4⟩
/-- FI_FS_STAT.SEQ (R335). -/
def F.FI_FS_STAT_SEQ : Fld := ⟨R.FI_FS_STAT, 0, 8⟩
/-- FI_FS_CNT.CRC_ERR (R335). -/
def F.FI_FS_CNT_CRC_ERR : Fld := ⟨R.FI_FS_CNT, 16, 16⟩
/-- FI_FS_CNT.MISSES (R335). -/
def F.FI_FS_CNT_MISSES : Fld := ⟨R.FI_FS_CNT, 0, 16⟩
/-- FI_FS_IN.IN (R335). -/
def F.FI_FS_IN_IN : Fld := ⟨R.FI_FS_IN, 0, 32⟩
/-- FI_FS_OUT.ON (R335). -/
def F.FI_FS_OUT_ON : Fld := ⟨R.FI_FS_OUT, 0, 16⟩
/-- FI_FS_DIAG.OUTF (R335). -/
def F.FI_FS_DIAG_OUTF : Fld := ⟨R.FI_FS_DIAG, 16, 16⟩
/-- FI_FS_DIAG.BSTAT (R335). -/
def F.FI_FS_DIAG_BSTAT : Fld := ⟨R.FI_FS_DIAG, 8, 8⟩
/-- FI_FS_STAMP.STAMP (R335). -/
def F.FI_FS_STAMP_STAMP : Fld := ⟨R.FI_FS_STAMP, 0, 32⟩
/-- SF_SEAL_LO.SB (R362). -/
def F.SF_SEAL_LO_SB : Fld := ⟨R.SF_SEAL_LO, 0, 32⟩
/-- SF_SEAL_HI.SB (R362). -/
def F.SF_SEAL_HI_SB : Fld := ⟨R.SF_SEAL_HI, 0, 8⟩
/-- SF_XSEAL_LO.SB (R362). -/
def F.SF_XSEAL_LO_SB : Fld := ⟨R.SF_XSEAL_LO, 0, 32⟩
/-- SF_XSEAL_HI.SB (R362). -/
def F.SF_XSEAL_HI_SB : Fld := ⟨R.SF_XSEAL_HI, 0, 8⟩
/-- SF_STATE.SEAL_LATCH (R362). -/
def F.SF_STATE_SEAL_LATCH : Fld := ⟨R.SF_STATE, 31, 1⟩
/-- SF_STATE.PARITY_ERR (R362). -/
def F.SF_STATE_PARITY_ERR : Fld := ⟨R.SF_STATE, 30, 1⟩
/-- SF_STATE.SEAL_DISAGREE (R362). -/
def F.SF_STATE_SEAL_DISAGREE : Fld := ⟨R.SF_STATE, 29, 1⟩
/-- SF_STATE.XB2_LINK_LOST (R362). -/
def F.SF_STATE_XB2_LINK_LOST : Fld := ⟨R.SF_STATE, 28, 1⟩
/-- SF_STATE.DISCREPANCY (R362). -/
def F.SF_STATE_DISCREPANCY : Fld := ⟨R.SF_STATE, 27, 1⟩
/-- SF_STATE.READBACK (R362). -/
def F.SF_STATE_READBACK : Fld := ⟨R.SF_STATE, 26, 1⟩
/-- SF_STATE.STO_IN (R362). -/
def F.SF_STATE_STO_IN : Fld := ⟨R.SF_STATE, 25, 1⟩
/-- SF_STATE.SS1_IN (R362). -/
def F.SF_STATE_SS1_IN : Fld := ⟨R.SF_STATE, 24, 1⟩
/-- SF_STATE.DOOR_OPEN (R362). -/
def F.SF_STATE_DOOR_OPEN : Fld := ⟨R.SF_STATE, 23, 1⟩
/-- SF_STATE.DOOR_IL (R362). -/
def F.SF_STATE_DOOR_IL : Fld := ⟨R.SF_STATE, 18, 1⟩
/-- SF_STATE.TWIN_REQ (R362). -/
def F.SF_STATE_TWIN_REQ : Fld := ⟨R.SF_STATE, 17, 1⟩
/-- SF_STATE.ANTIVALENT (R362). -/
def F.SF_STATE_ANTIVALENT : Fld := ⟨R.SF_STATE, 16, 1⟩
/-- SF_STATE.SS1_CODE (R362). -/
def F.SF_STATE_SS1_CODE : Fld := ⟨R.SF_STATE, 12, 4⟩
/-- SF_STATE.T_SS1 (R362). -/
def F.SF_STATE_T_SS1 : Fld := ⟨R.SF_STATE, 0, 12⟩
/-- SF_GRP.STATE (R362). -/
def F.SF_GRP_STATE : Fld := ⟨R.SF_GRP, 30, 2⟩
/-- SF_GRP.CAUSE (R362). -/
def F.SF_GRP_CAUSE : Fld := ⟨R.SF_GRP, 26, 4⟩
/-- SF_GRP.LATCHED (R362). -/
def F.SF_GRP_LATCHED : Fld := ⟨R.SF_GRP, 25, 1⟩
/-- SF_GRP.GEN_A_PIN (R362). -/
def F.SF_GRP_GEN_A_PIN : Fld := ⟨R.SF_GRP, 24, 1⟩
/-- SF_GRP.GEN_B_PIN (R362). -/
def F.SF_GRP_GEN_B_PIN : Fld := ⟨R.SF_GRP, 23, 1⟩
/-- SF_GRP.XSTO (R362). -/
def F.SF_GRP_XSTO : Fld := ⟨R.SF_GRP, 22, 1⟩
/-- SF_GRP.XSS1 (R362). -/
def F.SF_GRP_XSS1 : Fld := ⟨R.SF_GRP, 21, 1⟩
/-- SF_GRP.HTRIP (R362). -/
def F.SF_GRP_HTRIP : Fld := ⟨R.SF_GRP, 20, 1⟩
/-- SF_GRP.CODE (R362). -/
def F.SF_GRP_CODE : Fld := ⟨R.SF_GRP, 18, 2⟩
/-- SF_GRP.MON_SLOT (R362). -/
def F.SF_GRP_MON_SLOT : Fld := ⟨R.SF_GRP, 8, 8⟩
/-- SF_CNT.STO (R362). -/
def F.SF_CNT_STO : Fld := ⟨R.SF_CNT, 16, 16⟩
/-- SF_CNT.SS1 (R362). -/
def F.SF_CNT_SS1 : Fld := ⟨R.SF_CNT, 0, 16⟩
/-- SF_BRK.PATH2 (R362). -/
def F.SF_BRK_PATH2 : Fld := ⟨R.SF_BRK, 8, 8⟩
/-- SF_BRK.PATH1 (R362). -/
def F.SF_BRK_PATH1 : Fld := ⟨R.SF_BRK, 0, 8⟩
/-- TW_ROLE.PARTNER_PRESENT (R387). -/
def F.TW_ROLE_PARTNER_PRESENT : Fld := ⟨R.TW_ROLE, 15, 1⟩
/-- TW_ROLE.PARTNER_READY (R387). -/
def F.TW_ROLE_PARTNER_READY : Fld := ⟨R.TW_ROLE, 14, 1⟩
/-- TW_ROLE.READY (R387). -/
def F.TW_ROLE_READY : Fld := ⟨R.TW_ROLE, 13, 1⟩
/-- TW_ROLE.HOT (R387). -/
def F.TW_ROLE_HOT : Fld := ⟨R.TW_ROLE, 12, 1⟩
/-- TW_ROLE.LINK (R387). -/
def F.TW_ROLE_LINK : Fld := ⟨R.TW_ROLE, 8, 4⟩
/-- TW_ROLE.ROLE (R387). -/
def F.TW_ROLE_ROLE : Fld := ⟨R.TW_ROLE, 0, 2⟩
/-- TW_NOTREADY.CAUSES (R387). -/
def F.TW_NOTREADY_CAUSES : Fld := ⟨R.TW_NOTREADY, 0, 12⟩
/-- TW_CTRL.REQ (R387). -/
def F.TW_CTRL_REQ : Fld := ⟨R.TW_CTRL, 31, 1⟩
/-- TW_CTRL.RESULT (R387). -/
def F.TW_CTRL_RESULT : Fld := ⟨R.TW_CTRL, 28, 3⟩
/-- TW_CFG.SOLO_WAIT (R387). -/
def F.TW_CFG_SOLO_WAIT : Fld := ⟨R.TW_CFG, 0, 16⟩
/-- TW_INCARN.INCARN (R387). -/
def F.TW_INCARN_INCARN : Fld := ⟨R.TW_INCARN, 0, 32⟩
/-- TW_PINCARN.INCARN (R387). -/
def F.TW_PINCARN_INCARN : Fld := ⟨R.TW_PINCARN, 0, 32⟩
/-- TW_SEQ.SEQ (R387). -/
def F.TW_SEQ_SEQ : Fld := ⟨R.TW_SEQ, 0, 32⟩
/-- TW_RELINK.RUNNING (R387). -/
def F.TW_RELINK_RUNNING : Fld := ⟨R.TW_RELINK, 31, 1⟩
/-- TW_RELINK.REMAIN (R387). -/
def F.TW_RELINK_REMAIN : Fld := ⟨R.TW_RELINK, 0, 11⟩
/-- TW_CNT.TAKEOVERS (R387). -/
def F.TW_CNT_TAKEOVERS : Fld := ⟨R.TW_CNT, 16, 16⟩
/-- TW_CNT.RESYNCS (R387). -/
def F.TW_CNT_RESYNCS : Fld := ⟨R.TW_CNT, 0, 16⟩
/-- TW_ERR.CRC_ERR (R387). -/
def F.TW_ERR_CRC_ERR : Fld := ⟨R.TW_ERR, 16, 16⟩
/-- TW_ERR.LOST (R387). -/
def F.TW_ERR_LOST : Fld := ⟨R.TW_ERR, 0, 16⟩
/-- TW_LAST.KIND (R387). -/
def F.TW_LAST_KIND : Fld := ⟨R.TW_LAST, 28, 4⟩
/-- TW_LAST.COAST_US (R387). -/
def F.TW_LAST_COAST_US : Fld := ⟨R.TW_LAST, 0, 16⟩
/-- TW_CLAIM.PARTNER_OWN (R387). -/
def F.TW_CLAIM_PARTNER_OWN : Fld := ⟨R.TW_CLAIM, 16, 16⟩
/-- TW_CLAIM.OWN (R387). -/
def F.TW_CLAIM_OWN : Fld := ⟨R.TW_CLAIM, 0, 16⟩
/-- MG_TEMP.STALE (R450). -/
def F.MG_TEMP_STALE : Fld := ⟨R.MG_TEMP, 31, 1⟩
/-- MG_TEMP.TEMP (R450). -/
def F.MG_TEMP_TEMP : Fld := ⟨R.MG_TEMP, 0, 16⟩
/-- MG_RAIL.FAULT (R450). -/
def F.MG_RAIL_FAULT : Fld := ⟨R.MG_RAIL, 31, 1⟩
/-- MG_RAIL.FAULT_SEEN (R450). -/
def F.MG_RAIL_FAULT_SEEN : Fld := ⟨R.MG_RAIL, 30, 1⟩
/-- MG_RAIL.MV (R450). -/
def F.MG_RAIL_MV : Fld := ⟨R.MG_RAIL, 0, 16⟩
/-- MG_IIN.MA (R450). -/
def F.MG_IIN_MA : Fld := ⟨R.MG_IIN, 0, 16⟩
/-- MG_RH.STALE (R450). -/
def F.MG_RH_STALE : Fld := ⟨R.MG_RH, 31, 1⟩
/-- MG_RH.RH (R450). -/
def F.MG_RH_RH : Fld := ⟨R.MG_RH, 0, 8⟩
/-- MG_HEALTH.STALE_ANY (R450). -/
def F.MG_HEALTH_STALE_ANY : Fld := ⟨R.MG_HEALTH, 15, 1⟩
/-- MG_HEALTH.WC_IN_USE (R450). -/
def F.MG_HEALTH_WC_IN_USE : Fld := ⟨R.MG_HEALTH, 14, 1⟩
/-- MG_HEALTH.RAIL_FAULT (R450). -/
def F.MG_HEALTH_RAIL_FAULT : Fld := ⟨R.MG_HEALTH, 13, 1⟩
/-- MG_HEALTH.HUMIDITY_HIGH (R450). -/
def F.MG_HEALTH_HUMIDITY_HIGH : Fld := ⟨R.MG_HEALTH, 12, 1⟩
/-- MG_HEALTH.CELL (R450). -/
def F.MG_HEALTH_CELL : Fld := ⟨R.MG_HEALTH, 11, 1⟩
/-- MG_HEALTH.LOG_DROPPED (R450). -/
def F.MG_HEALTH_LOG_DROPPED : Fld := ⟨R.MG_HEALTH, 10, 1⟩
/-- MG_HEALTH.PIN_FULL (R450). -/
def F.MG_HEALTH_PIN_FULL : Fld := ⟨R.MG_HEALTH, 9, 1⟩
/-- MG_HEALTH.IMG_TRIAL (R450). -/
def F.MG_HEALTH_IMG_TRIAL : Fld := ⟨R.MG_HEALTH, 8, 1⟩
/-- MG_HEALTH.IMG_FALLBACK (R450). -/
def F.MG_HEALTH_IMG_FALLBACK : Fld := ⟨R.MG_HEALTH, 7, 1⟩
/-- MG_HEALTH.KEY_EMPTY (R450). -/
def F.MG_HEALTH_KEY_EMPTY : Fld := ⟨R.MG_HEALTH, 6, 1⟩
/-- MG_HEALTH.I2C_TRUNK (R450). -/
def F.MG_HEALTH_I2C_TRUNK : Fld := ⟨R.MG_HEALTH, 5, 1⟩
/-- MG_HEALTH.FLASH_RETIRED (R450). -/
def F.MG_HEALTH_FLASH_RETIRED : Fld := ⟨R.MG_HEALTH, 4, 1⟩
/-- MG_HEALTH.ISOLATED (R450). -/
def F.MG_HEALTH_ISOLATED : Fld := ⟨R.MG_HEALTH, 0, 4⟩
/-- MG_I2C.RETRY (R450). -/
def F.MG_I2C_RETRY : Fld := ⟨R.MG_I2C, 31, 1⟩
/-- MG_I2C.RECOVERIES (R450). -/
def F.MG_I2C_RECOVERIES : Fld := ⟨R.MG_I2C, 0, 16⟩
/-- MG_LOG_STAT.BUSY (R450). -/
def F.MG_LOG_STAT_BUSY : Fld := ⟨R.MG_LOG_STAT, 31, 1⟩
/-- MG_LOG_STAT.NOT_FOUND (R450). -/
def F.MG_LOG_STAT_NOT_FOUND : Fld := ⟨R.MG_LOG_STAT, 30, 1⟩
/-- MG_LOG_STAT.CRC_BAD (R450). -/
def F.MG_LOG_STAT_CRC_BAD : Fld := ⟨R.MG_LOG_STAT, 29, 1⟩
/-- MG_LOG_STAT.PIN_FILL (R450). -/
def F.MG_LOG_STAT_PIN_FILL : Fld := ⟨R.MG_LOG_STAT, 0, 12⟩
/-- MG_LOG_NEWEST.LSEQ (R450). -/
def F.MG_LOG_NEWEST_LSEQ : Fld := ⟨R.MG_LOG_NEWEST, 0, 32⟩
/-- MG_LOG_OLDEST.LSEQ (R450). -/
def F.MG_LOG_OLDEST_LSEQ : Fld := ⟨R.MG_LOG_OLDEST, 0, 32⟩
/-- MG_LOG_SEL.SEL (R450). -/
def F.MG_LOG_SEL_SEL : Fld := ⟨R.MG_LOG_SEL, 0, 32⟩
/-- MG_LOG_CTRL.KEY (R450). -/
def F.MG_LOG_CTRL_KEY : Fld := ⟨R.MG_LOG_CTRL, 24, 8⟩
/-- MG_LOG_CTRL.PIN_CLEAR (R450). -/
def F.MG_LOG_CTRL_PIN_CLEAR : Fld := ⟨R.MG_LOG_CTRL, 2, 1⟩
/-- MG_LOG_CTRL.READ_PIN (R450). -/
def F.MG_LOG_CTRL_READ_PIN : Fld := ⟨R.MG_LOG_CTRL, 1, 1⟩
/-- MG_LOG_CTRL.READ (R450). -/
def F.MG_LOG_CTRL_READ : Fld := ⟨R.MG_LOG_CTRL, 0, 1⟩
/-- MG_LOG_DROPPED.COUNT (R450). -/
def F.MG_LOG_DROPPED_COUNT : Fld := ⟨R.MG_LOG_DROPPED, 0, 32⟩
/-- MG_LOG_WEAR.ERASES (R450). -/
def F.MG_LOG_WEAR_ERASES : Fld := ⟨R.MG_LOG_WEAR, 0, 32⟩
/-- MG_LOG_DATA.WORD (R450). -/
def F.MG_LOG_DATA_WORD : Fld := ⟨R.MG_LOG_DATA, 0, 32⟩
/-- MG_IMG_CTRL.CMD (R450). -/
def F.MG_IMG_CTRL_CMD : Fld := ⟨R.MG_IMG_CTRL, 0, 4⟩
/-- MG_IMG_STAT.RESULT (R450). -/
def F.MG_IMG_STAT_RESULT : Fld := ⟨R.MG_IMG_STAT, 28, 4⟩
/-- MG_IMG_STAT.FALLBACK (R450). -/
def F.MG_IMG_STAT_FALLBACK : Fld := ⟨R.MG_IMG_STAT, 25, 1⟩
/-- MG_IMG_STAT.TRIAL (R450). -/
def F.MG_IMG_STAT_TRIAL : Fld := ⟨R.MG_IMG_STAT, 24, 1⟩
/-- MG_IMG_STAT.PHASE (R450). -/
def F.MG_IMG_STAT_PHASE : Fld := ⟨R.MG_IMG_STAT, 20, 4⟩
/-- MG_IMG_STAT.BOOT (R450). -/
def F.MG_IMG_STAT_BOOT : Fld := ⟨R.MG_IMG_STAT, 16, 1⟩
/-- MG_IMG_ADDR.OFFSET (R450). -/
def F.MG_IMG_ADDR_OFFSET : Fld := ⟨R.MG_IMG_ADDR, 2, 22⟩
/-- MG_IMG_DATA.WORD (R450). -/
def F.MG_IMG_DATA_WORD : Fld := ⟨R.MG_IMG_DATA, 0, 32⟩
/-- MG_IMG_SECVER.SEC_VER (R450). -/
def F.MG_IMG_SECVER_SEC_VER : Fld := ⟨R.MG_IMG_SECVER, 0, 32⟩
/-- MG_IMG_LINK.STATE (R450). -/
def F.MG_IMG_LINK_STATE : Fld := ⟨R.MG_IMG_LINK, 30, 2⟩
/-- MG_IMG_LINK.LINK_VER (R450). -/
def F.MG_IMG_LINK_LINK_VER : Fld := ⟨R.MG_IMG_LINK, 0, 16⟩
/-- MG_IMG_FLOOR.FLOOR (R450). -/
def F.MG_IMG_FLOOR_FLOOR : Fld := ⟨R.MG_IMG_FLOOR, 0, 32⟩
/-- MG_KEY_CTRL.LOAD (R450). -/
def F.MG_KEY_CTRL_LOAD : Fld := ⟨R.MG_KEY_CTRL, 31, 1⟩
/-- MG_KEY_CTRL.CLEAR (R450). -/
def F.MG_KEY_CTRL_CLEAR : Fld := ⟨R.MG_KEY_CTRL, 30, 1⟩
/-- MG_KEY_CTRL.SLOT (R450). -/
def F.MG_KEY_CTRL_SLOT : Fld := ⟨R.MG_KEY_CTRL, 4, 4⟩
/-- MG_KEY_CTRL.EXPERT (R450). -/
def F.MG_KEY_CTRL_EXPERT : Fld := ⟨R.MG_KEY_CTRL, 0, 1⟩
/-- MG_KEY_STAT.RESULT (R450). -/
def F.MG_KEY_STAT_RESULT : Fld := ⟨R.MG_KEY_STAT, 28, 4⟩
/-- MG_KEY_STAT.BUSY (R450). -/
def F.MG_KEY_STAT_BUSY : Fld := ⟨R.MG_KEY_STAT, 27, 1⟩
/-- MG_KEY_IDX.IDX (R450). -/
def F.MG_KEY_IDX_IDX : Fld := ⟨R.MG_KEY_IDX, 0, 5⟩
/-- MG_KEY_DATA.WORD (R450). -/
def F.MG_KEY_DATA_WORD : Fld := ⟨R.MG_KEY_DATA, 0, 32⟩
/-- MG_KEY_ID.PRESENT (R450). -/
def F.MG_KEY_ID_PRESENT : Fld := ⟨R.MG_KEY_ID, 31, 1⟩
/-- MG_KEY_ID.EXPERT (R450). -/
def F.MG_KEY_ID_EXPERT : Fld := ⟨R.MG_KEY_ID, 30, 1⟩
/-- MG_KEY_ID.ID (R450). -/
def F.MG_KEY_ID_ID : Fld := ⟨R.MG_KEY_ID, 0, 24⟩
/-- PT_CTRL.ISLAND (R62). -/
def F.PT_CTRL_ISLAND : Fld := ⟨R.PT_CTRL, 24, 8⟩
/-- PT_CTRL.SET_BOOT (R62). -/
def F.PT_CTRL_SET_BOOT : Fld := ⟨R.PT_CTRL, 13, 1⟩
/-- PT_CTRL.BANK (R62). -/
def F.PT_CTRL_BANK : Fld := ⟨R.PT_CTRL, 12, 1⟩
/-- PT_CTRL.CMD (R62). -/
def F.PT_CTRL_CMD : Fld := ⟨R.PT_CTRL, 0, 4⟩
/-- PT_STAT.RESULT (R62). -/
def F.PT_STAT_RESULT : Fld := ⟨R.PT_STAT, 24, 8⟩
/-- PT_STAT.STAGE_WRITE_LATE (R62). -/
def F.PT_STAT_STAGE_WRITE_LATE : Fld := ⟨R.PT_STAT, 23, 1⟩
/-- PT_STAT.PHASE (R62). -/
def F.PT_STAT_PHASE : Fld := ⟨R.PT_STAT, 20, 3⟩
/-- PT_STAT.VERIFIED (R62). -/
def F.PT_STAT_VERIFIED : Fld := ⟨R.PT_STAT, 16, 1⟩
/-- PT_STAT.RECORD (R62). -/
def F.PT_STAT_RECORD : Fld := ⟨R.PT_STAT, 0, 16⟩
/-- PT_BOOT.NO_PATTERN (R62). -/
def F.PT_BOOT_NO_PATTERN : Fld := ⟨R.PT_BOOT, 2, 1⟩
/-- PT_BOOT.FALLBACK (R62). -/
def F.PT_BOOT_FALLBACK : Fld := ⟨R.PT_BOOT, 1, 1⟩
/-- PT_BOOT.BANK (R62). -/
def F.PT_BOOT_BANK : Fld := ⟨R.PT_BOOT, 0, 1⟩
/-- PT_ACTIVE_ID.ID (R62). -/
def F.PT_ACTIVE_ID_ID : Fld := ⟨R.PT_ACTIVE_ID, 0, 32⟩
/-- PT_ACTIVE_VER.VER (R62). -/
def F.PT_ACTIVE_VER_VER : Fld := ⟨R.PT_ACTIVE_VER, 0, 32⟩
/-- PT_FLOOR.FLOOR (R62). -/
def F.PT_FLOOR_FLOOR : Fld := ⟨R.PT_FLOOR, 0, 32⟩
/-- PT_RELACE_CNT.COUNT (R62). -/
def F.PT_RELACE_CNT_COUNT : Fld := ⟨R.PT_RELACE_CNT, 0, 32⟩
/-- PT_DIGEST.DIGEST (R62). -/
def F.PT_DIGEST_DIGEST : Fld := ⟨R.PT_DIGEST, 0, 32⟩
end Sys2Proof.Machine
end

