-- ==== Sys2Proof/Machine/Float32.lean ====
section
/-! DEFINITION. Binary32 arithmetic as the engines compute it (R166): round to nearest, ties to even, subnormals flushed to zero. Values are IEEE 754 encodings. -/
namespace Sys2Proof

/-- The sign bit of a binary32 value. -/
def F32.neg (x : F32) : Bool := x.getLsbD 31
/-- The biased exponent of a binary32 value. -/
def F32.expo (x : F32) : Nat := (x.extractLsb' 23 8).toNat
/-- The fraction bits of a binary32 value. -/
def F32.frac (x : F32) : Nat := (x.extractLsb' 0 23).toNat
/-- Neither infinite nor a NaN. -/
def F32.finite (x : F32) : Bool := x.expo != 255
/-- A NaN. -/
def F32.isNaN (x : F32) : Bool := x.expo == 255 && x.frac != 0
/-- The canonical quiet NaN. -/
def F32.nan : F32 := 0x7FC00000
/-- The infinity of a sign. -/
def F32.inf (s : Bool) : F32 := if s then 0xFF800000 else 0x7F800000
/-- The zero of a sign. -/
def F32.zero (s : Bool) : F32 := if s then 0x80000000 else 0
/-- The largest finite value. -/
def F32.maxFinite : F32 := 0x7F7FFFFF

/-- 2 to an integer power. -/
def pow2 (e : Int) : Rat := if 0 ≤ e then (2 ^ e.toNat : Nat) else 1 / ((2 ^ (-e).toNat : Nat) : Rat)

/-- The exact value of a finite binary32 encoding (0 for the others). -/
def F32.toRat (x : F32) : Rat :=
  if x.expo = 255 then 0
  else
    let m : Rat := if x.expo = 0 then (x.frac : Rat) * pow2 (-149)
      else ((2 ^ 23 + x.frac : Nat) : Rat) * pow2 ((x.expo : Int) - 150)
    if x.neg then -m else m

/-- `n / d` rounded to the nearest integer, ties to even. -/
def divRne (n d : Nat) : Nat :=
  let q := n / d
  let r := n % d
  if 2 * r < d then q else if d < 2 * r then q + 1 else if q % 2 = 0 then q else q + 1

/-- The binary exponent of a positive fraction: the `e` with 2^e ≤ n/d < 2^(e+1). -/
def fracExp (n d : Nat) : Int :=
  let e : Int := (Nat.log2 n : Int) - (Nat.log2 d : Int)
  let ge : Bool := if 0 ≤ e then decide (d * 2 ^ e.toNat ≤ n) else decide (d ≤ n * 2 ^ (-e).toNat)
  if ge then e else e - 1

/-- A sign and a non-negative fraction rounded to binary32: overflow gives infinity, a result below the normal range gives zero (R166). -/
def F32.round (s : Bool) (n d : Nat) : F32 :=
  if n = 0 then F32.zero s
  else
    let e := fracExp n d
    let sh : Int := 23 - e
    let m := if 0 ≤ sh then divRne (n * 2 ^ sh.toNat) d else divRne n (d * 2 ^ (-sh).toNat)
    let (m, e) := if m = 2 ^ 24 then (2 ^ 23, e + 1) else (m, e)
    if e < -126 then F32.zero s
    else if e > 127 then F32.inf s
    else
      BitVec.ofNat 32 ((if s then 2 ^ 31 else 0) + (e + 127).toNat * 2 ^ 23 + (m - 2 ^ 23))

/-- A rational rounded to binary32. -/
def F32.ofRat (q : Rat) : F32 := F32.round (decide (q < 0)) q.num.natAbs q.den
/-- An integer rounded to binary32. -/
def F32.ofInt (i : Int) : F32 := F32.round (decide (i < 0)) i.natAbs 1

/-- Negation. -/
def F32.negate (x : F32) : F32 := x ^^^ 0x80000000
/-- Absolute value. -/
def F32.abs (x : F32) : F32 := x &&& 0x7FFFFFFF
/-- A zero of either sign. -/
def F32.isZero (x : F32) : Bool := x.expo == 0 && x.frac == 0

/-- The integer square root by its `k` low bits, from the accumulated root `r`. -/
def isqrtAux : Nat → Nat → Nat → Nat
  | 0, _, r => r
  | k + 1, m, r => let t := r + 2 ^ k; isqrtAux k m (if t * t ≤ m then t else r)
/-- The integer square root of a number below 2^128. -/
def isqrt (m : Nat) : Nat := isqrtAux 64 m 0

/-- Sum. -/
def F32.add (x y : F32) : F32 :=
  if x.isNaN || y.isNaN then F32.nan
  else if !x.finite && !y.finite then (if x.neg == y.neg then x else F32.nan)
  else if !x.finite then x
  else if !y.finite then y
  else if x.isZero && y.isZero then F32.zero (x.neg && y.neg)
  else F32.ofRat (x.toRat + y.toRat)
/-- Difference. -/
def F32.sub (x y : F32) : F32 := F32.add x (F32.negate y)
/-- Product. -/
def F32.mul (x y : F32) : F32 :=
  let s := x.neg != y.neg
  if x.isNaN || y.isNaN then F32.nan
  else if !x.finite || !y.finite then (if x.isZero || y.isZero then F32.nan else F32.inf s)
  else if x.isZero || y.isZero then F32.zero s
  else let q := x.toRat * y.toRat; F32.round s q.num.natAbs q.den
/-- Quotient. -/
def F32.div (x y : F32) : F32 :=
  let s := x.neg != y.neg
  if x.isNaN || y.isNaN then F32.nan
  else if !x.finite then (if !y.finite then F32.nan else F32.inf s)
  else if !y.finite then F32.zero s
  else if y.isZero then (if x.isZero then F32.nan else F32.inf s)
  else if x.isZero then F32.zero s
  else let q := x.toRat / y.toRat; F32.round s q.num.natAbs q.den
/-- Square root, correctly rounded. -/
def F32.sqrt (x : F32) : F32 :=
  if x.isNaN then F32.nan
  else if x.isZero then F32.zero x.neg
  else if x.neg then F32.nan
  else if !x.finite then x
  else
    -- the root of m * 2^(e-150) with the exponent made even, kept to 50 bits and a sticky bit
    let e0 : Int := if x.expo = 0 then -149 else (x.expo : Int) - 150
    let m0 := if x.expo = 0 then x.frac else 2 ^ 23 + x.frac
    let odd := e0 % 2 != 0
    let m := (if odd then 2 * m0 else m0) * 2 ^ 80
    let e : Int := ((if odd then e0 - 1 else e0) - 80) / 2
    let r := isqrt m
    let r' := if r * r = m then 2 * r else 2 * r + 1
    let e' := e - 1
    if 0 ≤ e' then F32.round false (r' * 2 ^ e'.toNat) 1 else F32.round false r' (2 ^ (-e').toNat)

/-- Less than, on finite values. -/
def F32.lt (x y : F32) : Bool :=
  if x.isNaN || y.isNaN then false
  else
    let v (z : F32) : Rat := if z.finite then z.toRat else if z.neg then -(2 ^ 200 : Nat) else (2 ^ 200 : Nat)
    decide (v x < v y)
/-- Less than or equal. -/
def F32.le (x y : F32) : Bool := !x.isNaN && !y.isNaN && !F32.lt y x
/-- Equal in value. -/
def F32.eqv (x y : F32) : Bool := F32.le x y && F32.le y x
/-- The larger of two. -/
def F32.max (x y : F32) : F32 := if F32.lt x y then y else x
/-- The smaller of two. -/
def F32.min (x y : F32) : F32 := if F32.lt y x then y else x
/-- Clamped to an interval. -/
def F32.clamp (x lo hi : F32) : F32 := if x.isNaN then x else F32.min (F32.max x lo) hi
/-- A finite value above 0. -/
def F32.positive (x : F32) : Bool := x.finite && !x.neg && !x.isZero
/-- A finite value of 0 or more. -/
def F32.nonneg (x : F32) : Bool := x.finite && (!x.neg || x.isZero)
/-- Truncated toward zero to an integer. -/
def ratTrunc (q : Rat) : Int := Int.tdiv q.num q.den
/-- Rounded to nearest, ties to even. -/
def ratRne (q : Rat) : Int := let m := divRne q.num.natAbs q.den; if q.num < 0 then -(m : Int) else m
/-- The value rounded to nearest and saturated to a signed 32-bit number. -/
def F32.toInt32Sat (x : F32) : Int :=
  if x.isNaN then 0
  else if !x.finite then (if x.neg then -(2 ^ 31) else 2 ^ 31 - 1)
  else Max.max (-(2 ^ 31)) (Min.min (2 ^ 31 - 1) (ratRne x.toRat))
/-- An integer clamped to an interval. -/
def clampInt (x lo hi : Int) : Int := Max.max lo (Min.min hi x)

end Sys2Proof
end

