-- ==== Sys2Proof/Machine/Tab.lean ====
section
/-! DEFINITION. Sparse tables in one canonical form: keys strictly rising, and no entry equal to the table's default. -/
namespace Sys2Proof.Machine

/-- A sparse table: pairs of a key and a value. An unlisted key holds the default value. -/
abbrev Tab (α : Type) := List (Nat × α)

/-- The value at a key, `d` where the key is unlisted. -/
def Tab.get {α : Type} (d : α) : List (Nat × α) → Nat → α
  | [], _ => d
  | (k, v) :: t, n => if k = n then v else Tab.get d t n

/-- Inserts an entry before the first key that is not smaller. -/
def Tab.insert {α : Type} (n : Nat) (v : α) : List (Nat × α) → List (Nat × α)
  | [] => [(n, v)]
  | (k, w) :: t => if k < n then (k, w) :: Tab.insert n v t else (n, v) :: (k, w) :: t

/-- Removes a key. -/
def Tab.erase {α : Type} (n : Nat) : List (Nat × α) → List (Nat × α)
  | [] => []
  | (k, w) :: t => if k = n then Tab.erase n t else (k, w) :: Tab.erase n t

/-- Stores a value at a key; storing the default removes the entry. -/
def Tab.set {α : Type} [DecidableEq α] (d : α) (t : List (Nat × α)) (n : Nat) (v : α) : List (Nat × α) :=
  if v = d then Tab.erase n t else Tab.insert n v (Tab.erase n t)

/-- The canonical form: keys strictly rising and no default value listed. -/
def Tab.wf {α : Type} [DecidableEq α] (d : α) : List (Nat × α) → Bool
  | [] => true
  | (k, v) :: t => decide (v ≠ d) && (match t with | [] => true | (k', _) :: _ => decide (k < k')) && Tab.wf d t

end Sys2Proof.Machine
end

