-- ==== Sys2Proof/Machine/PatternTypes.lean ====
section
/-! DEFINITION. The structure a pattern builds (Tables 2.4–2.7): the records' fields as the islands hold them. -/
namespace Sys2Proof.Machine

/-- A CAN_CH record (Table 2.5). MODE 0 is off. -/
structure CanChRec where
  mode : Nat := 0
  nom : Nat := 0
  data : Nat := 0
deriving DecidableEq, Repr

/-- A CAN_OBJ record (Table 2.5). -/
structure CanObjRec where
  present : Bool := false
  tx : Bool := false
  fdf : Bool := false
  brs : Bool := false
  ide : Bool := false
  cyclic : Bool := false
  dlc : Nat := 0
  slot : Nat := 0xFF
  layout : Nat := 0
  id : Nat := 0
  cycle : Nat := 0
deriving DecidableEq, Repr

/-- A PORT record (R34). TYPE 0 is unused. -/
structure PortRec where
  type : Nat := 0
  src : Nat := 0
deriving DecidableEq, Repr

/-- A GROUP record (R36); `present` is false where the pattern has none. -/
structure GroupRecP where
  present : Bool := false
  period : Nat := 0
  pwmDiv : Nat := 1
  decim : Nat := 0
deriving DecidableEq, Repr

/-- An ENGINE record (R37). -/
structure EngineRec where
  present : Bool := false
  period : Nat := 0
  nctx : Nat := 0
  handover : Bool := false
  ctx : List Nat := []
deriving DecidableEq, Repr

/-- A SLOT record (Table 2.6); KIND 0 is an unused slot. -/
structure SlotRecP where
  kind : Nat := 0
  template : Nat := 0
  cls : Nat := 0
  res : Nat := 0xFFFF
  rx : Nat := 0xFFFF
  fb1 : Nat := 0xFF
  fb2 : Nat := 0xFF
  dcMode : Bool := false
  sensorless : Bool := false
  decouple : Bool := false
  velDiv : Nat := 0
  posDiv : Nat := 0
  tbFric : Nat := 0xFF
  tbCog : Nat := 0xFF
  ff : Nat := 0
  gearKind : Nat := 0
  gearMaster : Nat := 0xFF
  ig : Nat := 0xFF
  period : Nat := 0
  island : Nat := 0x21
deriving DecidableEq, Repr

/-- One entry of the IO_MAP (R40). -/
structure IoEntry where
  kind : Nat
  index : Nat
  func : Nat
  arg : Nat
deriving DecidableEq, Repr

/-- A group entry of the SAFETY record (R42). -/
structure SafetyGroup where
  lim1 : F32 := 0
  lim2 : F32 := 0
  lim3 : F32 := 0
  monSlot : Nat := 0xFF
  brk : Nat := 0xFF
deriving DecidableEq, Repr

/-- A pattern's structure as the islands hold it. -/
structure Pattern where
  valid : Bool := false
  id : Nat := 0
  ver : Nat := 0
  allowRelace : Bool := false
  canCh : Tab CanChRec := []
  canObj : Tab CanObjRec := []
  ports : Tab PortRec := []
  /-- Address in bank 15 of the first entry of each TABLE record, 0 for none. -/
  tables : Tab Nat := []
  tableKind : Tab Nat := []
  groups : Tab GroupRecP := []
  engines : Tab EngineRec := []
  slots : Tab SlotRecP := []
  ioMap : List IoEntry := []
  hot : Bool := false
  groupMask : Nat := 0
  sealExpect : BitVec 40 := 0
  safety : Tab SafetyGroup := []
  /-- The preload entries in record order: island of the record, address, value. -/
  preloads : List (Nat × Nat × Word) := []
deriving DecidableEq, Repr

/-- The SLOT record of a slot; KIND 0 where it has none. -/
def Pattern.slot (p : Pattern) (k : Nat) : SlotRecP := Tab.get {} p.slots k
/-- The GROUP record of a lane group. -/
def Pattern.group (p : Pattern) (g : Nat) : GroupRecP := Tab.get {} p.groups g
/-- The ENGINE record of an engine. -/
def Pattern.engine (p : Pattern) (e : Nat) : EngineRec := Tab.get {} p.engines e
/-- The PORT record of a port. -/
def Pattern.port (p : Pattern) (i : Nat) : PortRec := Tab.get {} p.ports i
/-- The CAN_CH record of a channel. -/
def Pattern.ch (p : Pattern) (c : Nat) : CanChRec := Tab.get {} p.canCh c
/-- The CAN_OBJ record of an object of a channel. -/
def Pattern.obj (p : Pattern) (ch o : Nat) : CanObjRec := Tab.get {} p.canObj (ch * 512 + o)
/-- The safety entry of a lane group. -/
def Pattern.safe (p : Pattern) (g : Nat) : SafetyGroup := Tab.get {} p.safety g

/-- The lane group of a lane index (R18). -/
def laneGroup (lane : Nat) : Nat := if lane < 32 then lane / 4 else 8 + (lane - 32) / 8

/-- The frame length in ns of a PERIOD code (R36). -/
def periodNs (c : Nat) : Nat :=
  match c with
  | 0 => 20000 | 1 => 25000 | 2 => 31250 | 3 => 50000 | 4 => 62500 | _ => 125000

end Sys2Proof.Machine
end

