-- ==== Sys2Proof/Machine/State.lean ====
section
/-! DEFINITION. The state of the module as plain data: the register file, the SRAM, the state the spec gives the parts beside their registers, and the queue of waiting commands. -/
namespace Sys2Proof.Machine

/-- One segment of a motion (R142): its length in seconds, the velocity at its start and its acceleration in binary32, and the position at its start in 2^-16 counts. -/
structure Seg where
  dur : Rat
  v0 : F32
  a : F32
  p0 : Int
deriving DecidableEq, Repr

/-- A motion as a function of profile time (R140): segments from `t0` (ns), then `endPos` moving on at `endVel`. -/
structure Traj where
  t0 : Int := 0
  segs : List Seg := []
  endPos : Int := 0
  endVel : F32 := 0
deriving DecidableEq, Repr

/-- What a slot's own motion, or a follower's superimposed offset, is doing. -/
inductive Motion where
  | rest | move | jog | stopping
deriving DecidableEq, Repr

/-- The profile state of a slot (R142–R162) beside its AX_ and GR_ registers. Positions are in 2^-16 counts. -/
structure Profile where
  /-- The slot's own motion. -/
  traj : Traj := {}
  motion : Motion := .rest
  /-- The running target of a move. -/
  target : Int := 0
  /-- The running move ends at a limit instead of its target: no DONE (R456). -/
  limited : Bool := false
  /-- A target written since the last tick, and the commands written since (R141). -/
  pendTarget : Option Int := none
  pendCmd : Option Nat := none
  pendStop : Bool := false
  /-- The waiting command was written before the waiting target. -/
  cmdFirst : Bool := false
  /-- The running plan first comes to rest at the rate of a limit stop (R318). -/
  limPlan : Bool := false
  /-- The limit inputs of the slot at the latest profile tick (R318). -/
  limSeen : Bool × Bool := (false, false)
  /-- The commanded velocity of a running jog (R146, R147). -/
  jogVel : F32 := 0
  /-- Held at rest as in STO_TRACK by R207, R210, R243, R284 or R311. -/
  held : Bool := false
  /-- SS1 runs for the slot's group (R148). -/
  ss1 : Bool := false
  /-- Gearing: OFFSET in 2^-16 counts, the ratio in force, and a running ramp (R155). -/
  engaged : Bool := false
  gearOfs : Int := 0
  num : Int := 1
  den : Int := 1
  rampLeft : Nat := 0
  rampNum0 : Int := 1
  rampDen0 : Int := 1
  rampNum1 : Int := 1
  rampDen1 : Int := 1
  rampTotal : Nat := 0
  /-- The superimposed offset of an engaged follower (R156). -/
  sup : Traj := {}
  supMotion : Motion := .rest
  supTarget : Int := 0
  /-- The superimposed move ends at the limit of R456 instead of its target: no DONE. -/
  supLimited : Bool := false
  /-- A port master's 64-bit sum and the last port position it read (R154). -/
  portSum : Int := 0
  portLast : Int := 0
  /-- The previous valid limits (R143). -/
  vmaxV : F32 := 0
  accelV : F32 := 0
  decelV : F32 := 0
  ss1V : F32 := 0
  /-- Was held or in STO_TRACK at the latest tick, for AUTO_ENGAGE (R156). -/
  autoDone : Bool := false
deriving DecidableEq, Repr

/-- An interpolation group's path (R149–R152). The path parameter runs on `s` in 2^-16 counts of the lead axis. -/
structure IgPath where
  moving : Bool := false
  stopping : Bool := false
  s : Traj := {}
  lenL : Nat := 0
  /-- Where the path ends: `lenL`, or, where a target lies beyond the range of R456, the path parameter at which a member reaches the limit. -/
  lenEnd : Nat := 0
  /-- V, A and D of the path (R149). -/
  vmax : F32 := 0
  acc : F32 := 0
  dec : F32 := 0
  /-- Each member's slot, start position and distance. -/
  members : List (Nat × Int × Int) := []
  master : Nat := 0xFF
  m0 : Int := 0
  k : Int := 1
  pendGo : Bool := false
  pendStop : Bool := false
deriving DecidableEq, Repr

/-- A step generator's state beside its SP_ registers (R160, R161): the user count up to which it has emitted, its steps, and the direction output. -/
structure StepGen where
  owed : Int := 0
  /-- The steps emitted since the start, which do not wrap: the slot's position source (R138). -/
  steps : Int := 0
  dirNeg : Bool := false
  lastTick : Int := 0
  /-- Time in ns since the latest step that counts toward the next, at most one step period. -/
  credit : Nat := 0
deriving DecidableEq, Repr

/-- The loop dynamic state of a slot (R10, R168–R189). -/
structure Loop where
  iVel : F32 := 0
  iD : F32 := 0
  iQ : F32 := 0
  /-- Histories of blocks 0–3: e[k−1..k−3] then u[k−1..k−3], six words each. -/
  hist : List F32 := []
  /-- The clamp of the velocity or state part acts (SAT_CUR, R171). -/
  satCur : Bool := false
  xh : List F32 := []
  vCmd : F32 := 0
  iCmd : F32 := 0
  vd : F32 := 0
  vq : F32 := 0
  id : F32 := 0
  iq : F32 := 0
  dutyU : F32 := 0x3F000000
  dutyV : F32 := 0x3F000000
  dutyW : F32 := 0x3F000000
  /-- Duties have been computed, taken over or drawn since the loop state was cleared. -/
  hasDuty : Bool := false
  /-- Frame stamps (profile time, ns) of the last run of the current and velocity part. -/
  tCur : Option Int := none
  tVel : Option Int := none
  /-- Loops that run a preset at their next run (R183): current, velocity, position. -/
  preCur : Bool := false
  preVel : Bool := false
  prePos : Bool := false
  inposRuns : Nat := 0
  /-- Frames in a row with a variable that was not finite, and whether one of this frame's was (R189). -/
  nonfinite : Nat := 0
  bad : Bool := false
deriving DecidableEq, Repr

/-- What belongs to a slot's context and is kept when its loop dynamic state is cleared: the coefficient arrays (R177), the previous valid values (R187), the phase-advance table (R209). -/
structure Context where
  shadow : Tab Word := []
  active : Tab Word := []
  order : Nat := 0
  nstate : Nat := 8
  valid : Tab Word := []
  pa : Tab Word := []
  /-- The AX_SL_ and AX_MOT_ values and the phase-advance table as they act in the present frame (R209, R210). -/
  latched : Tab Word := []
  paNow : Tab Word := []
  /-- Position and speed of the position source at the latest frame (R138). -/
  actPos : Int := 0
  actVel : F32 := 0
  actKnown : Bool := false
  /-- The position was extrapolated; and what the latest frame read of the slot's ports at its own stamp: the single-turn counts of FB1 and FB2, and the raw angles of a Hall port with whether an edge fixed them (R206, R207, R232). -/
  actStale : Bool := false
  turn1 : Nat := 0
  turn2 : Nat := 0
  hall1 : Option (Int × Bool) := none
  hall2 : Option (Int × Bool) := none
  /-- Frames of a CAN slot (R169). -/
  frames : Nat := 0
  /-- The copy that the next frame reads, A or B, of the slot's place in banks 8–11 (R119). -/
  copyB : Bool := false
  /-- Profile position and velocity of a CAN slot at its latest position-part run (R306). -/
  t4Pos : Int := 0
  t4Vel : F32 := 0
deriving DecidableEq, Repr

/-- The sensorless estimator of a slot (R210–R217), and the initial-position detection of an ABZ slot (R207); STATE and TRIES are AX_SL_STAT's fields. -/
structure Estim where
  /-- Frames since CATCH, IPD or BLEND was entered. -/
  frame : Nat := 0
  theta : BitVec 16 := 0
  fe : F32 := 0
  /-- AX_SL_CFG as the running start attempt took it. -/
  cfg : Word := 0
  /-- Current vectors at the ends of the CATCH probes, and magnitudes of the IPD pulses. -/
  probe : List (F32 × F32) := []
  pulses : List F32 := []
  /-- BLEND runs upward, toward OBS. -/
  up : Bool := false
  excess : Nat := 0
  /-- An attempt has failed and its retry wait runs. -/
  waiting : Bool := false
  retries : Nat := 0
  /-- The duties of the present frame are repeated in the next, which takes the zero vector; and the next frame begins the CATCH or IPD again (R217). -/
  restart : Bool := false
  again : Bool := false
  /-- Reverse movement in counts, and frames left of its window (R215). -/
  back : Int := 0
  backFrames : Nat := 0
  obsTheta : BitVec 16 := 0
  obsFreq : F32 := 0
  hfiTheta : BitVec 16 := 0
  hfiFreq : F32 := 0
  /-- The estimated position in 2^-16 counts. -/
  pos : Int := 0
  injNeg : Bool := false
  iqLast : F32 := 0
  /-- The frame stamp of the latest run of a DC slot's estimator (R216). -/
  tRun : Option Int := none
  /-- What is added to the raw electrical angle of an ABZ port's counts (R207), once established, and the port. -/
  hallRef : Option Int := none
  refPort : Nat := 0
deriving DecidableEq, Repr

/-- The start-of-frame snapshot of a slot (R119, R181, R189): its loop state, its T4 transmit data, and its estimator with AX_SL_STAT's STATE and TRIES. -/
structure Snap where
  loop : Loop := {}
  t4Pos : Int := 0
  t4Vel : F32 := 0
  est : Estim := {}
  state : Nat := 0
  tries : Nat := 0
deriving DecidableEq, Repr

/-- A lane's state beside its LN_ registers. -/
structure Lane where
  /-- The latest frame samples taken in STO, newest first, at most 64 (R200). -/
  ofsU : List Int := []
  ofsV : List Int := []
  ofsW : List Int := []
  /-- Currents and bus voltage of the latest frame sample. -/
  iu : F32 := 0
  iv : F32 := 0
  iw : F32 := 0
  vbus : F32 := 0
  /-- S-lanes: the latest frame found a valid pair; consecutive frames that did not (R204). -/
  pairValid : Bool := true
  misses : Nat := 0
  /-- FAULT_N has been low since its filter passed it, and its level as last seen: they outlive a reset, which no pin notices. -/
  faultHeld : Bool := false
  faultLow : Bool := false
  /-- A bitstream has no transitions. -/
  sdSilent : Bool := false
  /-- Currents at the end of the latest probe or test vector (R211, R212). -/
  pu : F32 := 0
  pv : F32 := 0
  pw : F32 := 0
  /-- On the first lane of a converter: instants of holds that concern the next frame, in ns from its start (R203). -/
  spill : List Rat := []
  /-- The PWM periods that the latest frame ran, and the length of its last one (R277). -/
  ran : Nat := 0
  lastT : Rat := 0
  /-- Duties in force, and for each leg the turn-on and turn-off of its high side and the turn-off and turn-on of its low side in a period, in steps of 156.25 ps (R193, R194). -/
  dutyU : F32 := 0x3F000000
  dutyV : F32 := 0x3F000000
  dutyW : F32 := 0x3F000000
  edges : List Nat := []
  /-- 0 the duties; 1 the zero vector; 2 the zero vector for `probeNs` from the frame start, then the duties; 3 duties of 0.5; 4 + n test vector n for `probeNs`, then the zero vector (R211, R212, R215). -/
  probe : Nat := 0
  probeNs : Nat := 0
  /-- CLEAR was accepted: the lane re-arms at the next frame start. -/
  clearPend : Bool := false
deriving DecidableEq, Repr

/-- A serial transaction: its poll stamp and first clock edge in profile time, and the CRC it uses (R227, R233, R234). -/
structure SerialRun where
  stamp : Int
  edgeT : Int
  crc : Nat
deriving DecidableEq, Repr

/-- A feedback port's state beside its FB_ registers (R229–R242). `st` and `mt` are the counts now; FB_ST, FB_MT and FB_POS hold them as of the latest sample stamp. Times are in ns of profile time. -/
structure Port where
  /-- The levels of L0–L2 as the latest change left them. -/
  lines : BitVec 3 := 0
  linesKnown : Bool := false
  st : Nat := 0
  mt : Int := 0
  /-- COUNTS_PER_REV in force on an ABZ or Hall port. -/
  n : Nat := 0x1000
  /-- Serial: the next good reading is the first one; the encoder's fields of the latest good reading. -/
  first : Bool := true
  prevMt : Nat := 0
  prevSt : Nat := 0
  goodPos : Int := 0
  goodT : Int := 0
  good : Bool := false
  errRun : Nat := 0
  /-- Times of the two latest counted edges, how many have been seen up to two, the sign of the latest, and the edges since the latest sample stamp. -/
  e1 : Int := 0
  e2 : Int := 0
  seen : Nat := 0
  sign : Int := 1
  edges : Nat := 0
  /-- No edge has arrived for ZERO_T since the latest one (R236). -/
  stopped : Bool := false
  /-- A Hall port has changed to a non-adjacent state since its latest sample stamp (Table 9.5). -/
  skipped : Bool := false
  /-- Position and stamp of the latest sample, and of the one before it. -/
  sampPos : Int := 0
  sampT : Int := 0
  sampled : Bool := false
  prevPos : Int := 0
  prevT : Int := 0
  prevOk : Bool := false
  /-- An accepted FB_CPR write waits for the next sample; an accepted FB_SER change for the next reading. -/
  pendN : Option Nat := none
  /-- The tracking loop's position in 2^-16 counts and its speed estimate. -/
  trkPos : Int := 0
  trkVel : F32 := 0
  /-- The same before the latest sample stamp, from which a reading taken at that stamp runs the loop again. -/
  trkPos0 : Int := 0
  trkVel0 : F32 := 0
  /-- Updates in a row, up to 1,000, whose tracking error was within LOT_DEG (R245). -/
  trkRun : Nat := 0
  /-- A resolver's latest 100 samples of sin, cos and the excitation sense, newest first (R228). -/
  hist : List (BitVec 16 × BitVec 16 × BitVec 16) := []
  /-- The sum of sin² + cos² over the first 10,000 updates after the excitation was first sensed, and how many have been taken (R241). -/
  nomSum : Int := 0
  nomN : Nat := 0
  /-- For how many updates the condition of each cause 12–15 has held, up to 200. -/
  runs : Tab Nat := []
  /-- This module drives the excitation; profile time of the latest rising zero crossing of the sensed one (R228, R238). -/
  exciting : Bool := false
  excZero : Option Int := none
  /-- The running transaction of a serial port, and the slots whose frame waits for its reading (R233, R259). -/
  run : Option SerialRun := none
  owed : List Nat := []
  /-- CLEAR was accepted and FAULT ends at the next sample. -/
  clearPend : Bool := false
deriving DecidableEq, Repr

/-- A repeat output (R237): the count it has emulated; levels and transitions since a declared loss of the Latigo link, which a takeover still emits (R238). -/
structure Repeat where
  count : Int := 0
  gap : List (BitVec 3) := []
  owed : Int := 0
deriving DecidableEq, Repr

/-- Network time and the gPTP port (R247–R258). -/
structure Time where
  sec : Nat := 0
  ns : Nat := 0
  /-- NT_FRAC and the 16-bit extension below it: a 32-bit fraction of a nanosecond. -/
  frac : Nat := 0
  stepSum : Int := 0
  /-- Network time, in ns, that the time island loaded at its start (R257). -/
  startNet : Int := 0
  /-- Network times (ns) of the latest steps, newest first, and a running storm (R267). -/
  stepTimes : List Int := []
  storm : Bool := false
  clocks : Nat := 0
  /-- The servo: integrator in 2^-16 ns, consecutive Syncs within 1 µs, the offset's master and its interval. -/
  integ : Rat := 0
  good : Nat := 0
  master : Option (List Nat) := none
  masterClock : Nat := 0
  syncPend : Option (Nat × Int) := none
  delay : Rat := 0
  rate : Rat := 1
  e0Link : Bool := false
  seqTx : Nat := 0
  pdelaySeq : Nat := 0
  /-- The egress stamp of the latest Pdelay_Req, in 2^-16 ns. -/
  pdelayTx : Option Int := none
  /-- The clock in which SET acted (R265). -/
  setClk : Option Nat := none
deriving DecidableEq, Repr

/-- An input stamp: network-time seconds and ns, the edge's polarity and the epoch. -/
structure Stamp where
  sec : Nat
  ns : Nat
  rising : Bool
  epoch : Nat
  /-- Its word was poisoned when it was read (Table 5.2): capture from it is refused. -/
  invalid : Bool := false
deriving DecidableEq, Repr

/-- A direct input: the filtered level of its coupler, before INV, as held and as live (they differ only while the supply is missing), and its FIFO of stamps, oldest first (R261, R315, R323). -/
structure DirIn where
  level : Bool := false
  raw : Bool := false
  fifo : List Stamp := []
deriving DecidableEq, Repr

/-- A slot's history ring and capture (R259–R263): entries written, newest first, with the ring's own copy in banks 12–13. -/
structure Ring where
  fill : Nat := 0
  head : Nat := 0
  /-- The next entry follows a step (R260). -/
  discont : Bool := false
  /-- Network time, in ns, at which the ring was emptied last; none since the time island started. -/
  emptyT : Option Int := none
  /-- The captured edge that awaits entry b. -/
  cap : Option Stamp := none
  armedAt : Int := 0
  /-- An edge has been captured since the latest arming. -/
  caught : Bool := false
deriving DecidableEq, Repr

/-- A query of CP_Q that waits for entry b (R264). -/
structure Query where
  slot : Nat
  stamp : Stamp
deriving DecidableEq, Repr

/-- A control-period grid beside its BS_ registers (R276–R280). Times are in ns of profile time. -/
structure Grid where
  running : Bool := false
  /-- Actual and nominal start of the running frame. -/
  start : Int := 0
  nominal : Int := 0
  /-- The latest frame stamp: profile time, network time and EPOCH. -/
  stampT : Int := 0
  stampNet : Int := 0
  stampEpoch : Nat := 0
  /-- Planned length of the running frame, and the planned and the measured length of the frame before it. -/
  len : Rat := 0
  prevPlan : Rat := 0
  prevLen : Nat := 0
  /-- The decimation level that the running frame uses (R275). -/
  level : Nat := 0
  /-- When LATE was logged last. -/
  lateAt : Option Int := none
deriving DecidableEq, Repr

/-- A stitch engine beside its BS_ENG_ registers: its contexts in dispatch order (R272), a forced operating point and its ticks left (R279), the operating point its need asks for, and when its running frame's work completes. -/
structure Engine where
  ctx : List Nat := []
  forced : Nat := 0
  forcedOp : Nat := 0
  opNext : Nat := 0
  done : Bool := true
  doneAt : Int := 0
deriving DecidableEq, Repr

/-- The budget scheduler (R270–R289) beside its registers: ticks at which a lower level would have done, ticks of R287, p_stitch of the latest tick in W, energies in µJ, and the thermal limit in force (R289). -/
structure Sched where
  downTicks : Nat := 0
  hotShort : Nat := 0
  hotOk : Nat := 0
  pLast : Rat := 0
  einUj : Nat := 0
  estUj : Nat := 0
  therm : Bool := false
  /-- VIN × IIN in µW, summed over the converter's reads since the latest tick, with their number, and its mean in W at that tick (R426). -/
  pinSum : Nat := 0
  pinN : Nat := 0
  pinMean : Rat := 0
deriving DecidableEq, Repr

/-- The Bridle state of a lane group in both channels (R350–R357) beside SF_GRP. -/
structure BGroup where
  /-- A cause whose SS1 starts at the next frame start, 0 none. -/
  ss1Pend : Nat := 0
  /-- Profile time (ns) at SS1 start, v0, and frames of standstill. -/
  ss1T : Int := 0
  v0 : F32 := 0
  still : Nat := 0
  brakeLead : Bool := false
  /-- Causes 12 and 14, which hold until module reset, by bit; causes 7–11 are in `latchRec`. -/
  latch : Nat := 0
  /-- XB-2: its SS1 timer runs, and has expired. -/
  xTimer : Bool := false
  xExpired : Bool := false
  htrip : Bool := false
  /-- Bridle-P's lines to the XB-2. -/
  xsto : Bool := true
  xss1 : Bool := false
  xss1Timer : Bool := false
  xss1Expired : Bool := false
  /-- Outputs. -/
  genA : Bool := false
  genB : Bool := false
  path1 : Bool := false
  path2 : Bool := false
  /-- Release under way: awaiting the GEN_B check, then the frame start. -/
  relCheck : Bool := false
  relPend : Bool := false
  /-- The first brake path turns on at the next frame start. -/
  brakePend : Bool := false
  /-- Standby: the last GROUP record shows the first brake path released. -/
  brakeOn : Bool := false
  /-- Consecutive read-backs of R358 that differed. -/
  rb : Nat := 0
deriving DecidableEq, Repr

/-- The two Bridle channels (R336–R362). -/
structure Bridle where
  grp : Tab BGroup := []
  /-- Channel levels of the input pairs that show a request: A in bit 0, B in bit 1. -/
  sto : BitVec 2 := 0
  ss1 : BitVec 2 := 0
  door : BitVec 2 := 0
  /-- Pairs latched by DISCREPANCY: STO, SS1, DOOR. -/
  discrep : BitVec 3 := 0
  /-- The seal bank as Bridle-P reads it, as the XB-2 reads it, and the XB-2's power-on reference. -/
  sealP : BitVec 40 := 0
  xSeal : BitVec 40 := 0
  xRef : BitVec 40 := 0
  refStored : Bool := false
  sealLatch : Bool := false
  xSealLatch : Bool := false
  /-- The XB-2 is supplied; its status has been seen since reset release. -/
  supplied : Bool := true
  linkSeen : Bool := false
  /-- OWN lines of this module and of the partner, by lane group. -/
  own : BitVec 16 := 0
  pown : BitVec 16 := 0
  /-- Profile times at which this module asserted its lines, and at which the partner's line of a group was seen asserted (R374). -/
  ownT : Int := 0
  pownT : Tab Int := []
  /-- The Bridle-P island agrees with the XB-2 (R360). -/
  agreed : Bool := false
  /-- The status link of the XB-2 is lost (R358). -/
  linkLost : Bool := false
  /-- Cause STARTUP is held on every group (R395). -/
  startup : Bool := false
deriving DecidableEq, Repr

/-- A CAN frame waiting in an object's shadow or to be sent. -/
structure CanBuf where
  full : Bool := false
  frame : List Byte := []
  dlc : Nat := 0
  esi : Bool := false
  lost : Bool := false
  mism : Bool := false
  stamp : Nat := 0
  sec : Nat := 0
deriving DecidableEq, Repr

/-- A CAN object beside its words (R297–R311). `frozen` is the copy of its words that a lock holds. -/
structure CanObj where
  lock : Option Path := none
  frozen : List Word := []
  shadow : CanBuf := {}
  staging : Tab Byte := []
  txPend : Option (List Byte) := none
  phase : Nat := 0
  lost : Bool := false
  posFirst : Bool := true
  pos : Int := 0
deriving DecidableEq, Repr

/-- A CAN channel (R310, R313) beside its CN_ registers. -/
structure CanCh where
  nsp : Nat := 0x50
  dsp : Nat := 0x4B
  comp : Nat := 0
  queue : List Nat := []
  boffTimes : List Int := []
  storm : Bool := false
  recovering : Bool := false
deriving DecidableEq, Repr

/-- A field string block (R329, R330). -/
structure FsBlock where
  missRun : Nat := 0
  okRun : Nat := 0
  lost : Bool := true
deriving DecidableEq, Repr

/-- A field string (R325). -/
structure FString where
  /-- S_k of the running cycle in network time. -/
  stampSec : Nat := 0
  stampNs : Nat := 0
  epoch : Nat := 0
  blocks : Tab FsBlock := []
deriving DecidableEq, Repr

/-- A session's event record (Table 3.6), and a log entry's body (Table 18.2). -/
structure LogEntry where
  code : Nat
  src : Nat
  arg : Nat
  sec : Nat
  ns : Nat
  pinned : Bool
  overflow : Bool := false
  timeInvalid : Bool := false
  backupTime : Bool := false
  origin : Nat := 0
  incarn : Nat := 0
  lseq : Nat := 0
deriving DecidableEq, Repr

/-- A Strap session (R75–R82). -/
structure Session where
  live : Bool := false
  half : Bool := false
  expert : Bool := false
  ks : List Byte := []
  src : SrcAddr := ⟨0, 0, 0, 0, 0⟩
  head : Nat := 0
  seen : BitVec 64 := 0
  replies : List (Nat × List Byte) := []
  mask : Nat := 0
  queue : List LogEntry := []
  outstanding : Option (List Byte × Nat × Nat) := none
  resent : Nat := 0
  evSeq : Nat := 1
  lost : Bool := false
  age : Nat := 0
deriving DecidableEq, Repr

/-- A key slot of FREC (Table 18.4). -/
structure KeySlot where
  present : Bool := false
  expert : Bool := false
  key : List Byte := []
deriving DecidableEq, Repr

/-- The key slots at delivery (Table 18.4): HK0 holds the factory Expert key, IK the vendor key; neither value is in the manual. -/
def factoryKeys : Tab KeySlot :=
  [(0, { present := true, expert := true, key := (List.range 32).map (Config.factoryByte 0) }), (9, { present := true, key := (List.range 64).map (Config.factoryByte 9) })]

/-- What an access returned: its Strap status (Table 3.4) and data. -/
structure Access where
  status : Nat := 0
  data : List Word := []
deriving DecidableEq, Repr

/-- What leaves the module on a pin, a bus or the wire. -/
inductive Emission where
  | strap (dst : SrcAddr) (frame : List Byte)
  | arp (dst : SrcAddr) (ip : Word)
  | icmp (dst : SrcAddr) (ident seq : Nat) (payload : List Byte)
  | can (ch obj : Nat) (frame : List Byte)
  | latigo (frame : List Byte)
  | ordered (code : Nat)
  | ptp (kind : Nat) (sec ns corr : Nat)
  | announce (vector : List Nat)
  | string (f : Nat) (frame : List Byte)
  | steps (gen : Nat) (count : Int)
  | repeatLevel (q : Nat) (lines : BitVec 3)
  | repeatSteps (q : Nat) (count : Int)
  | repeatZ (q : Nat)
  | excite (port amp : Nat) (zero : Int)
  | serialClock (port div : Nat)
  | fail
deriving DecidableEq, Repr

/-- What a write starts after its reply has left (R85): a reset, a power request, or the reset of the network island. -/
inductive Deferred where
  | reset (kind source : Nat) (clean : Bool)
  | power (target : Nat)
  | network
deriving DecidableEq, Repr

/-- A Strap request in execution: where its reply goes and the key that tags it (none for an untagged reply), CONTINUE, whether the operations left return NOT_RUN, the first status that is not OK, the reply's operations so far, the operations left, and the islands of the first of them whose wake has failed. -/
structure StrapJob where
  sid : Nat
  seq : Nat
  echo : Nat
  cont : Bool
  dst : SrcAddr
  ks : List Byte
  count : Nat
  stop : Bool := false
  first : Nat := 0
  done : List Byte := []
  ops : List StrapOp := []
  down : List Nat := []
deriving DecidableEq, Repr

/-- The pattern loader (R48–R61) beside the PT_ registers. -/
structure Loader where
  cmd : Nat := 0
  setBoot : Bool := false
  /-- Whether a re-lace runs and its target island; the target of a host-requested island reset, which `islReset` says runs. -/
  relace : Bool := false
  target : Nat := 0
  rstTarget : Nat := 0
  /-- The host-requested reset holds the pattern lock; one requested during a full load waits for it (R110). -/
  rstFirst : Bool := false
  handover : Bool := false
  handedOver : Bool := false
  moved : List Nat := []
  ready : Bool := false
  aborted : Bool := false
  islReset : Bool := false
  /-- The image under load: the parsed pattern and its bytes. -/
  image : List Byte := []
  newPat : Pattern := {}
  /-- What the re-lace replaces, for an abandonment (R58). -/
  oldImage : List Byte := []
  oldPat : Pattern := {}
  /-- Digests per island code that VERIFY recorded. -/
  digests : List (Nat × List Byte) := []
  source : Nat := 0
deriving DecidableEq, Repr

/-- The twin logic (R363–R384) beside the TW_ registers. Times are in ns of profile time. -/
structure Twin where
  /-- The partner as its latest heartbeat and training gave it; `seen` is false until its LINK_VER is known. -/
  seen : Bool := false
  partnerLinkVer : Nat := 0
  partnerDigest : Option (List Word) := none
  partnerStuck : Bool := false
  /-- Any signal of the partner has been seen; when the latest BEACON, LEAD_PRESENT or TRAIN was; LEAD_PRESENT was the latest. -/
  partnerSeen : Bool := false
  seenAt : Option Int := none
  /-- R25 gave this module the lead, which waits for its pattern. -/
  won : Bool := false
  /-- When the relink timer expires next, while TW_RELINK.RUNNING. -/
  relinkAt : Int := 0
  /-- Consecutive complete frames of each grid since the snapshots (R380), and the times of the latest resyncs (R383). -/
  snapshots : Bool := false
  /-- Lead: the grids whose SNAPSHOT records are still to leave at their next frame start (R380). -/
  snapOwed : List Nat := []
  complete : Tab Nat := []
  resyncTimes : List Int := []
  /-- A record has been lost since the last resync (R382); a frame whose resend is awaited. -/
  recLost : Bool := false
  nak : Option Word := none
  /-- Lead: the release instant of a planned handover, HANDOVER_SEEN reported for it, and copies still to send. -/
  release : Option Int := none
  handoverSeen : Bool := false
  copies : Nat := 0
  /-- FIRST_SEQ of the HANDOVER record whose copies this Lead sends. -/
  firstSeq : Nat := 0
  /-- The records gathered for the next link tick, by their row of Table 15.2 and their fields, oldest first; the next of them carries a poison mark (Table 5.2); and the frames of the latest ticks by SEQ, newest first, each kept for one resend (R366, R382). -/
  txq : List (Nat × List Nat) := []
  txPoison : Bool := false
  sent : List (Nat × List Byte) := []
  /-- Standby: FIRST_SEQ of the HANDOVER record acted on. -/
  handover : Option Word := none
  /-- A loss awaits the release of the partner's OWN lines; a cold takeover awaits the end of a re-lace. -/
  lossPend : Bool := false
  coldPend : Bool := false
  /-- A takeover runs; its event; the first frame start has been driven. -/
  takeover : Bool := false
  takeoverAt : Int := 0
  driven : Bool := true
  /-- Profile time until which ports suppress the errors of R239. -/
  suppressTo : Int := 0
  /-- FAIL as this module drives it, and as it reads the partner's. -/
  failOut : Bool := false
  failIn : Bool := false
  incarnBad : Bool := false
  /-- Lane and port faults of the Lead, as CHANGE and SNAPSHOT records gave them, and its outputs of R325. -/
  leadPorts : Tab Nat := []
deriving DecidableEq, Repr

/-- The power logic (R388–R409) beside the PW_ registers; PW_STAT holds the state, the active and the pending target. -/
structure Power where
  /-- The isolation clamps are engaged (R397). -/
  clamps : Bool := false
  /-- The module supply is within its range; the cell is present. -/
  supply : Bool := true
  cell : Bool := true
  /-- PHY_RSTk_N is released (R478). -/
  phy : BitVec 2 := 0
  /-- The mask of AR_RETAIN in force when the running or latest Deep Sleep entry began (R120). -/
  retain : Nat := 0
  /-- Groups that have not left STO since a wake from Sleep or deeper (R260). -/
  woke : Nat := 0
  /-- What the scrubber's pass of a wake from Deep Sleep finds in the retained banks (R123): the wake's end takes it up. -/
  scrub : List EccFault := []
deriving DecidableEq, Repr

/-- The reset conditioner and the module reset (R410–R424); `warmPend` is the source of a warm reset that waits for a takeover (R412), 0 none. -/
structure ResetSt where
  held : Bool := false
  kind : Nat := 0
  source : Nat := 0
  clean : Bool := false
  cleanNext : Bool := false
  buttonHold : Bool := false
  pinHold : Bool := false
  unseat : Bool := false
  supply : Bool := false
  retries : Nat := 0
  startFail : Bool := false
  warmPend : Nat := 0
  sources : List Nat := []
deriving DecidableEq, Repr

/-- A sensor point of Table 18.1 (R427). -/
structure Point where
  fails : Nat := 0
  good : Nat := 0
  same : Nat := 0
  raw : Int := 0
  seen : Bool := false
  /-- Values of the row's other points when this one's identical reads began; one of them has moved by 2 K since. -/
  marks : List (Nat × Int) := []
  moved : Bool := false
deriving DecidableEq, Repr

/-- Saddler (R426–R449) beside the MG_ registers. The log regions of flash are held as entries. -/
structure Saddler where
  points : Tab Point := []
  lseq : Nat := 0
  qRing : List LogEntry := []
  qPin : List LogEntry := []
  dropped : Nat := 0
  ring : List LogEntry := []
  pins : List LogEntry := []
  written : Nat := 0
  wear : Nat := 0
  pinErasing : Bool := false
  lostAtFail : Nat := 0
  readReq : Option (Bool × Nat) := none
  locate : Bool := false
  /-- The image sequence: the path that owns it, a bank that VERIFY passed, and a trial with its bank and progress: 0 activated, 1 started, 2 too late (R445–R447). -/
  imgOwner : Option Path := none
  imgVerified : Bool := false
  imgTrial : Bool := false
  imgTrialBank : Bool := false
  imgTrialBoots : Nat := 0
  /-- Banks that the boot code gave up, until Yarrow runs and reports them (R444, R447). -/
  fallbacks : List Nat := []
  keyWindow : Tab Word := []
  keyPend : Option (Nat × KeySlot × Bool) := none
  accessLogged : Tab Nat := []
  badTag : List (Nat × Nat) := []
  eccLogged : List Nat := []
deriving DecidableEq, Repr

/-- What a request of a bank lock is told (R133). -/
inductive LockAnswer where
  | granted | waits | lockOrder
deriving DecidableEq, Repr

/-- Arbiter of a bank (R125–R134) beside the AR_ registers. -/
structure Bank where
  holder : Option Xfer := none
  waiting : List Xfer := []
  last : Nat := 0
  /-- Lost decisions of each requester since its last grant, and whether it has signalled. -/
  lost : Tab Nat := []
  told : Tab Bool := []
  lock : Option Nat := none
  lockWait : List Nat := []
  /-- Addresses in the write-back queue, and corrections of each address in the running scrub period. -/
  wb : List Nat := []
  corr : Tab Nat := []
deriving DecidableEq, Repr

/-- A crossing (R94–R100). -/
structure Crossing where
  /-- A delivery has left and its acknowledge has not returned. -/
  trip : Bool := false
  /-- Pulse: the sending side's PENDING and MERGED, and the MERGED that the latest delivery carried to the receiver. -/
  pending : Bool := false
  merged : Bool := false
  carried : Bool := false
  /-- Level: the state that the latest delivery carries, and a newer one that waits for its acknowledge. -/
  held : Nat := 0
  next : Option Nat := none
  /-- Counted: increments that no delivery has taken. -/
  delta : Nat := 0
  /-- Word: the words sent and not yet read, oldest first. The first `Config.crossDepth` of them stand in the queue, the others wait at the sender. The pointers count the words that entered and left since both were zero. -/
  words : List Word := []
  wr : Nat := 0
  rd : Nat := 0
deriving DecidableEq, Repr

/-- A change of SRAM that a command makes, in order. -/
inductive MemOp where
  | bytes (addr : Nat) (bs : List Byte)
  | clear (bank : Nat)
  | poison (addr : Nat)
deriving DecidableEq, Repr

/-- The SRAM (R118, R124): its bytes in canonical form, an unlisted address reading as zero (R121), and the addresses of its poisoned words. -/
structure Ram where
  mem : List Host.Cell := []
  poison : List Nat := []
deriving DecidableEq, Repr

/-- Everything the spec gives the module but the SRAM and the queue. -/
structure Core where
  /-- The register file: instance × 512 + number of the register; unlisted reads its reset value. -/
  regs : Tab Word := []
  pat : Pattern := {}
  prof : Tab Profile := []
  igs : Tab IgPath := []
  steps : Tab StepGen := []
  loops : Tab Loop := []
  snaps : Tab Snap := []
  ctxs : Tab Context := []
  ests : Tab Estim := []
  lanes : Tab Lane := []
  ports : Tab Port := []
  reps : Tab Repeat := []
  time : Time := {}
  backSec : Nat := 0
  backSub : Nat := 0
  /-- What has passed of the backup oscillator's running period, in 1/125,000,000 of it. -/
  backPhase : Nat := 0
  backKept : Bool := true
  dirIn : Tab DirIn := []
  rings : Tab Ring := []
  query : Option Query := none
  grids : Tab Grid := []
  engines : Tab Engine := []
  sched : Sched := {}
  bridle : Bridle := {}
  /-- Causes 7–11 that Bridle-P keeps in the backup domain, per group (R421). -/
  latchRec : Tab Nat := []
  /-- The incarnation as FREC holds it (R364, R424). -/
  frecIncarn : Word := 0
  canObjs : Tab CanObj := []
  canChs : Tab CanCh := []
  strings : Tab FString := []
  /-- Island states by code (Table 4.5). -/
  isl : Tab Nat := []
  woken : Tab Nat := []
  crossings : Tab Crossing := []
  banks : Tab Bank := []
  loader : Loader := {}
  twin : Twin := {}
  power : Power := {}
  rst : ResetSt := {}
  sad : Saddler := {}
  sessions : Tab Session := []
  sessAge : Nat := 0
  /-- Writable 64-bit quantities: pending low words by path and address; held high words by path (R4). -/
  pendLow : List (Path × Nat × Word) := []
  hold : List (Path × List (Nat × Word)) := []
  /-- Accesses stalled on an island by wake-on-access (R104). -/
  stalls : List (Path × Nat × Option Word) := []
  /-- A Strap request that waits for an island to wake, and the requests that wait behind it. -/
  strapWait : Option StrapJob := none
  strapQ : List (StrapHdr × List StrapOp) := []
  wdHeld : Option Nat := none
  patFlash : Tab (List Byte) := []
  imgFlash : Tab (List Byte) := []
  keys : Tab KeySlot := factoryKeys
  /-- Sense pins: 1 is grounded. -/
  pos0 : Bool := true
  pos1 : Bool := false
  /-- EN_IPV4 has been written, so that it no longer reads its factory value (R90); the Strap ports and the VLAN identifier (0 untagged) in force since the last module reset. -/
  ipSet : Bool := false
  livePorts : Nat := 3
  liveVlan : Nat := 0
  /-- The IPv4 address in force since the last module reset; 0 before the first (R90). -/
  ipLive : Word := 0
  /-- Addresses whose access the running command finds without an acknowledge (Table 3.4). -/
  silent : List Nat := []
  /-- What the latest request of a bank lock was told: requester, bank and answer (R133). -/
  lockAns : Option (Nat × Nat × LockAnswer) := none
  /-- What starts once the reply has left (R85). -/
  deferred : Option Deferred := none
  /-- Changes of SRAM the running command makes. -/
  memq : List MemOp := []
  /-- MODEL FIELDS: the count of free values taken, the latest access's result, and what left the module, oldest first. -/
  freeIdx : Nat := 0
  acc : Access := {}
  out : List Emission := []
deriving DecidableEq, Repr

/-- The module and the commands that wait, first in first out. -/
structure State where
  core : Core := {}
  ram : Ram := {}
  pending : List Instr := []
deriving DecidableEq, Repr

/-- Why a step stops. -/
inductive Fault where
  /-- Raised by a command that names an instance the part does not have (a slot above 127, a bank above 15): the table's operand is outside its range. Safe: no such command exists. -/
  | noSuch (what : String) (index : Nat)
deriving DecidableEq, Repr

/-- Why a command has no meaning. -/
inductive Refusal where
  /-- Raised by the arm of a command that has no meaning yet. Safe: the model says nothing. -/
  | notModelled (mnemonic : String)
deriving DecidableEq, Repr

/-- The module right after reset: every register at its reset value, memory clear, nothing loaded, no command waiting. -/
def State.reset : State := {}

end Sys2Proof.Machine
end

