-- ==== Sys2Proof/Machine/Ops.lean ====
section
/-! DEFINITION. The named operations over the register file, the SRAM, the tables of instances, the log and host events, and the shapes of a command's outcome. -/
namespace Sys2Proof.Machine

/-! ### Registers -/

/-- The reset value of an instance of a register. -/
def Reg.resetAt (r : Reg) (i : Nat) : Word := BitVec.ofNat 32 (r.resets.getD i r.reset)
/-- The place of an instance in the register file. -/
def Reg.key (r : Reg) (i : Nat) : Nat := i * 512 + r.id
/-- The stored word of a register. -/
def Core.reg (c : Core) (r : Reg) (i : Nat) : Word := Tab.get (r.resetAt i) c.regs (r.key i)
/-- Stores a word in a register. -/
def Core.setReg (c : Core) (r : Reg) (i : Nat) (w : Word) : Core := { c with regs := Tab.set (r.resetAt i) c.regs (r.key i) w }
/-- A bit mask of `width` ones at `lsb`. -/
def maskAt (lsb width : Nat) : Word := BitVec.ofNat 32 ((2 ^ width - 1) * 2 ^ lsb)
/-- A field's value in a word. -/
def Fld.read (f : Fld) (w : Word) : Nat := w.toNat / 2 ^ f.lsb % 2 ^ f.width
/-- A word with a field replaced; the value is taken modulo the field's width. -/
def Fld.write (f : Fld) (w : Word) (v : Nat) : Word :=
  (w &&& ~~~maskAt f.lsb f.width) ||| BitVec.ofNat 32 (v % 2 ^ f.width * 2 ^ f.lsb)
/-- A field of a register. -/
def Core.get (c : Core) (f : Fld) (i : Nat) : Nat := f.read (c.reg f.reg i)
/-- Sets a field of a register. -/
def Core.set (c : Core) (f : Fld) (i : Nat) (v : Nat) : Core := c.setReg f.reg i (f.write (c.reg f.reg i) v)
/-- A one-bit field as a Bool. -/
def Core.bit (c : Core) (f : Fld) (i : Nat) : Bool := c.get f i == 1
/-- Sets a one-bit field. -/
def Core.setBit (c : Core) (f : Fld) (i : Nat) (b : Bool) : Core := c.set f i (if b then 1 else 0)
/-- Adds to a saturating counter field (R452). -/
def Core.addSat (c : Core) (f : Fld) (i n : Nat) : Core := c.set f i (Min.min (c.get f i + n) (2 ^ f.width - 1))
/-- Adds to a wrapping counter field. -/
def Core.addWrap (c : Core) (f : Fld) (i n : Nat) : Core := c.set f i (c.get f i + n)
/-- A 64-bit signed quantity held in two registers. -/
def Core.get64 (c : Core) (lo hi : Reg) (i : Nat) : Int := (c.reg hi i ++ c.reg lo i : BitVec 64).toInt
/-- Stores a 64-bit signed quantity in two registers. -/
def Core.set64 (c : Core) (lo hi : Reg) (i : Nat) (v : Int) : Core :=
  let w := BitVec.ofInt 64 v
  (c.setReg lo i (w.extractLsb' 0 32)).setReg hi i (w.extractLsb' 32 32)
/-- A bit of a bit-array register of one bit per index. -/
def Core.maskBit (c : Core) (f : Fld) (i n : Nat) : Bool := (c.get f i).testBit n

/-! ### Lists -/

/-- Applies a function along a list of indices. -/
def foldN {α : Type} (l : List Nat) (a : α) (f : α → Nat → α) : α := l.foldl f a
/-- The bits set in the low `n` bits of a number, ascending. -/
def bitsOf (n m : Nat) : List Nat := (List.range n).filter (fun i => m.testBit i)
/-- The number with the bits of a list set. -/
def ofBits (l : List Nat) : Nat := l.foldl (fun a i => a ||| 2 ^ i) 0

/-! ### SRAM -/

/-- A byte of SRAM; an unlisted address reads zero (R121). -/
def Ram.byte (r : Ram) (a : Nat) : Byte := Tab.get 0 r.mem a
/-- The word's address is poisoned (R124). -/
def Ram.poisoned (r : Ram) (a : Nat) : Bool := r.poison.contains (a / 4 * 4)
/-- A word of SRAM as a reader gets it: a poisoned word reads 0 (R124). -/
def Ram.word (r : Ram) (a : Nat) : Word :=
  if r.poisoned a then 0
  else r.byte (a + 3) ++ r.byte (a + 2) ++ r.byte (a + 1) ++ r.byte a
/-- A run of bytes as a reader gets it. -/
def Ram.bytes (r : Ram) (a n : Nat) : List Byte :=
  (List.range n).map (fun i => if r.poisoned (a + i) then 0 else r.byte (a + i))
/-- Stores bytes from an address upward; a written word is no longer poisoned. -/
def Ram.write (r : Ram) (a : Nat) : List Byte → Ram
  | [] => r
  | b :: bs => Ram.write { r with mem := Tab.set 0 r.mem a b, poison := r.poison.filter (· ≠ a / 4 * 4) } (a + 1) bs
/-- Clears a bank with valid check bits (R121). -/
def Ram.clear (r : Ram) (bank : Nat) : Ram :=
  { mem := r.mem.filter (fun e => e.1 / 0x400000 ≠ bank), poison := r.poison.filter (fun a => a / 0x400000 ≠ bank) }
/-- Poisons the word around an address. -/
def Ram.doPoison (r : Ram) (a : Nat) : Ram :=
  if r.poison.contains (a / 4 * 4) then r else { r with poison := r.poison ++ [a / 4 * 4] }
/-- One change of SRAM. -/
def Ram.apply1 (r : Ram) : MemOp → Ram
  | .bytes a bs => r.write a bs
  | .clear b => r.clear b
  | .poison a => r.doPoison a
/-- Changes of SRAM in order. -/
def Ram.apply (r : Ram) (ops : List MemOp) : Ram := ops.foldl Ram.apply1 r
/-- The canonical form of the SRAM. -/
def Memory.wf (m : List Host.Cell) : Bool := Tab.wf 0 m
/-- The SRAM as the running command sees it, its own changes made. -/
def Core.view (c : Core) (r : Ram) : Ram := r.apply c.memq
/-- Queues a store of bytes. -/
def Core.store (c : Core) (a : Nat) (bs : List Byte) : Core := { c with memq := c.memq ++ [.bytes a bs] }
/-- Queues the clearing of a bank. -/
def Core.clearBank (c : Core) (b : Nat) : Core := { c with memq := c.memq ++ [.clear b] }

/-! ### Outcomes -/

/-- A command that changes nothing in SRAM. -/
def onCore (s : State) (f : Core → Core) : Host.Outcome State Fault Refusal := .next { s with core := f s.core }
/-- A command that may change SRAM: its changes are made in order. -/
def onMem (s : State) (f : Ram → Core → Core) : Host.Outcome State Fault Refusal :=
  let c := f s.ram s.core
  .next { s with core := { c with memq := [] }, ram := s.ram.apply c.memq }
/-- A command on an instance below a bound; another index names no instance of the part. -/
def inRange (what : String) (i n : Nat) (o : Host.Outcome State Fault Refusal) : Host.Outcome State Fault Refusal :=
  if i < n then o else .fault (.noSuch what i)

/-! ### Free values and emissions -/

/-- Takes a fresh free word. -/
def Core.fresh (c : Core) : Word × Core := (Config.freeWord c.freeIdx, { c with freeIdx := c.freeIdx + 1 })
/-- Appends what leaves the module. -/
def Core.emit (c : Core) (e : Emission) : Core := { c with out := c.out ++ [e] }
/-- Records what an access returned. -/
def Core.answer (c : Core) (status : Nat) (data : List Word) : Core := { c with acc := { status := status, data := data } }

/-! ### Tables of instances -/
/-- The Profile of an index. -/
def Core.profAt (c : Core) (i : Nat) : Profile := Tab.get {} c.prof i
/-- Stores the Profile of an index. -/
def Core.setProf (c : Core) (i : Nat) (v : Profile) : Core := { c with prof := Tab.set {} c.prof i v }
/-- The IgPath of an index. -/
def Core.igAt (c : Core) (i : Nat) : IgPath := Tab.get {} c.igs i
/-- Stores the IgPath of an index. -/
def Core.setIg (c : Core) (i : Nat) (v : IgPath) : Core := { c with igs := Tab.set {} c.igs i v }
/-- The StepGen of an index. -/
def Core.stepAt (c : Core) (i : Nat) : StepGen := Tab.get {} c.steps i
/-- Stores the StepGen of an index. -/
def Core.setStep (c : Core) (i : Nat) (v : StepGen) : Core := { c with steps := Tab.set {} c.steps i v }
/-- The Loop of an index. -/
def Core.loopAt (c : Core) (i : Nat) : Loop := Tab.get {} c.loops i
/-- Stores the Loop of an index. -/
def Core.setLoop (c : Core) (i : Nat) (v : Loop) : Core := { c with loops := Tab.set {} c.loops i v }
/-- The Snap of an index. -/
def Core.snapAt (c : Core) (i : Nat) : Snap := Tab.get {} c.snaps i
/-- Stores the Snap of an index. -/
def Core.setSnap (c : Core) (i : Nat) (v : Snap) : Core := { c with snaps := Tab.set {} c.snaps i v }
/-- The Context of an index. -/
def Core.ctxAt (c : Core) (i : Nat) : Context := Tab.get {} c.ctxs i
/-- Stores the Context of an index. -/
def Core.setCtx (c : Core) (i : Nat) (v : Context) : Core := { c with ctxs := Tab.set {} c.ctxs i v }
/-- The Estim of an index. -/
def Core.estAt (c : Core) (i : Nat) : Estim := Tab.get {} c.ests i
/-- Stores the Estim of an index. -/
def Core.setEst (c : Core) (i : Nat) (v : Estim) : Core := { c with ests := Tab.set {} c.ests i v }
/-- The Lane of an index. -/
def Core.laneAt (c : Core) (i : Nat) : Lane := Tab.get {} c.lanes i
/-- Stores the Lane of an index. -/
def Core.setLane (c : Core) (i : Nat) (v : Lane) : Core := { c with lanes := Tab.set {} c.lanes i v }
/-- The Port of an index. -/
def Core.portAt (c : Core) (i : Nat) : Port := Tab.get {} c.ports i
/-- Stores the Port of an index. -/
def Core.setPort (c : Core) (i : Nat) (v : Port) : Core := { c with ports := Tab.set {} c.ports i v }
/-- The Repeat of an index. -/
def Core.repAt (c : Core) (i : Nat) : Repeat := Tab.get {} c.reps i
/-- Stores the Repeat of an index. -/
def Core.setRep (c : Core) (i : Nat) (v : Repeat) : Core := { c with reps := Tab.set {} c.reps i v }
/-- The DirIn of an index. -/
def Core.diAt (c : Core) (i : Nat) : DirIn := Tab.get {} c.dirIn i
/-- Stores the DirIn of an index. -/
def Core.setDi (c : Core) (i : Nat) (v : DirIn) : Core := { c with dirIn := Tab.set {} c.dirIn i v }
/-- The Ring of an index. -/
def Core.ringAt (c : Core) (i : Nat) : Ring := Tab.get {} c.rings i
/-- Stores the Ring of an index. -/
def Core.setRing (c : Core) (i : Nat) (v : Ring) : Core := { c with rings := Tab.set {} c.rings i v }
/-- The Grid of an index. -/
def Core.gridAt (c : Core) (i : Nat) : Grid := Tab.get {} c.grids i
/-- Stores the Grid of an index. -/
def Core.setGrid (c : Core) (i : Nat) (v : Grid) : Core := { c with grids := Tab.set {} c.grids i v }
/-- The Engine of an index. -/
def Core.engAt (c : Core) (i : Nat) : Engine := Tab.get {} c.engines i
/-- Stores the Engine of an index. -/
def Core.setEng (c : Core) (i : Nat) (v : Engine) : Core := { c with engines := Tab.set {} c.engines i v }
/-- The CanObj of an index. -/
def Core.canObjAt (c : Core) (i : Nat) : CanObj := Tab.get {} c.canObjs i
/-- Stores the CanObj of an index. -/
def Core.setCanObj (c : Core) (i : Nat) (v : CanObj) : Core := { c with canObjs := Tab.set {} c.canObjs i v }
/-- The CanCh of an index. -/
def Core.canChAt (c : Core) (i : Nat) : CanCh := Tab.get {} c.canChs i
/-- Stores the CanCh of an index. -/
def Core.setCanCh (c : Core) (i : Nat) (v : CanCh) : Core := { c with canChs := Tab.set {} c.canChs i v }
/-- The FString of an index. -/
def Core.strAt (c : Core) (i : Nat) : FString := Tab.get {} c.strings i
/-- Stores the FString of an index. -/
def Core.setStr (c : Core) (i : Nat) (v : FString) : Core := { c with strings := Tab.set {} c.strings i v }
/-- The Crossing of an index. -/
def Core.crossAt (c : Core) (i : Nat) : Crossing := Tab.get {} c.crossings i
/-- Stores the Crossing of an index. -/
def Core.setCross (c : Core) (i : Nat) (v : Crossing) : Core := { c with crossings := Tab.set {} c.crossings i v }
/-- The Bank of an index. -/
def Core.bankAt (c : Core) (i : Nat) : Bank := Tab.get {} c.banks i
/-- Stores the Bank of an index. -/
def Core.setBank (c : Core) (i : Nat) (v : Bank) : Core := { c with banks := Tab.set {} c.banks i v }
/-- The Session of an index. -/
def Core.sessAt (c : Core) (i : Nat) : Session := Tab.get {} c.sessions i
/-- Stores the Session of an index. -/
def Core.setSess (c : Core) (i : Nat) (v : Session) : Core := { c with sessions := Tab.set {} c.sessions i v }
/-- The KeySlot of an index. -/
def Core.keyAt (c : Core) (i : Nat) : KeySlot := Tab.get {} c.keys i
/-- Stores the KeySlot of an index. -/
def Core.setKey (c : Core) (i : Nat) (v : KeySlot) : Core := { c with keys := Tab.set {} c.keys i v }
/-- The Bridle state of a lane group. -/
def Core.bg (c : Core) (g : Nat) : BGroup := Tab.get {} c.bridle.grp g
/-- Stores the Bridle state of a lane group. -/
def Core.setBg (c : Core) (g : Nat) (v : BGroup) : Core := { c with bridle := { c.bridle with grp := Tab.set {} c.bridle.grp g v } }

/-! ### Time -/

/-- Network time in ns (R247). -/
def Core.netNs (c : Core) : Int := (c.time.sec : Int) * 1000000000 + c.time.ns
/-- Profile time in ns: network time less every step (R139). -/
def Core.profNs (c : Core) : Int := c.netNs - c.time.stepSum
/-- The stamp of now. -/
def Core.stampNow (c : Core) (rising : Bool) : Stamp := { sec := c.time.sec, ns := c.time.ns, rising := rising, epoch := c.get F.NT_STAT_EPOCH 0 }
/-- A stamp in ns of network time. -/
def Stamp.toNs (s : Stamp) : Int := (s.sec : Int) * 1000000000 + s.ns

/-! ### Crossings (R94–R98) -/

/-- A kind's number in a crossing's key. -/
def kindCode : CrossKind → Nat
  | .level => 0
  | .pulse => 1
  | .counted => 2
  | .word => 3
/-- The index of a crossing. -/
def crossKey (x : CrossId) : Nat := ((x.line * 256 + x.src) * 256 + x.dst) * 4 + kindCode x.kind
/-- A new state on a level crossing (R94, R95): it leaves at once, or waits at the sender until the former one is acknowledged. -/
def Crossing.level (x : Crossing) (v : Nat) : Crossing :=
  if x.trip then { x with next := some v } else if v = x.held then x else { x with held := v, trip := true }
/-- Sends a state over a level crossing. -/
def Core.sendLevel (c : Core) (src dst line v : Nat) : Core :=
  if src = dst then c else
  let k := crossKey ⟨src, dst, .level, line⟩
  c.setCross k ((c.crossAt k).level v)
/-- The lines of the level crossings of Table 4.3: an island's state, a group's STO and SS1 state, the claims, the requested power state. -/
def lineIsland : Nat := 0
/-- A group's STO and SS1 state, from Bridle-P to the lane island. -/
def lineStop : Nat := 1
/-- The claims, from the application island to Bridle-P. -/
def lineClaim : Nat := 2
/-- The requested power state, from the application island to Saddler. -/
def linePower : Nat := 3
/-- The line of a pulse or counted crossing that feeds a field of a register. -/
def Fld.line (f : Fld) (i : Nat) : Nat := f.reg.key i * 1024 + f.lsb * 32 + f.width

/-! ### Islands -/

/-- The state of an island (Table 4.5); codes no island carries read NONE. -/
def Core.islState (c : Core) (code : Nat) : Nat := if code ≤ 0x29 then Tab.get 0 c.isl code else 0xF
/-- Sets an island's state, which it reports to the network island (R94, R101). -/
def Core.setIsl (c : Core) (code v : Nat) : Core := { c with isl := Tab.set 0 c.isl code v }.sendLevel code 0x23 lineIsland v
/-- The island runs. -/
def Core.runs (c : Core) (code : Nat) : Bool := c.islState code == 0
/-- A slot occupies an engine context (R19): lane-bound and CAN slots. -/
def Core.hasContext (c : Core) (k : Nat) : Bool := (c.pat.slot k).cls != 0
/-- The engine whose context list holds a slot; a slot without a place keeps the one that AX_STAT.ENGINE names. -/
def Core.hostEngine (c : Core) (k : Nat) : Nat := match c.engines.find? (fun e => e.2.ctx.contains k) with | some e => e.1 | none => c.get F.AX_STAT_ENGINE k
/-- The island that holds an instance of a register (Table 3.1). -/
def Core.holder (c : Core) (r : Reg) (i : Nat) : Nat :=
  match r.hold with
  | .isl n => n
  | .stitch => i
  | .hosting => if c.hasContext i then c.hostEngine i else 0x21
  | .lane => 0x10 + laneGroup i
  | .group => 0x10 + i
/-- The lane group of a lane-bound slot. -/
def Core.slotGroup (c : Core) (k : Nat) : Option Nat :=
  let r := c.pat.slot k
  if r.kind = 1 then some (laneGroup r.res) else none
/-- The slots the pattern uses, ascending. -/
def Core.usedSlots (c : Core) : List Nat := c.pat.slots.filterMap (fun e => if e.2.kind ≠ 0 then some e.1 else none)
/-- The slots bound to lanes of a group. -/
def Core.groupSlots (c : Core) (g : Nat) : List Nat := c.usedSlots.filter (fun k => c.slotGroup k == some g)
/-- The slot bound to a lane. -/
def Core.laneSlot (c : Core) (lane : Nat) : Option Nat := c.usedSlots.find? (fun k => (c.pat.slot k).kind == 1 && (c.pat.slot k).res == lane)
/-- The frame period code of a slot with a context (R20). -/
def Core.slotPeriod (c : Core) (k : Nat) : Nat :=
  match c.slotGroup k with
  | some g => (c.pat.group g).period
  | none => (c.pat.slot k).period
/-- Sets a group's STO and SS1 state, which Bridle-P sends to the lane island over a level crossing (R94). -/
def Core.setGrp (c : Core) (g v : Nat) : Core := (c.set F.SF_GRP_STATE g v).sendLevel 0x27 (0x10 + g) lineStop v
/-- A group is in STO. -/
def Core.inSto (c : Core) (g : Nat) : Bool := c.get F.SF_GRP_STATE g == 2
/-- All 16 lane groups are in STO. -/
def Core.allSto (c : Core) : Bool := (List.range 16).all c.inSto
/-- A slot's lane group is in STO; a slot of no group is not. -/
def Core.slotSto (c : Core) (k : Nat) : Bool := match c.slotGroup k with | some g => c.inSto g | none => false

/-! ### Context places (R119) -/

/-- Where a slot's context lies in banks 8–11 (R119): the place of its home engine, the one of its SLOT record, under its index in that engine's ENGINE record. A placement moves no context data (R282). -/
def Core.ctxPlace (c : Core) (k : Nat) : Option Nat :=
  let e := (c.pat.slot k).island
  if e < 16 then ((c.pat.engine e).ctx.findIdx? (· == k)).map (fun q => (8 + e / 4) * 0x400000 + e % 4 * 0x10000 + 0x1000 * q) else none
/-- The address of a copy of a slot's state: A first, then B, 2 KiB each. -/
def Core.ctxCopy (c : Core) (k : Nat) (b : Bool) : Option Nat := (c.ctxPlace k).map (fun a => if b then a + 0x800 else a)
/-- The copy that an engine reads in a frame: the start-of-frame snapshot, which re-homing restores. -/
def Core.readCopy (c : Core) (k : Nat) : Option Nat := c.ctxCopy k (c.ctxAt k).copyB
/-- The copy that it writes. -/
def Core.writeCopy (c : Core) (k : Nat) : Option Nat := c.ctxCopy k (!(c.ctxAt k).copyB)
/-- The slot whose place holds an address of banks 8–11, if the pattern gives it one. -/
def Core.placeSlot (c : Core) (a : Nat) : Option Nat := c.usedSlots.find? (fun k => (c.ctxPlace k).any (fun p => decide (p ≤ a) && decide (a < p + 0x1000)))

/-! ### Roles -/

/-- The module is Lead. -/
def Core.isLead (c : Core) : Bool := c.get F.TW_ROLE_ROLE 0 == 1
/-- The module is Standby. -/
def Core.isStandby (c : Core) : Bool := c.get F.TW_ROLE_ROLE 0 == 2
/-- The link's state (TW_ROLE.LINK). -/
def Core.link (c : Core) : Nat := c.get F.TW_ROLE_LINK 0
/-- The link is trained: image, resync or up. -/
def Core.trained (c : Core) : Bool := 4 ≤ c.link && c.link ≤ 6
/-- Gathers a record, by its row of Table 15.2, for the next link tick (R366). -/
def Core.latigo (c : Core) (kind : Nat) (body : List Nat) : Core := { c with twin := { c.twin with txq := c.twin.txq ++ [(kind, body)] } }
/-- What was gathered or kept for a resend goes with the link. -/
def Core.dropRecords (c : Core) : Core := { c with twin := { c.twin with txq := [], txPoison := false, sent := [] } }
/-- Gathers a record of the Lead on a trained link. -/
def Core.mirror (c : Core) (kind : Nat) (body : List Nat) : Core := if c.isLead && c.trained then c.latigo kind body else c
/-- The CHANGE record of a state event (R369): 1 a lane fault, 2 a port fault, with its index and its cause, 0 for the clear. -/
def Core.mirrorEvent (c : Core) (what index cause : Nat) : Core := c.mirror 5 [what, index, cause]
/-- A READY Standby exists: on a Lead, its partner reports READY. -/
def Core.readyPartner (c : Core) : Bool := c.bit F.TW_ROLE_PARTNER_READY 0
/-- The module drives a lane group (R22). -/
def Core.drives (c : Core) (g : Nat) : Bool := c.bridle.own.getLsbD g && !c.bridle.pown.getLsbD g

/-- GEN_A of a group as this module drives it: high-impedance, so read inactive, where R22 does not let it drive. -/
def Core.genAOut (c : Core) (g : Nat) : Bool := (c.bg g).genA && c.drives g

/-! ### The log and host events -/

/-- The codes of Table 18.3 that are pinned. -/
def pinnedCodes : List Nat := [0x0002, 0x0003, 0x0100, 0x0101, 0x0104, 0x0202, 0x0203, 0x0303, 0x0403, 0x0406, 0x0407, 0x0512, 0x0513, 0x0605, 0x0705, 0x0706, 0x0707]
/-- The 16 bytes of an event record (Table 3.6). -/
def LogEntry.record (e : LogEntry) : List Byte :=
  bytesOfNat 2 e.code ++ bytesOfNat 2 e.src ++ bytesOfNat 4 e.arg ++ bytesOfNat 4 e.sec ++ bytesOfNat 4 e.ns
/-- The 32 bytes of a log entry (Table 18.2). -/
def LogEntry.toBytes (e : LogEntry) : List Byte :=
  let b := e.record ++ bytesOfNat 2 (e.sec / 2 ^ 32)
    ++ [BitVec.ofNat 8 ((if e.pinned then 1 else 0) + (if e.overflow then 2 else 0) + (if e.timeInvalid then 4 else 0) + (if e.backupTime then 8 else 0))]
    ++ bytesOfNat 1 e.origin ++ bytesOfNat 4 e.incarn ++ bytesOfNat 4 e.lseq
  b ++ (Crypto.crc32 b).toBytes
/-- The 16-byte Strap frame header (Table 3.2). -/
def strapHeader (kind sid seq len count status flags echo : Nat) : List Byte :=
  bytesOfNat 2 0x5053 ++ bytesOfNat 1 1 ++ bytesOfNat 1 kind ++ bytesOfNat 2 sid ++ bytesOfNat 2 seq ++ bytesOfNat 2 len
    ++ bytesOfNat 1 count ++ bytesOfNat 1 status ++ bytesOfNat 1 flags ++ bytesOfNat 1 0 ++ bytesOfNat 2 echo
/-- A frame with its TAG (R78): 16 bytes of HMAC under the session key. -/
def tagged (ks body : List Byte) : List Byte := body ++ (Crypto.hmac ks body).take 16
/-- Sends the next event frame of a session when none is outstanding (R82). -/
def Core.pump (c : Core) (sid : Nat) : Core :=
  let s := c.sessAt sid
  if !s.live || s.half || s.outstanding.isSome || s.queue.isEmpty then c
  else
    let recs := s.queue.take 32
    let len := 16 + 16 * recs.length + 16
    let body := strapHeader 3 sid s.evSeq len recs.length 0 (if s.lost then 2 else 0) 0 ++ recs.flatMap LogEntry.record
    let frame := tagged s.ks body
    (c.setSess sid { s with queue := s.queue.drop 32, outstanding := some (frame, s.evSeq, recs.length), resent := 0,
                            evSeq := (s.evSeq + 1) % 65536, lost := false }).emit (.strap s.src frame)
/-- Queues an event for a session subscribed to its class (R82). -/
def Core.deliver (c : Core) (e : LogEntry) (sid : Nat) : Core :=
  let s := c.sessAt sid
  if !s.live || s.half || !s.mask.testBit (e.code / 256) then c
  else if s.queue.length ≥ 64 then
    ((c.setSess sid { s with lost := true }).setBit F.EN_STRAP_STAT_EVENT_LOST 0 true).addSat F.EN_EV_DROPPED_COUNT 0 1
  else (c.setSess sid { s with queue := s.queue ++ [e] }).pump sid
/-- Enters a log entry in Saddler's queue with the next LSEQ; an entry that meets a full queue is dropped and counted, and a failed Saddler keeps none (R434, R437, R449). -/
def Core.enqueue (c : Core) (e : LogEntry) : Core :=
  let d := c.sad
  let full := if e.pinned then 64 ≤ d.qPin.length else 1024 ≤ d.qRing.length
  if Tab.get 0 c.isl 0x28 = 5 then c
  else if full then ({ c with sad := { d with dropped := d.dropped + 1 } }.setBit F.MG_HEALTH_LOG_DROPPED 0 true).addSat F.MG_LOG_DROPPED_COUNT 0 1
  else
    let e := { e with lseq := d.lseq }
    let d := { d with lseq := (d.lseq + 1) % 2 ^ 32 }
    { c with sad := if e.pinned then { d with qPin := d.qPin ++ [e] } else { d with qRing := d.qRing ++ [e] } }
/-- Logs an event, raised by an island, and sends it to the sessions subscribed to its class; class 7 is never sent (R434). While the time island is held in reset or gated the stamp comes from the backup counts (Table 18.2). -/
def Core.logFrom (c : Core) (origin code src arg : Nat) : Core :=
  let pin := pinnedCodes.contains code || (code / 256 == 0 && 7 ≤ arg && arg ≤ 13)
  let back := Tab.get 0 c.isl 0x22 == 2 || Tab.get 0 c.isl 0x22 == 3
  let sec := if back then c.backSec else c.time.sec
  let ns := if back then c.backSub * 1000000000 / 32768 else c.time.ns
  let e : LogEntry := { code := code, src := src, arg := arg % 4294967296, sec := sec, ns := ns, pinned := pin, timeInvalid := !c.bit F.NT_STAT_TIME_VALID 0, backupTime := back, origin := origin, incarn := (c.reg R.TW_INCARN 0).toNat }
  let c := c.enqueue e
  if code / 256 ≥ 7 then c else foldN (c.sessions.map (·.1)) c (fun c sid => c.deliver e sid)
/-- Logs an event raised by the application island (Tansy). -/
def Core.log (c : Core) (code src arg : Nat) : Core := c.logFrom 0x25 code src arg
/-- SRC 0xFFFF: the event names no instance. -/
def noSrc : Nat := 0xFFFF

end Sys2Proof.Machine
end

