-- ==== Sys2Proof/Machine/Address.lean ====
section
/-! DEFINITION. The address map (R63, R64, Table 3.1): which register instance an address names, 64-bit pairs (R4), and the fields a write acts on (R5, R7). -/
namespace Sys2Proof.Machine

/-- A register instance. -/
structure Loc where
  reg : Reg
  inst : Nat
deriving DecidableEq, Repr

/-- The instance of a register at an address. -/
def Reg.instAt (r : Reg) (a : Nat) : Option Nat :=
  if a < r.base then none
  else
    let d := a - r.base
    match r.place with
    | .lin 0 => if d = 0 then some 0 else none
    | .lin s => if d % s = 0 && d / s < r.count then some (d / s) else none
    | .canWord _ =>
      let ch := d / 0x10000
      let o := d % 0x10000
      if ch < 4 && o % 0x50 = 0 && o / 0x50 < 512 then some (ch * 512 + o / 0x50) else none
    | .canData =>
      let ch := d / 0x10000
      let o := d % 0x10000
      if ch < 4 && o / 0x50 < 512 && o % 0x50 < 64 && o % 4 = 0 then some ((ch * 512 + o / 0x50) * 16 + o % 0x50 / 4) else none
    | .fieldString => if d / 0x80 < 2 && d % 0x80 % 0x10 = 0 && d % 0x80 / 0x10 < 4 then some (d / 0x80 * 4 + d % 0x80 / 0x10) else none
/-- The register instance that an address names; none where it is unmapped or not aligned (R64). -/
def locAt (a : Nat) : Option Loc :=
  if a % 4 ≠ 0 then none else allRegs.findSome? (fun r => (r.instAt a).map (fun i => ⟨r, i⟩))
/-- The address of a register instance. -/
def Loc.addr (l : Loc) : Nat :=
  match l.reg.place with
  | .lin s => l.reg.base + l.inst * s
  | .canWord _ => l.reg.base + l.inst / 512 * 0x10000 + l.inst % 512 * 0x50
  | .canData => l.reg.base + l.inst / 16 / 512 * 0x10000 + l.inst / 16 % 512 * 0x50 + l.inst % 16 * 4
  | .fieldString => l.reg.base + l.inst / 4 * 0x80 + l.inst % 4 * 0x10
/-- The block of Table 3.1 an address lies in, by its number; SRAM is 0. -/
def blockOf (a : Nat) : Option Nat :=
  if a < 0x04000000 then some 0
  else if a < 0x40000000 then none
  else
    let n := a / 0x10000 - 0x4000
    if n ≤ 4 then some (n + 1)
    else if n = 8 then some 6
    else if n = 0x10 && a % 0x10000 < 0x8000 then some 7
    else if n = 0x20 && a % 0x10000 < 0x6000 then some 8
    else if n = 0x21 then some 9
    else if n = 0x30 && a % 0x10000 < 0x2000 then some 10
    else if n = 0x40 then some 11
    else if n = 0x50 then some 12
    else if 0x60 ≤ n && n ≤ 0x63 then some 13
    else if n = 0x70 then some 14
    else if n = 0x80 then some 15
    else if n = 0x90 then some 16
    else if n = 0xA0 then some 17
    else if n = 0xB0 then some 18
    else if n = 0xC0 then some 19
    else none
/-- The blocks a preload may name (R43): AX_, LN_, LG_, FB_, IG_, GR_, SP_, NT_, CP_, CN_, FI_, ST_, BS_, AR_, TW_. -/
def preloadBlock (b : Nat) : Bool := [4, 5, 6, 7, 8, 9, 10, 11, 12, 13, 15, 17].contains b

/-- The bits of a register's fields with some access codes. -/
def Reg.accMask (r : Reg) (p : FldDesc → Bool) : Word := (r.flds.filter p).foldl (fun m f => m ||| maskAt f.lsb (f.msb + 1 - f.lsb)) 0
/-- A field that a write stores: RW or RWX. -/
def FldDesc.stored (f : FldDesc) : Bool := f.acc = .rw || f.acc = .rwx
/-- A field that a write acts on: WO, W1C or W1S. -/
def FldDesc.acting (f : FldDesc) : Bool := f.acc = .wo || f.acc = .w1c || f.acc = .w1s
/-- The register has a field that a write may store or act on. -/
def Reg.writable (r : Reg) : Bool := r.flds.any (fun f => f.stored || f.acting)
/-- The register has an RW or RWX field. -/
def Reg.preloadable (r : Reg) : Bool := r.flds.any FldDesc.stored
/-- A read-modify-write is allowed: no WO, W1C, W1S or RC field (R71). -/
def Reg.rmwable (r : Reg) : Bool := !r.flds.any (fun f => f.acting || f.acc = .rc)

/-- The low words of 64-bit quantities (R4), each with its high word. -/
def pairs : List (Reg × Reg) :=
  [(R.AX_TARGET_LO, R.AX_TARGET_HI), (R.AX_SOFT_MIN_LO, R.AX_SOFT_MIN_HI), (R.AX_SOFT_MAX_LO, R.AX_SOFT_MAX_HI), (R.PW_ALARM_LO, R.PW_ALARM_HI),
   (R.AX_PPOS_LO, R.AX_PPOS_HI), (R.FB_POS_LO, R.FB_POS_HI), (R.NT_SEC_LO, R.NT_SEC_HI), (R.NT_STEP_SUM_LO, R.NT_STEP_SUM_HI),
   (R.BS_EIN_LO, R.BS_EIN_HI), (R.BS_ESTITCH_LO, R.BS_ESTITCH_HI), (R.CP_Q_POS_LO, R.CP_Q_POS_HI), (R.CP_RES_POS_LO, R.CP_RES_POS_HI)]
/-- The high word of a low word. -/
def highOf (r : Reg) : Option Reg := (pairs.find? (fun p => p.1.id == r.id)).map (·.2)
/-- The low word of a high word. -/
def lowOf (r : Reg) : Option Reg := (pairs.find? (fun p => p.2.id == r.id)).map (·.1)

end Sys2Proof.Machine
end

