-- ==== Sys2Proof/Machine/Crossing.lean ====
section
/-! DEFINITION. What crosses between islands (R94–R100): events and increments, which act at the receiver when a delivery takes them, words in order, the end of a round trip, and the resynchronisation after a reset. -/
namespace Sys2Proof.Machine

/-! ### Events and increments (R96, R97) -/

/-- An event on a pulse crossing (R96): it starts a round trip, or during one sets PENDING, then MERGED. -/
def Crossing.pulse (x : Crossing) : Crossing :=
  if !x.trip then { x with trip := true, carried := false } else if !x.pending then { x with pending := true } else { x with merged := true }
/-- Increments on a counted crossing (R97): they add to the delta; with no round trip outstanding a delivery takes up to 65,535 of it at once. The second part is what the receiver is given. -/
def Crossing.count (x : Crossing) (n : Nat) : Crossing × Nat :=
  let d := x.delta + n
  if x.trip then ({ x with delta := d }, 0) else ({ x with trip := true, delta := d - Min.min d 65535 }, Min.min d 65535)
/-- An event without a field of its own: a frame start, an interrupt or a log request. -/
def Core.sendPulse (c : Core) (src dst line : Nat) : Core :=
  let k := crossKey ⟨src, dst, .pulse, line⟩
  c.setCross k (c.crossAt k).pulse
/-- Sets a flag that another island raises (R94, R96): over a pulse crossing, so that an event during a round trip sets it with the next delivery. -/
def Core.flag (c : Core) (src : Nat) (f : Fld) (i : Nat) : Core :=
  let dst := c.holder f.reg i
  if dst = src then c.setBit f i true
  else
    let k := crossKey ⟨src, dst, .pulse, f.line i⟩
    let x := c.crossAt k
    let c := c.setCross k x.pulse
    if x.trip then c else c.setBit f i true
/-- Adds to a counter that another island feeds (R94, R97): the receiver's counter takes what a delivery carries. -/
def Core.count (c : Core) (src : Nat) (f : Fld) (i n : Nat) : Core :=
  let dst := c.holder f.reg i
  if dst = src then c.addSat f i n
  else
    let k := crossKey ⟨src, dst, .counted, f.line i⟩
    let (x, d) := (c.crossAt k).count n
    (c.setCross k x).addSat f i d
/-- The field that a line feeds, if its register exists. -/
def lineField (line : Nat) : Option (Fld × Nat) := (allRegs[line / 1024 % 512]?).map (fun r => (⟨r, line % 1024 / 32, line % 32⟩, line / 1024 / 512))

/-! ### Words (R98) -/

/-- Words on a word crossing (R98): behind earlier ones, in order. A running receiver reads them all; another leaves them unread. -/
def Crossing.push (x : Crossing) (reads : Bool) (ws : List Word) : Crossing :=
  let all := x.words ++ ws
  if reads then { x with words := [], wr := x.wr + ws.length, rd := x.rd + all.length } else { x with words := all, wr := x.wr + ws.length }
/-- The words that stand in the queue, and those that wait at the sender because it is full. -/
def Crossing.queued (x : Crossing) : List Word := x.words.take (Config.crossDepth + 1)
/-- The words that the sender still holds. -/
def Crossing.heldBack (x : Crossing) : List Word := x.words.drop (Config.crossDepth + 1)
/-- Sends words from an island to another over a word crossing. -/
def Core.sendWords (c : Core) (src dst : Nat) (ws : List Word) : Core :=
  if src = dst || ws.isEmpty then c
  else
    let k := crossKey ⟨src, dst, .word, 0⟩
    c.setCross k ((c.crossAt k).push (c.runs dst) ws)

/-! ### The end of a round trip -/

/-- A round trip ends (R95–R98): a set PENDING, a delta of up to 65,535 or a newer state starts the next delivery, PENDING and MERGED clearing as it leaves with MERGED; a word crossing's receiver has read what stood there. -/
def Crossing.ack (x : Crossing) (k : CrossKind) : Crossing :=
  match k with
  | .level => match x.next with
    | some v => if v = x.held then { x with trip := false, next := none } else { x with held := v, next := none }
    | none => { x with trip := false }
  | .pulse => { x with trip := x.trip && x.pending, carried := x.trip && x.pending && x.merged, pending := false, merged := false }
  | .counted => { x with trip := x.trip && x.delta ≠ 0, delta := if x.trip then x.delta - Min.min x.delta 65535 else x.delta }
  | .word => { x with trip := false, words := [], rd := x.rd + x.words.length }
/-- What the delivery that an acknowledge starts does at the receiver: the flag is set, the counter takes the delta. -/
def Core.deliverNext (c : Core) (x : CrossId) : Core :=
  let q := c.crossAt (crossKey x)
  match lineField x.line with
  | none => c
  | some (f, i) =>
    match x.kind with
    | .pulse => if q.trip && q.pending && x.line ≠ 0 then c.setBit f i true else c
    | .counted => if q.trip then c.addSat f i (Min.min q.delta 65535) else c
    | .level | .word => c

/-! ### Resynchronisation (R99, R100) -/

/-- An island whose crossings are of the either-side class (Table 4.4): stitch, lane, network, Saddler, backup. -/
def eitherIsland (i : Nat) : Bool := i < 0x20 || i = 0x23 || i = 0x28 || i = 0x29
/-- A crossing of the either-side class. -/
def eitherSide (x : CrossId) : Bool := eitherIsland x.src || eitherIsland x.dst
/-- A crossing after its resynchronisation (R100): nothing unsent or unread, no PENDING, MERGED or delta, both pointers zero; a level crossing sends its present state again. -/
def Crossing.resynced (x : Crossing) (k : CrossKind) : Crossing :=
  match k with
  | .level => { held := x.next.getD x.held, trip := true }
  | .pulse | .counted | .word => {}
/-- The surviving side's work for one crossing: what it discards is counted in SYS_XDROP. `more` are words on their way that the queue does not show. -/
def Core.resync (c : Core) (x : CrossId) (more : Nat) : Core :=
  if !eitherSide x then c
  else
    let q := c.crossAt (crossKey x)
    let c := c.setCross (crossKey x) (q.resynced x.kind)
    let c := if x.kind = .word then c.addSat F.SYS_XDROP_WORDS 0 (q.words.length + more) else c
    if x.kind = .counted && q.delta ≠ 0 then c.setBit F.SYS_XDROP_DELTA_LOST 0 true else c
/-- The crossing of an index. -/
def crossOf (k : Nat) : CrossId :=
  ⟨k / 4 / 256 % 256, k / 4 % 256, (match k % 4 with | 0 => .level | 1 => .pulse | 2 => .counted | _ => .word), k / 4 / 65536⟩
/-- An island leaves reset (R100): each of its crossings that holds anything is resynchronised before traffic passes. -/
def Core.leaveReset (c : Core) (isl : Nat) : Core :=
  foldN ((c.crossings.map (·.1)).filter (fun k => (crossOf k).src == isl || (crossOf k).dst == isl)) c (fun c k => c.resync (crossOf k) 0)

end Sys2Proof.Machine
end

