-- ==== Sys2Proof/Machine/Motion.lean ====
section
/-! DEFINITION. Motions as functions of profile time (R140, R142): evaluating a trajectory, and planning moves, jogs and stops. -/
namespace Sys2Proof.Machine

/-- The largest magnitude of a profile position, ±(2^47 − 2^32) user counts (R456), in 2^-16 counts. -/
def posLimit : Int := (2 ^ 47 - 2 ^ 32) * 65536

/-- Seconds from one time to another, in ns. -/
def secsBetween (t0 t : Int) : Rat := if t ≤ t0 then 0 else ((t - t0 : Int) : Rat) / 1000000000

/-- The position in a segment `dt` seconds after its start, truncated toward zero to 2^-16 counts (R142). -/
def Seg.pos (s : Seg) (dt : Rat) : Int := s.p0 + ratTrunc ((s.v0.toRat * dt + s.a.toRat * dt * dt / 2) * 65536)
/-- The velocity in a segment. -/
def Seg.vel (s : Seg) (dt : Rat) : F32 := F32.ofRat (s.v0.toRat + s.a.toRat * dt)

/-- Position, velocity and acceleration along a list of segments `dt` seconds after its start, then uniform motion. -/
def evalSegs (endPos : Int) (endVel : F32) : List Seg → Rat → Int × F32 × F32
  | [], dt => (endPos + ratTrunc (endVel.toRat * dt * 65536), endVel, 0)
  | s :: rest, dt => if dt < s.dur then (s.pos dt, s.vel dt, s.a) else evalSegs endPos endVel rest (dt - s.dur)

/-- A trajectory at a profile time. -/
def Traj.eval (tr : Traj) (t : Int) : Int × F32 × F32 := evalSegs tr.endPos tr.endVel tr.segs (secsBetween tr.t0 t)
/-- The length of a trajectory's segments in seconds. -/
def Traj.dur (tr : Traj) : Rat := tr.segs.foldl (fun a s => a + s.dur) 0
/-- The trajectory's segments are over at a time. -/
def Traj.ended (tr : Traj) (t : Int) : Bool := decide (tr.dur ≤ secsBetween tr.t0 t)
/-- Resting at a position. -/
def Traj.rest (t p : Int) : Traj := { t0 := t, segs := [], endPos := p, endVel := 0 }
/-- Moving on uniformly. -/
def Traj.uniform (t p : Int) (v : F32) : Traj := { t0 := t, segs := [], endPos := p, endVel := v }

/-- Appends a segment of a duration, its start at the end of the plan so far. -/
def addSeg (plan : List Seg × Int) (dur : Rat) (v0 a : F32) : List Seg × Int :=
  if dur ≤ 0 then plan
  else let s : Seg := { dur := dur, v0 := v0, a := a, p0 := plan.2 }; (plan.1 ++ [s], s.pos dur)

/-- A signed copy of a magnitude. -/
def withSign (neg : Bool) (x : F32) : F32 := if neg then F32.negate x.abs else x.abs

/-- The distance, in counts, in which a speed comes to rest. -/
def stopDist (v dec : F32) : Rat := v.toRat * v.toRat / (2 * dec.toRat)

/-- A trapezoid, or triangle, from a velocity that points toward the target and can stop there (R142). -/
def trapezoid (plan : List Seg × Int) (v : F32) (target : Int) (vmax acc dec : F32) : List Seg :=
  let d : Rat := ((target - plan.2 : Int) : Rat) / 65536
  let neg := decide (d < 0)
  let D := if d < 0 then -d else d
  let v0 := v.abs.toRat
  let vm := vmax.toRat
  let a := acc.toRat
  let b := dec.toRat
  if D = 0 then plan.1
  else if vm < v0 then
    -- above the limit: decelerate to it, cruise, decelerate to rest
    let plan := addSeg plan ((v0 - vm) / b) (withSign neg v) (withSign (!neg) dec)
    let plan := addSeg plan ((D - (v0 * v0 - vm * vm) / (2 * b) - vm * vm / (2 * b)) / vm) (withSign neg vmax) 0
    (addSeg plan (vm / b) (withSign neg vmax) (withSign (!neg) dec)).1
  else if (vm * vm - v0 * v0) / (2 * a) + vm * vm / (2 * b) ≤ D then
    let plan := addSeg plan ((vm - v0) / a) (withSign neg v) (withSign neg acc)
    let plan := addSeg plan ((D - (vm * vm - v0 * v0) / (2 * a) - vm * vm / (2 * b)) / vm) (withSign neg vmax) 0
    (addSeg plan (vm / b) (withSign neg vmax) (withSign (!neg) dec)).1
  else
    let vp := F32.sqrt (F32.ofRat ((2 * a * b * D + b * v0 * v0) / (a + b)))
    let plan := addSeg plan ((vp.toRat - v0) / a) (withSign neg v) (withSign neg acc)
    (addSeg plan (vp.toRat / b) (withSign neg vp) (withSign (!neg) dec)).1

/-- Deceleration to rest from a state; rest is where the deceleration gives, or, where that lies outside the 48.16 range, the deceleration is as much harder as it must be (R456). -/
def planStop (t p : Int) (v dec0 : F32) : Traj :=
  if v.isZero then Traj.rest t p
  else
    let room : Rat := ((2 ^ 63 - 1 - p.natAbs : Int) : Rat) / 65536
    let dec := if (v.neg == decide (p < 0)) && decide (room < stopDist v dec0) && decide (0 < room)
      then F32.ofRat (v.toRat * v.toRat / (2 * room)) else dec0
    let plan := addSeg ([], p) (v.abs.toRat / dec.toRat) v (withSign (!v.neg) dec)
    { t0 := t, segs := plan.1, endPos := plan.2, endVel := 0 }

/-- The plan of R145 from position and velocity to a target; `true` where it first reverses. Coming to rest first runs at the rate `brake`. -/
def planToBrake (t p : Int) (v : F32) (target : Int) (vmax acc dec brake : F32) : Traj × Bool :=
  let dist := target - p
  if v.isZero then ({ t0 := t, segs := trapezoid ([], p) 0 target vmax acc dec, endPos := target, endVel := 0 }, false)
  else
    let disagree := dist = 0 || (decide (dist < 0) != v.neg)
    let far := decide ((dist.natAbs : Rat) / 65536 < stopDist v brake)
    if disagree || far then
      let s := planStop t p v brake
      ({ t0 := t, segs := trapezoid (s.segs, s.endPos) 0 target vmax acc dec, endPos := target, endVel := 0 }, disagree)
    else ({ t0 := t, segs := trapezoid ([], p) v target vmax acc dec, endPos := target, endVel := 0 }, false)

/-- The plan of R145, all of it at AX_DECEL. -/
def planTo (t p : Int) (v : F32) (target : Int) (vmax acc dec : F32) : Traj × Bool := planToBrake t p v target vmax acc dec dec

/-- A jog (R146) that rests at a limit ahead of it (R147, R456); one too fast to rest there rests beyond it. A reversal comes to rest at the rate `brake`. -/
def planJog (t p : Int) (v vj acc dec brake : F32) (limit : Int) : Traj :=
  if vj.isZero then planStop t p v brake
  else
    let ahead := if vj.neg then decide (limit < p) else decide (p < limit)
    if v.isZero || v.neg == vj.neg then
      if !ahead || decide (((limit - p).natAbs : Rat) / 65536 < stopDist v dec) then planStop t p v dec
      else (planTo t p v limit vj.abs acc dec).1
    else
      -- slow down to rest, then away
      let s := planStop t p v brake
      if (if vj.neg then decide (limit < s.endPos) else decide (s.endPos < limit)) then
        { t0 := t, segs := trapezoid (s.segs, s.endPos) 0 limit vj.abs acc dec, endPos := limit, endVel := 0 }
      else s

/-- At a time or later along its segments the trajectory is faster than a limit. -/
def Traj.fasterThan (tr : Traj) (t : Int) (vm : F32) : Bool :=
  let (_, v, _) := tr.eval t
  let rec peak : List Seg → Rat → Bool
    | [], _ => false
    | s :: rest, dt => if dt < s.dur then (F32.lt vm (s.vel s.dur).abs || (dt < 0 && F32.lt vm s.v0.abs) || peak rest (dt - s.dur)) else peak rest (dt - s.dur)
  F32.lt vm v.abs || peak tr.segs (secsBetween tr.t0 t)
/-- The velocity of a state, whether it moves at all. -/
def Traj.moving (tr : Traj) (t : Int) : Bool := !(tr.eval t).2.1.isZero || !tr.ended t

end Sys2Proof.Machine
end

