-- ==== Sys2Proof/Machine/PortValue.lean ====
section
/-! DEFINITION. The value of a feedback port at a stamp, for a frame or for a gearing follower (R229, R232). -/
namespace Sys2Proof.Machine

/-- The TYPE of a port's PORT record. -/
def Core.portType (c : Core) (p : Nat) : Nat := (c.pat.port p).type
/-- SSI or BiSS-C. -/
def serialType (t : Nat) : Bool := 3 ≤ t && t ≤ 5
/-- COUNTS_PER_REV in force (Table 9.4). A serial port keeps the one of its latest good reading until the next reading after a change of FB_SER (R227). -/
def Core.portN (c : Core) (p : Nat) : Nat :=
  match c.portType p with
  | 3 | 4 | 5 => if (c.portAt p).good && (c.portAt p).first then (c.portAt p).n else 2 ^ c.get F.FB_SER_ST_BITS p
  | 6 => 65536
  | _ => (c.portAt p).n
/-- The port position of counts: MT × N + ST (R229). -/
def Core.portPos (c : Core) (p : Nat) : Int := let q := c.portAt p; q.mt * c.portN p + q.st
/-- A reading extrapolated by the speed over ns, rounded to the nearest count and half-way toward the reading (R232). -/
def extrapolate (pos : Int) (v : F32) (dt : Int) : Int :=
  if !v.finite then pos
  else
    let d := F32.toRat v * (dt : Rat) / 1000000000
    let m : Int := ((-((1 : Rat) / 2 - d.abs)).ceil)
    let m := if m < 0 then 0 else m
    if d < 0 then pos - m else pos + m
/-- The value of a serial port at a stamp, and whether it is extrapolated. -/
def Core.serialAt (c : Core) (p : Nat) (t : Int) : Int × Bool :=
  let q := c.portAt p
  if !q.good then (c.portPos p, false)
  else if q.goodT = t then (q.goodPos, false)
  else (extrapolate q.goodPos (c.reg R.FB_SPEED p) (t - q.goodT), true)
/-- The filtered levels of a digital port's lines. -/
def Core.portLines (c : Core) (p : Nat) : BitVec 3 := if (c.portAt p).linesKnown then (c.portAt p).lines else Config.pinLevels p
/-- The port position that a reader gets at its own stamp, without sampling the port, and whether it is extrapolated (R232). A resolver's latency is compensated by its speed estimate (R228). -/
def Core.portRead (c : Core) (p : Nat) (t : Int) : Int × Bool :=
  let ty := c.portType p
  let q := c.portAt p
  if serialType ty then c.serialAt p t
  else if ty = 6 then ((q.trkPos + Config.resolverLag q.trkVel).fdiv 65536, false)
  else (c.portPos p, false)
/-- The position alone. -/
def Core.portValue (c : Core) (p : Nat) (t : Int) : Int := (c.portRead p t).1
/-- One step of a tracking loop (R235): ω = 2π × TRK_BW, gain 2ω on the position error and ω² into the speed estimate, over `dt` ns. Positions are in 2^-16 counts, speeds in counts per second. -/
def trackStep (pos : Int) (v : F32) (meas dt : Int) (bw : Nat) : Int × F32 :=
  let w : Rat := 2 * Config.pi * (bw : Rat)
  let err : Rat := ((meas - pos : Int) : Rat) / 65536
  let v0 : Rat := if v.finite then v.toRat else 0
  let s : Rat := (dt : Rat) / 1000000000
  (Config.trackRound ((pos : Rat) + 65536 * s * (v0 + 2 * w * err)), F32.ofRat (v0 + w * w * err * s))

end Sys2Proof.Machine
end

