-- ==== Sys2Proof/Machine/Profile.lean ====
section
/-! DEFINITION. Axis profiles, interpolation groups, gearing and step outputs (R138–R165): the shared operations and the profile tick. -/
namespace Sys2Proof.Machine

/-- A product with a ratio, truncated toward zero (R154). -/
def ratioMul (m num den : Int) : Int := if den = 0 then 0 else (m * num).tdiv den

/-- Source counts as user counts in 2^-16 counts: the exact product, truncated toward zero (R138). -/
def Core.scaleCounts (c : Core) (k : Nat) (counts : Int) : Int :=
  ratioMul (counts * 65536) (c.reg R.AX_SCALE_NUM k).toInt ((c.reg R.AX_SCALE_DEN k).toNat : Int)

/-- Sets an AX_PSTAT flag of R163, logging PROFILE_FLAG when it sets. -/
def Core.raiseP (c : Core) (f : Fld) (k arg : Nat) : Core :=
  if c.bit f k then c else (c.setBit f k true).logFrom 0x21 0x050A k arg
/-- PARAM_REFUSED (R143). -/
def Core.paramRefused (c : Core) (k : Nat) : Core := c.raiseP F.AX_PSTAT_PARAM_REFUSED k 10
/-- TARGET_REFUSED (R147, R318). -/
def Core.targetRefused (c : Core) (k : Nat) : Core := c.raiseP F.AX_PSTAT_TARGET_REFUSED k 9
/-- CMD_REFUSED. -/
def Core.cmdRefused (c : Core) (k : Nat) : Core := c.setBit F.AX_PSTAT_CMD_REFUSED k true
/-- SOFT_STOP (R147, R456). -/
def Core.softStop (c : Core) (k : Nat) : Core := c.raiseP F.AX_PSTAT_SOFT_STOP k 13

/-- The positive and negative limit in force for a slot (FI_LIM_ACTIVE, R318). -/
def Core.limits (c : Core) (k : Nat) : Bool × Bool :=
  let w := c.get F.FI_LIM_ACTIVE_LIMITS (k / 16)
  (w.testBit (2 * (k % 16)), w.testBit (2 * (k % 16) + 1))

/-- The shortest step period of a generator in ns: the larger of 250 ns and twice the pulse width (R160). -/
def Core.stepPeriod (c : Core) (g : Nat) : Nat := Max.max 250 (20 * c.get F.SP_CFG_PULSE_W g)
/-- The highest speed of a step generator, in counts per second. -/
def Core.stepMax (c : Core) (g : Nat) : F32 := F32.ofRat (1000000000 / (c.stepPeriod g : Rat))
/-- A speed held to a step slot's highest rate (R161). -/
def Core.stepClamp (c : Core) (k : Nat) (v : F32) : F32 :=
  let r := c.pat.slot k
  if r.kind = 2 && F32.lt (c.stepMax r.res) v.abs then withSign v.neg (c.stepMax r.res) else v

/-- The deceleration of a stop: the governing rate, else the other, and whether it is not the governing one (R143). -/
def Core.stopRate (c : Core) (k : Nat) (ss1 : Bool) : Option F32 × Bool :=
  let p := c.profAt k
  let a := if ss1 then p.ss1V else p.decelV
  let b := if ss1 then p.decelV else p.ss1V
  if a.positive then (some a, false) else if b.positive then (some b, true) else (none, true)

/-- A slot moves in the direction of a limit input that reads 1 (R318). -/
def Core.intoLimit (c : Core) (k : Nat) (vel : F32) : Bool :=
  let lim := c.limits k
  (lim.1 && !vel.neg && !vel.isZero) || (lim.2 && vel.neg && !vel.isZero)
/-- The rate at which a slot comes to rest before it moves the other way: AX_DECEL, or, out of a limit's direction, the rate of a limit stop (R145, R318). -/
def Core.brakeRate (c : Core) (k : Nat) (vel dec : F32) : F32 :=
  if c.intoLimit k vel then (c.stopRate k true).1.getD dec else dec

/-- The interpolation group whose moving path carries a slot. -/
def Core.pathOf (c : Core) (k : Nat) : Option IgPath :=
  let g := (c.pat.slot k).ig
  if g < 16 then
    let p := c.igAt g
    if p.moving && p.members.any (fun m => m.1 == k) then some p else none
  else none

/-- A slot's own motion at a profile time. -/
def Core.ownAt (c : Core) (k : Nat) (t : Int) : Int × F32 × F32 := (c.profAt k).traj.eval t

/-- Path parameter, its speed and acceleration: the path's own trapezoid, or a master's motion clamped to the path (R149, R150). -/
def Core.pathParam (c : Core) (p : IgPath) (t : Int) : Int × F32 × F32 :=
  if p.master < 128 && !p.stopping then
    let (m, v, a) := c.ownAt p.master t
    let s := p.k * (m - p.m0)
    let sc := clampInt s 0 p.lenEnd
    if s = sc then (sc, (if p.k < 0 then F32.negate v else v), (if p.k < 0 then F32.negate a else a)) else (sc, 0, 0)
  else p.s.eval t

/-- A number scaled by Δi / |ΔL|, as the member's velocity and acceleration (R149). -/
def memberScale (x : F32) (d : Int) (l : Nat) : F32 :=
  if l = 0 then 0 else F32.ofRat (x.toRat * (d : Rat) / (l : Rat))

/-- A port master's 64-bit sum of the signed 32-bit differences of successive port positions, read now (R154, R229). -/
def Core.portTotal (c : Core) (k : Nat) (t : Int) : Int :=
  let p := c.profAt k
  p.portSum + (BitVec.ofInt 32 (c.portValue (c.pat.slot k).gearMaster t - p.portLast)).toInt
/-- A follower's reading of its port master at a tick, taken into the sum (R154). -/
def Core.gearRead (c : Core) (k : Nat) (t : Int) : Core :=
  if (c.pat.slot k).gearKind = 2 && (c.profAt k).engaged then
    c.setProf k { c.profAt k with portSum := c.portTotal k t, portLast := c.portValue (c.pat.slot k).gearMaster t }
  else c

/-- A master's position and speed in 2^-16 counts at a profile time, before any ratio (R154). -/
def Core.masterAt (c : Core) (k : Nat) (t : Int) : Int × F32 × F32 :=
  let r := c.pat.slot k
  if r.gearKind = 1 then c.ownAt r.gearMaster t
  else ((c.portTotal k t) * 65536, c.reg R.FB_SPEED r.gearMaster, 0)

/-- Profile position, velocity and acceleration of a slot at a profile time (R140): along its group's path, geared with its offset, or its own motion. -/
def Core.profileAt (c : Core) (k : Nat) (t : Int) : Int × F32 × F32 :=
  let p := c.profAt k
  match c.pathOf k with
  | some g =>
    let (s, v, a) := c.pathParam g t
    match g.members.find? (fun m => m.1 == k) with
    | some (_, p0, d) =>
      (p0 + (if g.lenL = 0 then 0 else (d * s).tdiv g.lenL), memberScale v d g.lenL, memberScale a d g.lenL)
    | none => p.traj.eval t
  | none =>
    if p.engaged then
      let (m, v, a) := c.masterAt k t
      let (o, vo, ao) := p.sup.eval t
      (p.gearOfs + ratioMul m p.num p.den + o, F32.add (memberScale v p.num p.den.natAbs) vo, F32.add (memberScale a p.num p.den.natAbs) ao)
    else p.traj.eval t

/-- A slot behaves as in STO_TRACK: its group is in STO, or a rule holds it at rest (R148). -/
def Core.tracking (c : Core) (k : Nat) : Bool := c.slotSto k || (c.profAt k).held

/-- AX_PSTAT.STATE of a slot. -/
def Core.profState (c : Core) (k : Nat) : Nat :=
  let p := c.profAt k
  if c.tracking k then 6
  else if p.ss1 then 5
  else if (c.pathOf k).isSome then 4
  else if p.engaged then 3
  else match p.motion with | .rest => 0 | .move => 1 | .jog => 2 | .stopping => 7

/-- Publishes the state of a slot's profile in AX_PSTAT and GR_STAT as of a profile time. Position and velocity change only at a profile tick (R140, `publish`). VCLAMP compares AX_VMAX, and the velocity of an ungeared jog, with the generator's highest rate (R161). -/
def Core.publishState (c : Core) (k : Nat) (t : Int) : Core :=
  let (pos, vel, _) := c.profileAt k t
  let p := c.profAt k
  let turning (m : Motion) (target pos : Int) (vel : F32) : Bool := m == .move && !vel.isZero && (decide (target - pos < 0) != vel.neg) && decide (target ≠ pos)
  let (o, vo, _) := p.sup.eval t
  let rev := if p.engaged then turning p.supMotion p.supTarget o vo else turning p.motion p.target pos vel
  let r := c.pat.slot k
  let clamped := r.kind = 2 && (F32.lt (c.stepMax r.res) p.vmaxV || (p.motion == .jog && !p.engaged && F32.lt (c.stepMax r.res) p.jogVel.abs))
  let c := c.set F.AX_PSTAT_STATE k (c.profState k)
  let c := (c.setBit F.AX_PSTAT_REVERSING k rev).setBit F.AX_PSTAT_VCLAMP k clamped
  let c := c.setBit F.GR_STAT_ENGAGED k p.engaged
  c.setBit F.GR_STAT_RAMPING k (decide (0 < p.rampLeft))
/-- Publishes a slot's profile in its registers at a profile tick (R140). -/
def Core.publish (c : Core) (k : Nat) (t : Int) : Core :=
  let (pos, vel, _) := c.profileAt k t
  ((c.set64 R.AX_PPOS_LO R.AX_PPOS_HI k pos).setReg R.AX_PVEL k vel).publishState k t

/-- Puts a slot's own motion at rest at a position, ending any move, jog and gearing. -/
def Core.restAt (c : Core) (k : Nat) (t pos : Int) : Core :=
  let p := c.profAt k
  c.setProf k { p with traj := Traj.rest t pos, motion := .rest, limited := false, limPlan := false, engaged := false, rampLeft := 0,
                       sup := {}, supMotion := .rest, target := pos }

/-- Takes a slot out of its group's path: the path decelerates to rest along the line and BROKEN sets (R152). The slot keeps its position and velocity until what took it out acts on it (R148). -/
def Core.breakPath (c : Core) (k : Nat) (t : Int) : Core :=
  match c.pathOf k with
  | none => c
  | some g =>
    let ig := (c.pat.slot k).ig
    let (pos, vel, _) := c.profileAt k t
    let (s, v, _) := c.pathParam g t
    let c := c.setProf k { c.profAt k with traj := Traj.uniform t pos vel, motion := .stopping, target := pos }
    let c := c.setIg ig { g with stopping := true, s := planStop t s v g.dec, members := g.members.filter (fun m => m.1 ≠ k) }
    if c.bit F.IG_STAT_BROKEN ig then c else (c.setBit F.IG_STAT_BROKEN ig true).logFrom 0x21 0x050A k (256 + ig)

/-- Stops a group's whole path at D (R151). -/
def Core.stopPath (c : Core) (ig : Nat) (t : Int) : Core :=
  let g := c.igAt ig
  if g.moving && !g.stopping then
    let (s, v, _) := c.pathParam g t
    c.setIg ig { g with stopping := true, s := planStop t s v g.dec }
  else c

/-- Brings a slot to rest at a rate from its present state, ending its gearing (R143, R318). `ss1` selects the governing rate. -/
def Core.stopSlot (c : Core) (k : Nat) (t : Int) (ss1 : Bool) : Core :=
  let (pos, vel, _) := c.profileAt k t
  let (rate, other) := c.stopRate k ss1
  let c := if other && !vel.isZero then c.paramRefused k else c
  let p := c.profAt k
  let tr := match rate with | some d => planStop t pos vel d | none => Traj.rest t pos
  c.setProf k { p with traj := tr, motion := (if tr.segs.isEmpty then .rest else .stopping), limited := false, engaged := false,
                       rampLeft := 0, sup := {}, supMotion := .rest, target := tr.endPos }

/-- The jog limit ahead of a direction: the soft limit while SOFT_EN, else the range of R456. -/
def Core.jogLimit (c : Core) (k : Nat) (neg : Bool) : Int :=
  let soft := c.bit F.AX_PCFG_SOFT_EN k
  if neg then (if soft then Max.max (-posLimit) (c.get64 R.AX_SOFT_MIN_LO R.AX_SOFT_MIN_HI k) else -posLimit)
  else (if soft then Min.min posLimit (c.get64 R.AX_SOFT_MAX_LO R.AX_SOFT_MAX_HI k) else posLimit)

/-- The plan of a jog toward a limit. A slot without a valid AX_ACCEL does not gain speed; it stops at the rate R143 gives, and with no valid rate at all it runs on and rests at once at the limit. -/
def Core.jogPlan (c : Core) (k : Nat) (t pos : Int) (vel vj : F32) (limit : Int) : Traj :=
  let p := c.profAt k
  match (c.stopRate k false).1 with
  | some d =>
    if p.accelV.positive then planJog t pos vel vj p.accelV d (c.brakeRate k vel d) limit
    else planJog t pos vel (if F32.lt vel.abs vj.abs then withSign vj.neg vel else vj) d d (c.brakeRate k vel d) limit
  | none =>
    if vj.isZero || vel.isZero || !(if vel.neg then decide (limit < pos) else decide (pos < limit)) then Traj.rest t pos
    else { t0 := t, segs := (addSeg ([], pos) (((limit - pos : Int) : Rat) / 65536 / vel.toRat) vel 0).1, endPos := limit, endVel := 0 }
/-- Runs a slot's own motion as a jog from its present state at a velocity (R146, R155, R157), which a step slot holds to its generator's rate (R161). -/
def Core.jogFrom (c : Core) (k : Nat) (t pos : Int) (vel vj : F32) : Core :=
  let l := c.jogLimit k vj.neg
  let tr := c.jogPlan k t pos vel (c.stepClamp k vj) l
  c.setProf k { c.profAt k with traj := tr, motion := (if tr.segs.isEmpty && tr.endVel.isZero then .rest else .jog), limited := false, limPlan := c.intoLimit k vel, jogVel := vj, target := l, engaged := false,
                                rampLeft := 0, sup := {}, supMotion := .rest }

/-- Ends a slot's gearing under its GEAR_DECOUPLE policy (R157): FOLLOW decelerates to rest, DECOUPLE runs on as a jog. -/
def Core.ungear (c : Core) (k : Nat) (t : Int) (forceFollow : Bool) : Core :=
  let (pos, vel, _) := c.profileAt k t
  if (c.pat.slot k).decouple && !forceFollow then c.jogFrom k t pos vel vel else c.stopSlot k t false

/-- The followers engaged to a master slot or port. -/
def Core.followers (c : Core) (kind master : Nat) : List Nat :=
  c.usedSlots.filter (fun k => (c.profAt k).engaged && (c.pat.slot k).gearKind == kind && (c.pat.slot k).gearMaster == master)

/-- Master loss (R157): every engaged follower disengages, sets MASTER_LOST and acts on its policy. -/
def Core.loseMaster (c : Core) (kind master : Nat) : Core :=
  let t := c.profNs
  foldN (c.followers kind master) c (fun c k => (c.raiseP F.AX_PSTAT_MASTER_LOST k 12).ungear k t false)

/-- Clears a slot's loop dynamic state (R10, R184). -/
def Core.clearLoop (c : Core) (k : Nat) : Core :=
  let c := (c.setLoop k {}).setSnap k {}
  (c.setReg R.AX_ICMD k 0).setBit F.AX_LSTAT_INPOS k false

/-- Holds a slot at rest at a position as in STO_TRACK (R148). -/
def Core.holdSlot (c : Core) (k : Nat) (pos : Int) : Core :=
  let t := c.profNs
  let c := c.breakPath k t
  let c := c.restAt k t pos
  let c := c.setProf k { c.profAt k with held := true, ss1 := false }
  c.publishState k t
/-- Lets a held slot go on. -/
def Core.unholdSlot (c : Core) (k : Nat) : Core :=
  let c := c.setProf k { c.profAt k with held := false, autoDone := false }
  c.publishState k c.profNs

/-- The profile of a slot starts its SS1 ramp at AX_SS1_DEC (R148). -/
def Core.rampSs1 (c : Core) (k : Nat) (t : Int) : Core :=
  if c.tracking k then c
  else
    let c := c.breakPath k t
    let c := c.stopSlot k t true
    c.setProf k { c.profAt k with ss1 := true }

/-- The host watchdog stops a slot that has a profile (R83, ACTION 1): a path at D, a geared follower out of its gearing, each at its programmed deceleration; what waited for the next tick is dropped. -/
def Core.hostStop (c : Core) (k : Nat) : Core :=
  let t := c.profNs
  let p := c.profAt k
  let c := c.setProf k { p with pendTarget := none, pendCmd := none, pendStop := false }
  if c.tracking k || p.ss1 then c
  else if (c.pathOf k).isSome then c.stopPath (c.pat.slot k).ig t
  else if p.motion == .rest && !p.engaged then c
  else (c.stopSlot k t (c.intoLimit k (c.profileAt k t).2.1)).publishState k t
/-- The profiles of a slot whose group enters STO: at its actual position at rest, everything cancelled (R148). -/
def Core.trackSlot (c : Core) (k : Nat) : Core :=
  let t := c.profNs
  let x := c.ctxAt k
  let c := c.breakPath k t
  let (pos, _, _) := c.profileAt k t
  let c := c.restAt k t (if x.actKnown then x.actPos else pos)
  c.setProf k { c.profAt k with ss1 := false, autoDone := false }

/-- Engages a slot's gearing so that its position is unchanged at this tick (R155). -/
def Core.engage (c : Core) (k : Nat) (t : Int) : Core :=
  let (pos, _, _) := c.profileAt k t
  let p := c.profAt k
  let num := (c.reg R.GR_NUM k).toInt
  let den := ((c.reg R.GR_DEN k).toNat : Int)
  let r := c.pat.slot k
  let port := c.portValue r.gearMaster t
  let p := { p with engaged := true, num := num, den := den, rampLeft := 0, sup := Traj.rest t 0, supMotion := .rest, supTarget := 0, motion := .rest,
                    limited := false, autoDone := true, portSum := 0, portLast := port }
  let c := c.setProf k p
  let (m, _, _) := c.masterAt k t
  c.setProf k { p with gearOfs := pos - ratioMul m num den }

/-- Limits a move needs: AX_VMAX held to a step slot's rate, AX_ACCEL and AX_DECEL, each the valid value in force (R143, R161). -/
def Core.moveLimits (c : Core) (k : Nat) : Option (F32 × F32 × F32) :=
  let p := c.profAt k
  if p.vmaxV.positive && p.accelV.positive && p.decelV.positive then
    some (c.stepClamp k p.vmaxV, p.accelV, p.decelV)
  else none

/-- A target lies outside the soft limits in force (R147). -/
def Core.outsideSoft (c : Core) (k : Nat) (tgt : Int) : Bool :=
  c.bit F.AX_PCFG_SOFT_EN k && (decide (tgt < c.get64 R.AX_SOFT_MIN_LO R.AX_SOFT_MIN_HI k) || decide (c.get64 R.AX_SOFT_MAX_LO R.AX_SOFT_MAX_HI k < tgt))
/-- A target takes effect at a tick (R142–R148, R151, R156, R318). Where two refusals apply, the order below is the model's choice (log entry 168): STO_TRACK and SS1 before the soft limits, the soft limits before a running move. -/
def Core.applyTarget (c : Core) (k : Nat) (tgt t : Int) : Core :=
  let p := c.profAt k
  let (pos, vel, _) := c.profileAt k t
  let lim := c.limits k
  if c.tracking k || p.ss1 then c.setBit F.AX_PSTAT_TARGET_IGNORED k true
  else if (c.pat.slot k).ig < 16 then (if c.outsideSoft k tgt then c.targetRefused k else c)
  else if p.engaged then
    if p.supMotion != .rest && !c.bit F.AX_PCFG_MODE k then c.setBit F.AX_PSTAT_TARGET_IGNORED k true
    else
      match c.moveLimits k with
      | none => c.paramRefused k
      | some (v, a, d) =>
        let (o, vo, _) := p.sup.eval t
        let clipped := clampInt tgt (-posLimit - (pos - o)) (posLimit - (pos - o))
        if p.supMotion == .move && p.supTarget == tgt then c
        else
          let c := c.setBit F.AX_PSTAT_DONE k false
          c.setProf k { p with sup := (planTo t o vo clipped v a d).1, supMotion := .move, supTarget := tgt, supLimited := clipped != tgt }
  else if c.outsideSoft k tgt then c.targetRefused k
  else if (lim.1 && decide (pos < tgt)) || (lim.2 && decide (tgt < pos)) then c.targetRefused k
  else if p.motion != .rest && !c.bit F.AX_PCFG_MODE k then c.setBit F.AX_PSTAT_TARGET_IGNORED k true
  else
    match c.moveLimits k with
    | none => c.paramRefused k
    | some (v, a, d) =>
      let clipped := clampInt tgt (-posLimit) posLimit
      if p.motion == .move && p.target == clipped then c
      else
        let c := c.setBit F.AX_PSTAT_DONE k false
        c.setProf k { p with traj := (planToBrake t pos vel clipped v a d (c.brakeRate k vel d)).1, motion := .move, target := clipped, limited := clipped != tgt,
                             limPlan := c.intoLimit k vel }

/-- JOG takes effect (R146, R147, R151, R156, R318). With a velocity that is not finite it sets PARAM_REFUSED and does nothing (log entry 168). -/
def Core.applyJog (c : Core) (k : Nat) (t : Int) : Core :=
  let p := c.profAt k
  let vj : F32 := c.reg R.AX_JOG_VEL k
  let (pos, vel, _) := c.profileAt k t
  let lim := c.limits k
  let soft := c.bit F.AX_PCFG_SOFT_EN k
  if c.tracking k || p.ss1 || (c.pat.slot k).ig < 16 then c.cmdRefused k
  else if !vj.finite then c.paramRefused k
  else if (lim.1 && !vj.neg && !vj.isZero) || (lim.2 && vj.neg && !vj.isZero) then c.cmdRefused k
  else if !p.engaged && soft && ((!vj.neg && !vj.isZero && decide (c.jogLimit k false < pos)) || (vj.neg && !vj.isZero && decide (pos < c.jogLimit k true))) then c.cmdRefused k
  else if !p.accelV.positive || !p.decelV.positive then c.paramRefused k
  else if p.engaged then
    let (o, vo, _) := p.sup.eval t
    c.setProf k { p with sup := planJog t o vo vj p.accelV p.decelV p.decelV ((if vj.neg then -posLimit else posLimit) - (pos - o)), supMotion := .jog, supLimited := !vj.isZero }
  else c.jogFrom k t pos vel vj

/-- STOP takes effect (R146, R151, R156). -/
def Core.applyStop (c : Core) (k : Nat) (t : Int) : Core :=
  let p := c.profAt k
  if c.tracking k || p.ss1 then c.cmdRefused k
  else if (c.pat.slot k).ig < 16 then c.stopPath (c.pat.slot k).ig t
  else if p.engaged then
    let (o, vo, _) := p.sup.eval t
    let (rate, other) := c.stopRate k false
    let c := if other && !vo.isZero then c.paramRefused k else c
    let tr := match rate with | some d => planStop t o vo d | none => Traj.rest t o
    c.setProf k { c.profAt k with sup := tr, supMotion := (if tr.segs.isEmpty then .rest else .stopping), supLimited := false }
  else if p.motion == .rest then c
  else c.stopSlot k t (c.intoLimit k (c.profileAt k t).2.1)

/-- GEAR_ENGAGE takes effect (R155, R148, R151, R318). -/
def Core.applyEngage (c : Core) (k : Nat) (t : Int) : Core :=
  let p := c.profAt k
  let lim := c.limits k
  if c.tracking k || p.ss1 || (c.pat.slot k).ig < 16 || lim.1 || lim.2 || (c.pat.slot k).gearKind = 0 then c.cmdRefused k
  else if p.engaged then c
  else c.engage k t

/-- GEAR_DISENGAGE takes effect: the follower runs on at its present velocity as a jog (R155). -/
def Core.applyDisengage (c : Core) (k : Nat) (t : Int) : Core :=
  let p := c.profAt k
  if c.tracking k || p.ss1 || (c.pat.slot k).ig < 16 then c.cmdRefused k
  else if p.engaged then
    let (pos, vel, _) := c.profileAt k t
    c.jogFrom k t pos vel vel
  else c

/-- The command written since the last tick takes effect (R141). -/
def Core.applyCmd (c : Core) (k cmd : Nat) (t : Int) : Core :=
  match cmd with
  | 1 => c.applyJog k t
  | 2 => c.applyStop k t
  | 3 => c.applyEngage k t
  | 4 => c.applyDisengage k t
  | _ => c

/-- One tick of a slot's ratio ramp: the ratio moves linearly and OFFSET keeps the position continuous (R155). -/
def Core.rampTick (c : Core) (k : Nat) (t : Int) : Core :=
  let p := c.profAt k
  if !p.engaged || p.rampLeft = 0 then c
  else
    let left := p.rampLeft - 1
    let r0 : Rat := (p.rampNum0 : Rat) / (p.rampDen0 : Rat)
    let r1 : Rat := (p.rampNum1 : Rat) / (p.rampDen1 : Rat)
    let r : Rat := if left = 0 then r1 else r0 + (r1 - r0) * ((p.rampTotal - left : Nat) : Rat) / (p.rampTotal : Rat)
    let (num, den) : Int × Int := if left = 0 then (p.rampNum1, p.rampDen1) else (r.num, (r.den : Int))
    let (m, _, _) := c.masterAt k t
    c.setProf k { p with rampLeft := left, num := num, den := den, gearOfs := p.gearOfs + ratioMul m p.num p.den - ratioMul m num den }

/-- A slot's completion, limits and overflow at a tick (R142, R147, R154, R157, R318, R456). -/
def Core.settle (c : Core) (k : Nat) (t : Int) : Core :=
  let p := c.profAt k
  let (pos, vel, _) := c.profileAt k t
  let lim := c.limits k
  -- the final deceleration runs, or the motion is over
  let inLast (tr : Traj) : Bool := match tr.segs.reverse with
    | [] => true
    | s :: _ => if s.a.isZero then tr.ended t else decide (tr.dur - s.dur ≤ secsBetween tr.t0 t)
  let inFirst (tr : Traj) : Bool := match tr.segs with
    | [] => false
    | s :: _ => decide (secsBetween tr.t0 t < s.dur)
  if c.tracking k || (c.pathOf k).isSome then c
  else if p.engaged then
    let (o, vo, _) := p.sup.eval t
    -- the superimposed motion would rest beyond the limit, and can rest before it no more
    let room := if vo.neg then pos + posLimit else posLimit - pos
    let beyond := p.supMotion != .rest && !vo.isZero && decide (posLimit < ((pos - o) + p.sup.endPos).natAbs) &&
      (match (c.stopRate k false).1 with | some d => decide ((room : Rat) / 65536 ≤ stopDist vo d) | none => decide (room ≤ 0))
    if decide (posLimit < (pos - o).natAbs) then (c.raiseP F.AX_PSTAT_GEAR_OVERFLOW k 14).ungear k t false
    else if lim.1 || lim.2 then c.stopSlot k t true
    else if c.bit F.AX_PCFG_SOFT_EN k && ((!vel.neg && !vel.isZero && decide (c.jogLimit k false ≤ pos)) || (vel.neg && !vel.isZero && decide (pos ≤ c.jogLimit k true))) then (c.stopSlot k t false).softStop k
    else if beyond && p.supMotion != .stopping then
      (c.setProf k { p with sup := (match (c.stopRate k false).1 with | some d => planStop t o vo d | none => Traj.rest t o), supMotion := .stopping, supLimited := false }).softStop k
    else
      let c := if p.supMotion != .rest && p.supLimited && inLast p.sup && p.sup.endVel.isZero then c.softStop k else c
      if p.supMotion != .rest && p.sup.ended t && p.sup.endVel.isZero then
        let c' := c.setProf k { c.profAt k with sup := Traj.rest t p.sup.endPos, supMotion := .rest }
        if p.supMotion == .move && !p.supLimited then (c'.setBit F.AX_PSTAT_DONE k true).addSat F.AX_MOVES_COUNT k 1 else c'
      else c
  else if p.motion == .rest then c
  else if !p.ss1 && p.motion != .stopping && c.intoLimit k vel && !(p.limPlan && inFirst p.traj) then c.stopSlot k t true
  else
    -- a jog follows its limit if that has been moved
    let c := if p.motion == .jog && !p.jogVel.isZero && p.target ≠ c.jogLimit k p.jogVel.neg && !(inLast p.traj && p.traj.endVel.isZero) then c.jogFrom k t pos vel p.jogVel else c
    let p := c.profAt k
    let c := if ((p.motion == .jog && !p.jogVel.isZero) || (p.motion == .move && p.limited)) && inLast p.traj && p.traj.endVel.isZero
      then (if (c.stopRate k false).2 then c.paramRefused k else c).softStop k else c
    if p.traj.ended t && p.traj.endVel.isZero then
      let c := c.setProf k { c.profAt k with traj := Traj.rest t p.traj.endPos, motion := .rest }
      if p.motion == .move && !p.limited then (c.setBit F.AX_PSTAT_DONE k true).addSat F.AX_MOVES_COUNT k 1 else c
    else c

/-- AUTO_ENGAGE at the first tick at which slot and master are out of STO_TRACK and no limit reads 1 (R156, R318). -/
def Core.autoEngage (c : Core) (k : Nat) (t : Int) : Core :=
  let p := c.profAt k
  let r := c.pat.slot k
  let masterTracks := r.gearKind == 1 && c.tracking r.gearMaster
  let lim := c.limits k
  if r.gearKind = 0 then c
  else if c.tracking k || masterTracks then c.setProf k { p with autoDone := false }
  else if c.bit F.GR_CFG_AUTO_ENGAGE k && !p.autoDone && !p.engaged && !p.ss1 && !lim.1 && !lim.2 then c.engage k t
  else c

/-- The steps a generator can emit in a time, at most one each step period; the first after a change of direction waits for DIR_SETUP as well (R160). -/
def stepRoom (time per first : Nat) : Nat := if time < first then 0 else (time - first) / per + 1
/-- LAG_FAULT (R161): the generator stops, the profile rests at the emitted position, which R138 converts to user counts, and no step is owed to it. -/
def Core.lagFault (c : Core) (k g : Nat) (t : Int) : Core :=
  let pos := c.scaleCounts k (c.stepAt g).steps
  let c := ((c.breakPath k t).restAt k t pos).setStep g { c.stepAt g with owed := pos.fdiv 65536 }
  let c := c.set F.SP_STAT_LAG g 0
  if c.bit F.SP_STAT_LAG_FAULT g then c else (c.setBit F.SP_STAT_LAG_FAULT g true).logFrom 0x21 0x050A k (512 + g)
/-- The step generator of a slot emits the steps that its profile owes, one for each integer user count it has crossed, at most at its highest rate; the steps are its position source (R138, R160, R161). -/
def Core.stepTick (c : Core) (k : Nat) (t : Int) : Core :=
  let r := c.pat.slot k
  if r.kind ≠ 2 then c
  else
    let g := r.res
    let sg := c.stepAt g
    let (pos, vel, _) := c.profileAt k t
    let owed := pos.fdiv 65536 - sg.owed
    let neg := decide (owed < 0)
    let per := c.stepPeriod g
    let time := (t - sg.lastTick).toNat + sg.credit
    let n := Min.min owed.natAbs (stepRoom time per (if neg = sg.dirNeg then per else Max.max per (10 * c.get F.SP_CFG_DIR_SETUP g)))
    let d : Int := if neg then -n else n
    let left := owed.natAbs - n
    let c := c.setStep g { sg with owed := sg.owed + d, steps := sg.steps + d, dirNeg := (if n = 0 then sg.dirNeg else neg), lastTick := t,
                                   credit := Min.min (time - n * per) per }
    let c := c.setReg R.SP_COUNT g (BitVec.ofInt 32 ((c.reg R.SP_COUNT g).toInt + d))
    let c := if n ≠ 0 && c.isLead then c.emit (.steps g d) else c
    let c := c.setCtx k { c.ctxAt k with actPos := c.scaleCounts k (c.stepAt g).steps, actVel := vel, actKnown := true }
    let c := c.set F.SP_STAT_LAG g (Min.min left 0xFFFF)
    let c := if left ≠ 0 then c.setBit F.SP_STAT_OVERSPEED g true else c
    if left > c.get F.SP_CFG_LAG_MAX g then c.lagFault k g t else c

/-- One slot at a profile tick: completion first, then STOP, or target and command as they were written, the ratio ramp, its step generator (R141, R144). -/
def Core.slotTick (c : Core) (t : Int) (k : Nat) : Core :=
  let c := (c.gearRead k t).settle k t
  let p := c.profAt k
  let c := c.setProf k { p with pendTarget := none, pendCmd := none, pendStop := false, limSeen := c.limits k }
  let target (c : Core) : Core := match p.pendTarget with | some g => c.applyTarget k g t | none => c
  let cmd (c : Core) : Core := match p.pendCmd with | some m => c.applyCmd k m t | none => c
  -- STOP wins over a target, which R148 still flags in STO and SS1
  let c := if p.pendStop then (if p.pendTarget.isSome && (c.tracking k || p.ss1) then c.setBit F.AX_PSTAT_TARGET_IGNORED k true else c).applyStop k t
    else if p.cmdFirst then target (cmd c) else cmd (target c)
  let c := c.autoEngage k t
  (c.rampTick k t).stepTick k t

/-- The slots of an interpolation group. -/
def Core.igMembers (c : Core) (g : Nat) : List Nat := c.usedSlots.filter (fun k => (c.pat.slot k).ig == g)

/-- Where a path brings a member to rest. -/
def IgPath.memberEnd (g : IgPath) (m : Nat × Int × Int) : Int :=
  let s : Int := if g.master < 128 && !g.stopping then g.lenEnd else g.s.endPos
  m.2.1 + (if g.lenL = 0 then 0 else (m.2.2 * s).tdiv g.lenL)
/-- V, A and D of a path (R149) over members of which the lead goes `len`; `none` where a member has no valid limits. -/
def Core.pathLimits (c : Core) (rows : List (Nat × Int × Int)) (len : Nat) : Option (F32 × F32 × F32) :=
  let act := rows.filter (fun m => m.2.2 ≠ 0)
  if act.any (fun m => (c.moveLimits m.1).isNone) then none
  else
    let best (sel : F32 × F32 × F32 → F32) : F32 :=
      (act.filterMap (fun m => (c.moveLimits m.1).map (fun l => F32.ofRat ((sel l).toRat * len / m.2.2.natAbs)))).foldl
        (fun a x => if F32.lt x a then x else a) F32.maxFinite
    some (best (fun l => l.1), best (fun l => l.2.1), best (fun l => l.2.2))
/-- The path parameter at which a path ends: its length, or where the first member reaches the range of R456. -/
def pathEnd (rows : List (Nat × Int × Int)) (len : Nat) : Nat :=
  rows.foldl (fun a m =>
    let (_, p, d) := m
    if (p + d).natAbs ≤ posLimit.natAbs then a else Min.min a ((if d < 0 then p + posLimit else posLimit - p).toNat * len / d.natAbs)) len

/-- GO of an interpolation group (R149–R151). A member in STO_TRACK, held or in SS1 counts as not at rest, and a target outside its soft limits starts nothing (log entry 169). -/
def Core.igGo (c : Core) (g : Nat) (t : Int) : Core :=
  let ms := c.igMembers g
  let path := c.igAt g
  let target (k : Nat) : Int := c.get64 R.AX_TARGET_LO R.AX_TARGET_HI k
  let rows := ms.map (fun k => (k, (c.profileAt k t).1, target k - (c.profileAt k t).1))
  let atRest := ms.all (fun k => (c.profAt k).motion == .rest && !(c.profAt k).ss1 && !c.tracking k)
  let limited := rows.any (fun m => let l := c.limits m.1; (l.1 && decide (0 < m.2.2)) || (l.2 && decide (m.2.2 < 0)))
  let outside := ms.filter (fun k => c.outsideSoft k (target k))
  if path.moving || ms.isEmpty || !atRest || limited then c.setBit F.IG_STAT_REFUSED g true
  else if !outside.isEmpty then foldN outside c (fun c k => c.targetRefused k)
  else
    let lead := rows.foldl (fun a m => if a.2.2.natAbs < m.2.2.natAbs then m else a) (rows.headD (0, 0, 0))
    let len := lead.2.2.natAbs
    match c.pathLimits rows len with
    | none => foldN ((rows.filter (fun m => m.2.2 ≠ 0 && (c.moveLimits m.1).isNone)).map (·.1)) c (fun c k => c.paramRefused k)
    | some (v, a, d) =>
      let mst := c.get F.IG_CFG_MASTER g
      let last := pathEnd rows len
      let c := foldN ms c (fun c k => c.setBit F.AX_PSTAT_DONE k false)
      let tr : Traj := { t0 := t, segs := trapezoid ([], 0) 0 last v a d, endPos := last, endVel := 0 }
      let c := c.setIg g { path with moving := true, stopping := false, s := tr, lenL := len, lenEnd := last, vmax := v, acc := a, dec := d, members := rows,
                                     master := mst, m0 := (if mst < 128 then (c.ownAt mst t).1 else 0), k := (if c.bit F.IG_CFG_MDIR g then -1 else 1) }
      (c.set F.IG_STAT_LEAD g lead.1).setBit F.IG_STAT_MOVING g true

/-- A moving path takes a lower AX_VMAX of a member: it decelerates at D to the new V (R143, R149). -/
def Core.slowPath (c : Core) (g : Nat) (t : Int) : Core :=
  let path := c.igAt g
  match c.pathLimits path.members path.lenL with
  | some (v, _, _) =>
    if !path.moving || path.stopping || path.master < 128 || !path.s.fasterThan t v then c
    else
      let (s, vs, _) := path.s.eval t
      c.setIg g { path with s := (planTo t s vs path.lenEnd v path.acc path.dec).1, vmax := v }
  | none => c

/-- A path at a tick: it ends with every member exactly at its target, or at rest where it was stopped (R149, R151). One that a target beyond the range of R456 cuts short rests there: SOFT_STOP of the member concerned from its final deceleration, and no DONE. -/
def Core.igTick (c : Core) (t : Int) (g : Nat) : Core :=
  let path := c.igAt g
  let c := c.setIg g { path with pendGo := false, pendStop := false }
  let rose (k : Nat) : Bool := ((c.limits k).1 && !(c.profAt k).limSeen.1) || ((c.limits k).2 && !(c.profAt k).limSeen.2)
  let c := if path.moving && path.members.any (fun m => rose m.1) then c.stopPath g t else c
  let path := c.igAt g
  let (s, _, _) := c.pathParam path t
  let cut := path.lenEnd < path.lenL
  let slowing := match path.s.segs.getLast? with | some z => decide (path.s.dur - z.dur ≤ secsBetween path.s.t0 t) | none => true
  let c := if path.moving && !path.stopping && cut && (if path.master < 128 then decide (s = path.lenEnd) else slowing)
    then foldN ((path.members.filter (fun m => posLimit.natAbs < (m.2.1 + m.2.2).natAbs)).map (·.1)) c (fun c k => c.softStop k) else c
  let ended := path.moving && (if path.stopping then path.s.ended t else decide (s = path.lenEnd) && (path.master < 128 || path.s.ended t))
  if !ended then c
  else
    let c := path.members.foldl (fun c m =>
      let whole := !path.stopping && !cut
      let pos := if whole then m.2.1 + m.2.2 else (c.profileAt m.1 t).1
      let c := c.setProf m.1 { c.profAt m.1 with traj := Traj.rest t pos, motion := .rest, target := pos }
      if whole then (c.setBit F.AX_PSTAT_DONE m.1 true).addSat F.AX_MOVES_COUNT m.1 1 else c) c
    (c.setIg g { c.igAt g with moving := false, stopping := false, members := [] }).setBit F.IG_STAT_MOVING g false

/-- The GO and STOP written since the last tick take effect; STOP wins (R151). -/
def Core.igApply (c : Core) (t : Int) (g : Nat) (go stop : Bool) : Core :=
  if stop then c.stopPath g t else if go then c.igGo g t else c

/-- Everything the profile island does at a profile tick (R141). -/
def Core.profileTick (c : Core) : Core :=
  if !c.runs 0x21 then c
  else
    let t := c.profNs
    let stops (g : Nat) : Bool := (c.igMembers g).any (fun k => (c.profAt k).pendStop && !c.tracking k && !(c.profAt k).ss1)
    let wants := (List.range 16).map (fun g => (g, (c.igAt g).pendGo, (c.igAt g).pendStop || stops g))
    let c := foldN (List.range 16) c (fun c g => c.igTick t g)
    let c := foldN c.usedSlots c (fun c k => c.slotTick t k)
    let c := wants.foldl (fun c w => if w.2.1 || w.2.2 then c.igApply t w.1 w.2.1 w.2.2 else c) c
    foldN c.usedSlots c (fun c k => c.publish k t)

/-- PROFILE_TICK (R141). -/
def execProfileTick (s : State) : Host.Outcome State Fault Refusal := onCore s Core.profileTick

/-- A 64-bit target completed by its high word waits for the next tick (R141, R142). -/
def Core.writeTarget (c : Core) (k : Nat) (v : Int) : Core :=
  let c := c.set64 R.AX_TARGET_LO R.AX_TARGET_HI k v
  if (c.pat.slot k).kind = 0 then c else c.setProf k { c.profAt k with pendTarget := some v, cmdFirst := (c.profAt k).pendCmd.isSome }
/-- A command waits for the next tick; STOP is kept apart because it wins over a target (R141, R146). -/
def Core.writeCmd (c : Core) (k cmd : Nat) : Core :=
  if (c.pat.slot k).kind = 0 || cmd = 0 || cmd > 4 then c
  else if cmd = 2 then c.setProf k { c.profAt k with pendStop := true, pendCmd := some 2, cmdFirst := false }
  else c.setProf k { c.profAt k with pendCmd := some cmd, pendStop := false, cmdFirst := false }
/-- A write of GR_NUM or GR_DEN (R155): a 0 denominator is discarded; while engaged a ramp starts from the ratio in force. -/
def Core.writeRatio (c : Core) (k : Nat) (den : Bool) (v : Word) : Core :=
  if den && v = 0 then c.setBit F.GR_STAT_DEN_REFUSED k true
  else
    let c := if den then c.setReg R.GR_DEN k v else c.setReg R.GR_NUM k v
    let p := c.profAt k
    if !p.engaged then c
    else
      let n := c.get F.GR_CFG_RAMP k
      let n := if n = 0 then 1 else n
      c.setProf k { p with rampLeft := n, rampTotal := n, rampNum0 := p.num, rampDen0 := p.den, rampNum1 := (c.reg R.GR_NUM k).toInt, rampDen1 := ((c.reg R.GR_DEN k).toNat : Int) }
/-- A new speed limit below the speed that a running move, a superimposed one or a path has or still plans to reach makes it decelerate to the limit; a higher one leaves it as planned (R143, R161). -/
def Core.slowTo (c : Core) (k : Nat) : Core :=
  let p := c.profAt k
  match c.moveLimits k with
  | none => c
  | some (vm, a, d) =>
    let t := c.profNs
    let replan (tr : Traj) (target : Int) : Traj :=
      let (pos, vel, _) := tr.eval t
      if tr.fasterThan t vm then (planTo t pos vel target vm a d).1 else tr
    if c.tracking k || p.ss1 then c
    else if (c.pathOf k).isSome then c.slowPath (c.pat.slot k).ig t
    else if p.engaged then (if p.supMotion == .move then c.setProf k { p with sup := replan p.sup p.supTarget } else c)
    else if p.motion == .move then c.setProf k { p with traj := replan p.traj p.target }
    else c
/-- A write of AX_VMAX, AX_ACCEL, AX_DECEL or AX_SS1_DEC: stored; an invalid value leaves the previous valid one in force (R143). -/
def Core.writeLimit (c : Core) (k : Nat) (r : Reg) (v : Word) : Core :=
  let c := c.setReg r k v
  if !F32.positive v then c.paramRefused k
  else
    let p := c.profAt k
    let p := if r.id = R.AX_VMAX.id then { p with vmaxV := v } else if r.id = R.AX_ACCEL.id then { p with accelV := v }
      else if r.id = R.AX_DECEL.id then { p with decelV := v } else { p with ss1V := v }
    let c := c.setProf k p
    if r.id = R.AX_VMAX.id then c.slowTo k else c
/-- A write of IG_CFG: a MASTER that is a member of a group or geared is refused (R150). -/
def Core.writeIgCfg (c : Core) (g : Nat) (v : Word) : Core :=
  let m := F.IG_CFG_MASTER.read v
  let r := c.pat.slot m
  if m < 128 && r.kind ≠ 0 && (r.ig < 16 || r.gearKind ≠ 0) then c.setBit F.IG_STAT_CFG_REFUSED g true
  else (c.set F.IG_CFG_MASTER g m).set F.IG_CFG_MDIR g (F.IG_CFG_MDIR.read v)
/-- GO and STOP of IG_CTRL wait for the next tick. -/
def Core.writeIgCtrl (c : Core) (g : Nat) (go stop : Bool) : Core :=
  let p := c.igAt g
  c.setIg g { p with pendGo := p.pendGo || go, pendStop := p.pendStop || stop }
/-- AX_SCALE_DEN: a 0 is discarded and sets PARAM_REFUSED (R165). -/
def Core.writeScaleDen (c : Core) (k : Nat) (v : Word) : Core := if v = 0 then c.paramRefused k else c.setReg R.AX_SCALE_DEN k v
/-- SP_CFG: LAG_MAX 0 stores 1; DIR_SETUP and PULSE_W below 10 store 10 (R165). A wider pulse that lowers the highest rate slows the slot's motion to it (R161). -/
def Core.writeSpCfg (c : Core) (g : Nat) (v : Word) : Core :=
  let v := if F.SP_CFG_LAG_MAX.read v = 0 then F.SP_CFG_LAG_MAX.write v 1 else v
  let v := if F.SP_CFG_DIR_SETUP.read v < 10 then F.SP_CFG_DIR_SETUP.write v 10 else v
  let v := if F.SP_CFG_PULSE_W.read v < 10 then F.SP_CFG_PULSE_W.write v 10 else v
  let c := c.setReg R.SP_CFG g v
  foldN (c.usedSlots.filter (fun k => (c.pat.slot k).kind == 2 && (c.pat.slot k).res == g)) c (fun c k =>
    let p := c.profAt k
    let c := c.slowTo k
    if p.motion == .jog && !p.engaged && !c.tracking k && F32.lt (c.stepMax g) (p.traj.eval c.profNs).2.1.abs then
      let (pos, vel, _) := p.traj.eval c.profNs
      c.jogFrom k c.profNs pos vel p.jogVel
    else c)
/-- A speed in source counts per second as user counts per second. -/
def Core.scaleSpeed (c : Core) (k : Nat) (v : F32) : F32 :=
  let d := (c.reg R.AX_SCALE_DEN k).toNat
  if !v.finite || d = 0 then v else F32.ofRat (v.toRat * ((c.reg R.AX_SCALE_NUM k).toInt : Rat) / (d : Rat))

end Sys2Proof.Machine
end

