-- ==== Sys2Proof/Machine/Ready.lean ====
section
/-! DEFINITION. READY (R372, Table 15.4), claims on the lane groups (R22, R373), the confirmation of a trial image (R447), and giving up the Lead (R27, R375). -/
namespace Sys2Proof.Machine

/-- The ports that used slots name in FB1 or FB2, or that gear them (R244). -/
def Core.usedPorts (c : Core) : List Nat :=
  c.usedSlots.flatMap (fun k => let r := c.pat.slot k; (if r.fb1 < 56 then [r.fb1] else []) ++ (if r.fb2 < 56 then [r.fb2] else []) ++ (if r.gearKind = 2 then [r.gearMaster] else []))
/-- PT_DIGEST as words. -/
def Core.digestWords (c : Core) : List Word := (List.range 8).map (fun i => c.reg R.PT_DIGEST i)
/-- A full load or re-lace runs (PHASE 4, or 2 for LOAD_FLASH). -/
def Core.loading (c : Core) : Bool := c.get F.PT_STAT_PHASE 0 == 4 || (c.get F.PT_STAT_PHASE 0 == 2 && c.loader.cmd == 7)
/-- A full load runs: ACTIVATE or LOAD_FLASH (R51). -/
def Core.fullLoading (c : Core) : Bool := c.loading && (c.loader.cmd == 3 || c.loader.cmd == 7)
/-- An island is FENCED, FAILED or in ISLAND_RESET. -/
def Core.islandTrouble (c : Core) : Bool := c.isl.any (fun e => e.2 == 3 || e.2 == 4 || e.2 == 5)
/-- A seal fault is latched in either channel. -/
def Core.sealFaulted (c : Core) : Bool := c.bridle.sealLatch || c.bridle.xSealLatch
/-- The Lead's digest, where it is known, differs (R53). -/
def Core.digestDiffers (c : Core) : Bool := match c.twin.partnerDigest with | some d => d != c.digestWords | none => false

/-- SDCLK is present on the line of an F-group: the module that drives the group drives it (R198). -/
def Core.sdclkSeen (c : Core) (g : Nat) : Bool := c.drives g || c.bridle.pown.getLsbD g
/-- The image bank that runs: the trial bank during a trial (R446), else the boot bank. -/
def Core.runBank (c : Core) : Nat := if c.bit F.MG_IMG_STAT_TRIAL 0 then (if c.sad.imgTrialBank then 1 else 0) else c.get F.MG_IMG_STAT_BOOT 0
/-- TW_NOTREADY.CAUSES (Table 15.4). A failed XB-2 (Table 1.6) sets the ISLAND cause: its link is lost, or it has no supply. -/
def Core.notReady (c : Core) : Nat :=
  (if c.get F.TW_ROLE_LINK 0 ≠ 6 then 1 else 0)
    ||| (if c.twin.recLost then 2 else 0)
    ||| (if c.digestDiffers then 4 else 0)
    ||| (if c.twin.seen && c.twin.partnerLinkVer ≠ c.get F.MG_IMG_LINK_LINK_VER c.runBank then 8 else 0)
    ||| (if c.bit F.SYS_AWL_ENABLE 0 then 16 else 0)
    ||| (if c.usedPorts.any (fun p => c.bit F.FB_STAT_FAULT p) then 32 else 0)
    ||| (if c.sealFaulted then 64 else 0)
    ||| (if c.sched.therm then 128 else 0)
    ||| (if c.islandTrouble || c.bridle.linkLost || !c.bridle.supplied then 256 else 0)
    ||| (if (List.range 8).any (fun g => c.pat.groupMask.testBit g && !c.sdclkSeen g) then 512 else 0)
    ||| (if c.twin.incarnBad || c.bit F.RST_STAT_INCARN_UNSAVED 0 then 1024 else 0)
    ||| (if c.loading then 2048 else 0)

/-- Confirms a trial image (R447): the trial bank becomes the boot bank and the floor takes its SEC_VER. -/
def Core.imgConfirm (c : Core) : Core :=
  if !c.sad.imgTrial || c.sad.imgTrialBoots ≠ 1 then c
  else
    let b := if c.sad.imgTrialBank then 1 else 0
    let c := { c with sad := { c.sad with imgTrial := false } }
    let c := (c.setBit F.MG_IMG_STAT_TRIAL 0 false).setBit F.MG_HEALTH_IMG_TRIAL 0 false
    let c := (c.set F.MG_IMG_STAT_BOOT 0 b).set F.MG_IMG_LINK_STATE b 2
    let c := c.setReg R.MG_IMG_FLOOR 0 (c.reg R.MG_IMG_SECVER b)
    c.logFrom 0x28 0x0706 noSrc b

/-- Judges READY (R372): TW_NOTREADY takes the causes, and READY follows on a Standby that has a pattern (R60, R424). -/
def Core.judge (c : Core) : Core :=
  let n := c.notReady
  let c := c.set F.TW_NOTREADY_CAUSES 0 n
  let now := c.isStandby && n == 0 && !c.bit F.PT_BOOT_NO_PATTERN 0
  if now == c.bit F.TW_ROLE_READY 0 then c
  else
    let c := (c.setBit F.TW_ROLE_READY 0 now).logFrom 0x23 (if now then 0x0102 else 0x0103) noSrc n
    if now then c.imgConfirm else c

/-- This module drives the outputs of the feedback ports: serial clocks and excitation (R23). They stop with its claims (R245). -/
def Core.drivesPorts (c : Core) : Bool := c.isLead && (c.bridle.own ≠ 0 || c.pat.groupMask = 0)
/-- A resolver's excitation stops (R240, R245). -/
def Core.exciteStop (c : Core) (p : Nat) : Core :=
  if (c.portAt p).exciting then (c.setPort p { c.portAt p with exciting := false }).emit (.excite p 0 0) else c
/-- A module that begins or ends to drive suppresses some port errors for 100 µs (R239). -/
def Core.suppressPorts (c : Core) : Core := { c with twin := { c.twin with suppressTo := c.profNs + 100000 } }
/-- Releases every claim (R373, R375): this module drives no enable and no first brake path any more; excitation stops with the claims (R245), and a Lead's CAN channels only monitor (R312). -/
def Core.releaseClaims (c : Core) : Core :=
  let c := if c.drivesPorts then c.suppressPorts else c
  let c := foldN (List.range 56) c Core.exciteStop
  let c := { c with bridle := { c.bridle with own := 0 } }.sendLevel 0x25 0x27 lineClaim 0
  let c := foldN (List.range 16) c (fun c g => c.setBg g { c.bg g with genA := false, genB := false, path1 := false, path2 := false, relCheck := false, relPend := false, brakePend := false })
  if c.isLead then foldN (List.range 4) c (fun c ch => if c.get F.CN_STAT_STATE ch = 0 then c else c.set F.CN_STAT_STATE ch 4) else c

/-- FAIL_OUT is asserted, and stays so through the reset that follows (R375, R467). -/
def Core.assertFail (c : Core) : Core := if c.twin.failOut then c else { c with twin := { c.twin with failOut := true } }.emit .fail
/-- A Lead with a READY Standby hands over (R27, R375): it asserts FAIL, and then releases every claim. -/
def Core.handOver (c : Core) : Core := c.assertFail.releaseClaims

end Sys2Proof.Machine
end

