-- ==== Sys2Proof/Machine/Bridle.lean ====
section
/-! DEFINITION. Bridle (R336–R362): both channels' conditions, stop causes, latches, STO, SS1, SLS and the release procedure. -/
namespace Sys2Proof.Machine

/-! ### The seal bank (R345) -/

/-- The SLS code of a lane group in a seal bank. -/
def sealCode (sb : BitVec 40) (g : Nat) : Nat := sb.toNat / 2 ^ (2 * g) % 4
/-- SB33, the door interlock. -/
def sealDoor (sb : BitVec 40) : Bool := sb.getLsbD 32
/-- SB34, twin required. -/
def sealTwin (sb : BitVec 40) : Bool := sb.getLsbD 33
/-- SB35, antivalent chain. -/
def sealAntivalent (sb : BitVec 40) : Bool := sb.getLsbD 34
/-- The SS1 time code. -/
def sealTime (sb : BitVec 40) : Nat := sb.toNat / 2 ^ 35 % 16
/-- The number of ON switches is odd. -/
def sealParity (sb : BitVec 40) : Bool := (bitsOf 40 sb.toNat).length % 2 == 1
/-- t_ss1 in ms, from the XB-2's reference. -/
def Core.tSs1 (c : Core) : Nat := 250 * (sealTime c.bridle.xRef + 1)

/-! ### Inputs and latches -/

/-- The STO_REQ pair requests, or counts as requesting (R343, R344). -/
def Core.stoIn (c : Core) : Bool := c.bridle.sto ≠ 0 || c.bridle.discrep.getLsbD 0
/-- The SS1_REQ pair requests. -/
def Core.ss1In (c : Core) : Bool := c.bridle.ss1 ≠ 0 || c.bridle.discrep.getLsbD 1
/-- The DOOR pair requests. -/
def Core.doorIn (c : Core) : Bool := c.bridle.door ≠ 0 || c.bridle.discrep.getLsbD 2
/-- The channels of a pair that show a request (R343): de-energised, and in antivalent mode channel B while energised. -/
def showsRequest (antivalent a b : Bool) : BitVec 2 := BitVec.ofNat 2 ((if a then 0 else 1) + (if b == antivalent then 2 else 0))
/-- The latches that cover a group: causes 7–11 from the backup domain, 12 and 14 held until module reset (R357, R421). -/
def Core.latches (c : Core) (g : Nat) : Nat := Tab.get 0 c.latchRec g ||| (c.bg g).latch
/-- A latch covers the group, SEAL among them. -/
def Core.latched (c : Core) (g : Nat) : Bool := c.latches g ≠ 0 || c.sealFaulted
/-- Latches a cause for a group and logs it (R359). -/
def Core.latch (c : Core) (g cause : Nat) : Core :=
  if (c.latches g).testBit cause then c
  else
    let c := if cause = 12 || cause = 14 then c.setBg g { c.bg g with latch := (c.bg g).latch ||| 2 ^ cause }
      else { c with latchRec := Tab.set 0 c.latchRec g (Tab.get 0 c.latchRec g ||| 2 ^ cause) }
    c.logFrom 0x27 0x0002 g cause

/-! ### The XB-2 (R339, R352) -/

/-- The XB-2 has a reason to run its own SS1 timer for a group: the SS1_REQ pair, the door of a code-1 group, a trip or a seal fault. -/
def Core.xReason (c : Core) (g : Nat) : Bool :=
  c.ss1In || (c.doorIn && sealDoor c.bridle.xRef && sealCode c.bridle.xRef g == 1) || (c.bg g).htrip || c.bridle.xSealLatch
/-- The conditions under which the XB-2 drives GEN_B of a group active (R339). -/
def Core.genBOk (c : Core) (g : Nat) : Bool :=
  let b := c.bg g
  let x := c.bridle
  x.supplied && x.refStored && x.own.getLsbD g && !x.pown.getLsbD g && !c.stoIn && !b.xsto && !b.xss1Expired && !b.xExpired
    && !b.htrip && !x.xSealLatch && sealParity x.xSeal && x.xSeal == x.xRef
/-- The XB-2 follows its conditions: timers start and end with their reasons, and GEN_B and the second brake path follow R339. -/
def Core.xb2 (c : Core) : Core :=
  foldN (List.range 16) c (fun c g =>
    let b := c.bg g
    let r := c.bridle.supplied && c.xReason g
    let c := c.setBg g { b with xTimer := r, xExpired := r && b.xExpired }
    let on := c.genBOk g
    c.setBg g { c.bg g with genB := on, path2 := on && g % 2 == 0 })

/-! ### STO and SS1 (R350–R353) -/

/-- A release under way ends because a cause came up (the coincidence rule): the group stays in STO, refused CAUSE_ACTIVE. -/
def Core.cancelRelease (c : Core) (g : Nat) : Core :=
  let b := c.bg g
  if b.relCheck || b.relPend then
    let c := c.setBg g { b with relCheck := false, relPend := false }
    if c.get F.LG_REL_RESULT_RESULT 0 = 0 then c.set F.LG_REL_RESULT_RESULT 0 4 else c
  else c

/-- A slot of a group that enters STO: its profile tracks, its loop state clears, its estimator goes OFF unless it has FAILED (R148, R184, Table 8.2). -/
def Core.stoSlot (c : Core) (k : Nat) : Core :=
  let c := (c.trackSlot k).clearLoop k
  let c := c.setEst k { c.estAt k with hallRef := none }
  let c := if c.get F.AX_SL_STAT_STATE k = 6 then c else (c.setEst k {}).set F.AX_SL_STAT_STATE k 0
  c.publishState k c.profNs

/-- A group enters STO (R350): GEN_A and the first brake path go, the slots track with cleared loops. At the end of SS1 no master is lost (R157). -/
def Core.enterSto (c : Core) (g cause : Nat) (ss1End : Bool) : Core :=
  if c.inSto g then (c.cancelRelease g).set F.SF_GRP_CAUSE g cause
  else
    let c := c.setBg g { c.bg g with genA := false, path1 := false, ss1Pend := 0, brakeLead := false, relCheck := false, relPend := false, brakePend := false, still := 0 }
    let c := (c.setGrp g 2).set F.SF_GRP_CAUSE g cause
    let c := (c.addSat F.SF_CNT_STO 0 1).logFrom 0x27 0x0000 g cause
    let ks := c.groupSlots g
    let c := if ss1End then c else foldN ks c (fun c k => c.loseMaster 1 k)
    foldN ks c Core.stoSlot

/-- An SS1 cause for a group (R351): in RUN, SS1 starts at its next frame start; otherwise the cause is recorded. -/
def Core.requestSs1 (c : Core) (g cause : Nat) : Core :=
  if c.get F.SF_GRP_STATE g = 0 then (if (c.bg g).ss1Pend = 0 then c.setBg g { c.bg g with ss1Pend := cause } else c)
  else (c.cancelRelease g).set F.SF_GRP_CAUSE g cause
/-- An SS1 cause for the groups of a mask. -/
def Core.requestSs1s (c : Core) (gs : List Nat) (cause : Nat) : Core := foldN gs c (fun c g => c.requestSs1 g cause)

/-- Asserts XSTO of a group (R337). -/
def Core.assertXsto (c : Core) (g : Nat) : Core := c.setBg g { c.bg g with xsto := true }
/-- An STO that Bridle-P takes for RAMP, READBACK, XB2_LINK or DUAL_CLAIM, or for a host request: XSTO is asserted in the same step (R350). -/
def Core.stoWithX (c : Core) (g cause : Nat) : Core := ((c.assertXsto g).enterSto g cause false).xb2

/-- |v_act| of the monitored slot of a group as a number; a value that is not finite counts as above every limit. -/
def Core.monSpeed (c : Core) (g : Nat) : Option Rat :=
  let k := (c.pat.safe g).monSlot
  if k < 128 then
    let v : F32 := (c.ctxAt k).actVel
    some (if v.finite then v.abs.toRat else 2 ^ 128)
  else none
/-- The limit of a code in a group's SAFETY entry (Table 14.4). -/
def Core.slsLimit (c : Core) (g code : Nat) : F32 := let e := c.pat.safe g; if code = 1 then e.lim1 else if code = 2 then e.lim2 else e.lim3

/-- SS1 starts at a frame start (R351). -/
def Core.ss1Start (c : Core) (g : Nat) (t : Int) : Core :=
  let b := c.bg g
  let v : F32 := match (c.pat.safe g).monSlot with | k => if k < 128 then (c.ctxAt k).actVel.abs else 0
  let c := c.setBg g { b with ss1Pend := 0, ss1T := t, v0 := v, still := 0, brakeLead := false, xss1 := true, xss1Timer := true }
  let c := (c.setGrp g 1).set F.SF_GRP_CAUSE g b.ss1Pend
  let c := (c.addSat F.SF_CNT_SS1 0 1).logFrom 0x27 0x0001 g b.ss1Pend
  foldN (c.groupSlots g) c (fun c k => c.rampSs1 k t)

/-- The supervision of SS1 at a frame (R353): the ramp, then standstill over eight frames, from the first frame start at rest to the one eight frames later (Table 14.7). -/
def Core.ss1Frame (c : Core) (g : Nat) (t : Int) : Core :=
  let b := c.bg g
  let l1 : F32 := (c.pat.safe g).lim1
  let slack := F32.toRat l1 / 50
  let left : Rat := 1 - ((t - b.ss1T : Int) : Rat) / ((c.tSs1 * 1000000 : Nat) : Rat)
  let bound := 11 / 10 * F32.toRat b.v0 * (if left < 0 then 0 else left) + slack
  let mon := c.monSpeed g
  if mon.any (fun v => decide (bound < v)) then (c.latch g 9).stoWithX g 9
  else if b.brakeLead then c
  else
    let still := (c.groupSlots g).all (fun k => (c.profileAt k t).2.1.isZero) && !mon.any (fun v => decide (slack < v))
    let n := if still then b.still + 1 else 0
    let c := c.setBg g { b with still := n }
    if n < 9 then c
    else
      let c := c.setBg g { c.bg g with path1 := false }
      if (c.pat.safe g).brk ≠ 0xFF then c.setBg g { c.bg g with brakeLead := true } else c.enterSto g (c.get F.SF_GRP_CAUSE g) true

/-- The limit check of SLS at a frame (R346, R351). -/
def Core.slsFrame (c : Core) (g : Nat) : Core :=
  let code := sealCode c.bridle.sealP g
  if code = 0 || c.inSto g then c
  else if (c.monSpeed g).any (fun v => decide (F32.toRat (c.slsLimit g code) < v)) && !(c.latches g).testBit 7 then (c.latch g 7).requestSs1 g 7
  else c

/-- What Bridle-P does for a group at a frame start (R351, R353, R357). -/
def Core.bridleFrame (c : Core) (g : Nat) (t : Int) : Core :=
  if !c.isLead || !c.bridle.own.getLsbD g then c
  else
    let b := c.bg g
    let c :=
      if b.relPend && c.drives g && c.runs (0x10 + g) then
        let c := c.setBg g { b with relPend := false, genA := true, brakePend := (c.pat.safe g).brk ≠ 0xFF }
        let c := (c.setGrp g 0).set F.LG_REL_RESULT_GRANTED 0 (c.get F.LG_REL_RESULT_GRANTED 0 ||| 2 ^ g)
        let c := c.logFrom 0x27 0x0005 g (c.get F.SF_GRP_CAUSE g)
        foldN (c.groupSlots g) c (fun c k => (c.setProf k { c.profAt k with autoDone := false }).publishState k t)
      else if b.brakePend then c.setBg g { b with brakePend := false, path1 := true }
      else c
    let c := if c.get F.SF_GRP_STATE g = 0 && (c.bg g).ss1Pend ≠ 0 then c.ss1Start g t
      else if c.get F.SF_GRP_STATE g = 1 then c.ss1Frame g t else c
    c.slsFrame g

/-! ### Seal faults (R348) -/

/-- A seal fault: SS1 of every claimed group, the XB-2's timers for all groups, and SEAL latched in both channels until the next power-on. -/
def Core.sealFault (c : Core) : Core :=
  if c.bridle.sealLatch && c.bridle.xSealLatch then c
  else
    let c := { c with bridle := { c.bridle with sealLatch := true, xSealLatch := true } }
    let c := c.logFrom 0x27 0x0003 noSrc 13
    let c := c.requestSs1s (bitsOf 16 c.bridle.own.toNat) 13
    c.xb2.judge
/-- Bridle-P's comparison of the four seal values, and of the parity of both readings. -/
def Core.sealAgrees (c : Core) : Bool :=
  let x := c.bridle
  x.sealP == x.xSeal && x.sealP == x.xRef && (!c.pat.valid || x.sealP == c.pat.sealExpect) && sealParity x.sealP && sealParity x.xSeal

/-! ### Commands -/

/-- STO_REQ_INPUT (R343, R350): `a` and `b` are the energised levels. -/
def execStoReqInput (s : State) (a b : Bool) : Host.Outcome State Fault Refusal := onCore s (fun c =>
  let c := { c with bridle := { c.bridle with sto := showsRequest (sealAntivalent c.bridle.sealP) a b } }
  let c := c.xb2
  if c.stoIn then foldN (List.range 16) c (fun c g => c.enterSto g 4 false) else c)
/-- SS1_REQ_INPUT (R343, R351, R352). -/
def execSs1ReqInput (s : State) (a b : Bool) : Host.Outcome State Fault Refusal := onCore s (fun c =>
  let c := { c with bridle := { c.bridle with ss1 := showsRequest (sealAntivalent c.bridle.sealP) a b } }
  let c := c.xb2
  if c.ss1In then c.requestSs1s (List.range 16) 5 else c)
/-- The code-1 groups, which the door covers while SB33 is ON (R356). -/
def Core.doorGroups (c : Core) : List Nat := if sealDoor c.bridle.sealP then (List.range 16).filter (fun g => sealCode c.bridle.sealP g == 1) else []
/-- DOOR_INPUT (R343, R356). -/
def execDoorInput (s : State) (a b : Bool) : Host.Outcome State Fault Refusal := onCore s (fun c =>
  let c := { c with bridle := { c.bridle with door := showsRequest (sealAntivalent c.bridle.sealP) a b } }
  let c := c.xb2
  if c.doorIn then c.requestSs1s c.doorGroups 6 else c)
/-- SAFETY_INPUT_RETURN (R339, R343): both channels of a pair stop requesting. -/
def execSafetyInputReturn (s : State) (pair : SafetyPair) : Host.Outcome State Fault Refusal := onCore s (fun c =>
  let b := c.bridle
  { c with bridle := match pair with
      | .stoReq => { b with sto := 0 }
      | .ss1Req => { b with ss1 := 0 }
      | .door => { b with door := 0 } }.xb2)

/-- The two channels of a pair agree. -/
def pairAgrees (v : BitVec 2) : Bool := v == 0 || v == 3
/-- The condition of a latched cause of a group is absent (R357). -/
def Core.causeAbsent (c : Core) (g cause : Nat) : Bool :=
  match cause with
  | 7 => !(c.monSpeed g).any (fun v => decide (F32.toRat (c.slsLimit g (sealCode c.bridle.sealP g)) < v))
  | 9 => c.get F.SF_GRP_STATE g != 1
  | 10 =>
    let x := c.bridle
    let holds (i : Nat) (v : BitVec 2) : Bool := x.discrep.getLsbD i && !pairAgrees v
    !(holds 0 x.sto || holds 1 x.ss1 || (holds 2 x.door && c.doorGroups.contains g))
  | 11 => (c.bg g).rb == 0
  | _ => true
/-- SRST_N (R344, R357): the rising edge of an accepted low period clears each latch of causes 7–11 whose condition is absent. -/
def execSrstN (s : State) (lowMs : Nat) : Host.Outcome State Fault Refusal := onCore s (fun c =>
  if lowMs < 100 || 2000 < lowMs then c
  else
    let c := foldN (List.range 16) c (fun c g =>
      let keep := (bitsOf 16 (Tab.get 0 c.latchRec g)).filter (fun k => !c.causeAbsent g k)
      let c := { c with latchRec := Tab.set 0 c.latchRec g (ofBits keep) }
      c.setBg g { c.bg g with htrip := false })
    let b := c.bridle
    let d := ofBits ((if b.discrep.getLsbD 0 && !pairAgrees b.sto then [0] else []) ++ (if b.discrep.getLsbD 1 && !pairAgrees b.ss1 then [1] else [])
      ++ (if b.discrep.getLsbD 2 && !pairAgrees b.door then [2] else []))
    { c with bridle := { b with discrep := BitVec.ofNat 3 d } }.xb2)

/-- DISCREPANCY (R344): both channels latch it, and the pair counts as requesting. -/
def execDiscrepancy (s : State) (pair : SafetyPair) : Host.Outcome State Fault Refusal := onCore s (fun c =>
  let bit : Nat := match pair with | .stoReq => 1 | .ss1Req => 2 | .door => 4
  let c := { c with bridle := { c.bridle with discrep := c.bridle.discrep ||| BitVec.ofNat 3 bit } }
  let gs := match pair with | .door => c.doorGroups | _ => List.range 16
  let c := foldN gs c (fun c g => c.latch g 10)
  let c := c.xb2
  match pair with
  | .stoReq => foldN gs c (fun c g => c.enterSto g 10 false)
  | _ => c.requestSs1s gs 10)

/-- SEAL_FAULT (R345, R348, R349): a change of the live bank, stable for 20 ms, seen by both channels. While Bridle-P is gated, only the XB-2 sees and latches it; unpowered, it sees nothing. -/
def execSealFault (s : State) (live : BitVec 40) : Host.Outcome State Fault Refusal := onCore s (fun c =>
  let c := { c with bridle := { c.bridle with sealP := live, xSeal := (if c.bridle.supplied then live else c.bridle.xSeal) } }
  if c.runs 0x27 then c.sealFault else { c with bridle := { c.bridle with xSealLatch := c.bridle.xSealLatch || c.bridle.supplied } }.xb2)

/-- A watch line of a group with a code trips in the XB-2 (R352). -/
def Core.watchTrip (c : Core) (g : Nat) : Core :=
  let c := c.setBg g { c.bg g with htrip := true }
  (((c.latch g 8).requestSs1 g 8)).xb2

/-- XB2_STATUS (R338, R348, R352): Bridle-P takes the XB-2's report and compares the seal values. -/
def execXb2Status (s : State) (st : Xb2Status) : Host.Outcome State Fault Refusal := onCore s (fun c =>
  if !c.bridle.supplied then c
  else
    let c := { c with bridle := { c.bridle with linkSeen := true, xSeal := st.sealLive, xRef := st.sealRef, refStored := true, xSealLatch := c.bridle.xSealLatch || st.sealLatch } }
    let c := foldN (bitsOf 16 st.htrip.toNat) c (fun c g => if (c.bg g).htrip then c else c.watchTrip g)
    let c := { c with bridle := { c.bridle with agreed := c.bridle.agreed || (c.pat.valid && c.sealAgrees) } }
    if c.sealAgrees && !st.sealLatch then c.xb2 else c.sealFault)

/-- XB2_LINK_LOSS (R358, Table 1.6): every group in STO with XSTO, and a Lead with a READY Standby hands over. -/
def execXb2LinkLoss (s : State) : Host.Outcome State Fault Refusal := onCore s (fun c =>
  let c := { c with bridle := { c.bridle with linkLost := true } }
  let c := foldN (List.range 16) c (fun c g => ((c.assertXsto g).latch g 12).enterSto g 12 false)
  let c := c.xb2
  (if c.isLead && c.readyPartner then c.handOver else c).judge)

/-- READBACK_CHECK (R358): a level that differs from its command in three consecutive checks, or a GEN_B or second path active where R339 holds it inactive. -/
def execReadbackCheck (s : State) (r : Readback) : Host.Outcome State Fault Refusal := onCore s (fun c =>
  foldN (List.range 16) c (fun c g =>
    let b := c.bg g
    let own := c.bridle.own.getLsbD g && !c.bridle.pown.getLsbD g
    let brake := g % 2 == 0
    let n := g / 2
    let differs := own && (r.genA.getLsbD g != b.genA || r.genB.getLsbD g != b.genB || (brake && (r.path1.getLsbD n != b.path1 || r.path2.getLsbD n != b.path2)))
    let wrong := own && !c.genBOk g && (r.genB.getLsbD g || (g % 2 == 0 && r.path2.getLsbD n))
    let k := if differs then Min.min (b.rb + 1) 3 else 0
    let c := c.setBg g { b with rb := k }
    if k == 3 || wrong then (c.latch g 11).stoWithX g 11 else c))

/-- HOST_STO: a write of LG_STO_REQ, a W1S mask (R350). -/
def Core.hostSto (c : Core) (mask : Nat) : Core :=
  let c := c.set F.LG_STO_REQ_MASK 0 (c.get F.LG_STO_REQ_MASK 0 ||| mask)
  foldN (bitsOf 16 mask) c (fun c g => c.stoWithX g 1)
/-- HOST_SS1: a write of LG_SS1_REQ (R351). -/
def Core.hostSs1 (c : Core) (mask : Nat) : Core :=
  let c := c.set F.LG_SS1_REQ_MASK 0 (c.get F.LG_SS1_REQ_MASK 0 ||| mask)
  c.requestSs1s (bitsOf 16 mask) 2

/-- SS1_BRAKE_LEAD_EXPIRY (R353): 20 ms after the brake path dropped, GEN_A is removed. -/
def execSs1BrakeLeadExpiry (s : State) (g : Nat) : Host.Outcome State Fault Refusal := inRange "lane group" g 16 (onCore s (fun c =>
  if c.get F.SF_GRP_STATE g = 1 && (c.bg g).brakeLead then c.enterSto g (c.get F.SF_GRP_CAUSE g) true else c))
/-- SS1_TIME_END (R353): at t_ss1 GEN_A is removed and the first brake path drops. -/
def execSs1TimeEnd (s : State) (g : Nat) : Host.Outcome State Fault Refusal := inRange "lane group" g 16 (onCore s (fun c =>
  if c.get F.SF_GRP_STATE g = 1 then c.enterSto g (c.get F.SF_GRP_CAUSE g) true else c))
/-- XB2_SS1_TIMER (R337, R339): the timers that run for the group have run t_ss1. -/
def execXb2Ss1Timer (s : State) (g : Nat) : Host.Outcome State Fault Refusal := inRange "lane group" g 16 (onCore s (fun c =>
  let b := c.bg g
  (c.setBg g { b with xExpired := b.xTimer, xss1Expired := b.xss1Timer }).xb2))
/-- WATCH_LINE_TRIP (R352): a group of code 0 has no watch line limit. -/
def execWatchLineTrip (s : State) (g : Nat) : Host.Outcome State Fault Refusal := inRange "lane group" g 16 (onCore s (fun c =>
  if !c.bridle.supplied || sealCode c.bridle.xRef g = 0 then c else c.watchTrip g))
/-- XB2_SUPPLY_LOSS (R15, R27): every GEN_B and second brake path is removed, and a Standby clears READY. -/
def execXb2SupplyLoss (s : State) : Host.Outcome State Fault Refusal := onCore s (fun c =>
  { c with bridle := { c.bridle with supplied := false } }.xb2.judge)
/-- The XB-2 and Bridle-P lose their supply with the module's (R348, R349, Table 17.6): the reference, the seal latches, the trips and the discrepancies go. -/
def Core.bridleOff (c : Core) : Core :=
  let grp := (List.range 16).foldl (fun (t : Tab BGroup) (g : Nat) => Tab.set ({} : BGroup) t g { c.bg g with htrip := false }) []
  { c with bridle := { c.bridle with grp := grp, sealLatch := false, xSealLatch := false, refStored := false, supplied := false, discrep := 0 } }.xb2
/-- XB2_SEAL_REFERENCE (R360): the bank, stable for 20 ms after power-on, becomes the reference. -/
def execXb2SealReference (s : State) : Host.Outcome State Fault Refusal := onCore s (fun c =>
  { c with bridle := { c.bridle with supplied := true, xSeal := c.bridle.sealP, xRef := c.bridle.sealP, refStored := true } }.xb2.judge)

/-- A cause of a group is still present (R357): an input, the door, a claim of the partner, a lost link, the thermal limit (R289), a class A context of the group whose engine does not run (R284), STARTUP held by R395 or by a full load (Table 14.5), or the agreement of R360 not yet found. -/
def Core.causeActive (c : Core) (g : Nat) : Bool :=
  (c.groupSlots g).any (fun k => (c.pat.slot k).cls = 1 && !c.runs (c.hostEngine k)) ||
  c.bridle.startup || c.fullLoading || !c.bridle.agreed || c.stoIn || c.ss1In || (c.doorIn && c.doorGroups.contains g) || c.bridle.pown.getLsbD g || c.bridle.linkLost || c.sched.therm
/-- The first refusal of a release of a group, in the order of R357; 0 where it goes on. -/
def Core.relRefusal (c : Core) (g : Nat) : Nat :=
  if !c.isLead || !c.bridle.own.getLsbD g then 1
  else if !c.inSto g then 2
  else if c.latched g || c.bit F.PT_BOOT_NO_PATTERN 0 then 3
  else if c.causeActive g then 4
  else if sealTwin c.bridle.sealP && !c.readyPartner then 5
  else 0
/-- LG_RELEASE (R357): each group of the mask is judged; the first refusal is reported. -/
def Core.release (c : Core) (mask : Nat) : Core :=
  let c := c.setReg R.LG_REL_RESULT 0 0
  let c := foldN (bitsOf 16 mask) c (fun c g =>
    let r := c.relRefusal g
    if r ≠ 0 then (if c.get F.LG_REL_RESULT_RESULT 0 = 0 then c.set F.LG_REL_RESULT_RESULT 0 r else c)
    else
      let keep (f : Fld) (c : Core) : Core := c.set f 0 (c.get f 0 &&& (0xFFFF - 2 ^ g))
      let c := keep F.LG_STO_REQ_MASK (keep F.LG_SS1_REQ_MASK c)
      c.setBg g { c.bg g with xsto := false, xss1 := false, xss1Timer := false, xss1Expired := false, relCheck := true, relPend := false })
  c.xb2
/-- RELEASE_GEN_B_CHECK (R357): GEN_B reads back active and GEN_A waits for the frame start, or 5 ms are over and the release is refused. -/
def execReleaseGenBCheck (s : State) (g : Nat) : Host.Outcome State Fault Refusal := inRange "lane group" g 16 (onCore s (fun c =>
  let b := c.bg g
  if !b.relCheck then c
  else if b.genB then c.setBg g { b with relCheck := false, relPend := true }
  else
    let c := c.setBg g { b with relCheck := false }
    if c.get F.LG_REL_RESULT_RESULT 0 = 0 then c.set F.LG_REL_RESULT_RESULT 0 6 else c))

end Sys2Proof.Machine
end

