-- ==== Sys2Proof/Machine/Wake.lean ====
section
/-! DEFINITION. Wake sources (R402, Table 16.4) and the request for Run they make (R393, R398). -/
namespace Sys2Proof.Machine

/-- Whether a wake source wakes a power state (Table 16.4). -/
def wakes (src st : Nat) : Bool :=
  match src with
  | 0 | 9 => 1 ≤ st && st ≤ 4
  | 3 | 8 | 10 => 1 ≤ st && st ≤ 2
  | _ => src ≤ 7 && 1 ≤ st && st ≤ 3
/-- A source is enabled in PW_WAKE_EN; the WAKE pin always is. -/
def Core.wakeEnabled (c : Core) (src : Nat) : Bool := src = 0 || (c.get F.PW_WAKE_EN_EN 0).testBit (src - 1)
/-- The state whose column of Table 16.4 decides: the target of a running entry, else the present state. -/
def Core.wakeColumn (c : Core) : Nat := let a := c.get F.PW_STAT_ACTIVE 0; if 1 ≤ a && a ≤ 4 then a else c.get F.PW_STAT_STATE 0

/-- The scheduler or application island has failed (Table 16.2). -/
def Core.hostFailed (c : Core) : Bool := c.islState 0x26 = 5 || c.islState 0x25 = 5
/-- A refused request (R394). -/
def Core.pwDeny (c : Core) (r t : Nat) : Core := ((c.set F.PW_STAT_RESULT 0 r).addSat F.PW_CNT_DENIED 0 1).logFrom 0x28 0x0402 noSrc (r + 256 * t)

/-- Work that holds a request in the pending slot (R396). -/
def Core.pwHeld (c : Core) : Bool := c.twin.takeover || c.loading || c.get F.PT_STAT_PHASE 0 = 4
/-- A request waits in the pending slot, replacing one that waits (R393). -/
def Core.pwPend (c : Core) (t : Nat) : Core :=
  if t = 7 then c.pwDeny 4 7
  else (if c.get F.PW_STAT_PENDING 0 = 7 then c else c.addSat F.PW_STAT_SUPERSEDED 0 1).set F.PW_STAT_PENDING 0 t
/-- A wake source acts: it is recorded; a running entry is abandoned with ABORTED, and a sleeping module starts its wake, which R394 checks (R398, R402), unless a takeover, a full load or a re-lace holds the request in the pending slot (R396). -/
def Core.wakeBy (c : Core) (src : Nat) : Core :=
  if !c.wakeEnabled src || !wakes src c.wakeColumn then c
  else
    let c := c.set F.PW_WAKE_SRC_SRC 0 (c.get F.PW_WAKE_SRC_SRC 0 ||| 2 ^ src)
    let a := c.get F.PW_STAT_ACTIVE 0
    if 1 ≤ a && a ≤ 4 then ((c.set F.PW_STAT_RESULT 0 5).set F.PW_STAT_ACTIVE 0 0).set F.PW_WAKE_SRC_FROM 0 (c.get F.PW_STAT_STATE 0)
    else if a = 7 then if c.pwHeld then c.pwPend 0 else if c.hostFailed then c.pwDeny 3 0 else (c.set F.PW_STAT_ACTIVE 0 0).set F.PW_WAKE_SRC_FROM 0 (c.get F.PW_STAT_STATE 0)
    else c

/-- The application island gets work: clock-stopped in Idle or Sleep, it runs again (R106, R389). -/
def Core.pokeApp (c : Core) : Core := if c.islState 0x25 = 1 then c.setIsl 0x25 0 else c

/-- WAKE_PIN (R402): an active edge, filtered for 1 ms. -/
def execWakePin (s : State) : Host.Outcome State Fault Refusal := onCore s (fun c => c.wakeBy 0)
/-- PHY_WAKE (R402): the TC10 wake output of the PHY of E0 or E1. -/
def execPhyWake (s : State) (k : Nat) : Host.Outcome State Fault Refusal := inRange "PHY" k 2 (onCore s (fun c => c.wakeBy (1 + k)))
/-- CAN_WAKE (R402): a transceiver's wake output. -/
def execCanWake (s : State) (ch : Nat) : Host.Outcome State Fault Refusal := inRange "CAN channel" ch 4 (onCore s (fun c => c.wakeBy (4 + ch)))
/-- ALARM (R402): the backup seconds count reaches PW_ALARM; 0 is none. -/
def execAlarm (s : State) : Host.Outcome State Fault Refusal := onCore s (fun c =>
  if c.reg R.PW_ALARM_LO 0 = 0 && c.reg R.PW_ALARM_HI 0 = 0 then c else c.wakeBy 9)

end Sys2Proof.Machine
end

