-- ==== Sys2Proof/Machine/Time.lean ====
section
/-! DEFINITION. Network time (R247–R252), gPTP on E0 (R253–R256), time validity and the backup counts (R257, R258). -/
namespace Sys2Proof.Machine

/-! ### The clock -/

/-- Sets network time from ns; the upper 16 bits of the seconds never change from 0 (R249). -/
def Time.setNs (t : Time) (n : Int) : Time := { t with sec := (n.fdiv 1000000000).toNat % 2 ^ 48, ns := (n.fmod 1000000000).toNat }
/-- 8 ns of the backup oscillator: it counts 32,768 periods a second into the sub-second and the seconds count while the backup domain keeps its state (R257, R258). -/
def Core.backClock (c : Core) : Core :=
  if !c.backKept then c
  else
    let ph := c.backPhase + 32768
    let sub := c.backSub + ph / 125000000
    { c with backPhase := ph % 125000000, backSub := sub % 32768, backSec := (c.backSec + sub / 32768) % 2 ^ 64 }
/-- One time-island clock: 8 ns and the trim of NT_ADJ in 2^-32 ns (R247, R248); the backup counts go on. -/
def Core.clock (c : Core) : Core :=
  let c := c.backClock
  if !c.runs 0x22 then c
  else
    let t := c.time
    let q : Int := c.netNs * 2 ^ 32 + t.frac + 8 * 2 ^ 32 + (c.reg R.NT_ADJ 0).toInt
    let n := q.fdiv (2 ^ 32)
    { c with time := { t.setNs n with frac := (q.fmod (2 ^ 32)).toNat, clocks := t.clocks + 1 } }

/-- A step of network time (R251, R260, R267): STEP_SUM, EPOCH and STEPS follow, TIME_STEP is logged, rings mark the discontinuity, and more than four steps within 60 s set STEP_STORM, logged once per storm. -/
def Core.stepTime (c : Core) (delta : Int) : Core :=
  let now := c.profNs
  let t := c.time
  let recent := (now :: t.stepTimes).filter (fun x => decide (now - x ≤ 60000000000))
  let storm := decide (4 < recent.length)
  let c := { c with time := { t.setNs (c.netNs + delta) with stepSum := t.stepSum + delta, stepTimes := recent.take 8, storm := storm } }
  let c := (c.addWrap F.NT_STAT_EPOCH 0 1).addSat F.NT_CNT_STEPS 0 1
  let c := c.logFrom 0x22 0x0205 noSrc (BitVec.ofInt 32 delta).toNat
  let c := foldN c.usedSlots c (fun c k => c.setRing k { c.ringAt k with discont := true })
  if storm then
    let c := c.setBit F.NT_STAT_STEP_STORM 0 true
    if t.storm then c else c.logFrom 0x22 0x0206 noSrc 0
  else c

/-- A write of NT_CTRL.SET (R251, R267). -/
def Core.ntSet (c : Core) : Core :=
  let ns := (c.reg R.NT_SET_NS 0).toNat
  if 1000000000 ≤ ns then c.setBit F.NT_STAT_SET_REFUSED 0 true
  else
    let new : Int := ((c.reg R.NT_SET_SEC_LO 0).toNat + (c.get F.NT_SET_SEC_HI_SEC 0) * 2 ^ 32 : Nat) * 1000000000 + ns
    let c := (c.stepTime (new - c.netNs)).setBit F.NT_STAT_TIME_VALID 0 true
    { c with time := { c.time with setClk := some c.time.clocks } }
/-- A write of NT_ADJ: outside ±34,359,738 the nearer limit is stored (R248). -/
def Core.writeAdj (c : Core) (v : Int) : Core := c.setReg R.NT_ADJ 0 (BitVec.ofInt 32 (clampInt v (-34359738) 34359738))

/-- Copies network time into the backup counts. -/
def Core.timeCopy (c : Core) : Core := { c with backSec := c.time.sec, backSub := c.time.ns * 32768 / 1000000000, backPhase := 0, backKept := true }
/-- BACKUP_TIME_COPY (R257): at a whole second. -/
def execBackupTimeCopy (s : State) : Host.Outcome State Fault Refusal := onCore s (fun c => if c.runs 0x22 then c.timeCopy else c)
/-- The time island starts: network time is loaded from the backup counts, or from 0 with TIME_VALID 0; rings are empty (R257, R260). -/
def Core.timeStart (c : Core) : Core :=
  let t : Time := if c.backKept then { sec := c.backSec, ns := c.backSub * 1000000000 / 32768, e0Link := c.time.e0Link } else { e0Link := c.time.e0Link }
  let t := { t with startNet := (t.sec : Int) * 1000000000 + t.ns }
  let c := { c with time := t, rings := [], query := none }
  ((c.setReg R.NT_STAT 0 0).setBit F.NT_STAT_TIME_VALID 0 c.backKept)

/-! ### gPTP (Table 10.1) -/

/-- gPTP runs on E0. -/
def Core.ptpOn (c : Core) : Bool := c.runs 0x22 && c.runs 0x23 && c.bit F.NT_PTP_CFG_PTP_EN 0 && c.time.e0Link
/-- A frame of another domain is discarded and counted (R253). -/
def Core.ptpFrame (c : Core) (h : PtpHdr) (f : Core → Core) : Core :=
  if h.domain ≠ 0 then c.addSat F.NT_CNT_FOREIGN 0 1 else if c.ptpOn then f c else c
/-- The ingress stamp of a frame received now, in ns with the 16 bits of NT_FRAC; the extension below them is no part of network time (R248, R254). -/
def Core.ingress (c : Core) : Rat := (c.netNs : Rat) + ((c.time.frac / 65536 : Nat) : Rat) / 65536 - (c.get F.NT_LAT_RX_LAT 0 : Rat)
/-- The servo at an offset in ns with the master's Sync interval in s (R254). -/
def Core.servo (c : Core) (o t : Rat) : Core :=
  let c := c.setReg R.NT_OFFSET 0 (BitVec.ofInt 32 (clampInt (ratRne o) (-(2 ^ 31)) (2 ^ 31 - 1)))
  if !c.bit F.NT_PTP_CFG_SERVO_EN 0 || c.bit F.NT_STAT_GM 0 then c
  else if decide (1000000 < o) || decide (o < -1000000) then
    if c.time.setClk = some c.time.clocks then { c with time := { c.time with integ := 0, good := 0 } } else
    let c := ((c.stepTime (-(ratRne o))).setBit F.NT_STAT_SYNCED 0 false).setBit F.NT_STAT_TIME_VALID 0 true
    { c with time := { c.time with integ := 0, good := 0 } }
  else
    let integ := c.time.integ + 3 / 10 * o
    let raw := -(7 / 10 * o + integ) / t
    let ppb : Rat := if raw < -200000 then -200000 else if 200000 < raw then 200000 else raw
    let c := c.writeAdj (ratRne (ppb * (3436 / 100)))
    let good := if decide (-1000 < o) && decide (o < 1000) then c.time.good + 1 else 0
    let c := { c with time := { c.time with integ := integ, good := Min.min good 8 } }
    if 8 ≤ good then (c.setBit F.NT_STAT_SYNCED 0 true).setBit F.NT_STAT_TIME_VALID 0 true else c
/-- The Sync interval of a logInterval. -/
def syncInterval (l : Int) : Rat := pow2 l
/-- The master followed: the one the BMCA chose, or the first heard (R255). -/
def Core.follows (c : Core) (clockId : Nat) : Bool := c.time.master.isNone || c.time.masterClock == clockId
/-- A complete Sync: the offset by 802.1AS from origin, correction, link delay and rate ratio. -/
def Core.syncAt (c : Core) (m : PtpSync) (inStamp : Rat) (corr : Int) (interval : Int) : Core :=
  let ratio : Rat := (1 + (m.rateOffset : Rat) / 2 ^ 41) * c.time.rate
  let master : Rat := ((m.sec * 1000000000 + m.ns : Nat) : Rat) + (corr : Rat) / 65536 + c.time.delay * ratio
  c.servo (inStamp - master) (syncInterval interval)

/-- PTP_SYNC (R253, R254). -/
def execPtpSync (s : State) (m : PtpSync) : Host.Outcome State Fault Refusal := onCore s (fun c =>
  c.ptpFrame m.hdr (fun c =>
    if !c.follows m.hdr.clockId then c
    else if m.hdr.twoStep then { c with time := { c.time with syncPend := some (m.hdr.seq, ratRne (c.ingress * 65536)) } }
    else c.syncAt m c.ingress m.hdr.corr m.hdr.logInterval))
/-- PTP_FOLLOW_UP (R253): completes the two-step Sync of its sequence number. -/
def execPtpFollowUp (s : State) (m : PtpSync) : Host.Outcome State Fault Refusal := onCore s (fun c =>
  c.ptpFrame m.hdr (fun c =>
    match c.time.syncPend with
    | some (seq, t) =>
      if seq = m.hdr.seq && c.follows m.hdr.clockId then
        { c with time := { c.time with syncPend := none } }.syncAt m ((t : Rat) / 65536) m.hdr.corr m.hdr.logInterval
      else c
    | none => c))

/-- The priority vector of an Announce. -/
def announceVector (m : PtpAnnounce) : List Nat := [m.prio1, m.clockClass, m.accuracy, m.variance, m.prio2, m.gmId, m.steps, m.hdr.clockId, m.hdr.portNo]
/-- The module's own vector: clockClass 248 and clockAccuracy 0xFE (R255); its identity and variance are not in the manual. -/
def Core.ownVector (c : Core) : List Nat :=
  [c.get F.NT_PTP_CFG_PRIO1 0, 248, 0xFE, Config.ptpFree 0, c.get F.NT_PTP_CFG_PRIO2 0, Config.ptpFree 1, 0, Config.ptpFree 1, 1]
/-- One vector is better than another: the first difference is lower. -/
def vectorLt : List Nat → List Nat → Bool
  | a :: s, b :: t => if a = b then vectorLt s t else decide (a < b)
  | _, _ => false
/-- The BMCA: the module is grandmaster while gPTP runs, GM_EN is 1 and no master heard is better (R255). -/
def Core.bmca (c : Core) : Core :=
  let own := c.ptpOn && c.bit F.NT_PTP_CFG_GM_EN 0 && (match c.time.master with | some m => vectorLt c.ownVector m | none => true)
  c.setBit F.NT_STAT_GM 0 own
/-- PTP_ANNOUNCE (R255). -/
def execPtpAnnounce (s : State) (m : PtpAnnounce) : Host.Outcome State Fault Refusal := onCore s (fun c =>
  c.ptpFrame m.hdr (fun c =>
    let v := announceVector m
    let take := match c.time.master with | none => true | some w => c.time.masterClock == m.hdr.clockId || vectorLt v w
    let c := if take then { c with time := { c.time with master := some v, masterClock := m.hdr.clockId } } else c
    c.bmca))
/-- ANNOUNCE_TIMEOUT (R253, R255). -/
def execAnnounceTimeout (s : State) : Host.Outcome State Fault Refusal := onCore s (fun c =>
  if c.ptpOn then { c with time := { c.time with master := none } }.bmca else c)
/-- PDELAY_REQ_RX (R253, R256): answered one-step with the turnaround, ingress to egress, in correctionField. -/
def execPdelayReqRx (s : State) (m : PtpPdelay) : Host.Outcome State Fault Refusal := onCore s (fun c =>
  c.ptpFrame m.hdr (fun c =>
    let turn := (c.get F.NT_LAT_RX_LAT 0 + c.get F.NT_LAT_TX_LAT 0) * 65536
    c.emit (.ptp 3 m.hdr.seq 0 turn)))
/-- PDELAY_REQ_TX (R253). -/
def execPdelayReqTx (s : State) : Host.Outcome State Fault Refusal := onCore s (fun c =>
  if !c.ptpOn then c
  else
    let seq := (c.time.pdelaySeq + 1) % 65536
    let c := { c with time := { c.time with pdelaySeq := seq, pdelayTx := some ((c.netNs + c.get F.NT_LAT_TX_LAT 0) * 65536 + (c.time.frac / 65536 : Nat)) } }
    c.emit (.ptp 2 seq 0 0))
/-- Holdover (R266). -/
def Core.holdover (c : Core) : Core := { (c.setBit F.NT_STAT_SYNCED 0 false) with time := { c.time with good := 0 } }.logFrom 0x22 0x0107 noSrc 0
/-- PDELAY_RESP_RX (R253): meanLinkDelay, and asCapable at 800 ns or less; the neighbour rate ratio that 802.1AS measures with each exchange is a free value. -/
def execPdelayRespRx (s : State) (m : PtpPdelay) : Host.Outcome State Fault Refusal := onCore s (fun c =>
  c.ptpFrame m.hdr (fun c =>
    match c.time.pdelayTx with
    | some t1 =>
      if m.hdr.seq ≠ c.time.pdelaySeq then c
      else
        let d : Rat := ((c.ingress - (t1 : Rat) / 65536) * c.time.rate - (m.hdr.corr : Rat) / 65536) / 2
        let ok := decide (d ≤ 800)
        let was := c.bit F.NT_STAT_AS_CAPABLE 0
        let c := { c with time := { c.time with delay := d, pdelayTx := none, rate := Config.neighborRate c.freeIdx }, freeIdx := c.freeIdx + 1 }
        let c := (c.setReg R.NT_PDELAY 0 (BitVec.ofInt 32 (ratRne d))).setBit F.NT_STAT_AS_CAPABLE 0 ok
        if was && !ok then c.holdover else c
    | none => c))
/-- PTP_SIGNALING (R253): received and discarded. -/
def execPtpSignaling (s : State) : Host.Outcome State Fault Refusal := onCore s id
/-- PTP_FOREIGN_FRAME (R253). -/
def execPtpForeignFrame (s : State) : Host.Outcome State Fault Refusal := onCore s (fun c => c.addSat F.NT_CNT_FOREIGN 0 1)
/-- GM_SYNC_TX (R256): one-step, with the egress stamp and its fraction. -/
def execGmSyncTx (s : State) : Host.Outcome State Fault Refusal := onCore s (fun c =>
  if !c.ptpOn || !c.bit F.NT_STAT_GM 0 then c
  else
    let n := c.netNs + c.get F.NT_LAT_TX_LAT 0
    ({ c with time := { c.time with seqTx := (c.time.seqTx + 1) % 65536 } }).emit (.ptp 0 (n.fdiv 1000000000).toNat (n.fmod 1000000000).toNat (c.time.frac / 65536)))
/-- GM_ANNOUNCE_TX (R255): with the module's own vector, clockClass 248 and clockAccuracy 0xFE among it. -/
def execGmAnnounceTx (s : State) : Host.Outcome State Fault Refusal := onCore s (fun c =>
  if !c.ptpOn || !c.bit F.NT_STAT_GM 0 then c else c.emit (.announce c.ownVector))
/-- TIME_HOLDOVER (R266). -/
def execTimeHoldover (s : State) : Host.Outcome State Fault Refusal := onCore s (fun c => if c.runs 0x22 then c.holdover else c)
/-- E0_LINK_LOSS (R266). -/
def execE0LinkLoss (s : State) : Host.Outcome State Fault Refusal := onCore s (fun c =>
  let c := { c with time := { c.time with e0Link := false } }.bmca
  if c.runs 0x22 then (c.setBit F.NT_STAT_AS_CAPABLE 0 false).holdover else c)
/-- E0_LINK_UP (R268). -/
def execE0LinkUp (s : State) : Host.Outcome State Fault Refusal := onCore s (fun c => { c with time := { c.time with e0Link := true } }.bmca)

end Sys2Proof.Machine
end

