-- ==== Sys2Proof/Machine/Capture.lean ====
section
/-! DEFINITION. History rings (R119, R259, R260), reconstruction (R262), capture and query (R263–R265). -/
namespace Sys2Proof.Machine

/-! ### Rings -/

/-- The SRAM address of a ring entry (R119). -/
def ringAddr (k i : Nat) : Nat := (12 + k / 64) * 0x400000 + k % 64 * 0x1000 + i % 256 * 16
/-- A ring entry as read back (Table 10.3). -/
structure RingEntry where
  sec : Nat
  ns : Nat
  invalid : Bool
  discont : Bool
  extrap : Bool
  decim : Bool
  epoch : Nat
  pos : Int
/-- Reads an entry; a poisoned word makes it INVALID (R260). -/
def readEntry (r : Ram) (k i : Nat) : RingEntry :=
  let a := ringAddr k i
  let w (n : Nat) : Nat := (r.word (a + 4 * n)).toNat
  let bad := (List.range 4).any (fun n => r.poisoned (a + 4 * n))
  let f := w 1 / 65536
  { sec := w 1 % 65536, ns := w 0 % 2 ^ 30, invalid := bad || f.testBit 0, discont := f.testBit 1, extrap := f.testBit 2, decim := f.testBit 3,
    epoch := f / 256 % 16, pos := (r.word (a + 12) ++ r.word (a + 8) : BitVec 64).toInt }
/-- The signed time in ns of an entry after a stamp; the entry's seconds are known modulo 65,536. -/
def RingEntry.after (e : RingEntry) (sec ns : Nat) : Int := signExtend 16 (e.sec + 65536 - sec % 65536) * 1000000000 + ((e.ns : Int) - ns)

/-- The result of a reconstruction: its code of Table 10.4, the position, and APPROX. -/
structure Recon where
  code : Nat
  pos : Int := 0
  approx : Bool := false
/-- Reconstruction of a slot at a stamp (R262): b is the oldest entry in the ring that is later than the stamp, a the entry before b; none while no entry is later. -/
def Core.reconstruct (c : Core) (ram : Ram) (k : Nat) (st : Stamp) : Option Recon :=
  if (c.pat.slot k).kind = 0 then some { code := 5 }
  else
    let ring := c.ringAt k
    let v := c.view ram
    let es := (List.range ring.fill).map (fun i => readEntry v k (ring.head + 257 + i - ring.fill))
    let older := es.takeWhile (fun e => decide (e.after st.sec st.ns ≤ 0))
    match es.drop older.length with
    | [] => none
    | b :: _ =>
      match older.reverse with
      | [] => some { code := 1 }
      | a :: _ =>
        if a.epoch ≠ b.epoch || b.discont || st.epoch ≠ a.epoch then some { code := 2 }
        else if a.invalid || b.invalid then some { code := 3 }
        else
          let ta := a.after st.sec st.ns
          let dt := b.after st.sec st.ns - ta
          some { code := 0, pos := a.pos + ((b.pos - a.pos) * (-ta)).tdiv dt, approx := a.extrap || a.decim || b.extrap || b.decim }

/-- Finishes the waiting query when its entry exists (R264). -/
def Core.tryQuery (c : Core) (ram : Ram) : Core :=
  match c.query with
  | none => c
  | some q =>
    match c.reconstruct ram q.slot q.stamp with
    | none => c
    | some r =>
      let c := { c with query := none }
      let c := ((c.setBit F.CP_Q_STAT_BUSY 0 false).set F.CP_Q_STAT_RESULT 0 r.code).setBit F.CP_Q_STAT_APPROX 0 r.approx
      if r.code = 0 then c.set64 R.CP_Q_POS_LO R.CP_Q_POS_HI 0 r.pos else c

/-- Writes a ring entry of a slot with a stamp in ns of network time and its EPOCH (R259, R260), and lets the waiting query see it. -/
def Core.ringWrite (c : Core) (ram : Ram) (k : Nat) (net : Int) (epoch : Nat) (pos : Int) (invalid extrap decim : Bool) : Core :=
  let sec := (net.fdiv 1000000000).toNat
  let ns := (net.fmod 1000000000).toNat
  let ring := c.ringAt k
  let head := if ring.fill = 0 then ring.head else (ring.head + 1) % 256
  let flags := (if invalid then 1 else 0) + (if ring.discont then 2 else 0) + (if extrap then 4 else 0) + (if decim then 8 else 0)
  let bs := bytesOfNat 4 (ns % 2 ^ 30) ++ bytesOfNat 2 (sec % 65536) ++ bytesOfNat 1 flags ++ bytesOfNat 1 epoch
    ++ bytesOfNat 8 (BitVec.ofInt 64 pos).toNat
  let c := c.store (ringAddr k head) bs
  let fill := Min.min (ring.fill + 1) 256
  let c := c.setRing k { ring with head := head, fill := fill, discont := false }
  let c := (c.set F.CP_HEAD_HEAD k head).set F.CP_HEAD_FILL k fill
  match c.query with | some q => if q.slot = k then c.tryQuery ram else c | none => c
/-- Empties the ring of a slot (R260); a step before its next entry still marks that entry. -/
def Core.ringEmpty (c : Core) (k : Nat) : Core := (c.setRing k { c.ringAt k with fill := 0, emptyT := some c.netNs }).set F.CP_HEAD_FILL k 0

/-- RING_TICK (R259): step and virtual slots write their profile position at a multiple of 62.5 µs of profile time; not while the profile island is stopped (R390). -/
def execRingTick (s : State) : Host.Outcome State Fault Refusal := onMem s (fun ram c =>
  if !c.runs 0x22 || !c.runs 0x21 then c
  else foldN (c.usedSlots.filter (fun k => (c.pat.slot k).kind = 2 || (c.pat.slot k).kind = 4)) c (fun c k =>
    c.ringWrite ram k c.netNs (c.get F.NT_STAT_EPOCH 0) (c.profileAt k c.profNs).1 false false false))

/-! ### Captures -/

/-- An edge of a source reaches a slot's capture (R263, R265). -/
def Core.captureEdge (c : Core) (k : Nat) (st : Stamp) : Core :=
  let r := c.ringAt k
  if c.bit F.CP_ARM_ARM k then
    let e := c.get F.CP_ARM_EDGE k
    let sel := e = 3 || (e = 1 && st.rising) || (e = 2 && !st.rising)
    if sel && decide (r.armedAt < st.toNs) then (c.setRing k { r with cap := some st, caught := true }).setBit F.CP_ARM_ARM k false else c
  else if r.caught then c.addSat F.CP_RES_STAT_EXTRA k 1
  else c
/-- The slots whose capture takes an input with a function from SRC (R263). -/
def Core.captureFrom (c : Core) (src : Nat) (slots : List Nat) (st : Stamp) : Core :=
  foldN (slots.filter (fun k => c.get F.CP_ARM_SRC k == src)) c (fun c k => c.captureEdge k st)
/-- The slots that IO_MAP gives a point of a kind with a function. -/
def Core.mapped (c : Core) (kind index func : Nat) : List Nat :=
  c.pat.ioMap.filterMap (fun e => if e.kind == kind && e.index == index && e.func == func then some e.arg else none)

/-- A write of CP_ARM (R263, R265). -/
def Core.captureArm (c : Core) (k : Nat) (v : Word) : Core :=
  let r := c.ringAt k
  let c := if r.cap.isSome then c.setBit F.CP_RES_STAT_DISCARDED k true else c
  let arm := F.CP_ARM_ARM.read v == 1
  let c := ((c.set F.CP_ARM_SRC k (F.CP_ARM_SRC.read v)).set F.CP_ARM_EDGE k (F.CP_ARM_EDGE.read v)).setBit F.CP_ARM_ARM k arm
  let c := if arm then c.set F.CP_RES_STAT_EXTRA k 0 else c
  c.setRing k { r with cap := none, armedAt := c.netNs, caught := r.caught && !arm }
/-- Stores a capture's result (R263). -/
def Core.captureDone (c : Core) (k : Nat) (st : Stamp) (r : Recon) : Core :=
  let c := c.setRing k { c.ringAt k with cap := none }
  let c := (c.setReg R.CP_RES_NS k (BitVec.ofNat 32 st.ns)).setReg R.CP_RES_SEC k (BitVec.ofNat 32 st.sec)
  let c := if r.code = 0 then c.set64 R.CP_RES_POS_LO R.CP_RES_POS_HI k r.pos else c
  let c := ((c.set F.CP_RES_STAT_RESULT k r.code).setBit F.CP_RES_STAT_APPROX k r.approx).setBit F.CP_RES_STAT_DONE k true
  c.logFrom 0x22 0x050C k r.code
/-- CAPTURE (R263): a slot's captured stamp is reconstructed once entry b exists. -/
def execCapture (s : State) (slot : Nat) : Host.Outcome State Fault Refusal := inRange "slot" slot 128 (onMem s (fun ram c =>
  match (c.ringAt slot).cap with
  | none => c
  | some st => match c.reconstruct ram slot st with | some r => c.captureDone slot st r | none => c))
/-- A query whose seconds differ from the present by more than 32,767 s (R453). -/
def Core.queryFar (c : Core) (st : Stamp) : Bool := decide (32767 < (signExtend 32 (st.sec + 2 ^ 32 - c.time.sec % 2 ^ 32)).natAbs)
/-- A write of CP_Q_CTRL with GO (R264): the query replaces one that waits; one too far from the present is TOO_OLD at once (R453). -/
def Core.queryGo (c : Core) (ram : Ram) : Core :=
  let ep := if c.bit F.CP_Q_CTRL_EPOCH_SET 0 then c.get F.CP_Q_CTRL_EPOCH 0 else c.get F.NT_STAT_EPOCH 0
  let st : Stamp := ⟨(c.reg R.CP_Q_SEC 0).toNat, (c.reg R.CP_Q_NS 0).toNat, true, ep, false⟩
  let c := { c with query := some ⟨c.get F.CP_Q_SLOT_SLOT 0, st⟩ }
  let c := (c.setBit F.CP_Q_STAT_BUSY 0 true).setBit F.CP_Q_STAT_APPROX 0 false
  if c.queryFar st then ({ c with query := none }.setBit F.CP_Q_STAT_BUSY 0 false).set F.CP_Q_STAT_RESULT 0 1
  else (c.set F.CP_Q_STAT_RESULT 0 0).tryQuery ram
/-- What a reconstruction ends with when no later entry came: TOO_OLD when no entry at or before the stamp is left and the ring was emptied after it, else TIMEOUT (Table 10.4). -/
def Core.lateCode (c : Core) (k : Nat) (st : Stamp) : Nat :=
  let r := c.ringAt k
  if r.fill = 0 && decide (st.toNs < r.emptyT.getD c.time.startNet) then 1 else 4
/-- RECON_TIMEOUT (R262): no later entry within 1 s of the request: a slot's capture, or the query, ends. -/
def execReconTimeout (s : State) (slot : Option Nat) : Host.Outcome State Fault Refusal := inRange "slot" (slot.getD 0) 128 (onMem s (fun ram c =>
  match slot with
  | some k =>
    match (c.ringAt k).cap with
    | some st => if (c.reconstruct ram k st).isNone then c.captureDone k st { code := c.lateCode k st } else c
    | none => c
  | none =>
    match c.query with
    | none => c
    | some q => ({ c with query := none }.setBit F.CP_Q_STAT_BUSY 0 false).set F.CP_Q_STAT_RESULT 0 (c.lateCode q.slot q.stamp)))

end Sys2Proof.Machine
end

