-- ==== Sys2Proof/Machine/FieldIo.lean ====
section
/-! DEFINITION. Direct inputs and outputs, limit inputs, the field supply and the field strings (R315–R334). -/
namespace Sys2Proof.Machine

/-! ### Levels and limits -/

/-- A block of a field string. -/
def Core.fsBlock (c : Core) (f b : Nat) : FsBlock := Tab.get {} (c.strAt f).blocks b
/-- Stores a block of a field string. -/
def Core.setFsBlock (c : Core) (f b : Nat) (v : FsBlock) : Core := c.setStr f { c.strAt f with blocks := Tab.set {} (c.strAt f).blocks b v }
/-- A field-string input as its block last reported it. -/
def Core.fsIn (c : Core) (index : Nat) : Bool := (c.reg R.FI_FS_IN (index / 32)).toNat.testBit (index % 32)
/-- The level of a direct input: the filtered one, inverted when INV is 1 (R315). -/
def Core.diLevel (c : Core) (n : Nat) : Bool := (c.diAt n).level != c.bit F.FI_DI_CFG_INV n
/-- A limit input reads 1: its level, or 1 with the supply missing or the block lost (R323, R329). -/
def Core.limitLevel (c : Core) (e : IoEntry) : Bool :=
  if e.kind = 0 then c.bit F.FI_SUPPLY_MISSING 0 || c.diLevel e.index
  else (c.fsBlock (e.index / 128) (e.index / 32 % 4)).lost || c.fsIn e.index
/-- The positive and negative limit inputs of IO_MAP (R318). -/
def Core.limitInputs (c : Core) : List IoEntry := c.pat.ioMap.filter (fun e => (e.kind = 0 || e.kind = 2) && (e.func = 3 || e.func = 4) && e.arg < 128)
/-- FI_LIM_ACTIVE follows the limit inputs; a rising limit level logs LIMIT_HIT (R318). -/
def Core.refreshLimits (c : Core) : Core :=
  c.limitInputs.foldl (fun c e =>
    let i := e.arg / 16
    let n := 2 * (e.arg % 16) + (e.func - 3)
    let w := c.get F.FI_LIM_ACTIVE_LIMITS i
    let now := c.limitLevel e
    if now == w.testBit n then c
    else
      let c := c.set F.FI_LIM_ACTIVE_LIMITS i (w ^^^ 2 ^ n)
      if now then c.logFrom 0x22 0x0506 e.arg (e.func - 3) else c) c
/-- A pattern's field inputs and strings start: a limit bit that no input carries is 0, every expected block is LOST until it has replied, and host-only inputs read 0 unless SUBST holds them (R318, R329). -/
def Core.fieldStart (c : Core) : Core :=
  let c := foldN (List.range 8) c (fun c i =>
    let mask := ofBits (((c.limitInputs.filter (fun e => e.arg / 16 == i)).map (fun e => 2 * (e.arg % 16) + (e.func - 3))))
    c.set F.FI_LIM_ACTIVE_LIMITS i (c.get F.FI_LIM_ACTIVE_LIMITS i &&& mask))
  let c := foldN (List.range 2) c (fun c f => (c.set F.FI_FS_STAT_LOST f (c.get F.FI_FS_CFG_EXPECT f)).set F.FI_FS_STAT_PRESENT f 0)
  foldN (List.range 8) c (fun c i => if c.bit F.FI_FS_CFG_SUBST (i / 4) then c else c.setReg R.FI_FS_IN i 0)

/-! ### Direct inputs -/

/-- The filter length in ns (FI_DI_CFG.FILT). -/
def diFilter (f : Nat) : Nat := match f with | 0 => 0 | 1 => 10000 | 2 => 100000 | _ => 1000000
/-- A stamp some ns before now. -/
def Core.stampBefore (c : Core) (ns : Nat) (rising : Bool) : Stamp :=
  let t := c.netNs - ns
  ⟨(t.fdiv 1000000000).toNat, (t.fmod 1000000000).toNat, rising, c.get F.NT_STAT_EPOCH 0, false⟩
/-- An edge of an input in CP_DI_CFG.EDGE. -/
def edgeSelected (e : Nat) (rising : Bool) : Bool := e = 3 || (e = 1 && rising) || (e = 2 && !rising)
/-- DI_EDGE (R261, R263, R315, R316, R319, R402): the filtered level of the coupler's output changes. Only an edge in CP_DI_CFG.EDGE is stamped, and only a stamped edge is captured or wakes. With the supply missing the levels are held and edges ignored (R323). -/
def execDiEdge (s : State) (n : Nat) (level : Bool) : Host.Outcome State Fault Refusal := inRange "direct input" n 16 (onCore s (fun c =>
  let d := c.diAt n
  let c := c.setDi n { d with raw := level }
  if !c.runs 0x22 then c
  else
    if c.bit F.FI_SUPPLY_MISSING 0 then c
    else
      let lv := level != c.bit F.FI_DI_CFG_INV n
      if level == d.level then c
      else
        let st := c.stampBefore (diFilter (c.get F.FI_DI_CFG_FILT n) + c.get F.CP_DI_CFG_COMP n) lv
        let sel := edgeSelected (c.get F.CP_DI_CFG_EDGE n) lv
        let full := decide (4 ≤ d.fifo.length)
        let c := c.setDi n { d with raw := level, level := level, fifo := if sel && !full then d.fifo ++ [st] else d.fifo }
        let c := if sel && full then c.setBit F.CP_DI_STAT_OVERRUN n true else c
        let c := c.refreshLimits
        let c := if sel then (c.captureFrom 0 (c.mapped 0 n 1) st).captureFrom 1 (c.mapped 0 n 2) st else c
        if sel && (c.get F.PW_WAKE_DI_MASK 0).testBit n then c.wakeBy 8 else c))
/-- A write of CP_DI_STAT.POP (R261). -/
def Core.diPop (c : Core) (n : Nat) : Core := c.setDi n { c.diAt n with fifo := (c.diAt n).fifo.drop 1 }

/-! ### Direct outputs -/

/-- An output point that IO_MAP makes the lane-fault indicator. -/
def Core.isIndicator (c : Core) (kind index : Nat) : Bool := c.pat.ioMap.any (fun e => e.kind == kind && e.index == index && e.func == 1)
/-- Some lane of the module is disabled. -/
def Core.anyLaneFault (c : Core) : Bool := (List.range 96).any (fun l => c.bit F.LN_STAT_FAULT l)
/-- FI_DO_CMD as it reads: an indicator's bit reads its function (R320). -/
def Core.doCmd (c : Core) : Nat :=
  ofBits ((List.range 8).filter (fun n => if c.isIndicator 1 n then c.anyLaneFault else (c.get F.FI_DO_CMD_ON 0).testBit n))
/-- FI_DO_STAT.DRIVEN (R320): commanded, on the Lead, with field supply and no latched fault; off from the entry to Deep Sleep or Off on (R334). -/
def Core.doDriven (c : Core) : Nat :=
  let active := c.get F.PW_STAT_ACTIVE 0
  if !c.isLead || c.bit F.FI_SUPPLY_MISSING 0 || !c.runs 0x22 || active = 3 || active = 4 then 0
  else c.doCmd &&& (0xFF ^^^ (c.get F.FI_DO_STAT_OVERLOAD 0 ||| c.get F.FI_DO_STAT_OVERTEMP 0))
/-- FI_FS_OUT of a block as it reads. -/
def Core.fsOut (c : Core) (i : Nat) : Nat :=
  ofBits ((List.range 16).filter (fun n => if c.isIndicator 3 (i * 16 + n) then c.anyLaneFault else (c.get F.FI_FS_OUT_ON i).testBit n))
/-- A write of FI_DO_CMD or FI_FS_OUT: the bits of lane-fault indicators are discarded (R320, R335). -/
def Core.writePoints (c : Core) (r : Reg) (i kind first : Nat) (w : Word) : Core :=
  let mask := BitVec.ofNat 32 (ofBits ((List.range 16).filter (fun n => c.isIndicator kind (first + n))))
  c.setReg r i ((w &&& ~~~mask) ||| (c.reg r i &&& mask))
/-- DO_OVERLOAD (R321). -/
def execDoOverload (s : State) (n : Nat) : Host.Outcome State Fault Refusal := inRange "direct output" n 8 (onCore s (fun c =>
  if !c.doDriven.testBit n then c
  else (c.set F.FI_DO_STAT_OVERLOAD 0 (c.get F.FI_DO_STAT_OVERLOAD 0 ||| 2 ^ n)).logFrom 0x22 0x0507 n 1))
/-- DO_OVERTEMP (R321). -/
def execDoOvertemp (s : State) (n : Nat) : Host.Outcome State Fault Refusal := inRange "direct output" n 8 (onCore s (fun c =>
  if !c.doDriven.testBit n then c
  else (c.set F.FI_DO_STAT_OVERTEMP 0 (c.get F.FI_DO_STAT_OVERTEMP 0 ||| 2 ^ n)).logFrom 0x22 0x0507 n 2))
/-- DO_OPEN_LOAD (R321): with OLD_EN, on an output that is on. -/
def execDoOpenLoad (s : State) (n : Nat) : Host.Outcome State Fault Refusal := inRange "direct output" n 8 (onCore s (fun c =>
  if c.doDriven.testBit n && (c.get F.FI_DO_CFG_OLD_EN 0).testBit n then c.set F.FI_DO_STAT_OPEN_LOAD 0 (c.get F.FI_DO_STAT_OPEN_LOAD 0 ||| 2 ^ n) else c))
/-- A write of FI_DO_CTRL.CLEAR (R321): the outputs of the mask whose switch has cooled are re-armed. -/
def Core.doClear (c : Core) (mask cooled : Nat) : Core :=
  let keep := 0xFF ^^^ (mask &&& cooled)
  (c.set F.FI_DO_STAT_OVERLOAD 0 (c.get F.FI_DO_STAT_OVERLOAD 0 &&& keep)).set F.FI_DO_STAT_OVERTEMP 0 (c.get F.FI_DO_STAT_OVERTEMP 0 &&& keep)

/-- FIELD_SUPPLY_CHANGE (R323, Table 13.1): FS+ has held a level for 1 ms. -/
def execFieldSupplyChange (s : State) (mv : Nat) : Host.Outcome State Fault Refusal := onCore s (fun c =>
  if !c.runs 0x22 then c
  else
    let low0 := c.bit F.FI_SUPPLY_LOW 0
    let miss0 := c.bit F.FI_SUPPLY_MISSING 0
    let low := if low0 then decide (mv < 18500) else decide (mv < 18000)
    let miss := if miss0 then decide (mv < 9500) else decide (mv < 9000)
    let c := ((c.set F.FI_SUPPLY_FS_MV 0 (Min.min mv 65535)).setBit F.FI_SUPPLY_LOW 0 low).setBit F.FI_SUPPLY_MISSING 0 miss
    let c := c.setBit F.FI_DI_STATE_STALE 0 miss
    let c := if low && !low0 then (c.setBit F.FI_SUPPLY_LOW_SEEN 0 true).logFrom 0x22 0x0509 noSrc 1 else c
    let c := if miss && !miss0 then (c.setBit F.FI_SUPPLY_MISSING_SEEN 0 true).logFrom 0x22 0x0509 noSrc 2 else c
    let c := if miss then c else foldN (List.range 16) c (fun c n => c.setDi n { c.diAt n with level := (c.diAt n).raw })
    c.refreshLimits)

/-! ### Field strings -/

/-- The outbound bytes 3–14 of a string (Table 13.2). -/
def Core.fsFrame (c : Core) (f seq : Nat) : List Byte :=
  let b : List Byte := [0, BitVec.ofNat 8 seq] ++ (List.range 4).flatMap (fun b => bytesOfNat 2 (c.fsOut (f * 4 + b)))
  b ++ bytesOfNat 2 (Crypto.crc16 b).toNat
/-- From the start of the outbound frame to the end of its SFD: 24 bits at 10 Mbit/s, in ns (R324, R325). -/
def sfdNs : Nat := 2400
/-- STRING_CYCLE (R325): with a block expected, on the Lead, the outbound frame leaves, and S_k, the end of its SFD, is taken. No cycle starts in an entry to Deep Sleep or Off (R334). -/
def execStringCycle (s : State) (f : Nat) : Host.Outcome State Fault Refusal := inRange "field string" f 2 (onCore s (fun c =>
  let active := c.get F.PW_STAT_ACTIVE 0
  if !c.runs 0x22 || c.get F.FI_FS_CFG_EXPECT f = 0 || !c.pat.valid || active = 3 || active = 4 then c
  else
    let seq := (c.get F.FI_FS_STAT_SEQ f + 1) % 256
    let c := c.set F.FI_FS_STAT_SEQ f seq
    let t := c.time.sec * 1000000000 + c.time.ns + sfdNs
    let c := c.setStr f { c.strAt f with stampSec := t / 1000000000, stampNs := t % 1000000000, epoch := c.get F.NT_STAT_EPOCH 0 }
    if c.isLead then c.emit (.string f (c.fsFrame f seq)) else c))
/-- The inputs of a block that IO_MAP gives no function: host-only. -/
def Core.fsHostBits (c : Core) (f b : Nat) : Word :=
  BitVec.ofNat 32 (ofBits ((List.range 32).filter (fun p => !c.pat.ioMap.any (fun e => e.kind == 2 && e.index == f * 128 + b * 32 + p && e.func != 0))))
/-- A reply that is not accepted (R329). -/
def Core.fsMiss (c : Core) (f b : Nat) (crcBad : Bool) : Core :=
  let c := c.addSat F.FI_FS_CNT_MISSES f 1
  let c := if crcBad then c.addSat F.FI_FS_CNT_CRC_ERR f 1 else c
  let k := c.fsBlock f b
  let run := k.missRun + 1
  if k.lost then c.setFsBlock f b { k with okRun := 0 }
  else if run < c.get F.FI_FS_CFG_MISS_MAX f then c.setFsBlock f b { k with missRun := run, okRun := 0 }
  else
    let c := c.setFsBlock f b { k with missRun := run, okRun := 0, lost := true }
    let c := (c.set F.FI_FS_STAT_LOST f (c.get F.FI_FS_STAT_LOST f ||| 2 ^ b)).set F.FI_FS_STAT_LOST_SEEN f (c.get F.FI_FS_STAT_LOST_SEEN f ||| 2 ^ b)
    let c := c.set F.FI_FS_STAT_PRESENT f (c.get F.FI_FS_STAT_PRESENT f &&& (15 - 2 ^ b))
    let c := if c.bit F.FI_FS_CFG_SUBST f then c else c.setReg R.FI_FS_IN (f * 4 + b) (c.reg R.FI_FS_IN (f * 4 + b) &&& ~~~(c.fsHostBits f b))
    (c.logFrom 0x22 0x0508 (f * 4 + b) 0).refreshLimits
/-- The block is expected in a running string. -/
def Core.fsExpected (c : Core) (f b : Nat) : Bool := c.runs 0x22 && (c.get F.FI_FS_CFG_EXPECT f).testBit b
/-- An accepted reply (R329, R330): bytes 3–13 of Table 13.3. Until a LOST block rejoins, its host-only inputs stay 0 or hold their last value. -/
def Core.fsReply (c : Core) (f b : Nat) (bytes : List Byte) : Core :=
  let i := f * 4 + b
  let old := c.reg R.FI_FS_IN i
  let new := BitVec.ofNat 32 (natOfBytes ((bytes.drop 3).take 4))
  let c := (c.set F.FI_FS_DIAG_BSTAT i (bytes.getD 2 0).toNat).set F.FI_FS_DIAG_OUTF i (natOfBytes ((bytes.drop 7).take 2))
  let k := c.fsBlock f b
  let ok := k.okRun + 1
  let back := !k.lost || 4 ≤ ok
  let host := c.fsHostBits f b
  let new := if back then new else (new &&& ~~~host) ||| (if c.bit F.FI_FS_CFG_SUBST f then old &&& host else 0)
  let c := c.setReg R.FI_FS_IN i new
  let c := c.setFsBlock f b { missRun := 0, okRun := (if back then 0 else ok), lost := !back }
  let c := if back then (c.set F.FI_FS_STAT_LOST f (c.get F.FI_FS_STAT_LOST f &&& (15 - 2 ^ b))).set F.FI_FS_STAT_PRESENT f (c.get F.FI_FS_STAT_PRESENT f ||| 2 ^ b) else c
  let st := c.strAt f
  let c := if old = new then c else c.setReg R.FI_FS_STAMP i (BitVec.ofNat 32 (st.stampSec * 1000000000 + st.stampNs))
  let c := if back then foldN (bitsOf 32 (old ^^^ new).toNat) c (fun c p =>
      c.captureFrom 1 (c.mapped 2 (f * 128 + b * 32 + p) 2) ⟨st.stampSec, st.stampNs, new.getLsbD p, st.epoch, false⟩) else c
  c.refreshLimits
/-- STRING_REPLY (R326, R329): accepted with good CRC, ADDR and SEQ; another reply counts as not accepted. -/
def execStringReply (s : State) (f b : Nat) (bytes : List Byte) : Host.Outcome State Fault Refusal :=
  inRange "field string" f 2 (inRange "block" b 4 (onCore s (fun c =>
    if !c.fsExpected f b then c
    else
      let crc := natOfBytes ((bytes.drop 9).take 2) == (Crypto.crc16 (bytes.take 9)).toNat && bytes.length == 11
      if !crc then c.fsMiss f b true
      else if (bytes.getD 0 0).toNat ≠ b || (bytes.getD 1 0).toNat ≠ c.get F.FI_FS_STAT_SEQ f then c.fsMiss f b false
      else c.fsReply f b bytes)))
/-- STRING_REPLY_MISS (R329). -/
def execStringReplyMiss (s : State) (f b : Nat) (crcBad : Bool) : Host.Outcome State Fault Refusal :=
  inRange "field string" f 2 (inRange "block" b 4 (onCore s (fun c => if c.fsExpected f b then c.fsMiss f b crcBad else c)))

end Sys2Proof.Machine
end

