-- ==== Sys2Proof/Machine/Feedback.lean ====
section
/-! DEFINITION. Feedback ports, resolvers and repeat outputs (R223–R245). -/
namespace Sys2Proof.Machine

/-! ### Ports and their slots -/

/-- The slots that name a port in FB1 or FB2. -/
def Core.portSlots (c : Core) (p : Nat) : List Nat := c.usedSlots.filter (fun k => (c.pat.slot k).fb1 == p || (c.pat.slot k).fb2 == p)
/-- The grid whose frame starts are a port's sample stamps: that of the lowest-numbered slot that names it (R232, R233); none when no slot does. -/
def Core.portGrid (c : Core) (p : Nat) : Option Nat := (c.portSlots p).head?.map c.slotPeriod
/-- The lane-bound slots that name a port in FB1. -/
def Core.fb1Slots (c : Core) (p : Nat) : List Nat := c.usedSlots.filter (fun k => (c.pat.slot k).kind == 1 && (c.pat.slot k).fb1 == p)
/-- A slot that names the port is out of STO (R227, R230). -/
def Core.portInUse (c : Core) (p : Nat) : Bool := (c.portSlots p).any (fun k => (c.slotGroup k).isSome && !c.slotSto k)
/-- A multi-turn count wrapped to 32 bits, and whether it wrapped (Table 9.3). -/
def wrapMt (m : Int) : Int × Bool := let w := (BitVec.ofInt 32 m).toInt; (w, w != m)
/-- Moves ST by one count with the wrap into MT (Table 9.3). -/
def Core.countEdge (c : Core) (p : Nat) (up : Bool) : Core :=
  let q := c.portAt p
  let n := c.portN p
  let (st, dm) : Nat × Int := if up then (if q.st + 1 ≥ n then (0, 1) else (q.st + 1, 0)) else (if q.st = 0 then (n - 1, -1) else (q.st - 1, 0))
  let (mt, w) := wrapMt (q.mt + dm)
  let c := c.setPort p { q with st := st, mt := mt }
  if w then c.setBit F.FB_STAT_MT_WRAP p true else c

/-! ### Errors and FAULT (R241–R243) -/

/-- No commutation source is left for a slot when its FB2 fails (R243). -/
def Core.noOtherSource (c : Core) (k : Nat) : Bool :=
  let r := c.pat.slot k
  !r.sensorless && (r.fb1 ≥ 56 || c.bit F.FB_STAT_FAULT r.fb1)
/-- A slot is held for its ports: its loop state clears and its profile stays at its last position (R243). -/
def Core.holdForPort (c : Core) (k : Nat) : Core :=
  if (c.profAt k).held then c
  else
    let c := c.clearLoop k
    let x := c.ctxAt k
    c.holdSlot k (if x.actKnown then x.actPos else (c.profileAt k c.profNs).1)
/-- The persistent causes of Table 9.5. -/
def persistentCause (cause : Nat) : Bool := cause = 1 || cause = 2 || cause = 3 || (12 ≤ cause && cause ≤ 15)
/-- A port enters FAULT (R242, R243, R157). In FAULT, the same persistent condition come back ends an accepted CLEAR. -/
def Core.portFault (c : Core) (p cause : Nat) : Core :=
  if c.bit F.FB_STAT_FAULT p then (if persistentCause cause && c.get F.FB_STAT_CAUSE p == cause then c.setPort p { c.portAt p with clearPend := false } else c)
  else
    let c := ((c.setBit F.FB_STAT_FAULT p true).set F.FB_STAT_CAUSE p cause).addSat F.FB_CNT_FAULTS p 1
    let c := (c.logFrom 0x20 0x0501 p cause).mirrorEvent 2 p cause
    let t := c.portType p
    let c := if cause ≤ 3 && (t = 1 || t = 2) then c.setBit F.FB_STAT_REF_LOST p true else c
    let c := c.setPort p { c.portAt p with trkRun := 0, clearPend := false }
    let c := foldN (c.fb1Slots p) c (fun c k => (c.loseMaster 1 k).holdForPort k)
    let c := foldN (c.usedSlots.filter (fun k => (c.pat.slot k).kind == 1 && (c.pat.slot k).fb2 == p)) c (fun c k => if c.noOtherSource k then c.holdForPort k else c)
    (c.loseMaster 2 p).judge
/-- A port suppresses NO_ACK, LINE, LOS and EXC around a claim (R239). -/
def Core.suppressed (c : Core) (cause : Nat) : Bool := (cause = 8 || cause = 2 || cause = 12 || cause = 15) && decide (c.profNs < c.twin.suppressTo)
/-- A per-reading error: counted, and FAULT after ERR_MAX in a row (R241). -/
def Core.readingError (c : Core) (p cause : Nat) : Core :=
  if c.suppressed cause then c
  else
    let q := c.portAt p
    let c := (c.setPort p { q with errRun := q.errRun + 1 }).addSat F.FB_CNT_ERRORS p 1
    if c.get F.FB_CFG_ERR_MAX p ≤ q.errRun + 1 then c.portFault p cause else c
/-- FAULT ends (R242). The slot resumes at its next frame. -/
def Core.portOk (c : Core) (p : Nat) : Core :=
  let c := (c.setBit F.FB_STAT_FAULT p false).set F.FB_STAT_CAUSE p 0
  ((c.setPort p { c.portAt p with errRun := 0, clearPend := false }).mirrorEvent 2 p 0).judge
/-- A write of FB_CTRL.CLEAR (R242); a resolver's own checks say whether its cause is absent. -/
def Core.portClear (c : Core) (p : Nat) (absent : Bool) : Core :=
  if !c.bit F.FB_STAT_FAULT p then c
  else if !persistentCause (c.get F.FB_STAT_CAUSE p) then c.portOk p
  else if (if c.portType p = 6 then Tab.get 0 (c.portAt p).runs (c.get F.FB_STAT_CAUSE p) = 0 else absent) then c.setPort p { c.portAt p with clearPend := true }
  else c.setBit F.FB_STAT_CFG_REFUSED p true
/-- The cause belongs to the port's type (Table 9.5). -/
def causeApplies (t cause : Nat) : Bool :=
  match cause with
  | 1 => t = 1
  | 2 => 1 ≤ t && t ≤ 5
  | 3 => t = 1 || t = 2
  | 12 | 13 | 14 | 15 => t = 6
  | _ => false
/-- PORT_PERSISTENT_ERROR (R241). -/
def execPortPersistentError (s : State) (port cause : Nat) : Host.Outcome State Fault Refusal := inRange "port" port 56 (onCore s (fun c =>
  if !c.runs 0x20 || !causeApplies (c.portType port) cause || c.suppressed cause then c else c.portFault port cause))

/-! ### Samples (R232, R235, R236) -/

/-- A speed in counts per second of a difference of counts over ns. -/
def countSpeed (d dt : Int) : F32 := if dt ≤ 0 then 0 else F32.ofRat ((d : Rat) * 1000000000 / (dt : Rat))
/-- The speed of a port from its two latest samples, by edge times or by its tracking loop (R235, R236), and whether it is not the period method's. MODE 3 is not defined. -/
def Core.portSpeed (c : Core) (p : Nat) : F32 × Bool × Core :=
  let q := c.portAt p
  let ty := c.portType p
  let mode := if ty = 6 then 2 else if serialType ty && c.get F.FB_SPD_CFG_MODE p = 1 then 0 else c.get F.FB_SPD_CFG_MODE p
  let count : F32 := if q.prevOk then countSpeed (q.sampPos - q.prevPos) (q.sampT - q.prevT) else 0
  match mode with
  | 0 => (count, true, c)
  | 1 =>
    let nsw := c.get F.FB_SPD_CFG_N_SW p
    let byCount := if c.bit F.FB_STAT_SPD_MODE p then decide (nsw / 2 ≤ q.edges) else decide (nsw ≤ q.edges)
    let dt := Max.max (q.e1 - q.e2) (q.sampT - q.e1)
    let period : F32 := if q.seen < 2 || q.stopped then 0 else countSpeed q.sign dt
    (if byCount then count else period, byCount, c)
  | 2 => (q.trkVel, true, c)
  | _ => let (w, c) := c.fresh; (w, true, c)
/-- A value enters a port as the sample of a stamp: at a new stamp the former sample becomes the one before it; at the same stamp the value replaces it. The tracking loop of a port in mode 2 that is no resolver takes its step (R235). -/
def Port.sample (q : Port) (pos t : Int) (track : Bool) (bw : Nat) : Port :=
  let again := q.sampled && t = q.sampT
  let q := if again then q else { q with prevPos := q.sampPos, prevT := q.sampT, prevOk := q.sampled, trkPos0 := q.trkPos, trkVel0 := q.trkVel, edges := 0 }
  let q := { q with sampPos := pos, sampT := t, sampled := true }
  if !track then q
  else if !q.prevOk then { q with trkPos := pos * 65536, trkVel := 0 }
  else
    let (x, v) := trackStep q.trkPos0 q.trkVel0 (pos * 65536) (t - q.prevT) bw
    { q with trkPos := x, trkVel := v }
/-- Takes a value as the sample of a stamp: FB_ST, FB_MT, FB_POS, FB_SPEED and STALE follow (R232). The edges of the window that ends are counted before the next one opens. -/
def Core.takeSample (c : Core) (p : Nat) (pos t : Int) (stale : Bool) : Core :=
  let edges := (c.portAt p).edges
  let q := (c.portAt p).sample pos t (c.portType p ≠ 6 && c.get F.FB_SPD_CFG_MODE p = 2) (c.get F.FB_SPD_CFG_TRK_BW p)
  let c := c.setPort p { q with edges := edges }
  let (v, byCount, c) := c.portSpeed p
  let c := c.setPort p q
  let n : Int := c.portN p
  let c := (c.set64 R.FB_POS_LO R.FB_POS_HI p pos).setReg R.FB_ST p (BitVec.ofInt 32 (pos.fmod n))
  let c := c.setReg R.FB_MT p (BitVec.ofInt 32 (pos.fdiv n))
  ((c.setReg R.FB_SPEED p v).setBit F.FB_STAT_SPD_MODE p byCount).setBit F.FB_STAT_STALE p stale
/-- A sample stamp of a port (R232): an accepted FB_CPR write applies, a cleared persistent fault ends, and the value is taken. It is the poll stamp of a running transaction (R233). -/
def Core.samplePort (c : Core) (p : Nat) (t : Int) : Core :=
  let ty := c.portType p
  if ty = 0 || ty = 7 || !c.runs 0x20 || (!serialType ty && (c.portAt p).sampled && t = (c.portAt p).sampT) then c
  else
    let q := c.portAt p
    let c := match q.pendN with
      | some n => (c.setPort p { q with pendN := none, n := n, st := 0 }).setBit F.FB_STAT_REF_LOST p (ty = 1 || ty = 2)
      | none => c
    let c := if q.clearPend then c.portOk p else c
    let dead := ty = 2 && (c.portLines p = 0 || c.portLines p = 7)
    let c := if dead then c.readingError p 4 else if ty = 2 && !q.skipped then c.setPort p { c.portAt p with errRun := 0 } else c
    let c := c.setPort p { c.portAt p with skipped := false, run := (c.portAt p).run.map (fun r => { r with stamp := t }) }
    let (pos, stale) := c.portRead p t
    c.takeSample p pos t stale
/-- What a slot's frame reads of its ports at its own stamp (R232): their single-turn counts, and from FB1 the actual position and speed in user counts (R138, R167). -/
def Core.readActual (c : Core) (k : Nat) (t : Int) : Core :=
  let r := c.pat.slot k
  let x := c.ctxAt k
  let turn (p old : Nat) : Nat := if p < 56 then ((c.portValue p t).fmod (c.portN p)).toNat else old
  let x := { x with turn1 := turn r.fb1 x.turn1, turn2 := turn r.fb2 x.turn2 }
  if r.fb1 ≥ 56 then c.setCtx k x
  else
    let (pos, stale) := c.portRead r.fb1 t
    c.setCtx k { x with actPos := c.scaleCounts k pos, actVel := c.scaleSpeed k (c.reg R.FB_SPEED r.fb1), actKnown := true, actStale := stale }
/-- Writes the ring entry of a lane slot's latest frame from its FB1 (Table 10.2), with that frame's stamp and EPOCH. -/
def Core.ringPort (c : Core) (ram : Ram) (k : Nat) : Core :=
  let g := c.gridAt (c.slotPeriod k)
  c.ringWrite ram k g.stampNet g.stampEpoch (c.ctxAt k).actPos (c.bit F.FB_STAT_FAULT (c.pat.slot k).fb1) (c.ctxAt k).actStale false
/-- A running transaction of a serial port takes its position at a stamp, so that a frame there waits for its reading. Stamps within one time-island clock are one. -/
def Core.pollsAt (c : Core) (p : Nat) (t : Int) : Bool :=
  p < 56 && serialType (c.portType p) && (match (c.portAt p).run with | some r => decide ((r.stamp - t).natAbs ≤ 8) | none => false)
/-- The reading of a frame-polled port has taken more than a quarter of the frame since its first clock edge (R234). -/
def Core.pollSlow (c : Core) (p : Nat) (r : SerialRun) : Bool :=
  match c.portGrid p with
  | some g => (c.gridAt g).running && decide ((c.gridAt g).len < 4 * ((c.profNs - r.edgeT : Int) : Rat))
  | none => false
/-- A slot's frame still waits for the reading of one of its serial ports (R233); one that is too slow is waited for no longer (R234). -/
def Core.readingDue (c : Core) (k : Nat) : Bool :=
  let r := c.pat.slot k
  [r.fb1, r.fb2].any (fun p => p < 56 && (c.portAt p).owed.contains k && (match (c.portAt p).run with | some x => !c.pollSlow p x | none => false))
/-- SAMPLE_CYCLE_STAMP (R232): only a port that no slot names. A serial port's sample stamps are its poll stamps. -/
def execSampleCycleStamp (s : State) (port : Nat) : Host.Outcome State Fault Refusal := inRange "port" port 56 (onCore s (fun c =>
  if (c.portSlots port).isEmpty && !serialType (c.portType port) then c.samplePort port c.profNs else c))

/-! ### Edges (R231, R237) -/

/-- The Hall states in order of rotation, bit 0 being H1. -/
def hallSector (l : BitVec 3) : Option Nat := match l.toNat with | 1 => some 0 | 3 => some 1 | 2 => some 2 | 6 => some 3 | 4 => some 4 | 5 => some 5 | _ => none
/-- The Gray position of A (bit 0) and B (bit 1). -/
def quadPhase (l : BitVec 3) : Nat := match l.toNat % 4 with | 0 => 0 | 1 => 1 | 3 => 2 | _ => 3
/-- The repeat outputs that pass a port on. -/
def Core.repeatsOf (c : Core) (p : Nat) : List Nat := (List.range 8).filter (fun q => (c.pat.port (56 + q)).type == 7 && (c.pat.port (56 + q)).src == p)
/-- The angle of the edge between two Hall sectors, in 65,536 counts per electrical revolution. -/
def hallEdge (s : Nat) (up : Bool) : Nat := (if up then s else s + 1) * 65536 / 6
/-- One counted edge: the count, its time and sign, and RATE when two edges are less than 100 ns apart. -/
def Core.edge (c : Core) (p : Nat) (up : Bool) : Core :=
  let up := up != c.bit F.FB_CFG_DIR p
  let c := c.countEdge p up
  let q := c.portAt p
  let now := c.profNs
  let c := c.setPort p { q with e2 := q.e1, e1 := now, seen := Min.min (q.seen + 1) 2, sign := (if up then 1 else -1), edges := q.edges + 1, stopped := false }
  if 1 ≤ q.seen && now - q.e1 < 100 then c.portFault p 3 else c
/-- The first Hall edge of a slot with FB2 Hall and FB1 ABZ fixes the reference of FB1's counts (R207). -/
def Core.hallReference (c : Core) (p : Nat) (angle : Nat) : Core :=
  foldN (c.usedSlots.filter (fun k => (c.pat.slot k).fb2 == p && c.portType (c.pat.slot k).fb1 == 1)) c (fun c k =>
    if (c.estAt k).hallRef.isSome || c.slotSto k then c
    else
      let q := (c.pat.slot k).fb1
      let raw : Int := ((c.portAt q).st : Int) * c.get F.AX_COMM_POLE_PAIRS k * 65536 / c.portN q
      c.setEst k { c.estAt k with hallRef := some (((angle : Int) - raw).fmod 65536), refPort := q })
/-- A Standby waits to take over after a declared loss (R238). -/
def Core.lossGap (c : Core) : Bool := !c.isLead && (c.twin.lossPend || c.twin.coldPend)
/-- A repeat output passes on the lines of an ABZ or Hall port (R237). -/
def Core.passes (c : Core) (q : Nat) : Bool := let r := c.pat.port (56 + q); r.type == 7 && (let t := c.portType r.src; t = 1 || t = 2)
/-- The level that a pass-through output shows: its source's lines, inverted when INV is 1 (R237). -/
def Core.levelOut (c : Core) (q : Nat) : BitVec 3 :=
  let l := c.portLines (c.pat.port (56 + q)).src
  if c.bit F.Q_CFG_INV q then ~~~l else l
/-- The level of a pass-through output has changed: the Lead drives it, and a Standby that waits after a loss keeps it (R237, R238). -/
def Core.passLevel (c : Core) (q : Nat) : Core :=
  let a := c.repAt q
  let c := if c.lossGap then c.setRep q { a with gap := a.gap ++ [c.levelOut q] } else c
  if c.isLead then c.emit (.repeatLevel q (c.levelOut q)) else c
/-- A loss of the Latigo link is declared: what the repeat outputs show at this instant is where a takeover begins (R238). -/
def Core.seedGaps (c : Core) : Core := foldN (List.range 8) c (fun c q => c.setRep q { c.repAt q with gap := if c.passes q then [c.levelOut q] else [], owed := 0 })
/-- No takeover follows a declared loss any more. -/
def Core.dropGaps (c : Core) : Core := foldN (List.range 8) c (fun c q => c.setRep q { c.repAt q with gap := [], owed := 0 })
/-- A write of Q_CFG (R237, R246): a change of INV moves the level. -/
def Core.writeQCfg (c : Core) (q : Nat) (v : Word) : Core :=
  let old := c.levelOut q
  let c := c.setReg R.Q_CFG q v
  if c.passes q && c.levelOut q ≠ old then c.passLevel q else c
/-- ENCODER_EDGE (R231, R237): the filtered levels of L0–L2 change. -/
def execEncoderEdge (s : State) (port : Nat) (lines : BitVec 3) : Host.Outcome State Fault Refusal := inRange "port" port 48 (onCore s (fun c =>
  let ty := c.portType port
  let old := c.portLines port
  let c := c.setPort port { c.portAt port with lines := lines, linesKnown := true }
  if (ty ≠ 1 && ty ≠ 2) || !c.runs 0x20 then c
  else
    let c := foldN (c.repeatsOf port) c Core.passLevel
    if ty = 1 then
      match (quadPhase lines + 4 - quadPhase old) % 4 with
      | 0 => c
      | 1 => c.edge port true
      | 3 => c.edge port false
      | _ => c.portFault port 1
    else
      match hallSector old, hallSector lines with
      | some a, some b =>
        if a = b then c
        else if (a + 1) % 6 = b then (c.edge port true).hallReference port (hallEdge b true)
        else if (b + 1) % 6 = a then (c.edge port false).hallReference port (hallEdge b false)
        else (c.setPort port { c.portAt port with skipped := true }).readingError port 5
      | _, _ => c))
/-- Z_EDGE (R224, R261, R263): stamped into CP_Z, and a capture source of the slots whose FB1 the port is. Only an ABZ port has Z. -/
def execZEdge (s : State) (port : Nat) : Host.Outcome State Fault Refusal := inRange "port" port 48 (onCore s (fun c =>
  if c.portType port ≠ 1 || !c.runs 0x20 || !c.runs 0x22 then c
  else
    let c := (c.setReg R.CP_Z_NS port (BitVec.ofNat 32 c.time.ns)).setReg R.CP_Z_SEC port (BitVec.ofNat 32 c.time.sec)
    c.captureFrom 2 (c.fb1Slots port) (c.stampNow true)))
/-- SPEED_ZERO_TIMEOUT (R236). -/
def execSpeedZeroTimeout (s : State) (port : Nat) : Host.Outcome State Fault Refusal := inRange "port" port 48 (onCore s (fun c =>
  c.setPort port { c.portAt port with stopped := true }))

/-! ### Serial ports (R225–R234) -/

/-- In Sleep a serial port does not poll and a resolver is not excited, unless SLEEP_RUN is 1 (R240). -/
def Core.sleepStopped (c : Core) (p : Nat) : Bool := decide (c.get F.PW_STAT_STATE 0 = 2) && !c.bit F.FB_CFG_SLEEP_RUN p
/-- SERIAL_POLL (R227, R233, R240, R245): the transaction starts LATCH before its poll stamp, with the CRC and the clock in force. A Lead without claims drives no clock. -/
def execSerialPoll (s : State) (port : Nat) : Host.Outcome State Fault Refusal := inRange "port" port 48 (onCore s (fun c =>
  if !serialType (c.portType port) || !c.runs 0x20 || c.sleepStopped port || (c.isLead && !c.drivesPorts) then c
  else
    let t := c.profNs + 10 * c.get F.FB_SER_LATCH port
    let c := c.setPort port { c.portAt port with run := some ⟨t, c.profNs, c.get F.FB_SER_CRC port⟩ }
    let c := if c.drivesPorts then c.emit (.serialClock port (c.get F.FB_SER_CLKDIV port)) else c
    if (c.portSlots port).isEmpty then c.samplePort port t else c))
/-- The prefix exclusive-or that turns a Gray word of a width into binary. -/
def grayToBin (width v : Nat) : Nat := ofBits ((List.range width).filter (fun i => ((List.range width).filter (fun j => i ≤ j && v.testBit j)).length % 2 == 1))
/-- The CRC of a BiSS-C reading over data, nE and nW, transmitted inverted (Table 9.2). -/
def bissCrc (code width data : Nat) (nE nW : Bool) : Nat :=
  let (n, poly) : Nat × Nat := match code with | 0 => (6, 0x03) | 1 => (8, 0x07) | _ => (16, 0x1021)
  let bits := ((List.range width).map (fun i => data.testBit (width - 1 - i))) ++ [nE, nW]
  let crc := bits.foldl (fun a b => let x := (a * 2) % 2 ^ n; if (a.testBit (n - 1)) != b then x ^^^ poly else x) 0
  crc ^^^ (2 ^ n - 1)
/-- The first error of a reading (Table 9.5), 0 for none; the transaction's own CRC option counts. -/
def Core.readingCause (c : Core) (p crc : Nat) (r : SerialReading) : Nat :=
  let width := c.get F.FB_SER_ST_BITS p + c.get F.FB_SER_MT_BITS p
  if c.portType p = 5 then
    if !r.ack then 8
    else if !r.start then 9
    else if crc ≠ 3 && r.crc ≠ bissCrc crc width r.data r.nE r.nW then 7
    else if !r.nE then 10
    else 0
  else if c.bit F.FB_SER_PARITY p && (((bitsOf width r.data).length % 2 == 1) != r.parity) then 6
  else 0
/-- The counts that a good reading gives (R231). -/
def Core.extendReading (c : Core) (p : Nat) (r : SerialReading) : Nat × Int × Nat :=
  let sb := c.get F.FB_SER_ST_BITS p
  let mb := c.get F.FB_SER_MT_BITS p
  let q := c.portAt p
  let w := if c.portType p = 4 then grayToBin (sb + mb) r.data else r.data % 2 ^ (sb + mb)
  let st := w % 2 ^ sb
  let em := w / 2 ^ sb % 2 ^ mb
  let mt : Int :=
    if q.first then (if mb = 0 then 0 else if c.bit F.FB_SER_MT_SIGNED p then signExtend mb em else em)
    else if mb > 0 then q.mt + signExtend mb (em + 2 ^ mb - q.prevMt % 2 ^ mb)
    else
      let d := signExtend sb (st + 2 ^ sb - q.prevSt % 2 ^ sb)
      let x := (q.prevSt : Int) + d
      if x ≥ 2 ^ sb then q.mt + 1 else if x < 0 then q.mt - 1 else q.mt
  (st, mt, em)
/-- A good reading enters the port (R231, R232): unless it came too late, it is the sample of its poll stamp. -/
def Core.goodReading (c : Core) (p : Nat) (st : Nat) (mt : Int) (em : Nat) (stamp : Int) (late : Bool) : Core :=
  let q := c.portAt p
  let (mt, w) := wrapMt mt
  let n := 2 ^ c.get F.FB_SER_ST_BITS p
  let c := c.setPort p { q with st := st, mt := mt, n := n, first := false, prevMt := em, prevSt := st, errRun := 0, good := true, goodT := stamp, goodPos := mt * n + st }
  let c := if w then c.setBit F.FB_STAT_MT_WRAP p true else c
  if late then c.setBit F.FB_STAT_SLOW p true else c.takeSample p (c.portPos p) stamp false
/-- The frames that waited for a port's reading go on with what the port gives now: their slots read it again, and write the ring entries of FB1. -/
def Core.endWait (c : Core) (ram : Ram) (p : Nat) : Core :=
  let ks := (c.portAt p).owed
  foldN ks (c.setPort p { c.portAt p with owed := [] }) (fun c k =>
    let c := c.readActual k (c.gridAt (c.slotPeriod k)).stampT
    if (c.pat.slot k).kind = 1 && (c.pat.slot k).fb1 = p then c.ringPort ram k else c)
/-- SERIAL_READING (R225, R226, R231, R232, R234, R241): the running transaction completes. -/
def execSerialReading (s : State) (port : Nat) (r : SerialReading) : Host.Outcome State Fault Refusal := inRange "port" port 48 (onMem s (fun ram c =>
  match (c.portAt port).run with
  | none => c
  | some run =>
    if !serialType (c.portType port) || !c.runs 0x20 then c
    else
      let cause := c.readingCause port run.crc r
      let (st, mt, em) := c.extendReading port r
      let q := c.portAt port
      let jump := (c.reg R.FB_JUMP port).toNat
      let moved := (mt * 2 ^ c.get F.FB_SER_ST_BITS port + st - q.goodPos).natAbs
      let cause := if cause = 0 && jump ≠ 0 && !q.first && jump < moved then 11 else cause
      let slow := c.pollSlow port run
      let c := c.setPort port { c.portAt port with run := none }
      let c := if c.portType port = 5 && r.ack && r.start && !r.nW && !c.bit F.FB_STAT_WARN port then (c.setBit F.FB_STAT_WARN port true).logFrom 0x20 0x0502 port 0 else c
      let c := if cause ≠ 0 then c.readingError port cause else c.goodReading port st mt em run.stamp slow
      let c := if c.portType port ≠ 5 && !r.dataHigh && !c.suppressed 2 then c.portFault port 2 else c
      c.endWait ram port))
/-- A write of FB_CPR (R230): discarded on serial and resolver ports, refused while a naming slot is out of STO. -/
def Core.writeCpr (c : Core) (p : Nat) (v : Word) : Core :=
  let ty := c.portType p
  if serialType ty || ty = 6 then c
  else if c.portInUse p then c.setBit F.FB_STAT_CFG_REFUSED p true
  else
    let n := Max.max 2 (Min.min v.toNat (2 ^ 31))
    let c := c.setReg R.FB_CPR p (BitVec.ofNat 32 n)
    c.setPort p { c.portAt p with pendN := some n }
/-- A write of FB_SER (R227). -/
def Core.writeSer (c : Core) (p : Nat) (v : Word) : Core :=
  let ty := c.portType p
  let sb := F.FB_SER_ST_BITS.read v
  let mb := F.FB_SER_MT_BITS.read v
  let differs (f : Fld) : Bool := f.read v != c.get f p
  let frames := differs F.FB_SER_ST_BITS || differs F.FB_SER_MT_BITS || differs F.FB_SER_MT_SIGNED || differs F.FB_SER_PARITY
  if !serialType ty && ty ≠ 0 then c
  else if sb = 0 || sb > 31 || mb > 32 || sb + mb > 48 then c.setBit F.FB_STAT_CFG_REFUSED p true
  else if frames && c.portInUse p then c.setBit F.FB_STAT_CFG_REFUSED p true
  else
    let least := if ty = 5 then 9 else if ty = 3 || ty = 4 then 49 else 0
    let c := (c.setReg R.FB_SER p v).set F.FB_SER_CLKDIV p (Max.max least (F.FB_SER_CLKDIV.read v))
    if frames then c.setPort p { c.portAt p with first := true } else c

/-! ### Resolvers and emulated repeats -/

/-- The sense of a resolver is judged: this module drives the excitation, or on another it has been sensed since the reset. -/
def Core.senses (c : Core) (p : Nat) : Bool := (c.portAt p).exciting || (!c.drivesPorts && 0 < (c.portAt p).nomN)
/-- A resolver's condition of Table 9.5 holds in one more update of 1 µs, or does not; after 200 in a row the port enters FAULT. While its cause is suppressed it does not count (R239). -/
def Core.resolverCond (c : Core) (p cause : Nat) (holds : Bool) : Core :=
  let q := c.portAt p
  let n := if holds && !c.suppressed cause then Min.min 200 (Tab.get 0 q.runs cause + 1) else 0
  let c := c.setPort p { q with runs := Tab.set 0 q.runs cause n }
  if n = 200 then c.portFault p cause else c
/-- The checks of a resolver at an update (R241): the excitation against EXC_AMP; sin² + cos² against its nominal value, the mean over the first 10 ms after the excitation was first sensed. -/
def Core.resolverCheck (c : Core) (p : Nat) (power : Int) : Core :=
  let q := c.portAt p
  let amp := Config.excLevel q.hist
  let want : Rat := c.get F.FB_RES_EXC_AMP p
  let off := decide (4 * amp < 3 * want) || decide (5 * want < 4 * amp)
  let q := if q.nomN = 10000 || (q.nomN = 0 && off) then q else { q with nomSum := q.nomSum + power, nomN := q.nomN + 1 }
  let c := c.setPort p q
  let known := c.senses p && q.nomN = 10000
  let c := c.resolverCond p 15 (c.senses p && off)
  let c := c.resolverCond p 12 (known && decide (4 * 10000 * power < q.nomSum))
  c.resolverCond p 13 (known && decide (9 * q.nomSum < 4 * 10000 * power))
/-- The tracking loop of a resolver takes one step of 1 µs toward a measured angle, or coasts at its speed (R228, R239); a multi-turn wrap moves its position by 2^32 turns (R229). The angle counts as valid once the error has stayed within LOT_DEG for 1 ms (R245). -/
def Core.resolverStep (c : Core) (p : Nat) (ang : BitVec 16) : Core :=
  let q := c.portAt p
  let coasts := decide (c.profNs < c.twin.suppressTo)
  let now := q.trkPos.fdiv 65536
  let err := (ang - BitVec.ofInt 16 now).toInt
  let meas := if coasts then q.trkPos else (now + err) * 65536
  let lot := !coasts && decide (c.get F.FB_RES_LOT_DEG p * 65536 < 360 * err.natAbs)
  let (pos, vel) := trackStep q.trkPos q.trkVel meas 1000 (c.get F.FB_SPD_CFG_TRK_BW p)
  let turn := pos.fdiv (65536 * 65536)
  let (mt, wrapped) := wrapMt turn
  let run := if lot || c.bit F.FB_STAT_FAULT p then 0 else Min.min (q.trkRun + 1) 1000
  let c := c.setPort p { q with trkPos := pos + (mt - turn) * (65536 * 65536), trkVel := vel, trkRun := run, good := q.good || run = 1000 }
  let c := if wrapped then c.setBit F.FB_STAT_MT_WRAP p true else c
  c.resolverCond p 14 lot
/-- RESOLVER_TRACK (R228, R241): the samples of 1 µs are demodulated and checked, and the tracking loop takes its step. -/
def execResolverTrack (s : State) (port : Nat) (sinS cosS excS : BitVec 16) : Host.Outcome State Fault Refusal := inRange "port" port 56 (onCore s (fun c =>
  if c.portType port ≠ 6 || !c.runs 0x20 || c.sleepStopped port then c
  else
    let q := c.portAt port
    let rising := match q.hist with | (_, _, x) :: _ => decide (x.toInt < 0 ∧ 0 ≤ excS.toInt) | [] => false
    let hist := ((sinS, cosS, excS) :: q.hist).take 100
    let c := c.setPort port { q with hist := hist, excZero := if rising then some c.profNs else q.excZero }
    let phase := c.get F.FB_RES_PHASE port
    let x := Config.resolverCos hist phase
    let y := Config.resolverSin hist phase
    (c.resolverCheck port (x * x + y * y)).resolverStep port (Config.atan2 (F32.ofInt y) (F32.ofInt x))))
/-- A resolver's excitation starts, in phase with what was sensed last (R228, R238, R245). -/
def Core.exciteStart (c : Core) (p : Nat) : Core :=
  let q := c.portAt p
  if c.portType p ≠ 6 || q.exciting || !c.drivesPorts || !c.runs 0x20 || c.sleepStopped p then c
  else (c.setPort p { q with exciting := true }).emit (.excite p (c.get F.FB_RES_EXC_AMP p) (q.excZero.getD c.profNs))
/-- A write of FB_RES (R228, R246): a running excitation takes its amplitude. -/
def Core.writeRes (c : Core) (p : Nat) (v : Word) : Core :=
  let c := c.setReg R.FB_RES p v
  if (c.portAt p).exciting then c.emit (.excite p (c.get F.FB_RES_EXC_AMP p) ((c.portAt p).excZero.getD c.profNs)) else c
/-- An emulated count lies in the quadrature state whose single-turn position is 0. -/
def Core.atZero (c : Core) (q : Nat) (e : Int) : Bool :=
  let d : Int := 2 ^ c.get F.Q_CFG_DIV q
  decide ((e * d).emod (Max.max 1 (c.portN (c.pat.port (56 + q)).src)) < d)
/-- The levels of A and B in the quadrature state of an emulated count. -/
def quadLines (e : Int) : BitVec 3 := match (e.emod 4).toNat with | 0 => 0 | 1 => 1 | 2 => 3 | _ => 2
/-- The transitions of an emulated output: `n` counts from `start`, and a Z pulse in each state whose single-turn position is 0, when ZEN is 1 (R237). -/
def Core.emitSteps (c : Core) (q : Nat) (start n : Int) : Core :=
  if n = 0 then c
  else
    let c := c.emit (.repeatSteps q n)
    if !c.bit F.Q_CFG_ZEN q then c
    else foldN ((List.range n.natAbs).filter (fun i => c.atZero q (start + n.sign * (i + 1)))) c (fun c _ => c.emit (.repeatZ q))
/-- A module that becomes LEAD begins to drive each repeat output at the level its own copy showed at the loss, and then emits what the input or the emulation made since (R238). -/
def Core.driveRepeats (c : Core) : Core :=
  foldN ((List.range 8).filter (fun q => (c.pat.port (56 + q)).type == 7)) c (fun c q =>
    let a := c.repAt q
    let c := c.setRep q { a with gap := [], owed := 0 }
    if serialType (c.portType (c.pat.port (56 + q)).src) then (c.emit (.repeatLevel q (quadLines (a.count - a.owed)))).emitSteps q (a.count - a.owed) a.owed
    else if !c.passes q then c
    else (if a.gap.isEmpty then [c.levelOut q] else a.gap).foldl (fun c l => c.emit (.repeatLevel q l)) c)
/-- REPEAT_UPDATE (R237): an emulating output follows the port position over 2^DIV, at most ten transitions per µs. -/
def execRepeatUpdate (s : State) (q : Nat) : Host.Outcome State Fault Refusal := inRange "repeat output" q 8 (onCore s (fun c =>
  let r := c.pat.port (56 + q)
  if r.type ≠ 7 || !serialType (c.portType r.src) || !c.runs 0x20 then c
  else
    let (pos, _) := c.serialAt r.src c.profNs
    let want := pos.tdiv (2 ^ c.get F.Q_CFG_DIV q)
    let a := c.repAt q
    let owed := want - a.count
    let n := clampInt owed (-10) 10
    let lag := (owed - n).natAbs
    let c := c.setRep q { a with count := a.count + n, owed := if c.lossGap then a.owed + n else a.owed }
    let c := (c.set F.Q_STAT_LAG q (Min.min lag 0xFFFF)).setBit F.Q_STAT_MODE q true
    let c := if lag > 1024 && !c.bit F.Q_STAT_OVERRUN q then (c.setBit F.Q_STAT_OVERRUN q true).logFrom 0x20 0x0515 q lag else c
    if c.isLead then c.emitSteps q a.count n else c))

end Sys2Proof.Machine
end

