-- ==== Sys2Proof/Machine/Lanes.lean ====
section
/-! DEFINITION. Lanes (R192–R205, R219–R221): offsets and currents, single-shunt windows, pulse edges, disabling and re-arming. -/
namespace Sys2Proof.Machine

/-- An S-lane (R18). -/
def isSLane (lane : Nat) : Bool := 32 ≤ lane
/-- The length in ns of a frame that starts with a debt: F − min(debt, F/8) (R278). -/
def frameLength (n debt : Nat) : Rat := (n : Rat) - (if 8 * debt < n then (debt : Rat) else (n : Rat) / 8)
/-- The PWM period of a lane in ns for a frame length (R193). -/
def Core.pwmT (c : Core) (lane : Nat) (frameLen : Rat) : Rat := frameLen / ((c.pat.group (laneGroup lane)).pwmDiv : Rat)
/-- A lane's slot runs in DC mode. -/
def Core.laneDc (c : Core) (lane : Nat) : Bool := match c.laneSlot lane with | some k => (c.pat.slot k).dcMode | none => false
/-- A slot is held by the FAULT of its ports (R243). -/
def Core.portHeld (c : Core) (k : Nat) : Bool :=
  let r := c.pat.slot k
  (r.fb1 < 56 && c.bit F.FB_STAT_FAULT r.fb1) || (r.fb2 < 56 && c.bit F.FB_STAT_FAULT r.fb2 && c.noOtherSource k)
/-- The ports that give a slot's commutation angle, in the order of R206: FB2, then FB1, those that are present and not in FAULT. -/
def Core.commPorts (c : Core) (k : Nat) : List Nat :=
  let r := c.pat.slot k
  [r.fb2, r.fb1].filter (fun p => p < 56 && !c.bit F.FB_STAT_FAULT p)
/-- The port that the initial-position detection of R207 references: the slot commutates, and every source it has is an ABZ port. -/
def Core.ipdPort (c : Core) (k : Nat) : Option Nat :=
  let r := c.pat.slot k
  if r.kind ≠ 1 || r.dcMode || r.sensorless then none
  else if (c.commPorts k).all (fun p => c.portType p == 1) then (c.commPorts k).head? else none
/-- A slot needs the initial-position detection (R207). -/
def Core.needsIpd (c : Core) (k : Nat) : Bool := (c.ipdPort k).isSome
/-- A slot runs the start sequence of the estimator. -/
def Core.startsUp (c : Core) (k : Nat) : Bool := (c.pat.slot k).sensorless || (c.needsIpd k && (c.estAt k).hallRef.isNone)
/-- A lane's gate outputs follow its duties: none of the cases of R196, R243 and R284 holds. -/
def Core.laneActive (c : Core) (lane : Nat) : Bool :=
  let g := laneGroup lane
  (c.bg g).genA && c.drives g && !c.bit F.LN_STAT_FAULT lane && c.runs (0x10 + g)
    && (match c.laneSlot lane with | some k => !c.bit F.AX_STAT_UNPLACED k && !c.portHeld k | none => false)
/-- A module that does not drive a group watches its lanes, with the duties that the Lead mirrors (R218). -/
def Core.laneWatched (c : Core) (lane : Nat) : Bool :=
  let g := laneGroup lane
  !c.drives g && !c.inSto g && !c.bit F.LN_STAT_FAULT lane && c.runs (0x10 + g) && (c.laneSlot lane).isSome
/-- A lane's pulses run, driven by this module or by its partner. -/
def Core.laneRuns (c : Core) (lane : Nat) : Bool := c.laneActive lane || c.laneWatched lane

/-! ### Decimation, offsets and currents (R199, R200) -/

/-- The weight of bit `i` in the impulse response of a sinc3 decimator of ratio `m`: three boxcars of length `m`, one after the other. -/
def sincWeight (m i : Nat) : Int :=
  let tri (j : Int) : Int := if j < 0 then 0 else (j + 1) * (j + 2) / 2
  tri i - 3 * tri (i - m) + 3 * tri (i - 2 * m)
/-- The decimator's output: 0% ones density at −32,768 and 100% at +32,767 (R199), to the nearest. -/
def sinc3 (m : Nat) (bits : List Bool) : BitVec 16 :=
  let ones := ((List.range (3 * m - 2)).map (fun i => if bits.getD i false then sincWeight m i else 0)).foldl (· + ·) 0
  BitVec.ofInt 16 (ratRne (((ones * 65535 : Int) : Rat) / ((m ^ 3 : Nat) : Rat)) - 32768)
/-- An input's word: its conversion, or its bits decimated by the ratio that a DECIM code selects (R36). -/
def Conv.value (decim : Nat) : Conv → BitVec 16
  | .word w => w
  | .bits b => sinc3 (32 * 2 ^ decim) b
/-- What a lane's inputs deliver, as words. -/
def Core.laneWords (c : Core) (s : LaneInput) : LaneSample :=
  let v := Conv.value (c.pat.group (laneGroup s.lane)).decim
  { lane := s.lane, u := v s.u, v := v s.v, w := v s.w, dc := v s.dc, pu := v s.pu, pv := v s.pv, pw := v s.pw, faultLow := s.faultLow }

/-- The mean of a list of samples, to the nearest integer; 0 of none. -/
def meanOf (l : List Int) : Int := if l.isEmpty then 0 else ratRne ((l.foldl (· + ·) 0 : Int) / (l.length : Rat))
/-- Takes a frame sample into a lane's offsets while its group is in STO. -/
def Core.takeOffset (c : Core) (lane : Nat) (u v w : Int) : Core :=
  let l := c.laneAt lane
  let push (x : Int) (xs : List Int) : List Int := (x :: xs).take 64
  let l := { l with ofsU := push u l.ofsU, ofsV := push v l.ofsV, ofsW := push w l.ofsW }
  let c := c.setLane lane l
  let c := c.set F.LN_OFS_UV_U lane (BitVec.ofInt 16 (meanOf l.ofsU)).toNat
  if isSLane lane then c
  else (c.set F.LN_OFS_UV_V lane (BitVec.ofInt 16 (meanOf l.ofsV)).toNat).set F.LN_OFS_W_W lane (BitVec.ofInt 16 (meanOf l.ofsW)).toNat
/-- A sample scaled to amperes or volts. -/
def scaleSample (x ofs : Int) (gain : F32) : F32 := if gain.isZero then 0 else F32.mul (F32.ofInt (x - ofs)) gain

/-! ### Pulse edges and shunt windows (R193, R194, R201–R203, R205) -/

/-- A duty as a number in [0, 1]; a value that is not finite is taken as the middle. -/
def dutyRat (d : F32) : Rat := if d.finite then (if d.toRat < 0 then 0 else if 1 < d.toRat then 1 else d.toRat) else 1 / 2
/-- A leg's duty after the limit of BOOT (R194). -/
def Core.legDuty (c : Core) (lane : Nat) (d : F32) (T : Rat) : Rat :=
  let x := dutyRat d
  let top : Rat := 1 - (5 * c.get F.LN_CFG_MINP lane : Nat) / T
  if c.bit F.LN_CFG_BOOT lane && top < x then (if top < 0 then 0 else top) else x
/-- The duties that a lane's pulses have in a frame: the zero vector, or the duties loaded. -/
def Core.legDuties (c : Core) (lane : Nat) (T : Rat) : List Rat :=
  let l := c.laneAt lane
  if l.probe = 1 then [0, 0, 0] else [c.legDuty lane l.dutyU T, c.legDuty lane l.dutyV T, c.legDuty lane l.dutyW T]
/-- The legs' indices sorted by falling duty. -/
def legOrder (d : List Rat) : Nat × Nat × Nat :=
  let x := d.getD 0 0
  let y := d.getD 1 0
  let z := d.getD 2 0
  if y ≤ x && z ≤ x then (if z ≤ y then (0, 1, 2) else (0, 2, 1))
  else if x ≤ y && z ≤ y then (if z ≤ x then (1, 0, 2) else (1, 2, 0))
  else (if y ≤ x then (2, 0, 1) else (2, 1, 0))
/-- The windows of one period: the shifts of the max and min leg in ns, and for each open window its hold and its close from the carrier valley. `none` where a window does not open. -/
structure Windows where
  s1 : Rat := 0
  s2 : Rat := 0
  holds : Option (List (Rat × Rat)) := none
/-- The window rule of R202 for a three-phase lane, of R205 in DC mode. -/
def shuntWindows (dc : Bool) (d : List Rat) (T : Rat) : Windows :=
  let half := T / 2
  let open_ (hi lo room : Rat) : Rat × Bool :=
    let w := (hi - lo) * half
    let s := if w < 450 then 450 - w else 0
    (s, s ≤ room)
  if dc then
    let x := d.getD 0 0
    let y := d.getD 1 0
    let hi := if y < x then x else y
    let lo := if y < x then y else x
    let (s1, ok) := open_ hi lo ((1 - hi) * half)
    if ok then { s1 := s1, holds := some [((1 - hi) * half - s1 + 400, (1 - lo) * half)] } else {}
  else
    let (a, b, e) := legOrder d
    let hi := d.getD a 0
    let mid := d.getD b 0
    let lo := d.getD e 0
    let (s1, ok1) := open_ hi mid ((1 - hi) * half)
    let (s2, ok2) := open_ mid lo ((1 - lo) * half)
    { s1 := if ok1 then s1 else 0, s2 := if ok2 then s2 else 0,
      holds := if ok1 && ok2 then some [((1 - hi) * half - s1 + 400, (1 - mid) * half), ((1 - mid) * half + 400, (1 - lo) * half + s2)] else none }
/-- A lane's windows at the duties in force. -/
def Core.laneWindows (c : Core) (lane : Nat) (T : Rat) : Windows :=
  if c.laneRuns lane then shuntWindows (c.laneDc lane) (c.legDuties lane T) T else {}
/-- An edge time in ns in steps of 156.25 ps, to the nearest (R193). -/
def edgeStep (t : Rat) : Nat := (ratRne (t * 32 / 5)).toNat
/-- The switching of a leg in a period: its high side's turn-on and turn-off, then its low side's turn-off and turn-on, every turn-on delayed by DEAD. A high or low pulse shorter than MINP is not emitted: the leg stays low, or high, through the period (R194). -/
def Core.legPulse (c : Core) (lane : Nat) (d T shift : Rat) : List Nat :=
  let minp : Rat := (5 * c.get F.LN_CFG_MINP lane : Nat)
  let dead : Rat := (5 * c.get F.LN_CFG_DEAD lane : Nat) / 32
  let rise := (1 - d) * T / 2 + shift
  let fall := (1 + d) * T / 2 + shift
  if d * T < minp then [0, 0, 0, 0]
  else if (1 - d) * T < minp then [0, edgeStep T, 0, edgeStep T]
  else [edgeStep (Min.min (rise + dead) fall), edgeStep fall, edgeStep rise, edgeStep (fall + dead)]
/-- Places a lane's pulses for the frame that opens (R193, R202). -/
def Core.placeEdges (c : Core) (lane : Nat) (frameLen : Rat) : Core :=
  let T := c.pwmT lane frameLen
  let d := c.legDuties lane T
  let w := if isSLane lane then c.laneWindows lane T else {}
  let (a, _, e) := if c.laneDc lane then (if d.getD 1 0 < d.getD 0 0 then (0, 1, 3) else (1, 0, 3)) else legOrder d
  let shift (i : Nat) : Rat := if i = a then -w.s1 else if i = e then w.s2 else 0
  let legs := if c.laneDc lane then [0, 1] else [0, 1, 2]
  let edges := legs.flatMap (fun i => c.legPulse lane (d.getD i 0) T (shift i))
  let c := c.setLane lane { c.laneAt lane with edges := edges }
  if isSLane lane then c.setBit F.LN_STAT_SHIFTING lane (0 < w.s1 || 0 < w.s2) else c

/-- A hold of a converter: its instant, its window's close, its lane and its period. -/
structure ShuntHold where
  t : Rat
  close : Rat
  lane : Nat
  per : Nat
/-- Inserts a hold by its instant. -/
def insertHold (h : ShuntHold) : List ShuntHold → List ShuntHold
  | [] => [h]
  | x :: xs => if h.t < x.t then h :: x :: xs else x :: insertHold h xs
/-- The lane-periods whose holds meet a conflict on a converter, and the instants of the holds placed (R203): each hold is delayed to 200 ns after the one before it, or lost. -/
def placeHolds : Option Rat → List ShuntHold → List (Nat × Nat) × List Rat
  | _, [] => ([], [])
  | last, h :: hs =>
    let at_ := match last with | some p => if h.t - p < 200 then p + 200 else h.t | none => h.t
    if h.close - 50 < at_ then (let r := placeHolds last hs; ((h.lane, h.per) :: r.1, r.2)) else (let r := placeHolds (some at_) hs; (r.1, at_ :: r.2))
/-- The PWM periods that a lane ran in a frame planned at `plan` ns that lasted `len`: PWM_DIV of the planned length; after a late start ⌊e/T⌋ further ones of nominal length T; and the last of them longer by what is left of the extension e (R277). At most 64 of the further ones are listed, as many as a schedule survives (R279). -/
def periodLens (n : Nat) (nominal : Nat) (plan len : Rat) : List Rat × Nat :=
  let T0 : Rat := (nominal : Rat) / (n : Rat)
  let e := if plan < len then len - plan else 0
  let m := (e / T0).floor.toNat
  let l := List.replicate n (plan / (n : Rat)) ++ List.replicate (Min.min m 64) T0
  (l.dropLast ++ [l.getLastD 0 + (e - (m : Rat) * T0)], n + m)
/-- The first lane of an S-lane's converter (R197). -/
def adBase (lane : Nat) : Nat := 32 + (lane - 32) / 4 * 4
/-- The holds of a lane in the periods of a frame, in ns from the frame's start; lane S4k+j lies j × T/4 behind the group carrier (R197). -/
def Core.laneHolds (c : Core) (lane : Nat) (lens : List Rat) : List ShuntHold :=
  (lens.foldl (fun (a : Rat × Nat × List ShuntHold) T =>
    let at_ := a.1 + ((lane % 4 : Nat) : Rat) * T / 4
    let hs := ((c.laneWindows lane T).holds.getD []).map (fun h => ({ t := at_ + h.1, close := at_ + h.2, lane := lane, per := a.2.1 } : ShuntHold))
    (a.1 + T, a.2.1 + 1, a.2.2 ++ hs)) (0, 0, [])).2.2
/-- The conflicts of a converter in a frame and its holds as placed, those of the frame before that reach into this one among them (R203). -/
def Core.converterHolds (c : Core) (base : Nat) (lens : List Rat) : List (Nat × Nat) × List Rat :=
  let old := (c.laneAt base).spill.map (fun t => ({ t := t, close := t + 1000, lane := 96, per := 0 } : ShuntHold))
  let holds := (List.range 4).flatMap (fun j => c.laneHolds (base + j) lens)
  placeHolds none ((old ++ holds).foldl (fun l h => insertHold h l) [])
/-- The periods of a frame in which an S-lane had conflicts, and whether some period gave a valid pair (R201, R203). -/
def Core.shuntPairs (c : Core) (lane : Nat) (lens : List Rat) : Nat × Bool :=
  let bad := (c.converterHolds (adBase lane) lens).1
  let pers := (List.range lens.length).filter (fun p => bad.contains (lane, p))
  let open_ := (List.range lens.length).filter (fun p => (c.laneWindows lane (lens.getD p 0)).holds.isSome && !bad.contains (lane, p))
  (pers.length, !open_.isEmpty)
/-- A converter keeps the holds within 200 ns of the frame's end, and those after it, for the next frame. -/
def Core.spillHolds (c : Core) (base : Nat) (lens : List Rat) : Core :=
  let len := lens.foldl (· + ·) 0
  let late := ((c.converterHolds base lens).2.filter (fun t => len - 200 < t)).map (fun t => t - len)
  c.setLane base { c.laneAt base with spill := late }

/-! ### Disabling and re-arming (R219, R220) -/

/-- Disables a lane: its slot's loop state clears and its profile behaves as in STO_TRACK; a start under way is abandoned, and a DC estimator still reads OBS out of STO (R216, R218). A module that does not drive the group latches nothing for causes 1–3 (R220). -/
def Core.laneDisable (c : Core) (lane cause : Nat) : Core :=
  let g := laneGroup lane
  if c.bit F.LN_STAT_FAULT lane || !c.runs (0x10 + g) || (cause ≤ 3 && !c.drives g) then c
  else
    let c := ((c.setBit F.LN_STAT_FAULT lane true).set F.LN_STAT_CAUSE lane cause).addSat F.LN_FAULTS_COUNT lane 1
    let bit := if lane < 32 then lane % 4 else (lane - 32) % 8
    let c := c.set F.LG_STAT_FAULTED g (c.get F.LG_STAT_FAULTED g ||| 2 ^ bit)
    let c := (c.logFrom (0x10 + g) 0x0500 lane cause).mirrorEvent 1 lane cause
    let c := c.setLane lane { c.laneAt lane with clearPend := false, probe := 0 }
    match c.laneSlot lane with
    | none => c
    | some k =>
      let c := if !c.startsUp k then c
        else (c.setEst k { pos := (c.estAt k).pos }).set F.AX_SL_STAT_STATE k (if cause = 6 then 6 else if (c.pat.slot k).dcMode && !c.inSto g then 5 else 0)
      ((c.loseMaster 1 k).clearLoop k).holdSlot k (if (c.ctxAt k).actKnown then (c.ctxAt k).actPos else (c.profileAt k c.profNs).1)
/-- A write of LN_CTRL.CLEAR (R219). -/
def Core.laneClear (c : Core) (lane : Nat) : Core :=
  if !c.bit F.LN_STAT_FAULT lane then c
  else
    let cause := c.get F.LN_STAT_CAUSE lane
    if (cause = 1 && c.bit F.LN_STAT_FAULT_N_LIVE lane) || (cause = 3 && (c.laneAt lane).sdSilent) then c.setBit F.LN_STAT_CLEAR_REFUSED lane true
    else c.setLane lane { c.laneAt lane with clearPend := true }
/-- A cleared lane re-arms at a frame start; a sensorless slot starts from OFF. -/
def Core.laneRearm (c : Core) (lane : Nat) : Core :=
  if !(c.laneAt lane).clearPend then c
  else
    let g := laneGroup lane
    let bit := if lane < 32 then lane % 4 else (lane - 32) % 8
    let c := c.setLane lane { c.laneAt lane with clearPend := false, misses := 0 }
    let c := (c.setBit F.LN_STAT_FAULT lane false).set F.LN_STAT_CAUSE lane 0
    let c := (c.set F.LG_STAT_FAULTED g (c.get F.LG_STAT_FAULTED g &&& (0xFF - 2 ^ bit))).mirrorEvent 1 lane 0
    match c.laneSlot lane with
    | none => c
    | some k => if c.startsUp k then ((c.setEst k { pos := (c.estAt k).pos }).set F.AX_SL_STAT_STATE k 0).set F.AX_SL_STAT_TRIES k 0 else c

/-- A lane's frame sample: its registers, its offset while in STO, its currents, and the checks of R204 and Table 8.3. `lens` are the PWM periods of the frame just ended, `ran` their number. -/
def Core.laneSample (c : Core) (lens : List Rat) (ran : Nat) (s : LaneSample) : Core :=
  let lane := s.lane
  let g := laneGroup lane
  if 96 ≤ lane || !c.runs (0x10 + g) || !(c.pat.group g).present then c
  else
    let c := c.setReg R.LN_SAMPLE lane (s.v ++ s.u)
    let c := c.setReg R.LN_SAMPLE2 lane (s.dc ++ s.w)
    let c := c.setBit F.LN_STAT_FAULT_N_LIVE lane s.faultLow
    let (u, v, w) := (s.u.toInt, s.v.toInt, s.w.toInt)
    let held := (c.laneAt lane).faultHeld && s.faultLow
    let c := c.setLane lane { c.laneAt lane with sdSilent := false, faultHeld := held, faultLow := s.faultLow, ran := ran, lastT := lens.getLastD 0 }
    -- a module that comes to drive the group finds the line low
    let c := if held then c.laneDisable lane 1 else c
    let c := if c.inSto g && (isSLane lane || c.sdclkSeen g) then c.takeOffset lane u v w else c
    let c := c.setBit F.LN_STAT_OFS_SHORT lane ((c.laneAt lane).ofsU.length < 64)
    let gain : F32 := c.reg R.LN_IGAIN lane
    let ou := signExtend 16 (c.get F.LN_OFS_UV_U lane)
    let vbus := scaleSample s.dc.toInt 0 (c.reg R.LN_VGAIN lane)
    let limit : F32 := c.reg R.LN_OC_LIM lane
    let exceeds (l : List F32) (c : Core) : Core := if limit.positive && l.any (fun i => F32.lt limit (F32.abs i)) then c.laneDisable lane 2 else c
    if isSLane lane then
      let (bad, valid) := c.shuntPairs lane lens
      let i1 := scaleSample u ou gain
      let i2 := scaleSample v ou gain
      let d := c.legDuties lane (lens.getLastD 0)
      let c := c.addSat F.LN_SHUNT_CNT_CONFLICTS lane bad
      -- a single shunt gives a test vector's current along the vector
      let pu := scaleSample s.pu.toInt ou gain
      let side := F32.negate (F32.mul 0x3F000000 pu)
      let l := { c.laneAt lane with vbus := vbus, pairValid := valid, pu := pu, pv := side, pw := side }
      if !c.laneRuns lane then c.setLane lane { l with iu := 0, iv := 0, iw := 0, pairValid := false }
      else if !valid then c.setLane lane l
      else if c.laneDc lane then
        let i := if d.getD 1 0 < d.getD 0 0 then i1 else F32.negate i1
        exceeds [i1] (c.setLane lane { l with iu := i, iv := F32.negate i, iw := 0 })
      else
        let (a, _, e) := legOrder d
        let lo := F32.negate i2
        let mid := F32.negate (F32.add i1 lo)
        let pick (n : Nat) : F32 := if n = a then i1 else if n = e then lo else mid
        exceeds [i1, i2] (c.setLane lane { l with iu := pick 0, iv := pick 1, iw := pick 2 })
    else
      let ov := signExtend 16 (c.get F.LN_OFS_UV_V lane)
      let ow := signExtend 16 (c.get F.LN_OFS_W_W lane)
      let iu := scaleSample u ou gain
      let iv := scaleSample v ov gain
      let iw := scaleSample w ow gain
      let l := { c.laneAt lane with pu := scaleSample s.pu.toInt ou gain, pv := scaleSample s.pv.toInt ov gain, pw := scaleSample s.pw.toInt ow gain }
      exceeds [iu, iv, iw] (c.setLane lane { l with iu := iu, iv := iv, iw := iw, vbus := vbus, pairValid := true })
/-- A frame of a running S-lane counts a miss where the frame before gave no valid pair; too many in a row disable the lane (R204). -/
def Core.laneMiss (c : Core) (lane : Nat) : Core :=
  let l := c.laneAt lane
  if !isSLane lane || !c.laneRuns lane || l.pairValid then c.setLane lane { l with misses := 0 }
  else
    let c := (c.setLane lane { l with misses := l.misses + 1 }).addSat F.LN_SHUNT_CNT_MISSES lane 1
    if c.get F.LN_SHUNT_CFG_MISS_MAX lane < l.misses + 1 then c.laneDisable lane 4 else c

/-! ### Commands -/

/-- LANE_FAULT_N (R219): FAULT_N is low after its filter. -/
def execLaneFaultN (s : State) (lane : Nat) : Host.Outcome State Fault Refusal := inRange "lane" lane 96 (onCore s (fun c =>
  if c.runs (0x10 + laneGroup lane) then ((c.setLane lane { c.laneAt lane with faultHeld := true, faultLow := true }).setBit F.LN_STAT_FAULT_N_LIVE lane true).laneDisable lane 1 else c))
/-- SD_LOST (R219): only F-lanes have bitstreams. -/
def execSdLost (s : State) (lane : Nat) : Host.Outcome State Fault Refusal := inRange "lane" lane 96 (onCore s (fun c =>
  if isSLane lane then c else (c.setLane lane { c.laneAt lane with sdSilent := true }).laneDisable lane 3))
/-- OVERCURRENT (R219): a limit of 0 disables the check. -/
def execOvercurrent (s : State) (lane : Nat) : Host.Outcome State Fault Refusal := inRange "lane" lane 96 (onCore s (fun c =>
  if F32.isZero (c.reg R.LN_OC_LIM lane) then c else c.laneDisable lane 2))

end Sys2Proof.Machine
end

