-- ==== Sys2Proof/Machine/Estimator.lean ====
section
/-! DEFINITION. The commutation angle (R206–R208) and the sensorless estimator (R210–R217). -/
namespace Sys2Proof.Machine

/-! ### Constants and vectors -/

/-- 2π. -/
def f2Pi : F32 := 0x40C90FDB
/-- √3. -/
def fSqrt3 : F32 := 0x3FDDB3D7
/-- √3 / 2. -/
def fHalfSqrt3 : F32 := 0x3F5DB3D7
/-- 1/2. -/
def fHalf : F32 := 0x3F000000
/-- 1. -/
def fOne : F32 := 0x3F800000
/-- 1/32. -/
def fThirtySecond : F32 := 0x3D000000
/-- 1.5. -/
def fOneHalf : F32 := 0x3FC00000
/-- cos of 30n degrees. -/
def cos30 (n : Nat) : F32 := [fOne, fHalfSqrt3, fHalf, 0, F32.negate fHalf, F32.negate fHalfSqrt3, F32.negate fOne, F32.negate fHalfSqrt3, F32.negate fHalf, 0, fHalf, fHalfSqrt3].getD (n % 12) 0
/-- sin of 30n degrees. -/
def sin30 (n : Nat) : F32 := cos30 (n + 9)
/-- The magnitude of a vector. -/
def vecMag (v : F32 × F32) : F32 := F32.sqrt (F32.add (F32.mul v.1 v.1) (F32.mul v.2 v.2))
/-- The stator vector of three phase currents, with its amplitude kept. -/
def clarke (u v w : F32) : F32 × F32 :=
  (F32.div (F32.sub (F32.sub (F32.add u u) v) w) 0x40400000, F32.div (F32.sub v w) fSqrt3)
/-- Stator to rotor coordinates at an angle. -/
def park (v : F32 × F32) (theta : BitVec 16) : F32 × F32 :=
  let co := Config.cos theta
  let si := Config.sin theta
  (F32.add (F32.mul v.1 co) (F32.mul v.2 si), F32.sub (F32.mul v.2 co) (F32.mul v.1 si))
/-- Rotor to stator coordinates. -/
def unpark (d q : F32) (theta : BitVec 16) : F32 × F32 :=
  let co := Config.cos theta
  let si := Config.sin theta
  (F32.sub (F32.mul d co) (F32.mul q si), F32.add (F32.mul d si) (F32.mul q co))
/-- The short way round from one angle to another, in counts. -/
def wrapTo (a b : BitVec 16) : Int := (b - a).toInt
/-- Whether a value is valid for a loop parameter (R187). -/
def paramValid (r : Reg) (v : F32) : Bool :=
  if r.id = R.AX_VMOD.id then v.positive && F32.le v fOne
  else if r.id = R.AX_VBUS_NOM.id then v.positive
  else v.nonneg
/-- A valid loop parameter: what its register holds, or, where that is not valid, the previous valid value (R187). -/
def Core.param (c : Core) (k : Nat) (r : Reg) : F32 :=
  if paramValid r (c.reg r k) then c.reg r k else Tab.get (BitVec.ofNat 32 r.reset) (c.ctxAt k).valid r.id
/-- The AX_SL_ and AX_MOT_ registers that act from the next frame (R210). -/
def framedRegs : List Reg := [R.AX_MOT_RS, R.AX_MOT_LD, R.AX_MOT_LQ, R.AX_MOT_FLUX, R.AX_SL_HFI_V, R.AX_SL_VLO, R.AX_SL_VHI, R.AX_SL_BW]
/-- At a frame start of a slot, its AX_SL_ and AX_MOT_ values and its phase-advance table become those that act (R209, R210). -/
def Core.latchParams (c : Core) (k : Nat) : Core :=
  let x := c.ctxAt k
  let now (r : Reg) : Word := if r.id = R.AX_SL_BW.id then c.reg r k else c.param k r
  c.setCtx k { x with latched := framedRegs.foldl (fun t r => Tab.set 0 t r.id (now r)) x.latched, paNow := x.pa }
/-- An AX_SL_ or AX_MOT_ value as it acts in the present frame. -/
def Core.framed (c : Core) (k : Nat) (r : Reg) : Word := Tab.get 0 (c.ctxAt k).latched r.id
/-- The current vector of a slot's lane. -/
def Core.laneCurrent (c : Core) (lane : Nat) : F32 × F32 := let l := c.laneAt lane; clarke l.iu l.iv l.iw

/-! ### The angle (R206, R207) -/

/-- The electrical angle in use, its frequency in Hz, where it comes from (AX_COMM_STAT.SRC), and whether it is established. -/
structure Angle where
  theta : BitVec 16 := 0
  fe : F32 := 0
  src : Nat := 4
  valid : Bool := false
/-- DIR and OFS of a slot applied to a raw angle. -/
def Core.commAngle (c : Core) (k : Nat) (raw : Int) : BitVec 16 :=
  BitVec.ofInt 16 ((if c.bit F.AX_COMM_DIR k then -raw else raw) + c.get F.AX_COMM_OFS k)
/-- The electrical frequency of a slot from a port's speed. -/
def Core.commSpeed (c : Core) (k p : Nat) : F32 :=
  let v : F32 := c.reg R.FB_SPEED p
  let f : F32 := F32.div (F32.mul v (F32.ofInt (c.get F.AX_COMM_POLE_PAIRS k))) (F32.ofInt (c.portN p))
  if c.bit F.AX_COMM_DIR k then F32.negate f else f
/-- The raw angle of a port's single-turn count, as the slot's frame read it. -/
def Core.countAngle (c : Core) (k p : Nat) : Int := ((if p = (c.pat.slot k).fb1 then (c.ctxAt k).turn1 else (c.ctxAt k).turn2) * c.get F.AX_COMM_POLE_PAIRS k * 65536 / c.portN p : Nat)
/-- The raw angle of a Hall port: its sector's centre before its first edge, then extrapolated and clamped within the sector (R207). -/
def Core.hallAngle (c : Core) (k p : Nat) (t : Int) : Option (Int × Bool) :=
  let q := c.portAt p
  match hallSector (c.portLines p) with
  | none => none
  | some s =>
    if q.seen = 0 then some ((((2 * s + 1) * 65536 / 12 : Nat) : Int), false)
    else
      let up := decide (0 < q.sign) != c.bit F.FB_CFG_DIR p
      let v : F32 := F32.abs (c.commSpeed k p)
      let gone : Int := if v.finite then ratTrunc (v.toRat * 65536 * ((t - q.e1 : Int) : Rat) / 1000000000) else 0
      let gone := clampInt gone 0 (65536 / 6)
      some (if up then ((hallEdge s true : Nat) : Int) + gone else ((hallEdge s false : Nat) : Int) - gone, true)
/-- The Hall angles of a slot's ports at its frame stamp (R207, R232). -/
def Core.readHall (c : Core) (k : Nat) (t : Int) : Core :=
  let r := c.pat.slot k
  let at_ (p : Nat) : Option (Int × Bool) := if p < 56 && c.portType p = 2 then c.hallAngle k p t else none
  if at_ r.fb1 = none && at_ r.fb2 = none && (c.ctxAt k).hall1 = none && (c.ctxAt k).hall2 = none then c
  else c.setCtx k { c.ctxAt k with hall1 := at_ r.fb1, hall2 := at_ r.fb2 }
/-- The angle of a port used as a source. -/
def Core.portAngle (c : Core) (k p src : Nat) : Angle :=
  let q := c.portAt p
  match c.portType p with
  | 2 => match (if p = (c.pat.slot k).fb1 then (c.ctxAt k).hall1 else (c.ctxAt k).hall2) with
    | some (a, ext) => { theta := c.commAngle k a, fe := c.commSpeed k p, src := if ext then 2 else src, valid := true }
    | none => { src := src }
  | 1 => match (if (c.estAt k).refPort = p then (c.estAt k).hallRef else none) with
    | some h => { theta := c.commAngle k (c.countAngle k p + h), fe := c.commSpeed k p, src := src, valid := true }
    | none => { src := src }
  | _ => { theta := c.commAngle k (c.countAngle k p), fe := c.commSpeed k p, src := src, valid := q.good }
/-- The commutation angle of a slot, from the first available source of R206. An ABZ port is available once it has a reference, and the reference that a Hall edge gave FB1 takes over from the Hall port (R207). -/
def Core.angleOf (c : Core) (k : Nat) : Angle :=
  let r := c.pat.slot k
  let e := c.estAt k
  let ps := c.commPorts k
  if r.sensorless then
    let st := c.get F.AX_SL_STAT_STATE k
    { theta := e.theta, fe := e.fe, src := 3, valid := 3 ≤ st && st ≤ 5 }
  else
    let counts (p : Nat) : Bool := c.portType p == 1 && e.hallRef.isSome && e.refPort == p
    let first := if ps.contains r.fb2 && c.portType r.fb2 = 2 && ps.contains r.fb1 && counts r.fb1 then some r.fb1
      else ps.find? (fun p => c.portType p != 1 || counts p)
    match first with
    | some p => c.portAngle k p (if p = r.fb2 then 1 else 0)
    | none => {}
/-- Publishes the angle in use. -/
def Core.publishAngle (c : Core) (k : Nat) (a : Angle) : Core :=
  ((c.setBit F.AX_COMM_STAT_VALID k a.valid).set F.AX_COMM_STAT_SRC k a.src).set F.AX_COMM_STAT_THETA_E k a.theta.toNat

/-! ### Starting, failing, retrying (R210, R215, R217, R218) -/

/-- The estimator of a slot goes to OFF, as in STO. -/
def Core.estOff (c : Core) (k : Nat) : Core :=
  let c := c.setEst k { pos := (c.estAt k).pos }
  (c.set F.AX_SL_STAT_STATE k 0).set F.AX_SL_STAT_TRIES k 0
/-- An attempt starts: SL_CFG is taken, and the estimator enters CATCH or IPD. -/
def Core.estBegin (c : Core) (k : Nat) (catch_ : Bool) : Core :=
  let e := c.estAt k
  let c := c.setEst k { e with frame := 0, cfg := c.reg R.AX_SL_CFG k, probe := [], pulses := [], waiting := false, restart := false, again := false, back := 0, backFrames := 0, excess := 0 }
  let c := c.set F.AX_SL_STAT_STATE k (if catch_ then 1 else 2)
  c.addSat F.AX_SL_STAT_TRIES k 1
/-- An attempt fails or is aborted (R215): the loops stop and the retry wait runs; without a retry left the estimator has FAILED and the lane is disabled at once. -/
def Core.estFail (c : Core) (k : Nat) (flag : Fld) : Core :=
  let c := (c.setBit flag k true).clearLoop k
  let e := c.estAt k
  if F.AX_SL_CFG_RETRIES.read e.cfg ≤ e.retries then c.laneDisable (c.pat.slot k).res 6
  else (c.set F.AX_SL_STAT_STATE k 2).setEst k { e with waiting := true, restart := false, again := false, probe := [], pulses := [] }
/-- The duties of a slot are repeated in the next frame: a CATCH or IPD applies the zero vector there and restarts (R217). -/
def Core.estRepeat (c : Core) (k : Nat) : Core :=
  let st := c.get F.AX_SL_STAT_STATE k
  let e := c.estAt k
  if c.startsUp k && (st = 1 || st = 2) && !e.waiting then c.setEst k { e with restart := true } else c

/-! ### The running estimator (R211–R216) -/

/-- Sets the estimator's angle and frequency, and moves its position by the short way round. -/
def Core.estSet (c : Core) (k : Nat) (theta : BitVec 16) (fe : F32) : Core :=
  let e := c.estAt k
  let here := e.pos.fdiv 65536
  c.setEst k { e with theta := theta, fe := fe, pos := (here + wrapTo (BitVec.ofInt 16 here) theta) * 65536 }
/-- Enters HFI at an angle. -/
def Core.enterHfi (c : Core) (k : Nat) (theta : BitVec 16) (fe : F32) (fromIpd : Bool) : Core :=
  let c := c.estSet k theta fe
  let c := c.setEst k { c.estAt k with hfiTheta := theta, hfiFreq := fe, obsTheta := theta, obsFreq := fe, excess := 0, back := 0, backFrames := if fromIpd then 256 else 0, iqLast := 0 }
  (c.clearLoop k).set F.AX_SL_STAT_STATE k 3
/-- The length of a probe or test vector in ns (R211, R212). -/
def Estim.ipdNs (e : Estim) : Nat := 1000 * Max.max 1 (F.AX_SL_CFG_IPD_T.read e.cfg)
/-- CATCH at its 17th frame (R211). -/
def Core.catchDone (c : Core) (k : Nat) (d0 d1 : F32 × F32) : Core :=
  let e := c.estAt k
  let emf : F32 := F32.div (F32.mul (c.framed k R.AX_MOT_LQ) (vecMag d1)) (F32.ofRat ((e.ipdNs : Rat) / 1000000000))
  let speed : F32 := F32.div emf (F32.mul f2Pi (c.framed k R.AX_MOT_FLUX))
  let at_ (d : F32 × F32) : BitVec 16 := Config.atan2 d.2 d.1 - 16384
  let turn := wrapTo (at_ d0) (at_ d1)
  let fe : F32 := if turn < 0 then F32.negate speed else speed
  let theta := at_ d1
  if F32.le (c.framed k R.AX_SL_VHI) speed then
    let c := c.estSet k theta fe
    let c := c.setEst k { c.estAt k with obsTheta := theta, obsFreq := fe, excess := 0 }
    (c.clearLoop k).set F.AX_SL_STAT_STATE k 5
  else if F32.le (c.framed k R.AX_SL_VLO) speed then c.enterHfi k theta fe false
  else (c.setEst k { c.estAt k with frame := 0, pulses := [] }).set F.AX_SL_STAT_STATE k 2
/-- IPD at its 48th frame (R212): the angle from the reference that the pulses were turned by, or LOW_CONTRAST. -/
def Core.ipdDone (c : Core) (k : Nat) : Core :=
  let e := c.estAt k
  let row := (List.range 12).map (fun n => (n, e.pulses.getD n 0))
  let re := row.foldl (fun (a : F32) x => F32.add a (F32.mul x.2 (cos30 x.1))) 0
  let im := row.foldl (fun (a : F32) x => F32.add a (F32.mul x.2 (sin30 x.1))) 0
  let sum := row.foldl (fun (a : F32) x => F32.add a x.2) 0
  let contrast : F32 := F32.div (vecMag (re, im)) sum
  let theta := e.theta + Config.atan2 im re
  if !F32.le fThirtySecond contrast then c.estFail k F.AX_SL_STAT_LOW_CONTRAST
  else if (c.pat.slot k).sensorless then c.enterHfi k theta 0 true
  else
    let want : Int := (theta.toNat : Int) - c.get F.AX_COMM_OFS k
    let want := if c.bit F.AX_COMM_DIR k then -want else want
    let p := (c.ipdPort k).getD 0
    let c := c.setEst k { c.estAt k with hallRef := some ((want - c.countAngle k p).fmod 65536), refPort := p }
    (c.clearLoop k).set F.AX_SL_STAT_STATE k 0
/-- CATCH and IPD at a frame start, with the currents at the end of the probe or pulse of the frame just ended (R211, R212). -/
def Core.estStart (c : Core) (k : Nat) : Core :=
  let e := c.estAt k
  let l := c.laneAt (c.pat.slot k).res
  let i := clarke l.pu l.pv l.pw
  if c.get F.AX_SL_STAT_STATE k = 1 then
    if e.frame = 1 then c.setEst k { e with probe := [i] }
    else if e.frame = 17 then c.catchDone k (e.probe.headD (0, 0)) i
    else c
  else
    let e := if e.frame % 4 = 1 && e.frame < 48 then { e with pulses := e.pulses ++ [vecMag i] } else e
    let c := c.setEst k e
    if e.frame = 48 then c.ipdDone k else c
/-- HFI, BLEND and OBS at a frame start: the frames of R214 and R215 count, whether the context ran in them or not, and the estimator moves between its states. -/
def Core.estCount (c : Core) (k : Nat) : Core :=
  let e := c.estAt k
  let e := { e with backFrames := e.backFrames - 1 }
  let enter (c : Core) (e : Estim) (up : Bool) : Core := (c.setEst k { e with frame := 1, up := up, excess := 0 }).set F.AX_SL_STAT_STATE k 4
  match c.get F.AX_SL_STAT_STATE k with
  | 3 =>
    let n := if F32.lt (c.framed k R.AX_SL_VHI) e.fe.abs then e.excess + 1 else 0
    if 16 ≤ n then enter c e true else c.setEst k { e with excess := n }
  | 5 =>
    let n := if F32.lt e.fe.abs (c.framed k R.AX_SL_VLO) then e.excess + 1 else 0
    if 16 ≤ n then enter c { e with hfiTheta := e.obsTheta, hfiFreq := e.obsFreq } false else c.setEst k { e with excess := n }
  | 4 =>
    if e.frame < 32 then c.setEst k { e with frame := e.frame + 1 }
    else
      let c := c.setEst k { e with excess := 0 }
      if 65536 < (wrapTo e.hfiTheta e.obsTheta).natAbs * 12 then (c.setBit F.AX_SL_STAT_HANDOVER_REJ k true).set F.AX_SL_STAT_STATE k (if e.up then 3 else 5)
      else c.set F.AX_SL_STAT_STATE k (if e.up then 5 else 3)
  | _ => c.setEst k e
/-- The estimator at a frame start: a start begins, goes on by a frame or begins again, and the lane takes its probe or test vector (R211, R212, R215, R217). `half` is half a frame in ns. -/
def Core.estFrame (c : Core) (k half : Nat) : Core :=
  let r := c.pat.slot k
  if r.kind ≠ 1 then c
  else
    let lane := r.res
    let set (n : Nat) (c : Core) : Core := c.setLane lane { c.laneAt lane with probe := n, probeNs := (if n = 2 then (c.estAt k).ipdNs else Min.min (c.estAt k).ipdNs half) }
    let st := c.get F.AX_SL_STAT_STATE k
    let e := c.estAt k
    if c.slotSto k then (if st = 6 then c else if r.sensorless || c.needsIpd k || e.hallRef.isSome then set 0 (c.estOff k) else c)
    else if r.dcMode then set 0 (if r.sensorless then c.set F.AX_SL_STAT_STATE k 5 else c)
    else if !c.startsUp k || c.bit F.LN_STAT_FAULT lane then set 0 c
    else if e.waiting then set 3 c
    else
      let c := if st = 0 then c.estBegin k (r.sensorless && c.bit F.AX_SL_CFG_CATCH_EN k)
        else if 3 ≤ st then c.estCount k
        else if e.restart then c.setEst k { e with restart := false, again := true, probe := [], pulses := [] }
        else if e.again then c.setEst k { e with again := false, frame := 0 }
        else (c.setEst k { e with frame := e.frame + 1 }).estStart k
      let st := c.get F.AX_SL_STAT_STATE k
      let e := c.estAt k
      if e.waiting then set 3 c
      else if !c.startsUp k || st > 2 then set 0 c
      else if e.again then set 1 c
      else if st = 1 then set (if e.frame = 0 || e.frame = 16 then 2 else 0) c
      else set (if e.frame % 4 = 0 && e.frame < 48 then 4 + e.frame / 4 else 1) c
/-- A run of the estimator in HFI, BLEND or OBS (R213–R215). `dt` is the measured frame length in seconds. -/
def Core.estTrack (c : Core) (k : Nat) (dt : F32) : Core :=
  let e := c.estAt k
  let st := c.get F.AX_SL_STAT_STATE k
  let l := c.loopAt k
  let (id, iq) := park (c.laneCurrent (c.pat.slot k).res) e.theta
  let obs := [l.vd, l.vq, id, iq, c.framed k R.AX_MOT_RS, c.framed k R.AX_MOT_LD, c.framed k R.AX_MOT_LQ, c.framed k R.AX_MOT_FLUX, dt, c.framed k R.AX_SL_BW]
  let err := F32.div (F32.sub iq e.iqLast) dt
  let bw := F.AX_SL_BW_HFI_BW.read (c.framed k R.AX_SL_BW)
  let inj := st = 3 || st = 4
  let e' := { e with iqLast := iq, injNeg := if inj then !e.injNeg else e.injNeg,
                     obsTheta := Config.obsTheta e.obsTheta e.obsFreq obs, obsFreq := Config.obsFreq e.obsTheta e.obsFreq obs,
                     hfiTheta := if inj then Config.hfiTheta e.hfiTheta e.hfiFreq err bw else e.hfiTheta,
                     hfiFreq := if inj then Config.hfiFreq e.hfiTheta e.hfiFreq err bw else e.hfiFreq }
  let c := c.setEst k e'
  let n := e.frame
  let (from_, to_) := if e.up then (e'.hfiTheta, e'.obsTheta) else (e'.obsTheta, e'.hfiTheta)
  let (theta, fe) : BitVec 16 × F32 :=
    if st = 3 then (e'.hfiTheta, e'.hfiFreq)
    else if st = 4 then (from_ + BitVec.ofInt 16 ((wrapTo from_ to_ * n).tdiv 32), if e.up then e'.obsFreq else e'.hfiFreq)
    else (e'.obsTheta, e'.obsFreq)
  let moved := wrapTo e.theta theta
  let against : Bool := !iq.isZero && ((iq.neg && decide (0 < moved)) || (!iq.neg && decide (moved < 0)))
  let back := if 0 < e.backFrames && against then e.back + moved.natAbs else e.back
  let c := c.estSet k theta fe
  let c := c.setEst k { c.estAt k with back := back }
  if (F.AX_SL_CFG_BACK.read e.cfg : Int) * 65536 < back * 360 then c.estFail k F.AX_SL_STAT_BACK_EXCEEDED else c
/-- The estimator of a DC slot (R216): its speed, and its position as that speed integrated at 65,536 counts per revolution over the time since its latest run. -/
def Core.estDc (c : Core) (k : Nat) (t : Int) (len : F32) : Core :=
  let e := c.estAt k
  let dt : F32 := match e.tRun with | some t0 => F32.ofRat (((t - t0 : Int) : Rat) / 1000000000) | none => len
  let i : F32 := (c.laneAt (c.pat.slot k).res).iu
  let didt := F32.div (F32.sub i e.iqLast) dt
  let num := F32.sub (F32.sub (c.loopAt k).vq (F32.mul (c.framed k R.AX_MOT_RS) i)) (F32.mul (c.framed k R.AX_MOT_LD) didt)
  let w : F32 := F32.div (F32.div num (c.framed k R.AX_MOT_FLUX)) f2Pi
  let step : Int := if w.finite && F32.finite dt then ratTrunc (w.toRat * F32.toRat dt * 65536 * 65536) else 0
  let pos := e.pos + step
  c.setEst k { e with iqLast := i, tRun := some t, fe := w, pos := pos, theta := BitVec.ofInt 16 (pos.fdiv 65536) }
/-- A run of the estimator in a slot's context, at frame stamp `t`. -/
def Core.estRun (c : Core) (k : Nat) (t : Int) (dt : F32) : Core :=
  let r := c.pat.slot k
  let st := c.get F.AX_SL_STAT_STATE k
  if r.dcMode then (if r.sensorless then c.estDc k t dt else c)
  else if c.startsUp k && 3 ≤ st && st ≤ 5 then c.estTrack k dt
  else c
/-- The actual position and speed of a sensorless slot, from its estimate at 65,536 counts per revolution (R138). -/
def Core.estActual (c : Core) (k : Nat) : Core :=
  let e := c.estAt k
  let v := F32.mul e.fe 0x47800000
  let pos := ratioMul e.pos (c.reg R.AX_SCALE_NUM k).toInt ((c.reg R.AX_SCALE_DEN k).toNat : Int)
  c.setCtx k { c.ctxAt k with actPos := pos, actVel := c.scaleSpeed k v, actKnown := true }

/-- SL_RETRY_WAIT (R215): the wait ends and the estimator retries from IPD. -/
def execSlRetryWait (s : State) (slot : Nat) : Host.Outcome State Fault Refusal := inRange "slot" slot 128 (onCore s (fun c =>
  let e := c.estAt slot
  if !e.waiting || !c.startsUp slot then c else (c.setEst slot { e with retries := e.retries + 1 }).estBegin slot false))

end Sys2Proof.Machine
end

