-- ==== Sys2Proof/Machine/Loops.lean ====
section
/-! DEFINITION. The loop templates (R166–R189): position, velocity, state and current parts, compensator blocks, tables, presets and manual operation. -/
namespace Sys2Proof.Machine

/-! ### Shapes of the templates (Table 7.1) -/

/-- The template has a position part. -/
def hasPos (tmpl : Nat) : Bool := tmpl = 1 || tmpl = 2 || tmpl = 4 || tmpl = 6 || tmpl = 7
/-- The template has a velocity or state part. -/
def hasVel (tmpl : Nat) : Bool := 1 ≤ tmpl && tmpl ≤ 7 && tmpl ≠ 4
/-- The template has a current part. -/
def hasCur (tmpl : Nat) : Bool := hasVel tmpl
/-- The template's loops are compensator blocks. -/
def blocky (tmpl : Nat) : Bool := tmpl = 6 || tmpl = 7
/-- The template has the loop that MAN_LOOP names; 3 acts as 2 (R182). -/
def hasLoop (tmpl n : Nat) : Bool := if n = 0 then hasCur tmpl else if n = 1 then hasVel tmpl else hasPos tmpl
/-- The coefficient words that a template uses (Table 7.3). -/
def coefUsed (tmpl i : Nat) : Bool :=
  if tmpl = 5 then i < 114 else if tmpl = 6 then i < 32 && i % 8 ≠ 7 else if tmpl = 7 then i < 32 && i % 8 ≠ 7 && i / 8 ≠ 1 else false

/-! ### Small arithmetic -/

/-- The sign of a value: −1, 0 or 1. -/
def fSign (x : F32) : Int := if x.isZero || x.isNaN then 0 else if x.neg then -1 else 1
/-- A clamp to ±lim, and whether it acts. -/
def clampSat (x lim : F32) : F32 × Bool := let u := F32.clamp x (F32.negate lim) lim; (u, !F32.eqv u x)
/-- Nanoseconds in seconds. -/
def secs (ns : Int) : F32 := F32.ofRat ((ns : Rat) / 1000000000)
/-- t_k: the time since the previous run of a loop from frame stamps (R171); the first run takes the divisor times the measured frame length. -/
def sinceRun (last : Option Int) (t : Int) (div len : Nat) : F32 := match last with | some t0 => secs (t - t0) | none => secs (div * len)

/-- A PI step (R171): its output, its integrator, whether its clamp acts, and u_raw. -/
def piStep (kp ki tk e i ff lim : F32) : F32 × F32 × Bool × F32 :=
  let acc := F32.mul (F32.mul ki tk) e
  let raw := F32.add (F32.add (F32.add (F32.mul kp e) i) acc) ff
  let (u, sat) := clampSat raw lim
  let i' := if !sat || fSign e ≠ fSign (F32.sub raw u) then (clampSat (F32.add i acc) lim).1 else i
  (u, i', sat, raw)
/-- The preset of a PI (R183). -/
def piPreset (kp e u0 ff lim : F32) : F32 := (clampSat (F32.sub (F32.sub u0 (F32.mul kp e)) ff) lim).1

/-! ### Blocks (R176, R183) -/

/-- Word `n` of block `j`'s history. -/
def Loop.h (l : Loop) (j n : Nat) : F32 := l.hist.getD (6 * j + n) 0
/-- Replaces block `j`'s history. -/
def Loop.setH (l : Loop) (j : Nat) (w : List F32) : Loop :=
  let full := l.hist ++ List.replicate (24 - l.hist.length) 0
  { l with hist := full.take (6 * j) ++ w ++ full.drop (6 * j + 6) }
/-- Coefficient `n` of block `j`; a 2p2z block takes b3 = a3 = 0. -/
def Context.coef (x : Context) (j n : Nat) : F32 :=
  if (n = 3 || n = 6) && !x.order.testBit j then 0 else Tab.get 0 x.active (8 * j + n)
/-- Marks a loop state where one of some variables of the frame is not finite (R189). -/
def Loop.note (l : Loop) (xs : List F32) : Loop := { l with bad := l.bad || !xs.all F32.finite }
/-- A block's step: its output, whether its clamp acts, and its new history. -/
def blockStep (x : Context) (l : Loop) (j : Nat) (e lim : F32) : F32 × Bool × Loop :=
  let b (n : Nat) := x.coef j n
  let s := F32.mul (b 0) e
  let s := F32.add s (F32.mul (b 1) (l.h j 0))
  let s := F32.add s (F32.mul (b 2) (l.h j 1))
  let s := F32.add s (F32.mul (b 3) (l.h j 2))
  let s := F32.sub s (F32.mul (b 4) (l.h j 3))
  let s := F32.sub s (F32.mul (b 5) (l.h j 4))
  let s := F32.sub s (F32.mul (b 6) (l.h j 5))
  let (u, sat) := clampSat s lim
  (u, sat, (l.note [e, s]).setH j [e, l.h j 0, l.h j 1, u, l.h j 3, l.h j 4])
/-- A block's preset, and whether it is approximate. -/
def blockPreset (x : Context) (l : Loop) (j : Nat) (e u0 : F32) : Loop × Bool :=
  let a := F32.add (F32.add (x.coef j 4) (x.coef j 5)) (x.coef j 6)
  if F32.lt a.abs 0x3A800000 then (l.setH j [0, 0, 0, 0, 0, 0], true)
  else
    let u := F32.div (F32.sub (F32.mul (x.coef j 0) e) u0) a
    (l.setH j [0, 0, 0, u, u, u], false)

/-! ### Tables (R175) -/

/-- The single-turn position of a slot and its counts per revolution. -/
def Core.turnOf (c : Core) (k : Nat) : Option (Nat × Nat) :=
  let r := c.pat.slot k
  if r.sensorless then some ((c.estAt k).theta.toNat, 65536)
  else if r.fb1 < 56 then some ((c.ctxAt k).turn1, c.portN r.fb1)
  else none
/-- A table's value at a slot's position; 0 without a table or a position. -/
def Core.tableValue (c : Core) (ram : Ram) (k tb : Nat) : F32 :=
  let base := Tab.get 0 c.pat.tables tb
  if tb ≥ 0xFF || base = 0 then 0
  else
    match c.turnOf k with
    | none => 0
    | some (theta, n) =>
      let x : Rat := (theta * 1024 : Nat) / (n : Rat)
      let i := theta * 1024 / n
      let f := F32.ofRat (x - (i : Nat))
      let w (j : Nat) : F32 := ram.word (base + 4 * (j % 1024))
      F32.add (w i) (F32.mul f (F32.sub (w (i + 1)) (w i)))
/-- s(v) of R175. -/
def fricSign (v vdb : F32) : F32 :=
  if vdb.isZero then (if v.isZero then 0 else if v.neg then F32.negate fOne else fOne)
  else F32.clamp (F32.div v vdb) (F32.negate fOne) fOne
/-- The friction term of a slot at a velocity. -/
def Core.friction (c : Core) (ram : Ram) (k : Nat) (v : F32) : F32 :=
  let tb := (c.pat.slot k).tbFric
  if tb = 0xFF then 0 else F32.mul (F32.mul (c.param k R.AX_TB_GAIN) (c.tableValue ram k tb)) (fricSign v (c.param k R.AX_FRIC_VDB))
/-- The cogging term of a slot. -/
def Core.cogging (c : Core) (ram : Ram) (k : Nat) : F32 :=
  let tb := (c.pat.slot k).tbCog
  if tb = 0xFF then 0 else F32.mul (c.param k R.AX_TB_GAIN) (c.tableValue ram k tb)

/-! ### Flags and manual operation (R182, R183, R185) -/

/-- The loop that manual operation replaces, while it is in force. -/
def Core.manLoop (c : Core) (k : Nat) : Option Nat :=
  if c.bit F.AX_LSTAT_MAN_ACTIVE k then some (Min.min 2 (c.get F.AX_LCFG_MAN_LOOP k)) else none
/-- Sets a flag of AX_LSTAT that is logged when it sets. -/
def Core.raiseL (c : Core) (f : Fld) (k arg : Nat) : Core := if c.bit f k then c else (c.setBit f k true).log 0x050B k arg
/-- Asks presets of a slot's loops at their next run, which a frame that is taken back leaves asked; in STO the loop state is held clear and none is run at release (R183, R184). -/
def Core.askPreset (c : Core) (k : Nat) (cur vel pos : Bool) : Core :=
  if c.slotSto k then c
  else
    let ask (l : Loop) : Loop := { l with preCur := l.preCur || cur, preVel := l.preVel || vel, prePos := l.prePos || pos }
    (c.setLoop k (ask (c.loopAt k))).setSnap k { c.snapAt k with loop := ask (c.snapAt k).loop }
/-- Counts presets. -/
def Core.presets (c : Core) (k n : Nat) : Core := c.addSat F.AX_LSTAT_PRESETS k n
/-- While MAN is 0 and MAN_TRACK is 1, MAN_OUT follows the named loop's output. -/
def Core.manTrack (c : Core) (k n : Nat) (u : F32) : Core :=
  if !c.bit F.AX_LCFG_MAN k && c.bit F.AX_LCFG_MAN_TRACK k && Min.min 2 (c.get F.AX_LCFG_MAN_LOOP k) = n then c.setReg R.AX_MAN_OUT k u else c
/-- The position error of a slot at its frame stamp (R167). -/
def Core.posError (c : Core) (k : Nat) (t : Int) : F32 :=
  let d := (c.profileAt k t).1 - (c.ctxAt k).actPos
  F32.ofRat ((clampInt d (-(2 ^ 47)) (2 ^ 47) : Int) / 65536)
/-- In position and following error at a run (R185). -/
def Core.posChecks (c : Core) (k : Nat) (e : F32) : Core :=
  let c := c.setReg R.AX_PERR k e
  let l := c.loopAt k
  let in_ := c.bit F.AX_PSTAT_DONE k && F32.le e.abs (c.param k R.AX_INPOS_WIN)
  let n := if in_ then Min.min (l.inposRuns + 1) 255 else 0
  let c := (c.setLoop k { l with inposRuns := n }).setBit F.AX_LSTAT_INPOS k (in_ && c.get F.AX_INPOS_CFG_RUNS k ≤ n)
  let lim := c.param k R.AX_FERR_LIM
  if lim.isZero || !F32.lt lim e.abs then c
  else
    let c := c.raiseL F.AX_LSTAT_FOLLOW_ERR k 8
    match c.slotGroup k with
    | some g => if c.bit F.AX_LCFG_FERR_ACT k then c.requestSs1 g 3 else c
    | none => c

/-! ### The parts -/

/-- The position part (R170). A CAN slot without a receive object has no position source, and its position error is a free value (log entry 78). -/
def Core.posPart (c : Core) (k : Nat) (t : Int) : Core :=
  let tmpl := (c.pat.slot k).template
  let (_, vProf, _) := c.profileAt k t
  let (e, c) := if (c.pat.slot k).kind = 3 && (c.pat.slot k).rx = 0xFFFF then c.fresh else (c.posError k t, c)
  let c := c.posChecks k e
  let x := c.ctxAt k
  let lim := c.param k R.AX_VLIM
  let l := c.loopAt k
  let (l, approx) := if blocky tmpl && l.prePos then blockPreset x l 3 e l.vCmd else (l, false)
  let c := if blocky tmpl && l.prePos then c.presets k 1 else c
  let c := if approx then c.setBit F.AX_LSTAT_PRESET_APPROX k true else c
  let (p, l) := if blocky tmpl then (let (u, _, l) := blockStep x l 3 e lim; (u, l)) else (F32.mul (c.param k R.AX_KPP) e, l)
  let raw := F32.add p (F32.mul (c.param k R.AX_KVFF) vProf)
  let (v, sat) := clampSat raw lim
  let c := c.setLoop k { l.note [e, raw] with vCmd := v, prePos := false }
  let c := if tmpl = 4 then c.setCtx k { x with t4Pos := (c.profileAt k t).1, t4Vel := vProf } else c
  (c.setBit F.AX_LSTAT_SAT_VEL k sat).manTrack k 2 v

/-- The velocity part (R171, R174, R175): a PI, or block 2 with the same limit. -/
def Core.velPart (c : Core) (ram : Ram) (k : Nat) (t : Int) (len : Nat) : Core :=
  let r := c.pat.slot k
  let (_, vProf, aProf) := c.profileAt k t
  let c := if r.template = 3 then (c.setLoop k { c.loopAt k with vCmd := vProf }).posChecks k (c.posError k t) else c
  let l := c.loopAt k
  let x := c.ctxAt k
  let e := F32.sub l.vCmd x.actVel
  let lim := c.param k R.AX_ILIM
  let ff := F32.add (c.friction ram k l.vCmd) (if r.ff = 2 then F32.mul (c.param k R.AX_KAFF) aProf else 0)
  let kp := c.param k R.AX_KPV
  let c := if l.preVel then c.presets k 1 else c
  let (u, sat, l, approx) : F32 × Bool × Loop × Bool :=
    if blocky r.template then
      let (l, approx) := if l.preVel then blockPreset x l 2 e l.iCmd else (l, false)
      let (b, _, l) := blockStep x l 2 e lim
      let (u, sat) := clampSat (F32.add b ff) lim
      (u, sat, l.note [F32.add b ff], approx)
    else
      let i := if l.preVel then piPreset kp e l.iCmd ff lim else l.iVel
      let (u, i, sat, raw) := piStep kp (c.param k R.AX_KIV) (sinceRun l.tVel t r.velDiv len) e i ff lim
      (u, sat, { l.note [e, raw] with iVel := i }, false)
  let c := if approx then c.setBit F.AX_LSTAT_PRESET_APPROX k true else c
  let c := c.setLoop k { l with iCmd := u, preVel := false, tVel := some t, satCur := sat }
  (c.setBit F.AX_LSTAT_SAT_CUR k sat).manTrack k 1 u

/-- Sum of products over the eight states. -/
def dot8 (f g : Nat → F32) : F32 := (List.range 8).foldl (fun a j => F32.add a (F32.mul (f j) (g j))) 0
/-- The state part of T5 (R178). A friction table has no term in its equation. -/
def Core.statePart (c : Core) (k : Nat) (t : Int) : Core :=
  let r := c.pat.slot k
  let (_, vProf, aProf) := c.profileAt k t
  let e := c.posError k t
  let c := c.posChecks k e
  let l := c.loopAt k
  let x := c.ctxAt k
  let w (n : Nat) : F32 := Tab.get 0 x.active n
  let y0 := F32.negate e
  let y1 := F32.sub x.actVel vProf
  let c := if l.preVel then c.presets k 1 else c
  let xh (j : Nat) : F32 := if l.preVel then (if j = 0 then y0 else if j = 1 then y1 else 0) else l.xh.getD j 0
  let r0 := F32.sub y0 (dot8 (fun j => w (88 + j)) xh)
  let r1 := F32.sub y1 (dot8 (fun j => w (96 + j)) xh)
  let raw := F32.add (F32.add (F32.negate (dot8 (fun j => w (104 + j)) xh)) (F32.mul (w 112) vProf)) (if r.ff = 2 then F32.mul (w 113) aProf else 0)
  let (u, sat) := clampSat raw (c.param k R.AX_ILIM)
  let next (i : Nat) : F32 :=
    if x.nstate ≤ i then 0
    else F32.add (F32.add (dot8 (fun j => w (8 * i + j)) xh) (F32.mul (w (64 + i)) u)) (F32.add (F32.mul (w (72 + 2 * i)) r0) (F32.mul (w (73 + 2 * i)) r1))
  let c := c.setLoop k { l.note [y0, y1, r0, r1, raw] with xh := (List.range 8).map next, iCmd := u, preVel := false, tVel := some t, satCur := sat }
  (c.setBit F.AX_LSTAT_SAT_CUR k sat).manTrack k 1 u

/-- i_d,ref of the phase-advance table (R209). -/
def Core.idRef (c : Core) (k : Nat) (fe : F32) : F32 :=
  if !c.bit F.AX_PA_WIN_EN k then 0
  else
    let x := F32.div (F32.sub fe.abs (c.param k R.AX_PA_WSTART)) (c.param k R.AX_PA_WSTEP)
    let pa (n : Nat) : F32 := Tab.get 0 (c.ctxAt k).paNow n
    let v : F32 := if !F32.lt 0 x then 0
      else if F32.le 0x41700000 x then pa 15
      else
        let n := (ratTrunc x.toRat).toNat
        F32.add (pa n) (F32.mul (F32.sub x (F32.ofInt n)) (F32.sub (pa (n + 1)) (pa n)))
    F32.clamp v (F32.negate (c.param k R.AX_ILIM)) 0

/-- A leg's duty from its voltage (R172). -/
def legDutyOf (v vbus : F32) : F32 := F32.clamp (F32.add (F32.div v vbus) fHalf) 0 fOne

/-- One current loop toward a reference: a PI, or block `j` where the template has blocks. Answers the output, whether the clamp acts, whether a preset was approximate, and the loop state with integrator `i`. -/
def Core.curLoop (c : Core) (k j : Nat) (l : Loop) (e i u0 tk lim : F32) : F32 × Bool × Bool × Loop × F32 :=
  let x := c.ctxAt k
  if blocky (c.pat.slot k).template then
    let (l, approx) := if l.preCur then blockPreset x l j e u0 else (l, false)
    let (u, sat, l) := blockStep x l j e lim
    (u, sat, approx, l, i)
  else
    let kp := c.param k R.AX_KPI
    let i := if l.preCur then piPreset kp e u0 0 lim else i
    let (u, i, sat, raw) := piStep kp (c.param k R.AX_KII) tk e i 0 lim
    (u, sat, false, l.note [e, raw], i)

/-- V_bus of R172 and R174. -/
def Core.vbusOf (c : Core) (k : Nat) : F32 := if (c.pat.slot k).ff = 1 then (c.laneAt (c.pat.slot k).res).vbus else c.param k R.AX_VBUS_NOM
/-- The reference of the current part (R171): in every frame i_cmd, manual or not, with the cogging term, clamped again. -/
def Core.curRef (c : Core) (ram : Ram) (k : Nat) : F32 := (clampSat (F32.add (c.loopAt k).iCmd (c.cogging ram k)) (c.param k R.AX_ILIM)).1

/-- The three-phase current part (R172, R208, R209). `len` is the measured frame length in ns. -/
def Core.curPart3 (c : Core) (ram : Ram) (k : Nat) (t : Int) (len : Nat) (a : Angle) : Core :=
  let lane := (c.pat.slot k).res
  let l := c.loopAt k
  let (id, iq) := if (c.laneAt lane).pairValid then park (c.laneCurrent lane) a.theta else (l.id, l.iq)
  let vbus := c.vbusOf k
  let tk := sinceRun l.tCur t 1 len
  let vmax := F32.div (F32.mul (c.param k R.AX_VMOD) vbus) fSqrt3
  let man := c.manLoop k = some 0
  let c := if l.preCur && !man then c.presets k 2 else c
  let (vd, vq, sat, satI, approx, l) : F32 × F32 × Bool × Bool × Bool × Loop :=
    if man then (0, c.reg R.AX_MAN_OUT k, false, false, false, l)
    else
      let idr := c.idRef k a.fe
      let ref := c.curRef ram k
      let ilim := c.param k R.AX_ILIM
      let (iqr, satI) := if c.bit F.AX_PA_WIN_EN k then clampSat ref (F32.sqrt (F32.sub (F32.mul ilim ilim) (F32.mul idr idr))) else (ref, false)
      let (vd, satD, apD, l, iD) := c.curLoop k 0 l (F32.sub idr id) l.iD l.vd tk vmax
      let lim := F32.sqrt (F32.sub (F32.mul vmax vmax) (F32.mul vd vd))
      let (vq, satQ, apQ, l, iQ) := c.curLoop k 1 l (F32.sub iqr iq) l.iQ l.vq tk lim
      (vd, vq, satD || satQ, satI, apD || apQ, { l with iD := iD, iQ := iQ })
  let st := c.get F.AX_SL_STAT_STATE k
  let inj := (c.pat.slot k).sensorless && (st = 3 || st = 4)
  let hfi : F32 := c.framed k R.AX_SL_HFI_V
  let vdOut := if inj then F32.add vd (if (c.estAt k).injNeg then F32.negate hfi else hfi) else vd
  let ahead := F32.mul (F32.mul a.fe fOneHalf) (secs len)
  let thetaV := a.theta + (if ahead.finite then BitVec.ofInt 16 (ratTrunc (ahead.toRat * 65536)) else 0)
  let (va, vb) := unpark vdOut vq thetaV
  let vu := va
  let vv := F32.sub (F32.mul fHalfSqrt3 vb) (F32.mul fHalf va)
  let vw := F32.sub (F32.negate (F32.mul fHalf va)) (F32.mul fHalfSqrt3 vb)
  let z := Config.svmZero vu vv vw
  let c := c.setLoop k { l with vd := vd, vq := vq, id := id, iq := iq, hasDuty := true, preCur := l.preCur && man, tCur := (if man then l.tCur else some t),
                                dutyU := legDutyOf (F32.add vu z) vbus, dutyV := legDutyOf (F32.add vv z) vbus, dutyW := legDutyOf (F32.add vw z) vbus }
  let c := if approx then c.setBit F.AX_LSTAT_PRESET_APPROX k true else c
  let c := c.setBit F.AX_LSTAT_SAT_CUR k (l.satCur || satI)
  (c.setBit F.AX_LSTAT_SAT_VOLT k sat).manTrack k 0 vq

/-- The DC current part (R172). -/
def Core.curPartDc (c : Core) (ram : Ram) (k : Nat) (t : Int) (len : Nat) : Core :=
  let lane := (c.pat.slot k).res
  let l := c.loopAt k
  let i : F32 := if (c.laneAt lane).pairValid then (c.laneAt lane).iu else l.iq
  let vbus := c.vbusOf k
  let lim := F32.mul (c.param k R.AX_VMOD) vbus
  let man := c.manLoop k = some 0
  let c := if l.preCur && !man then c.presets k 1 else c
  let (v, sat, approx, l) : F32 × Bool × Bool × Loop :=
    if man then (c.reg R.AX_MAN_OUT k, false, false, l)
    else
      let (v, sat, ap, l, iQ) := c.curLoop k 0 l (F32.sub (c.curRef ram k) i) l.iQ l.vq (sinceRun l.tCur t 1 len) lim
      (v, sat, ap, { l with iQ := iQ })
  let half := F32.div v (F32.add vbus vbus)
  let c := c.setLoop k { l with vd := 0, vq := v, id := 0, iq := i, hasDuty := true, preCur := l.preCur && man, tCur := (if man then l.tCur else some t),
                                dutyU := F32.clamp (F32.add fHalf half) 0 fOne, dutyV := F32.clamp (F32.sub fHalf half) 0 fOne, dutyW := 0x3F000000 }
  let c := if approx then c.setBit F.AX_LSTAT_PRESET_APPROX k true else c
  (c.setBit F.AX_LSTAT_SAT_VOLT k sat).manTrack k 0 v

/-- Every variable of a loop state is finite, and so was every error and unclamped output of the frame (R189). -/
def Loop.allFinite (l : Loop) : Bool :=
  !l.bad && ([l.iVel, l.iD, l.iQ, l.vCmd, l.iCmd, l.vd, l.vq, l.id, l.iq, l.dutyU, l.dutyV, l.dutyW] ++ l.hist ++ l.xh).all F32.finite

/-! ### Holding (R148, R207, R210, R219, R243, R284, R311) -/

/-- The place of the CAN object that a RES or RX names (Table 2.6). -/
def canPlace (r : Nat) : Nat := r / 4096 * 512 + r % 4096
/-- The CAN object that reports a CAN slot's position is lost. -/
def Core.canLost (c : Core) (k : Nat) : Bool := let r := c.pat.slot k; r.kind = 3 && r.rx ≠ 0xFFFF && (c.canObjAt (canPlace r.rx)).lost
/-- A CAN slot's engine is being rebuilt by a re-lace under HOLD: its context does not run (R55). -/
def Core.canHoldRebuild (c : Core) (k : Nat) : Bool :=
  let l := c.loader
  (c.pat.slot k).kind = 3 && l.relace && !l.handover && !l.ready && l.target < 0x10 && (c.engAt l.target).ctx.contains k
/-- A slot out of STO whose loops do not run and whose profile is held at rest. -/
def Core.mustHold (c : Core) (k : Nat) : Bool :=
  let r := c.pat.slot k
  if r.kind = 1 then
    c.bit F.LN_STAT_FAULT r.res || c.portHeld k || c.bit F.AX_STAT_UNPLACED k || (!(r.dcMode && !r.sensorless) && !(c.angleOf k).valid)
  else r.kind = 3 && c.canLost k
/-- Holds a slot that must be held, and lets one go that no longer must. -/
def Core.refreshHold (c : Core) (k : Nat) (t : Int) : Core :=
  let must := !c.slotSto k && c.mustHold k
  let held := (c.profAt k).held
  if must && !held then
    let x := c.ctxAt k
    (c.clearLoop k).holdSlot k (if x.actKnown then x.actPos else (c.profileAt k t).1)
  else if !must && held then c.unholdSlot k
  else c
/-- A slot in STO_TRACK follows its actual position (R148); one held for its ports keeps its last position (R243). -/
def Core.trackActual (c : Core) (k : Nat) (t : Int) : Core :=
  let x := c.ctxAt k
  if c.tracking k && x.actKnown && !c.portHeld k then
    c.setProf k { c.profAt k with traj := Traj.rest t x.actPos, target := x.actPos }
  else c

/-! ### A context in a frame -/

/-- The start-of-frame snapshot of a slot. -/
def Core.snapshot (c : Core) (k : Nat) : Core :=
  let x := c.ctxAt k
  c.setSnap k { loop := c.loopAt k, t4Pos := x.t4Pos, t4Vel := x.t4Vel, est := c.estAt k, state := c.get F.AX_SL_STAT_STATE k, tries := c.get F.AX_SL_STAT_TRIES k }
/-- Takes a slot back to its start-of-frame snapshot (R181). -/
def Core.restoreSnap (c : Core) (k : Nat) : Core :=
  let s := c.snapAt k
  let c := ((c.setLoop k s.loop).setEst k s.est).setCtx k { c.ctxAt k with t4Pos := s.t4Pos, t4Vel := s.t4Vel }
  (c.set F.AX_SL_STAT_STATE k s.state).set F.AX_SL_STAT_TRIES k s.tries

/-- The frame's count of a slot for its divisors (R169): the grid's, or a CAN slot's own. -/
def Core.frameCount (c : Core) (k : Nat) : Nat :=
  if (c.pat.slot k).kind = 3 then (c.ctxAt k).frames else (c.reg R.BS_FCNT (c.slotPeriod k)).toNat
/-- The loops of a slot, from the outside inward (R168, R169, R182). -/
def Core.runLoops (c : Core) (ram : Ram) (k : Nat) (t : Int) (len : Nat) (a : Angle) : Core :=
  let r := c.pat.slot k
  let n := c.frameCount k
  let man := c.manLoop k
  let runs (i : Nat) : Bool := match man with | none => true | some m => i < m
  let c := if hasPos r.template && r.posDiv ≠ 0 && n % r.posDiv = 0 then
      (if runs 2 then c.posPart k t
       else if r.template = 4 then c.setCtx k { c.ctxAt k with t4Pos := (c.profileAt k t).1, t4Vel := (c.profileAt k t).2.1 } else c) else c
  let c := if man = some 2 then c.setLoop k { c.loopAt k with vCmd := c.reg R.AX_MAN_OUT k } else c
  let c := if hasVel r.template && r.velDiv ≠ 0 && n % r.velDiv = 0 && runs 1 then
      (if r.template = 5 then c.statePart k t else c.velPart ram k t len) else c
  let c := if man = some 1 then c.setLoop k { c.loopAt k with iCmd := c.reg R.AX_MAN_OUT k } else c
  let c := c.setReg R.AX_ICMD k (c.curRef ram k)
  if !hasCur r.template then c else if r.dcMode then c.curPartDc ram k t len else c.curPart3 ram k t len a
/-- A frame whose loop variables are not all finite repeats the duties and restores the snapshot; the fourth in a row disables the lane (R189). -/
def Core.checkFinite (c : Core) (k : Nat) : Core :=
  let l := c.loopAt k
  if l.allFinite then c.setLoop k { l with nonfinite := 0 }
  else
    let n := l.nonfinite + 1
    let s := c.snapAt k
    let c := (c.setLoop k { s.loop with nonfinite := n }).setCtx k { c.ctxAt k with t4Pos := s.t4Pos, t4Vel := s.t4Vel }
    let c := c.raiseL F.AX_LSTAT_NONFINITE k 9
    let c := c.estRepeat k
    if 4 ≤ n && (c.pat.slot k).kind = 1 then c.laneDisable (c.pat.slot k).res 5 else c
/-- The context of a slot runs in a frame (R168). -/
def Core.runContext (c : Core) (ram : Ram) (k : Nat) (t : Int) (len : Nat) : Core :=
  let r := c.pat.slot k
  if r.kind = 3 then
    if c.canLost k || c.canHoldRebuild k || (r.rx ≠ 0xFFFF && !(c.ctxAt k).actKnown) then c else (c.runLoops ram k t len {}).checkFinite k
  else
    let c := c.estRun k t (secs len)
    let a := c.angleOf k
    let c := c.publishAngle k a
    let c := if r.sensorless && a.valid then c.estActual k else c
    if c.mustHold k || (c.profAt k).held then c else (c.runLoops ram k t len a).checkFinite k

/-! ### Commits and parameter writes (R177, R182, R186, R187, R209, R214) -/

/-- A pending commit becomes active at a frame start of the slot, or is refused as a whole (R177). -/
def Core.applyCommit (c : Core) (k : Nat) : Core :=
  if !c.bit F.AX_LSTAT_COEF_PENDING k then c
  else
    let x := c.ctxAt k
    let tmpl := (c.pat.slot k).template
    let bad := x.shadow.any (fun w => coefUsed tmpl w.1 && !F32.finite w.2)
    let c := (c.setBit F.AX_LSTAT_COEF_PENDING k false).setBit F.AX_COEF_CTRL_COMMIT k false
    if bad then c.setBit F.AX_LSTAT_CFG_REFUSED k true
    else
      let order := c.get F.AX_COEF_CTRL_ORDER k
      let c := c.setCtx k { x with active := x.shadow, order := order, nstate := c.get F.AX_COEF_CTRL_NSTATE k }
      if order = x.order || !blocky tmpl then c
      else c.askPreset k true true true
/-- A write of AX_COEF_CTRL (R177). -/
def Core.writeCoefCtrl (c : Core) (k : Nat) (v : Word) : Core :=
  let n := Min.min 8 (Max.max 1 (F.AX_COEF_CTRL_NSTATE.read v))
  let c := (c.set F.AX_COEF_CTRL_NSTATE k n).set F.AX_COEF_CTRL_ORDER k (F.AX_COEF_CTRL_ORDER.read v)
  if F.AX_COEF_CTRL_COMMIT.read v = 1 then (c.setBit F.AX_COEF_CTRL_COMMIT k true).setBit F.AX_LSTAT_COEF_PENDING k true else c
/-- A write of AX_COEF_DATA at AX_COEF_IDX. -/
def Core.writeCoefData (c : Core) (k : Nat) (v : Word) : Core :=
  let i := c.get F.AX_COEF_IDX_IDX k
  let x := c.ctxAt k
  (c.setCtx k { x with shadow := Tab.set 0 x.shadow i v }).set F.AX_COEF_IDX_IDX k ((i + 1) % 128)
/-- A read of AX_COEF_DATA. -/
def Core.readCoefData (c : Core) (k : Nat) : Word × Core :=
  let i := c.get F.AX_COEF_IDX_IDX k
  (Tab.get 0 (c.ctxAt k).shadow i, c.set F.AX_COEF_IDX_IDX k ((i + 1) % 128))
/-- A write of AX_PA_DATA at AX_PA_WIN.IDX: a positive or non-finite entry is discarded (R209). -/
def Core.writePaData (c : Core) (k : Nat) (v : Word) : Core :=
  let i := c.get F.AX_PA_WIN_IDX k
  let x := c.ctxAt k
  let c := c.set F.AX_PA_WIN_IDX k ((i + 1) % 16)
  if F32.positive v || !F32.finite v then c.setBit F.AX_LSTAT_CFG_REFUSED k true
  else c.setCtx k { x with pa := Tab.set 0 x.pa i v }
/-- A read of AX_PA_DATA. -/
def Core.readPaData (c : Core) (k : Nat) : Word × Core :=
  let i := c.get F.AX_PA_WIN_IDX k
  (Tab.get 0 (c.ctxAt k).pa i, c.set F.AX_PA_WIN_IDX k ((i + 1) % 16))
/-- A write of a gain, limit, AX_VMOD, AX_VBUS_NOM or an AX_MOT_, AX_SL_ or AX_PA_ parameter: stored, and in force where valid (R187); one that makes VLO ≥ VHI is discarded (R214). -/
def Core.writeParam (c : Core) (k : Nat) (r : Reg) (v : Word) : Core :=
  let lo : F32 := if r.id = R.AX_SL_VLO.id then v else c.param k R.AX_SL_VLO
  let hi : F32 := if r.id = R.AX_SL_VHI.id then v else c.param k R.AX_SL_VHI
  if (r.id = R.AX_SL_VLO.id || r.id = R.AX_SL_VHI.id) && F32.nonneg v && F32.le hi lo then c.setBit F.AX_LSTAT_CFG_REFUSED k true
  else
    let was := c.param k r
    let c := c.setReg r k v
    if paramValid r v then c
    else (c.setCtx k { c.ctxAt k with valid := Tab.set (BitVec.ofNat 32 r.reset) (c.ctxAt k).valid r.id was }).setBit F.AX_LSTAT_CFG_REFUSED k true
/-- A write of AX_LCFG (R182): manual operation starts or ends, and what it stopped is preset at its next run (R183). -/
def Core.writeLcfg (c : Core) (k : Nat) (fields : Core → Core) : Core :=
  let was := c.manLoop k
  let c := fields c
  let man := c.bit F.AX_LCFG_MAN k
  let ok := hasLoop (c.pat.slot k).template (Min.min 2 (c.get F.AX_LCFG_MAN_LOOP k))
  let c := if man && !ok then c.setBit F.AX_LSTAT_CFG_REFUSED k true else c
  let c := c.setBit F.AX_LSTAT_MAN_ACTIVE k (man && ok)
  match was with
  | some m => if c.manLoop k = some m then c else c.askPreset k (m = 0) (m ≤ 1) true
  | none => c
/-- A write of ST_CHECK.INJECT (R180). -/
def Core.inject (c : Core) (e : Nat) : Core := c.setBit F.ST_CHECK_INJECT e true

end Sys2Proof.Machine
end

