-- ==== Sys2Proof/Machine/Can.lean ====
section
/-! DEFINITION. CAN FD channels and message objects (R293–R313). -/
namespace Sys2Proof.Machine

/-! ### Objects -/

/-- The data length of a DLC (ISO 11898-1). -/
def dlcLen (d : Nat) : Nat := [0, 1, 2, 3, 4, 5, 6, 7, 8, 12, 16, 20, 24, 32, 48, 64].getD d 0
/-- The number of an object's last word (R297). -/
def CanObjRec.lastWord (o : CanObjRec) : Nat := 3 + (dlcLen o.dlc + 3) / 4
/-- An object's place. -/
def objAt (ch o : Nat) : Nat := ch * 512 + o
/-- Word `w` of an object as its registers hold it; data words beyond the last word read 0 (R298). -/
def Core.objWord (c : Core) (ch o w : Nat) : Word :=
  let i := objAt ch o
  if (c.pat.obj ch o).lastWord < w && 3 < w then 0
  else match w with
    | 0 => c.reg R.CN_OBJ_W0 i
    | 1 => c.reg R.CN_OBJ_W1 i
    | 2 => c.reg R.CN_OBJ_W2 i
    | 3 => c.reg R.CN_OBJ_W3 i
    | n => c.reg R.CN_OBJ_DATA (i * 16 + (n - 4))
/-- Stores an object's data bytes in words 4–19. -/
def Core.putData (c : Core) (ch o : Nat) (bs : List Byte) : Core :=
  foldN (List.range ((bs.length + 3) / 4)) c (fun c w => c.setReg R.CN_OBJ_DATA (objAt ch o * 16 + w) (BitVec.ofNat 32 (natOfBytes ((bs.drop (4 * w)).take 4))))
/-- Bytes cut or padded with zeros to a length (R298). -/
def fitBytes (n : Nat) (bs : List Byte) : List Byte := (bs ++ List.replicate n 0).take n
/-- The stamp of an instant less a channel's COMP: STAMP, SEC_IDX, and the instant in ns (R303). -/
def Core.canStamp (c : Core) (ch : Nat) : Int := c.netNs - (c.canChAt ch).comp
/-- A frame becomes the contents of an object (R300). -/
def Core.putFrame (c : Core) (ch o : Nat) (b : CanBuf) : Core :=
  let i := objAt ch o
  let c := ((c.setBit F.CN_OBJ_W0_NEW i true).setBit F.CN_OBJ_W0_LOST i b.lost).setBit F.CN_OBJ_W0_LEN_MISMATCH i b.mism
  let c := ((c.setBit F.CN_OBJ_W0_ESI i b.esi).set F.CN_OBJ_W0_RDLC i b.dlc).set F.CN_OBJ_W0_SEC_IDX i b.sec
  (c.setReg R.CN_OBJ_W1 i (BitVec.ofNat 32 b.stamp)).putData ch o b.frame
/-- A lock is released (R300): the flags clear, and a full shadow becomes the contents. -/
def Core.canRelease (c : Core) (ch o : Nat) (timeout : Bool) : Core :=
  let i := objAt ch o
  let b := c.canObjAt i
  let c := c.setCanObj i { b with lock := none, frozen := [], shadow := {} }
  let c := clearFlags c i
  let c := if b.shadow.full then c.putFrame ch o b.shadow else c
  if timeout then (c.setBit F.CN_OBJ_W0_LOCK_TIMEOUT i true).setBit F.CN_STAT_LOCK_TIMEOUT ch true else c
where
  /-- Clears NEW, LOST, LEN_MISMATCH, LOCK_TIMEOUT and TX_LATE. -/
  clearFlags (c : Core) (i : Nat) : Core :=
    [F.CN_OBJ_W0_NEW, F.CN_OBJ_W0_LOST, F.CN_OBJ_W0_LEN_MISMATCH, F.CN_OBJ_W0_LOCK_TIMEOUT, F.CN_OBJ_W0_TX_LATE].foldl (fun c f => c.setBit f i false) c
/-- A read of word `w` of an object by a path (R299): word 0 locks, the last word releases, and a locked object shows its frozen copy to every reader. -/
def Core.canRead (c : Core) (p : Path) (ch o w : Nat) : Word × Core :=
  let i := objAt ch o
  let r := c.pat.obj ch o
  let b := c.canObjAt i
  if !r.present then (0, c)
  else
    match b.lock with
    | none =>
      if w = 0 then (c.objWord ch o 0, c.setCanObj i { b with lock := some p, frozen := (List.range 20).map (c.objWord ch o) })
      else (c.objWord ch o w, c)
    | some q =>
      let v := b.frozen.getD w 0
      if p = q && w = r.lastWord then (v, c.canRelease ch o false) else (v, c)

/-! ### Transmission (R306, R307, R309) -/

/-- The arbitration order of an object's identifier: base identifier, then the IDE bit, then the extension. -/
def CanObjRec.order (o : CanObjRec) : Nat := if o.ide then o.id / 2 ^ 18 * 2 ^ 19 + 2 ^ 18 + o.id % 2 ^ 18 else o.id * 2 ^ 19
/-- Queues a frame of an object, in place of one still unsent. -/
def Core.canQueue (c : Core) (ch o : Nat) (frame : List Byte) : Core :=
  let i := objAt ch o
  let q := c.canChAt ch
  let c := c.setCanObj i { c.canObjAt i with txPend := some frame }
  let c := c.setBit F.CN_OBJ_W0_TX_PENDING i true
  if q.queue.contains o then c else c.setCanCh ch { q with queue := q.queue ++ [o] }
/-- A user position in a slot's source counts (R138, R304), in 2^-16 counts. -/
def Core.sourceCounts (c : Core) (k : Nat) (pos : Int) : Int := ratioMul pos ((c.reg R.AX_SCALE_DEN k).toNat : Int) (c.reg R.AX_SCALE_NUM k).toInt
/-- The fields of a layout in its byte order (R304, Table 12.2). -/
def packLayout (layout : Nat) (pos : Int) (vCmd pVel : F32) : List Byte :=
  let put (n : Nat) (v : Nat) : List Byte := if layout.testBit 7 then bytesOfNatBE n v else bytesOfNat n v
  match layout % 128 with
  | 1 => put 4 (BitVec.ofInt 32 (pos.fdiv 65536)).toNat ++ put 4 (BitVec.ofInt 32 vCmd.toInt32Sat).toNat
  | 2 => put 4 (BitVec.ofInt 32 (pos.fdiv 65536)).toNat ++ put 4 vCmd.toNat ++ put 4 pVel.toNat
  | 3 => put 8 (BitVec.ofInt 64 pos).toNat ++ put 4 vCmd.toNat ++ put 4 pVel.toNat
  | _ => []
/-- The T4 output of a slot's latest position-part run; while its receive object is lost, or its engine is rebuilt under HOLD, the held position at rest (R55, R306, R311). -/
def Core.t4Frame (c : Core) (k : Nat) (o : CanObjRec) : List Byte :=
  let x := c.ctxAt k
  let (p, v, pv) : Int × F32 × F32 := if c.canLost k || c.canHoldRebuild k then ((c.profileAt k c.profNs).1, 0, 0) else (x.t4Pos, (c.loopAt k).vCmd, x.t4Vel)
  fitBytes (dlcLen o.dlc) (packLayout o.layout (c.sourceCounts k p) v pv)
/-- The cyclic transmit objects of a grid's slots at a frame start (R306, R307). -/
def Core.canCyclic (c : Core) (grid : Nat) : Core :=
  if !c.runs 0x23 then c
  else foldN (c.usedSlots.filter (fun k => (c.pat.slot k).kind = 3 && (c.pat.slot k).period = grid)) c (fun c k =>
    let c := c.setCtx k { c.ctxAt k with frames := (c.ctxAt k).frames + 1 }
    let ch := (c.pat.slot k).res / 4096
    let o := (c.pat.slot k).res % 4096
    let r := c.pat.obj ch o
    let i := objAt ch o
    if !r.present || !r.cyclic || r.cycle = 0 then c
    else
      let b := c.canObjAt i
      let due := b.phase = 0
      let c := c.setCanObj i { b with phase := (b.phase + 1) % r.cycle }
      if !due || !c.isLead || c.get F.CN_STAT_STATE ch = 3 then c
      else
        let late := b.txPend.isSome
        let c := if late then (c.setBit F.CN_OBJ_W0_TX_LATE i true).addSat F.CN_CNT_LOST_COUNT ch 1 else c
        c.canQueue ch o (c.t4Frame k r))
/-- A write of TX_REQ of a host-only transmit object (R309). -/
def Core.canTxWrite (c : Core) (ch o : Nat) : Core :=
  let r := c.pat.obj ch o
  let i := objAt ch o
  if !r.present || !r.tx || r.slot < 128 then c
  else if !c.isLead then c.setBit F.CN_STAT_NOT_LEAD ch true
  else
    let b := c.canObjAt i
    let c := if b.txPend.isSome then c.setBit F.CN_OBJ_W0_TX_LATE i true else c
    c.canQueue ch o ((List.range (dlcLen r.dlc)).map (fun n => Tab.get 0 b.staging n))
/-- A write of a data word of a host-only transmit object fills the staging copy (R309). -/
def Core.canStage (c : Core) (ch o w : Nat) (v : Word) : Core :=
  let i := objAt ch o
  let r := c.pat.obj ch o
  if r.lastWord < w then c
  else
    let b := c.canObjAt i
    let st := foldN (List.range 4) b.staging (fun t n => Tab.set 0 t (4 * (w - 4) + n) (v.extractLsb' (8 * n) 8))
    (c.setCanObj i { b with staging := st }).setReg R.CN_OBJ_DATA (i * 16 + (w - 4)) v

/-! ### Channels (R294, R310, R313) -/

/-- The first prescaler of R294 for a rate in kbit/s. -/
def canBrp (k lo hi : Nat) : Option (Nat × Nat) :=
  (List.range 32).findSome? (fun i =>
    let b := i + 1
    if k ≠ 0 && 80000 % (k * b) = 0 && lo ≤ 80000 / (k * b) && 80000 / (k * b) ≤ hi then some (b, 80000 / (k * b)) else none)
/-- The word of CN_BT_NOM or CN_BT_DATA. -/
def canBt (k lo hi sp : Nat) : Word :=
  match canBrp k lo hi with
  | none => 0
  | some (b, n) =>
    let t1 := (2 * n * sp + 100) / 200 - 1
    BitVec.ofNat 32 (b * 2 ^ 24 + n * 2 ^ 16 + t1 * 256 + (n - 1 - t1))
/-- Applies NSP, DSP and COMP and computes the bit timing. -/
def Core.canTiming (c : Core) (ch : Nat) : Core :=
  let r := c.pat.ch ch
  let q := { c.canChAt ch with nsp := c.get F.CN_CFG_NSP ch, dsp := c.get F.CN_CFG_DSP ch, comp := c.get F.CN_CFG_COMP ch }
  let c := c.setCanCh ch q
  (c.setReg R.CN_BT_NOM ch (if r.mode = 0 then 0 else canBt r.nom 8 80 q.nsp)).setReg R.CN_BT_DATA ch (if r.mode = 2 then canBt r.data 5 40 q.dsp else 0)
/-- A channel goes offline and integrates again; while the module's role is not known every channel stays OFF (R313). -/
def Core.canRestartCh (c : Core) (ch : Nat) : Core :=
  if (c.pat.ch ch).mode = 0 || c.bit F.PT_BOOT_NO_PATTERN 0 || c.get F.TW_ROLE_ROLE 0 = 0 then c
  else ((c.setCanCh ch { c.canChAt ch with recovering := false }).canTiming ch).set F.CN_STAT_STATE ch 5
/-- The channels that are OFF integrate (R313). -/
def Core.canGo (c : Core) : Core := foldN (List.range 4) c (fun c ch => if c.get F.CN_STAT_STATE ch = 0 then c.canRestartCh ch else c)
/-- Every channel restarts and every object is cleared, as after a full load (R306, R312, R313). -/
def Core.canStart (c : Core) : Core :=
  let c := { c with canObjs := [] }
  let c := c.pat.canObj.foldl (fun c e =>
    let i := e.1
    let r := e.2
    let c := (c.setReg R.CN_OBJ_W0 i 0).setReg R.CN_OBJ_W1 i 0
    let c := c.setReg R.CN_OBJ_W2 i (BitVec.ofNat 32 ((if r.ide then 2 ^ 31 else 0) + (if r.fdf then 2 ^ 30 else 0) + (if r.brs then 2 ^ 29 else 0) + r.id % 2 ^ 29))
    let c := ((((c.setBit F.CN_OBJ_W3_DIR i r.tx).setBit F.CN_OBJ_W3_CYCLIC i r.cyclic).set F.CN_OBJ_W3_DLC i r.dlc).set F.CN_OBJ_W3_LAYOUT i r.layout)
    let c := foldN (List.range 16) c (fun c w => c.setReg R.CN_OBJ_DATA (i * 16 + w) 0)
    if r.cycle = 0 then c else c.setCanObj i { phase := i % 512 % r.cycle }) c
  foldN (List.range 4) c (fun c ch =>
    let c := (c.setCanCh ch {}).set F.CN_CFG_MODE ch (c.pat.ch ch).mode
    let c := (c.set F.CN_STAT_STATE ch 0).canTiming ch
    c.canRestartCh ch)

/-- A slot's receive object is lost (R311). -/
def Core.canLose (c : Core) (ch o : Nat) : Core :=
  let i := objAt ch o
  let r := c.pat.obj ch o
  let k := r.slot
  let b := c.canObjAt i
  if !r.present || r.tx || 128 ≤ k || b.lost then c
  else
    let c := c.setCanObj i { b with lost := true, posFirst := true }
    let c := ((c.setBit F.CN_OBJ_W0_RX_TIMEOUT i true).setBit F.CN_STAT_RX_LOST ch true).logFrom 0x23 0x0505 k 0
    let x := c.ctxAt k
    ((c.loseMaster 1 k).clearLoop k).holdSlot k (if x.actKnown then x.actPos else (c.profileAt k c.profNs).1)
/-- A reported position in 2^-16 source counts (R304, R308), and the object's running position. -/
def Core.canDecode (c : Core) (ch o : Nat) (bs : List Byte) : Int :=
  let r := c.pat.obj ch o
  let b := c.canObjAt (objAt ch o)
  let get (n : Nat) : Nat := if r.layout.testBit 7 then natOfBytesBE (bs.take n) else natOfBytes (bs.take n)
  if r.layout % 128 = 9 then (BitVec.ofNat 64 (get 8)).toInt
  else
    let v : Int := (BitVec.ofNat 32 (get 4)).toInt
    if b.posFirst then v * 65536 else b.pos + (BitVec.ofInt 32 (v - b.pos.fdiv 65536)).toInt * 65536
/-- A stored frame of a slot's receive object enters the slot's ring, is its actual position, and ends a loss (R308, R311). The first after a start or a loss puts the profile at rest there (R164). -/
def Core.canReport (c : Core) (ram : Ram) (ch o : Nat) (bs : List Byte) : Core :=
  let i := objAt ch o
  let k := (c.pat.obj ch o).slot
  let pos := c.canDecode ch o bs
  let b := c.canObjAt i
  let c := (c.setCanObj i { b with lost := false, posFirst := false, pos := pos }).setBit F.CN_OBJ_W0_RX_TIMEOUT i false
  let user := ratioMul pos (c.reg R.AX_SCALE_NUM k).toInt ((c.reg R.AX_SCALE_DEN k).toNat : Int)
  let c := c.setCtx k { c.ctxAt k with actPos := user, actKnown := true }
  let c := if b.lost || b.posFirst then (c.holdSlot k user).unholdSlot k else c
  let st := c.canStamp ch
  c.ringWrite ram k st (c.get F.NT_STAT_EPOCH 0) user false false false
/-- A feed of the host watchdog (R83). -/
def Core.feedWd (c : Core) : Core := c.setBit F.EN_HOST_WD_ARMED 0 true

/-! ### Commands -/

/-- CAN_FRAME_RX (R296, R298, R300, R303, R308): a frame received without error; the command stands at its start-of-frame edge. -/
def execCanFrameRx (s : State) (ch : Nat) (f : CanFrame) : Host.Outcome State Fault Refusal := inRange "CAN channel" ch 4 (onMem s (fun ram c =>
  let st := c.get F.CN_STAT_STATE ch
  if !c.runs 0x23 || !(st = 1 || st = 2 || st = 4) then c
  else
    let hit := c.pat.canObj.find? (fun e => e.1 / 512 == ch && !e.2.tx && e.2.id == f.id && e.2.ide == f.ide && e.2.fdf == f.fdf)
    match hit with
    | none => c.addSat F.CN_CNT_UNMATCHED_COUNT ch 1
    | some (i, r) =>
      let o := i % 512
      let t := c.canStamp ch
      if f.rtr then c.addSat F.CN_CNT_UNMATCHED_COUNT ch 1
      else if t - c.time.stepSum < c.time.startNet || !c.runs 0x22 then c
      else
        let len := dlcLen r.dlc
        let bs := fitBytes len (f.data.take (dlcLen f.dlc))
        let b := c.canObjAt i
        let locked := b.lock.isSome
        let buf : CanBuf := { full := true, frame := bs, dlc := f.dlc, esi := f.esi && f.fdf, mism := dlcLen f.dlc ≠ len,
                              lost := if locked then b.shadow.full else c.bit F.CN_OBJ_W0_NEW i,
                              stamp := t.toNat % 2 ^ 32, sec := t.toNat / 1000000000 % 65536 }
        let c := (c.addSat F.CN_CNT_RX_COUNT ch 1).addWrap F.CN_OBJ_W3_COUNT i 1
        let c := if locked then c.setCanObj i { b with shadow := buf } else c.putFrame ch o buf
        let c := if r.slot < 128 && (r.layout % 128 = 8 || r.layout % 128 = 9) then c.canReport ram ch o bs else c
        let c := if c.bit F.EN_HOST_WD_CAN_FEED 0 && c.get F.EN_HOST_WD_CAN_CH 0 = ch && c.get F.EN_HOST_WD_CAN_OBJ 0 = o then c.feedWd else c
        if c.get F.PW_CANWAKE_CH 0 = ch && c.get F.PW_CANWAKE_OBJ 0 = o then c.wakeBy 3 else c))
/-- CAN_TX_DONE (R306, R309): the waiting frame of highest priority has been sent. -/
def execCanTxDone (s : State) (ch : Nat) : Host.Outcome State Fault Refusal := inRange "CAN channel" ch 4 (onCore s (fun c =>
  let st := c.get F.CN_STAT_STATE ch
  let q := c.canChAt ch
  match q.queue with
  | [] => c
  | o₀ :: rest =>
    if !c.runs 0x23 || !(st = 1 || st = 2) then c
    else
      let o := rest.foldl (fun a b => if (c.pat.obj ch b).order < (c.pat.obj ch a).order then b else a) o₀
      let i := objAt ch o
      let b := c.canObjAt i
      let t := c.canStamp ch
      let c := c.setCanCh ch { q with queue := q.queue.filter (· ≠ o) }
      let c := (c.setCanObj i { b with txPend := none }).setBit F.CN_OBJ_W0_TX_PENDING i false
      let c := (c.setReg R.CN_OBJ_W1 i (BitVec.ofNat 32 (t.toNat % 2 ^ 32))).set F.CN_OBJ_W0_SEC_IDX i (t.toNat / 1000000000)
      let c := (c.addSat F.CN_CNT_TX_COUNT ch 1).addWrap F.CN_OBJ_W3_COUNT i 1
      match b.txPend with | some fr => c.emit (.can ch o fr) | none => c))
/-- CAN_LOCK_TIMEOUT (R301): 100 µs since the holder's last read of word 0. -/
def execCanLockTimeout (s : State) (ch obj : Nat) : Host.Outcome State Fault Refusal := inRange "CAN channel" ch 4 (inRange "CAN object" obj 512 (onCore s (fun c =>
  if (c.canObjAt (objAt ch obj)).lock.isSome then c.canRelease ch obj true else c)))
/-- Every queued frame of a channel is discarded. -/
def Core.canDiscard (c : Core) (ch : Nat) : Core :=
  let q := c.canChAt ch
  let c := foldN q.queue c (fun c o => (c.setCanObj (objAt ch o) { c.canObjAt (objAt ch o) with txPend := none }).setBit F.CN_OBJ_W0_TX_PENDING (objAt ch o) false)
  c.setCanCh ch { c.canChAt ch with queue := [] }
/-- Bus-off of a channel (R310, R311). -/
def Core.busOff (c : Core) (ch : Nat) : Core :=
  let c := (c.set F.CN_STAT_STATE ch 3).canDiscard ch
  let c := (c.logFrom 0x23 0x0504 ch 0).addSat F.CN_CNT_ERR_BUS_OFF ch 1
  let now := c.profNs
  let q := c.canChAt ch
  let ts := now :: q.boffTimes.filter (fun t => now - t ≤ 10000000000)
  let storm := 8 ≤ ts.length
  let c := c.setCanCh ch { q with boffTimes := ts.take 8, storm := q.storm || storm, recovering := false }
  let c := if storm then c.setBit F.CN_STAT_BOFF_STORM ch true else c
  foldN ((c.pat.canObj.filter (fun e => e.1 / 512 == ch)).map (·.1 % 512)) c (fun c o => c.canLose ch o)
/-- CAN_ERROR (R310): the channel's error counters have changed. A channel in bus monitoring has none. -/
def execCanError (s : State) (ch tec rec : Nat) : Host.Outcome State Fault Refusal := inRange "CAN channel" ch 4 (onCore s (fun c =>
  let st := c.get F.CN_STAT_STATE ch
  if !c.runs 0x23 || !(st = 1 || st = 2) then c
  else
    let c := (c.set F.CN_STAT_TEC ch (Min.min tec 255)).set F.CN_STAT_REC ch (Min.min rec 255)
    if 255 < tec then c.busOff ch
    else if 127 < tec || 127 < rec then
      if st = 2 then c else ((c.set F.CN_STAT_STATE ch 2).logFrom 0x23 0x0503 ch 0).addSat F.CN_CNT_ERR_PASSIVE ch 1
    else c.set F.CN_STAT_STATE ch 1))
/-- CAN_BOFF_HOLD_EXPIRY (R310): automatic recovery starts. -/
def execCanBoffHoldExpiry (s : State) (ch : Nat) : Host.Outcome State Fault Refusal := inRange "CAN channel" ch 4 (onCore s (fun c =>
  let q := c.canChAt ch
  if c.get F.CN_STAT_STATE ch = 3 && c.bit F.CN_CFG_AUTO_RECOVER ch && !q.storm then (c.setCanCh ch { q with recovering := true }).canTiming ch else c))
/-- A write of CN_CTRL.RECOVER (R310). -/
def Core.canRecoverCh (c : Core) (ch : Nat) : Core :=
  let q := c.canChAt ch
  if c.get F.CN_STAT_STATE ch = 3 then (c.setCanCh ch { q with recovering := true, storm := false }).canTiming ch else c.setCanCh ch { q with storm := false }
/-- CAN_RECOVERY_DONE (R310): 128 occurrences of 11 recessive bits have been seen. -/
def execCanRecoveryDone (s : State) (ch : Nat) : Host.Outcome State Fault Refusal := inRange "CAN channel" ch 4 (onCore s (fun c =>
  let q := c.canChAt ch
  if c.get F.CN_STAT_STATE ch = 3 && q.recovering then
    ((c.setCanCh ch { q with recovering := false }).set F.CN_STAT_STATE ch (if c.isLead then 1 else 4)).set F.CN_STAT_TEC ch 0 |>.set F.CN_STAT_REC ch 0
  else c))
/-- CAN_INTEGRATED (R312, R313): 11 recessive bits have been seen. -/
def execCanIntegrated (s : State) (ch : Nat) : Host.Outcome State Fault Refusal := inRange "CAN channel" ch 4 (onCore s (fun c =>
  if c.get F.CN_STAT_STATE ch ≠ 5 || !c.runs 0x23 then c
  else ((c.set F.CN_STAT_STATE ch (if c.isLead then 1 else 4)).set F.CN_STAT_TEC ch 0).set F.CN_STAT_REC ch 0))
/-- CAN_RX_LOST (R311): no frame has been stored for LOSS_T; 0 disables the timeout. -/
def execCanRxLost (s : State) (ch obj : Nat) : Host.Outcome State Fault Refusal := inRange "CAN channel" ch 4 (inRange "CAN object" obj 512 (onCore s (fun c =>
  if c.get F.CN_LOSS_LOSS_T ch = 0 || !c.runs 0x23 then c else c.canLose ch obj)))

end Sys2Proof.Machine
end

