-- ==== Sys2Proof/Machine/ResetAssert.lean ====
section
/-! DEFINITION. Asserting a reset (R411, R413): Bridle-P's outputs go inactive, claims are released, and the islands are held. -/
namespace Sys2Proof.Machine

/-- A warm (1), module (2), unseat (3) or power-on (4) reset is asserted by a source of Table 17.2. The first source is the one that RST_CAUSE names; a longer reset replaces a warm one. -/
def Core.assertReset (c : Core) (kind source : Nat) : Core :=
  let r := c.rst
  let hold (c : Core) (k : Nat) : Core := foldN (List.range (if k = 1 then 0x28 else 0x29)) c (fun c i => c.setIsl i 3)
  if r.held then
    let k := if r.kind = 1 then kind else r.kind
    hold { c with rst := { r with kind := k, sources := r.sources ++ [source] } } k
  else
    let c := if c.isLead then c.assertFail else c
    let c := foldN (List.range 16) c.releaseClaims (fun c g => c.setBg g { c.bg g with genA := false, path1 := false, relCheck := false, relPend := false })
    let c := c.xb2
    hold { c with rst := { c.rst with held := true, kind := kind, source := source, sources := [source], clean := false } } kind

end Sys2Proof.Machine
end

