-- ==== Sys2Proof/Machine/Sched.lean ====
section
/-! DEFINITION. The budget scheduler (R270–R275, R281–R291): costs, needs, operating points, the allowance, fencing and placement. -/
namespace Sys2Proof.Machine

/-! ### Costs and cycles (R92, R179) -/

/-- The clock of an operating point in MHz (Table 4.2). -/
def opMhz (op : Nat) : Nat := [150, 200, 250, 300, 375, 450, 525, 600].getD op 600
/-- Engine cycles in a frame of a length in ns. -/
def opCycles (op frameNs : Nat) : Nat := opMhz op * frameNs / 1000
/-- P(OP) in mW (Table 11.3). -/
def opPower (op : Nat) : Nat := [127, 196, 274, 365, 517, 697, 928, 1200].getD op 1200
/-- blk of Table 7.2: the cost of block `j` at an ORDER. -/
def blkCost (order j : Nat) : Nat := if order.testBit j then 26 else 18
/-- The worst-frame cost of a slot's context (R179, Table 7.2). -/
def slotCost (r : SlotRecP) (order : Nat) : Nat :=
  let cur := if r.dcMode then 70 else 180
  let base := match r.template with
    | 1 => 180 + 60 + 50
    | 2 => 70 + 60 + 50
    | 3 => cur + 60
    | 4 => 90
    | 5 => cur + 150
    | 6 => 180 - 28 + blkCost order 0 + blkCost order 1 + 46 + blkCost order 2 + 40 + blkCost order 3
    | 7 => 70 - 14 + blkCost order 0 + 46 + blkCost order 2 + 40 + blkCost order 3
    | _ => 0
  40 + base + (if r.tbFric ≠ 0xFF then 12 else 0) + (if r.tbCog ≠ 0xFF then 12 else 0) + (if r.ff ≠ 0 then 6 else 0) + (if r.sensorless then 150 else 0)
/-- The run ratio of a class at a level (Table 11.2); classes are 1 A, 2 B, 3 C. -/
def classRatio (cls level : Nat) : Nat :=
  if cls = 3 then 2 ^ Min.min level 3 else if cls = 2 then 2 ^ (level - 3) else 1
/-- A slot is in CATCH or IPD, so that its context is not decimated (R217). -/
def Core.starting (c : Core) (k : Nat) : Bool := let st := c.get F.AX_SL_STAT_STATE k; st = 1 || st = 2
/-- The run ratio of a slot's context at a level (R273). -/
def Core.ratio (c : Core) (k level : Nat) : Nat := if c.starting k then 1 else classRatio (c.pat.slot k).cls level
/-- The frame length of an engine: its grid's, or 62.5 µs without one. -/
def Core.engFrame (c : Core) (e : Nat) : Nat := let p := c.get F.BS_ENG_STAT_PERIOD e; if p < 6 then periodNs p else 62500
/-- need_n of an engine at a level (R274): 240 and the largest sum over a decimation cycle of the contexts that are dispatched. -/
def Core.needAt (c : Core) (e level : Nat) : Nat :=
  let ctx := (c.engAt e).ctx
  let rows := (List.range ctx.length).filterMap (fun q => let k := ctx.getD q 0; if c.slotSto k then none else some (q, k))
  let sums := (List.range 8).map (fun f => rows.foldl (fun a x => let d := c.ratio x.2 level; if f % d = x.1 % d then a + slotCost (c.pat.slot x.2) (c.ctxAt x.2).order else a) 0)
  240 + sums.foldl Max.max 0
/-- A module that runs contexts: a Lead or a STARTING module with a pattern, or a hot Standby (R287). -/
def Core.isHot (c : Core) : Bool := c.isStandby && c.pat.hot && !c.bit F.BS_STAT_HOT_SUSPENDED 0
/-- The engines dispatch contexts. -/
def Core.dispatches (c : Core) : Bool := !c.isStandby || c.isHot
/-- The lowest operating point whose cycles times 0.9 cover a need (R274). -/
def Core.needOp (c : Core) (e need : Nat) : Nat :=
  if (c.engAt e).ctx.isEmpty || !c.dispatches then 0
  else ((List.range 8).find? (fun op => c.get F.BS_CFG_OP_FLOOR 0 ≤ op && need * 10 ≤ opCycles op (c.engFrame e) * 9)).getD 7
/-- An engine that runs: its island neither fenced, failed nor stopped. -/
def Core.engRuns (c : Core) (e : Nat) : Bool := c.runs e
/-- A Lead's engine whose grid carries debt (R278); a Standby chooses its own operating points (R286). -/
def Core.inDebt (c : Core) (e : Nat) : Bool := let p := c.get F.BS_ENG_STAT_PERIOD e; p < 6 && !c.isStandby && c.reg R.BS_DEBT p ≠ 0
/-- The operating point of an engine at a need: OP7 in debt, else the one its need gives, and at least the FORCED one (R274, R278, R279). -/
def Core.opFor (c : Core) (e need : Nat) : Nat :=
  let g := c.engAt e
  if c.inDebt e then 7 else if 0 < g.forced then Max.max (c.needOp e need) g.forcedOp else c.needOp e need
/-- p_stitch in W at a level (R274). -/
def Core.powerAt (c : Core) (level : Nat) : Rat :=
  (List.range 16).foldl (fun a e =>
    if !c.engRuns e then a
    else
      let need := if c.dispatches then c.needAt e level else 240
      let op := c.opFor e need
      let use : Rat := (need : Rat) / (opCycles op (c.engFrame e) : Rat)
      let use := if 1 < use then 1 else use
      a + (opPower op : Rat) / 1000 * (1 / 5 + 4 / 5 * use)) 0

/-! ### Ordering operating points (R93, R274, R278, R279) -/

/-- Where an engine's operating point is going: the one that a running change was ordered to, else the one in force. -/
def Core.opTarget (c : Core) (e : Nat) : Nat := if c.bit F.ST_CLK_CHANGING e then c.get F.BS_ENG_STAT_OP_SET e else c.get F.ST_CLK_OP e
/-- Starts a change of an engine's operating point (R93). Downward the clock switches first, so that the lower one is in force from now on; upward it is in force once the regulator has settled. -/
def Core.changeOp (c : Core) (e op : Nat) : Core :=
  let now := c.get F.ST_CLK_OP e
  let c := (c.set F.BS_ENG_STAT_OP_SET e op).setBit F.ST_CLK_CHANGING e (op ≠ now)
  if op < now then c.set F.ST_CLK_OP e op else c
/-- Orders an operating point (R274): a higher one at once; a lower one after the closing canary, which an engine that dispatches no context does not wait for. -/
def Core.orderOp (c : Core) (e op : Nat) : Core :=
  let c := c.setEng e { c.engAt e with opNext := op }
  if c.opTarget e < op then c.changeOp e op
  else if op < c.opTarget e then (if (c.engAt e).ctx.isEmpty || !c.dispatches then c.changeOp e op else c)
  else c.set F.BS_ENG_STAT_OP_SET e op
/-- The lower operating point that waited for the closing canary is ordered. -/
def Core.orderLower (c : Core) (e : Nat) : Core :=
  let op := (c.engAt e).opNext
  if op < c.opTarget e then c.changeOp e op else c
/-- Recomputes every engine's need and the operating point it asks for. -/
def Core.reneed (c : Core) : Core :=
  foldN (List.range 16) c (fun c e =>
    let need := if c.dispatches then c.needAt e (c.get F.BS_STAT_LEVEL 0) else 240
    let c := c.set F.BS_ENG_NEED_NEED e need
    if !c.engRuns e then c else c.orderOp e (c.opFor e need))
/-- Orders the operating points of some engines at the needs of the latest choice, as a grid's debt arises or ends (R278). -/
def Core.reorder (c : Core) (es : List Nat) : Core :=
  foldN es c (fun c e => if !c.engRuns e then c else c.orderOp e (c.opFor e (c.get F.BS_ENG_NEED_NEED e)))

/-! ### The allowance (R270, R271) -/

/-- A temperature register in °C. -/
def Core.tempOf (c : Core) (i : Nat) : Rat := (signExtend 16 (c.get F.MG_TEMP_TEMP i) : Rat) / 16
/-- Saddler has failed. -/
def Core.sadFailed (c : Core) : Bool := c.islState 0x28 = 5
/-- A point is not trusted. -/
def Core.stale (c : Core) (i : Nat) : Bool := c.sadFailed || c.bit F.MG_TEMP_STALE i
/-- The input current is out of range or Saddler has failed. -/
def Core.iinStale (c : Core) : Bool := c.sadFailed || 10000 < c.get F.MG_IIN_MA 0
/-- The present product VIN × IIN in µW. -/
def Core.pinNow (c : Core) : Nat := c.get F.MG_RAIL_MV 0 * c.get F.MG_IIN_MA 0
/-- p_in of a budget tick (R426): the mean of VIN × IIN over the reads since the tick before, the present product where there was none. -/
def Core.meanPin (c : Core) : Core :=
  let d := c.sched
  let uw : Rat := if d.pinN = 0 then (c.pinNow : Rat) else (d.pinSum : Rat) / (d.pinN : Rat)
  { c with sched := { d with pinSum := 0, pinN := 0, pinMean := uw / 1000000 } }
/-- The inputs of R270 with the worst cases of Table 11.1: the hottest die point, the plate, and the input power in W. -/
def Core.budgetIn (c : Core) : Rat × Rat × Rat :=
  let tgt : Rat := (c.get F.BS_HEAT_TDIE_TGT 0 : Nat)
  let die (i : Nat) : Rat := if c.stale i then tgt else c.tempOf i
  let hot := (List.range 6).foldl (fun a i => if a < die i then die i else a) (die 0)
  let plate : Rat := if c.stale 7 then 95 else c.tempOf 7
  let pin : Rat := if c.iinStale then 55 else c.sched.pinMean
  (hot, plate, pin)
/-- A power in units of 10 mW, in 16 bits. -/
def tenMw (p : Rat) : Nat := if p ≤ 0 then 0 else Min.min 0xFFFF (ratTrunc (p * 100)).toNat
/-- p_heat and p_energy of R270; no energy cap while P_HOST is 0. -/
def Core.allowance (c : Core) : Rat × Option Rat :=
  let (die, plate, pin) := c.budgetIn
  let tgt : Rat := (c.get F.BS_HEAT_TDIE_TGT 0 : Nat)
  let rth : Rat := (c.get F.BS_HEAT_RTH_JP 0 : Nat) / 100
  let last := c.sched.pLast
  let h1 := last + (tgt - die) / rth
  let h2 := (tgt - plate) / rth - (c.get F.BS_HEAT_P_FIXED 0 : Nat) / 100
  let host := c.get F.BS_ENERGY_P_HOST 0
  (if h1 < h2 then h1 else h2, if host = 0 then none else some ((host : Rat) / 100 - (pin - last)))
/-- p_allow of R270. -/
def allowOf (h : Rat) (e : Option Rat) : Rat :=
  let p := match e with | some x => if x < h then x else h | none => h
  if p < 0 then 0 else p
/-- Raises LEVEL while p_stitch exceeds the allowance (R275); six steps reach the top. -/
def Core.raiseLevel (c : Core) (allow : Rat) : Nat → Core
  | 0 => c
  | n + 1 =>
    let l := c.get F.BS_STAT_LEVEL 0
    if l < 6 && allow < c.powerAt l then (c.set F.BS_STAT_LEVEL 0 (l + 1)).raiseLevel allow n else c
/-- The level choice of R275 at an allowance. `tick` is false for the run that follows a placement. -/
def Core.choose (c : Core) (tick : Bool) : Core :=
  let (h, e) := c.allowance
  let allow := allowOf h e
  let c := if c.isStandby then c else
    let before := c.get F.BS_STAT_LEVEL 0
    let c := c.raiseLevel allow 6
    let l := c.get F.BS_STAT_LEVEL 0
    if !tick then c
    else
      let n := if l = before && 0 < l && c.powerAt (l - 1) ≤ allow * 9 / 10 then c.sched.downTicks + 1 else 0
      if c.get F.BS_CFG_HOLD 0 ≤ n && 0 < n then ({ c with sched := { c.sched with downTicks := 0 } }).set F.BS_STAT_LEVEL 0 (l - 1)
      else { c with sched := { c.sched with downTicks := n } }
  let l := c.get F.BS_STAT_LEVEL 0
  let exceeds := decide (allow < c.powerAt l) && l = 6
  let energy := match e with | some x => decide (x < h) | none => false
  let c := ((c.setBit F.BS_STAT_A_OVER 0 exceeds).setBit F.BS_STAT_HEAT_LIMITED 0 (exceeds && !energy)).setBit F.BS_STAT_ENERGY_LIMITED 0 (exceeds && energy)
  c.reneed
/-- The hot Standby's own allowance (R287). -/
def Core.hotTick (c : Core) : Core :=
  if !c.isStandby || !c.pat.hot then c
  else
    let (h, e) := c.allowance
    let allow := allowOf h e
    let susp := c.bit F.BS_STAT_HOT_SUSPENDED 0
    let p := ({ c with sched := c.sched }.setBit F.BS_STAT_HOT_SUSPENDED 0 false).powerAt (c.get F.BS_STAT_LEVEL 0)
    let hold := c.get F.BS_CFG_HOLD 0
    let short := if !susp && allow < p then c.sched.hotShort + 1 else 0
    let ok := if susp && p ≤ allow * 9 / 10 then c.sched.hotOk + 1 else 0
    let c := { c with sched := { c.sched with hotShort := short, hotOk := ok } }
    if !susp && hold ≤ short then c.setBit F.BS_STAT_HOT_SUSPENDED 0 true
    else if susp && hold ≤ ok then c.setBit F.BS_STAT_HOT_SUSPENDED 0 false
    else c
/-- The thermal limit (R289). -/
def Core.thermal (c : Core) : Core :=
  if c.sched.therm || !(List.range 6).any (fun i => !c.stale i && 125 ≤ c.tempOf i) then c
  else
    let c := ({ c with sched := { c.sched with therm := true } }.setBit F.BS_STAT_THERMAL_LIMIT 0 true).logFrom 0x26 0x0203 noSrc 0
    let c := if !c.isLead then c else if c.readyPartner then c.handOver else c.requestSs1s (bitsOf 16 c.bridle.own.toNat) 3
    c.judge
/-- BUDGET_TICK (R270–R275, R287, R289): every 1 ms. -/
def execBudgetTick (s : State) : Host.Outcome State Fault Refusal := onCore s (fun c =>
  if !c.runs 0x26 then c
  else
    let c := c.meanPin
    let (_, _, pin) := c.budgetIn
    let (h, e) := c.allowance
    let wc := c.sadFailed || c.iinStale || c.stale 7 || (List.range 6).any c.stale
    let c := c.setBit F.BS_STAT_STALE_WC 0 wc
    let c := (c.set F.BS_ALLOW_P_HEAT 0 (tenMw h)).set F.BS_ALLOW_P_ENERGY 0 (match e with | some x => tenMw x | none => 0xFFFF)
    let c := foldN (List.range 16) c (fun c n => let g := c.engAt n; let c := c.setEng n { g with forced := g.forced - 1 }; c.setBit F.BS_ENG_STAT_FORCED n (1 < g.forced))
    let c := c.hotTick
    let c := c.choose true
    let p := c.powerAt (c.get F.BS_STAT_LEVEL 0)
    let d := c.sched
    let ein := d.einUj + (ratTrunc (pin * 1000)).toNat
    let est := d.estUj + (ratTrunc (p * 1000)).toNat
    let c := { c with sched := { d with pLast := p, einUj := ein, estUj := est } }
    let c := (c.set64 R.BS_EIN_LO R.BS_EIN_HI 0 (ein / 1000 : Nat)).set64 R.BS_ESTITCH_LO R.BS_ESTITCH_HI 0 (est / 1000 : Nat)
    let c := (c.set F.BS_PWR_P_IN 0 (tenMw pin)).set F.BS_PWR_P_STITCH 0 (tenMw p)
    c.thermal)
/-- THERMAL_CLEAR (R289): every die point has read below 115 °C for 1 s; a point that now reads 115 °C or more keeps the limit. -/
def execThermalClear (s : State) : Host.Outcome State Fault Refusal := onCore s (fun c =>
  if !c.runs 0x26 || (List.range 6).any (fun i => decide (115 ≤ c.tempOf i)) then c
  else { c with sched := { c.sched with therm := false } }.judge)
/-- OP_CHANGE_SETTLED (R93): the ordered operating point is in force. -/
def execOpChangeSettled (s : State) (e : Nat) : Host.Outcome State Fault Refusal := inRange "engine" e 16 (onCore s (fun c =>
  if !c.bit F.ST_CLK_CHANGING e then c
  else ((c.set F.ST_CLK_OP e (c.get F.BS_ENG_STAT_OP_SET e)).setBit F.ST_CLK_CHANGING e false).addSat F.ST_CLK_CHANGES e 1))

/-! ### Fencing and placement (R281–R285) -/

/-- Inserts a slot last in its class in a dispatch list. -/
def Core.insertCtx (c : Core) (k : Nat) (l : List Nat) : List Nat :=
  let cls := (c.pat.slot k).cls
  let n := (List.range l.length).foldl (fun a i => if (c.pat.slot (l.getD i 0)).cls ≤ cls then i + 1 else a) 0
  l.take n ++ [k] ++ l.drop n
/-- Spare cycles of an engine at OP7: 0.85 × cycles less its need at level 0. -/
def Core.spare (c : Core) (e period : Nat) : Int := ((opCycles 7 (periodNs period) * 85 / 100 : Nat) : Int) - (c.needAt e 0 : Nat)
/-- The engines that may take a context of a period. -/
def Core.candidates (c : Core) (period : Nat) (limit : Bool) : List Nat :=
  (List.range 16).filter (fun e => c.engRuns e && (!limit || (c.engAt e).ctx.length < 16) && ((c.engAt e).ctx.isEmpty || c.get F.BS_ENG_STAT_PERIOD e == period))
/-- The candidate with the most spare cycles, the lowest index on ties. -/
def Core.bestOf (c : Core) (period : Nat) : List Nat → Option Nat
  | [] => none
  | e :: es => some (es.foldl (fun a b => if c.spare a period < c.spare b period then b else a) e)
/-- Hosts a slot's context on an engine, last in its class. -/
def Core.hostOn (c : Core) (k e : Nat) : Core :=
  let g := c.engAt e
  let c := if g.ctx.isEmpty then c.set F.BS_ENG_STAT_PERIOD e (c.slotPeriod k) else c
  let l := c.insertCtx k g.ctx
  let c := (c.setEng e { g with ctx := l }).set F.BS_ENG_STAT_NCTX e l.length
  (c.set F.AX_STAT_ENGINE k e).setBit F.AX_STAT_UNPLACED k false
/-- Re-homes a slot's context on an engine (R282, R283). -/
def Core.putOn (c : Core) (k e : Nat) : Core := ((c.hostOn k e).addSat F.AX_STAT_REHOMED k 1).addSat F.BS_ENG_RECV_COUNT e 1
/-- Takes a slot's context off an engine. -/
def Core.takeOff (c : Core) (k e : Nat) : Core :=
  let g := c.engAt e
  let l := g.ctx.filter (· ≠ k)
  let c := (c.setEng e { g with ctx := l }).set F.BS_ENG_STAT_NCTX e l.length
  if l.isEmpty then c.set F.BS_ENG_STAT_PERIOD e 0xF else c
/-- At LEVEL 6 an engine's class A costs alone exceed 0.85 × its cycles at OP7 (R284). -/
def Core.classAOver (c : Core) (e : Nat) : Bool :=
  let g := c.engAt e
  let cost := g.ctx.foldl (fun a k => if (c.pat.slot k).cls = 1 && !c.slotSto k then a + slotCost (c.pat.slot k) (c.ctxAt k).order else a) 0
  decide (opCycles 7 (c.engFrame e) * 85 < cost * 100)
/-- An unplaced class B or C context (R284): its lane is inactive, its profile is held, and its followers lose their master. -/
def Core.unplace (c : Core) (k : Nat) : Core :=
  let c := (c.setBit F.AX_STAT_UNPLACED k true).clearLoop k
  (c.loseMaster 1 k).holdSlot k (if (c.ctxAt k).actKnown then (c.ctxAt k).actPos else (c.profileAt k c.profNs).1)
/-- Places the contexts of a fenced engine, class by class (R281–R284). -/
def Core.place (c : Core) (e : Nat) : Core :=
  let ctx := (c.engAt e).ctx
  let period := c.get F.BS_ENG_STAT_PERIOD e
  let ks := [1, 2, 3].flatMap (fun cls => ctx.filter (fun k => (c.pat.slot k).cls == cls))
  let (c, placed, left) := ks.foldl (fun (r : Core × Nat × List Nat) k =>
    match r.1.bestOf period (r.1.candidates period true) with
    | some n => ((r.1.takeOff k e).putOn k n, r.2.1 + 1, r.2.2)
    | none => (r.1, r.2.1, r.2.2 ++ [k])) (c, 0, [])
  let c := c.logFrom 0x26 0x0202 e (placed + 256 * left.length)
  let c := foldN (left.filter (fun k => (c.pat.slot k).cls ≠ 1)) c (fun c k => c.unplace k)
  let lowA := left.filter (fun k => (c.pat.slot k).cls = 1)
  let c := c.choose false
  let exceeds := (List.range 16).filter (fun n => c.engRuns n && c.get F.BS_STAT_LEVEL 0 = 6 && c.classAOver n)
  let badA := lowA ++ (exceeds.flatMap (fun n => (c.engAt n).ctx.filter (fun k => (c.pat.slot k).cls = 1)))
  let c := if c.loader.relace && c.loader.handover && c.loader.target ≠ e && !badA.isEmpty then { c with loader := { c.loader with aborted := true, ready := false } } else c
  if badA.isEmpty then c
  else if c.isLead && c.readyPartner then c.handOver
  else
    let c := foldN lowA c (fun c k => match c.bestOf period (c.candidates period false) with | some n => (c.takeOff k e).putOn k n | none => c)
    let c := (c.set F.BS_STAT_LEVEL 0 6).reneed
    foldN badA c (fun c k => match c.slotGroup k with | some g => if c.isLead then c.requestSs1 g 3 else c | none => c)
/-- Fences an engine (R281, R285): its clock stops and its contexts are placed elsewhere. -/
def Core.fence (c : Core) (e : Nat) : Core :=
  let c := ((c.setIsl e 4).setBit F.BS_ENG_STAT_FENCED e true).setEng e { c.engAt e with done := true }
  (c.place e).judge
/-- ENGINE_HANG (R290). -/
def execEngineHang (s : State) (e : Nat) : Host.Outcome State Fault Refusal := inRange "engine" e 16 (onCore s (fun c =>
  if !c.engRuns e || (c.engAt e).done then c
  else (c.setBit F.BS_ENG_STAT_HANG e true).fence e))

end Sys2Proof.Machine
end

