-- ==== Sys2Proof/Machine/Twin.lean ====
section
/-! DEFINITION. The twin pair (R363–R384): roles, the Latigo link, mirroring, READY, claims, handover and takeover. -/
namespace Sys2Proof.Machine

/-! ### The link -/

/-- A field that the Lead mirrors (R369). -/
def mirrored (r : Reg) : Bool :=
  [0x4010, 0x4020, 0x4030, 0x4040].contains (r.base / 0x10000) || [R.FI_DO_CMD, R.FI_FS_OUT, R.BS_ENERGY, R.BS_CFG, R.BS_HEAT, R.CP_ARM, R.LG_STO_REQ, R.LG_SS1_REQ].any (fun x => x.id == r.id)
/-- The writes of the register image (R380): every mirrored register with a stored field, and the entries behind the coefficient and phase-advance windows of the used slots. -/
def Core.imageWrites (c : Core) : List (List Nat) :=
  let write (r : Reg) (i : Nat) (v : Word) : List Nat := [(⟨r, i⟩ : Loc).addr, v.toNat]
  let window (idx data : Reg) (at_ : Fld) (n i : Nat) (f : Nat → Word) : List (List Nat) :=
    [write idx i (at_.write (c.reg idx i) 0)] ++ (List.range n).map (fun j => write data i (f j)) ++ [write idx i (c.reg idx i)]
  let plain := allRegs.filter (fun r => mirrored r && r.preloadable && r.id ≠ R.AX_COEF_DATA.id && r.id ≠ R.AX_PA_DATA.id)
  plain.flatMap (fun r => (List.range r.count).map (fun i => write r i (c.reg r i))) ++
  c.usedSlots.flatMap (fun k =>
    window R.AX_COEF_IDX R.AX_COEF_DATA F.AX_COEF_IDX_IDX 128 k (fun j => Tab.get 0 (c.ctxAt k).shadow j) ++ window R.AX_PA_WIN R.AX_PA_DATA F.AX_PA_WIN_IDX 16 k (fun j => Tab.get 0 (c.ctxAt k).pa j))
/-- A Lead gathers the register image as CHANGE records (R380). -/
def Core.sendImage (c : Core) : Core := if c.isLead then { c with twin := { c.twin with txq := c.twin.txq ++ c.imageWrites.map (fun b => (5, b)) } } else c

/-- Sets the link's state and judges READY. -/
def Core.setLink (c : Core) (v : Nat) : Core := (c.set F.TW_ROLE_LINK 0 v).judge
/-- A relink timer runs. -/
def Core.relinkRuns (c : Core) : Bool := c.bit F.TW_RELINK_RUNNING 0
/-- A partner signal has been seen now. -/
def Core.sawPartner (c : Core) : Core := { c with twin := { c.twin with partnerSeen := true, seenAt := some c.profNs } }
/-- This module's position on the carrier (SYS_PLACE.POSITION). -/
def Core.position (c : Core) : Nat := c.get F.SYS_PLACE_POSITION 0
/-- A duty as an unsigned 0.16 fraction. -/
def dutyWord (d : F32) : Nat := Min.min 0xFFFF (ratTrunc (dutyRat d * 65536)).toNat
/-- A 0.16 fraction as a duty. -/
def dutyOfWord (w : BitVec 16) : F32 := F32.ofRat ((w.toNat : Rat) / 65536)
/-- A grid is in use: some group or CAN slot has its period. -/
def Core.gridUsed (c : Core) (p : Nat) : Bool :=
  (List.range 16).any (fun g => (c.pat.group g).present && (c.pat.group g).period == p) || c.usedSlots.any (fun k => (c.pat.slot k).kind == 3 && (c.pat.slot k).period == p)
/-- The grid that carries the records of virtual and step slots: that of the lowest-numbered lane-bound slot, while it runs (R368). -/
def Core.carrier (c : Core) : Option Nat :=
  ((c.usedSlots.find? (fun k => (c.pat.slot k).kind == 1)).map c.slotPeriod).filter (fun p => (c.gridAt p).running)
/-- A grid carries the records of virtual and step slots. -/
def Core.carriesVirtual (c : Core) (p : Nat) : Bool := c.carrier == some p
/-- The instant of a SLOT record's values (R370): the end of its slot's frame; of a slot without a context, the frame start that carries it, or now. -/
def Core.recordT (c : Core) (k : Nat) : Int :=
  if c.hasContext k then let g := c.gridAt (c.slotPeriod k); g.start + g.len.ceil
  else match c.carrier with | some p => (c.gridAt p).start | none => c.profNs
/-- FRAME of a SLOT record (R370): the frame that runs, or, of a slot without a context, the one that has just ended. -/
def Core.recordFrame (c : Core) (k : Nat) : Word :=
  if c.hasContext k then c.reg R.BS_FCNT (c.slotPeriod k) else match c.carrier with | some p => c.reg R.BS_FCNT p - 1 | none => 0
/-- The body of a SLOT record (Table 15.3). -/
def Core.slotBody (c : Core) (k : Nat) (late repeated decim : Bool) : List Nat :=
  let l := c.loopAt k
  let p := c.profAt k
  let (pos, vel, _) := c.profileAt k (c.recordT k)
  let step := (c.pat.slot k).kind = 2
  let g := (c.pat.slot k).res
  let own := if p.engaged then (p.sup.eval (c.recordT k)).1 else pos
  let running : Int := match c.pathOf k with
    | some g => match g.members.find? (fun m => m.1 == k) with | some m => g.memberEnd m | none => p.target
    | none => if p.engaged then (if p.supMotion == .move then p.supTarget else own) else p.target
  let u (i : Int) : Nat := (BitVec.ofInt 64 i).toNat
  [k, (if late then 1 else 0) + (if decim then 2 else 0) + (if repeated then 4 else 0) + (if c.bit F.AX_STAT_UNPLACED k then 8 else 0),
   c.get F.AX_SL_STAT_STATE k + 16 * c.get F.AX_SL_STAT_TRIES k,
   c.get F.AX_PSTAT_STATE k + 8 * c.get F.AX_PSTAT_DONE k + 16 * c.get F.AX_PSTAT_REVERSING k,
   (c.recordFrame k).toNat, u own, u running, vel.toNat,
   (if step then (c.reg R.SP_COUNT g).toNat else l.iVel.toNat), (if step then c.get F.SP_STAT_LAG g else l.iD.toNat), l.iQ.toNat,
   l.vCmd.toNat, l.iCmd.toNat, l.vd.toNat, l.vq.toNat, c.get F.AX_COMM_STAT_THETA_E k, dutyWord l.dutyU, dutyWord l.dutyV, dutyWord l.dutyW]

/-! ### Becoming Lead (R363, R373, R376, R377) -/

/-- Claims every group of GROUP_MASK (R373). -/
def Core.claim (c : Core) : Core := ({ c.suppressPorts with bridle := { c.bridle with own := BitVec.ofNat 16 c.pat.groupMask, ownT := if c.bridle.own = 0 then c.profNs else c.bridle.ownT } }.sendLevel 0x25 0x27 lineClaim c.pat.groupMask).xb2
/-- What a Lead does when the host watchdog has expired (R83): every profile stops, or every claimed group takes SS1. -/
def Core.hostLost (c : Core) : Core :=
  match c.get F.EN_HOST_WD_ACTION 0 with
  | 0 => c
  | 1 => foldN c.usedSlots c Core.hostStop
  | _ => c.requestSs1s (bitsOf 16 c.bridle.own.toNat) 3
/-- The module becomes LEAD and claims its groups; its repeat outputs are driven, and a resolver's excitation restarts in phase with what was sensed (R238), and a host watchdog that expired while it was Standby acts now (R83). -/
def Core.becomeLead (c : Core) : Core :=
  let c := { c with twin := { c.twin with won := false, lossPend := false, coldPend := false } }
  let c := (c.set F.TW_ROLE_ROLE 0 1).setBit F.TW_ROLE_READY 0 false
  let c := c.canGo.claim.judge.driveRepeats
  let c := foldN (List.range 56) c (fun c p => if (c.portAt p).excZero.isSome then c.exciteStart p else c)
  if c.bit F.EN_HOST_WD_EXPIRED 0 then c.hostLost else c
/-- A module that has its pattern leads alone or by R25; one without waits for it. -/
def Core.leadWhenLoaded (c : Core) : Core :=
  if c.get F.TW_ROLE_ROLE 0 ≠ 0 || c.bit F.PT_BOOT_NO_PATTERN 0 || c.bit F.RST_STAT_INCARN_UNSAVED 0 then c
  else if c.pat.valid && !c.loading then c.becomeLead
  else { c with twin := { c.twin with won := true } }
/-- The module becomes STANDBY; a STARTING module's CAN channels start (R313). -/
def Core.becomeStandby (c : Core) : Core :=
  let c := { c with twin := { c.twin with won := false } }.releaseClaims
  ((c.set F.TW_ROLE_ROLE 0 2).canGo.xb2).judge
/-- A Lead that gives way (R374, R383) becomes STANDBY; a trained link resynchronises from the register image. -/
def Core.giveWay (c : Core) : Core :=
  let c := c.becomeStandby
  if c.trained then c.setLink 4 else c
/-- The gap of the ports after a release (R239) begins `ns` later. -/
def Core.gapFrom (c : Core) (ns : Nat) : Core := { c with twin := { c.twin with suppressTo := c.twin.suppressTo + ns } }
/-- A STARTING module that sees its partner lead becomes STANDBY. -/
def Core.followLead (c : Core) : Core := if c.get F.TW_ROLE_ROLE 0 = 0 then c.becomeStandby else c
/-- The CAN channels of a new Lead integrate again (R312). -/
def Core.canTakeover (c : Core) : Core := foldN (List.range 4) c (fun c ch => if (c.pat.ch ch).mode = 0 then c else c.set F.CN_STAT_STATE ch 5)
/-- Warm takeover of a slot's loops (R371): blocks and T5 states are preset. -/
def Core.warmSlot (c : Core) (k : Nat) : Core :=
  let t := (c.pat.slot k).template
  if blocky t || t = 5 then c.setLoop k { c.loopAt k with preCur := blocky t, preVel := true, prePos := blocky t } else c
/-- Takeover by a READY Standby (R376); `kind` is TW_LAST.KIND. -/
def Core.takeOver (c : Core) (kind : Nat) : Core :=
  let hot := c.isHot
  let c := (c.becomeLead.addSat F.TW_CNT_TAKEOVERS 0 1).set F.TW_LAST_KIND 0 kind
  let c := { c with twin := { c.twin with takeover := true, takeoverAt := c.profNs, driven := false } }
  let c := foldN c.usedSlots c (fun c k =>
    let c := if hot then c else c.warmSlot k
    if c.starting k then c.setEst k { c.estAt k with cfg := c.reg R.AX_SL_CFG k, frame := 0, restart := false, again := true, probe := [], pulses := [] } else c)
  let c := foldN (bitsOf 16 c.pat.groupMask) c (fun c g => if c.get F.SF_GRP_STATE g = 0 && (c.bg g).brakeOn then c.setBg g { c.bg g with path1 := true } else c)
  c.canTakeover.xb2
/-- Cold takeover (R377): every group in STO with cause STARTUP, and every loop cleared. -/
def Core.takeCold (c : Core) : Core :=
  if c.bit F.PT_BOOT_NO_PATTERN 0 || !c.pat.valid || c.bit F.RST_STAT_INCARN_UNSAVED 0 then c
  else
    let c := (c.becomeLead.addSat F.TW_CNT_TAKEOVERS 0 1).set F.TW_LAST_KIND 0 4
    let c := foldN (List.range 16) c (fun c g => (c.enterSto g 0 false).set F.SF_GRP_CAUSE g 0)
    let c := foldN c.usedSlots c (fun c k => c.clearLoop k)
    (c.canTakeover.logFrom 0x23 0x0101 noSrc 4).xb2
/-- The Lead is gone: a READY Standby takes over, another takes over cold, and one that loads does so afterwards (R375, R377, R382). -/
def Core.leadGoneNow (c : Core) (wasReady : Bool) (kind : Nat) : Core :=
  if !c.isStandby then c
  else if wasReady then c.takeOver kind
  else if c.loading || c.get F.PT_STAT_PHASE 0 = 4 || c.get F.PT_STAT_PHASE 0 = 5 then { c with twin := { c.twin with coldPend := true } }
  else c.takeCold
/-- The Lead is lost or gives up: from this instant the repeat outputs keep what a takeover emits (R238). -/
def Core.leadGone (c : Core) (wasReady : Bool) (kind : Nat) : Core := (if c.lossGap then c else c.seedGaps).leadGoneNow wasReady kind
/-- A loss awaits the partner's OWN lines: when none is asserted any more, the Standby takes over. -/
def Core.claimAfterLoss (c : Core) (wasReady : Bool) : Core :=
  if c.bridle.pown ≠ 0 then { c.seedGaps with twin := { c.twin with lossPend := wasReady, coldPend := !wasReady } }
  else c.leadGone wasReady 1
/-- The link is lost (R367, R379): the relink timer starts, and a Standby may take over. `takeover` is false for a loss that R383 declares. -/
def Core.linkLost (c : Core) (takeover : Bool) : Core :=
  let wasReady := c.bit F.TW_ROLE_READY 0
  let c := (c.setBit F.TW_RELINK_RUNNING 0 true).setBit F.TW_ROLE_PARTNER_READY 0 false
  let c := { c.dropRecords with twin := { c.dropRecords.twin with relinkAt := c.profNs + 2000000000, seen := false, snapshots := false, complete := [], handover := none, seenAt := none } }
  let c := c.setLink 2
  if takeover && c.isStandby then c.claimAfterLoss wasReady else c

/-- The link reaches UP, which alone stops the relink timer (R379, R380). -/
def Core.linkUp (c : Core) : Core := (c.setBit F.TW_RELINK_RUNNING 0 false).setLink 6
/-- A resync starts (R380, R383): more than eight within 10 s is LINK_FLAP. -/
def Core.startResync (c : Core) : Core :=
  let now := c.profNs
  let ts := now :: c.twin.resyncTimes.filter (fun t => now - t ≤ 10000000000)
  let c := { c with twin := { c.twin with resyncTimes := ts.take 16, snapshots := false, snapOwed := (if c.isLead then List.range 7 else []), complete := [] } }
  let c := c.addSat F.TW_CNT_RESYNCS 0 1
  if c.isStandby && 8 < ts.length then (c.logFrom 0x23 0x0105 noSrc 0).linkLost false else c.setLink 5
/-- A record has been lost (R382). -/
def Core.lostRecord (c : Core) : Core :=
  if !c.isStandby || c.link ≠ 6 then c
  else
    let c := { c with twin := { c.twin with recLost := true, nak := none } }.addSat F.TW_ERR_LOST 0 1
    c.judge.startResync

/-- A poisoned word of bank 4, read here or marked in a received record (Table 5.2): on a Standby that mirrors or resynchronises, READY clears and a full resync starts. -/
def Core.poisonedRecord (c : Core) : Core :=
  if c.isStandby && (c.link = 5 || c.link = 6) then { c with twin := { c.twin with recLost := true } }.judge.startResync else c

/-! ### Ticks and frames of the link (R366, R367, R382) -/

/-- The widths, in bytes, of a record's fields after its type and size, by its row of Table 15.2: HEARTBEAT, SLOT (whole, Table 15.3), GRID, GROUP, CHANGE (0 for a write with its address and value, or the event with its index and cause), SNAPSHOT, NAK, HANDOVER. -/
def recordWidths (kind : Nat) (body : List Nat) : List Nat :=
  match kind with
  | 1 => [1, 4, 2, 2, 4]
  | 2 => [1, 1, 1, 1, 4, 8, 8, 4, 4, 4, 4, 4, 4, 4, 4, 2, 2, 2, 2]
  | 3 => [1, 4, 4, 8, 4, 4, 1]
  | 4 => [1, 1, 1, 2, 4, 4, 1]
  | 5 => [2, 4, 4]
  | 7 => [4]
  | 8 => [2, 4, 4, 4]
  | _ => [2, 2] ++ List.replicate (body.length - 2) 8
/-- A record's bytes: type, size in units of 8 bytes, fields, and zeros up to the size; a SLOT record has neither type nor size (R368). -/
def recordBytes (kind : Nat) (body : List Nat) : List Byte :=
  let body := if kind = 5 && body.length = 2 then 0 :: body else body
  let fields := ((recordWidths kind body).zip body).flatMap (fun f => bytesOfNat f.1 f.2)
  if kind = 2 then fields
  else
    let units := (fields.length + 9) / 8
    [Config.recordType kind, BitVec.ofNat 8 units] ++ fields ++ List.replicate (8 * units - 2 - fields.length) 0
/-- A frame between K27.7 and K29.7 (R366): TYPE 1, COUNT, LEN, SEQ, the records and their CRC-32. -/
def latigoFrame (seq : Nat) (records : List (List Byte)) : List Byte :=
  let body := records.flatten
  let b := [1, BitVec.ofNat 8 records.length] ++ bytesOfNat 2 (body.length + 12) ++ bytesOfNat 4 seq ++ body
  b ++ bytesOfNat 4 (Crypto.crc32 b).toNat
/-- How many of the gathered records fit into a tick's frame: at most `n`, in at most `room` bytes. -/
def recordsFit : Nat → Nat → List (List Byte) → Nat
  | 0, _, _ => 0
  | _, _, [] => 0
  | n + 1, room, r :: rs => if room < r.length then 0 else recordsFit n (room - r.length) rs + 1
/-- The frame of a tick leaves (R366, R367): the HEARTBEAT, and of the gathered records those that a direction carries in 10 µs, 5,000 bytes; the rest are the next tick's. IDLE follows it. -/
def Core.sendFrame (c : Core) (heartbeat : List Nat) : Core :=
  let bytes := c.twin.txq.map (fun r => recordBytes r.1 r.2)
  let bytes := if c.twin.txPoison then (match bytes with | r :: rs => Config.poisonMark r :: rs | [] => []) else bytes
  let n := recordsFit 254 4970 bytes
  let seq := (c.reg R.TW_SEQ 0).toNat
  let frame := latigoFrame seq (recordBytes 1 heartbeat :: bytes.take n)
  let c := { c with twin := { c.twin with txq := c.twin.txq.drop n, txPoison := c.twin.txPoison && n = 0, sent := ((seq, frame) :: c.twin.sent).take 4 } }
  (c.emit (.latigo frame)).emit (.ordered 0x10)
/-- LATIGO_BAD_FRAME (R382): the Standby asks for the frame again once; a resend that fails is a lost record. -/
def execLatigoBadFrame (s : State) (seq : Word) : Host.Outcome State Fault Refusal := onCore s (fun c =>
  if !c.trained then c
  else
    let c := c.addSat F.TW_ERR_CRC_ERR 0 1
    if !c.isStandby then c
    else if c.twin.nak = some seq then c.lostRecord
    else { c with twin := { c.twin with nak := some seq } }.latigo 7 [seq.toNat])
/-- NAK_RECORD (R382): the Lead resends the named frame, once. -/
def execNakRecord (s : State) (seq : Word) : Host.Outcome State Fault Refusal := onCore s (fun c =>
  match c.twin.sent.find? (fun f => f.1 == seq.toNat) with
  | some f => if c.isLead && c.trained then ({ c with twin := { c.twin with sent := c.twin.sent.filter (fun x => x.1 ≠ seq.toNat) } }).emit (.latigo f.2) else c
  | none => c)

/-- A Lead's link is UP while its Standby's heartbeats show NOTREADY.LINK clear, and resynchronises when they show it set (R372, R380, R382). -/
def Core.followResync (c : Core) (down : Bool) : Core :=
  if !c.isLead then c
  else if c.link = 5 && !down then c.linkUp
  else if c.link = 6 && down then c.startResync
  else c
/-- HEARTBEAT (R363, R364, R372, R375, R383, R416). -/
def execHeartbeat (s : State) (r : HeartbeatRec) : Host.Outcome State Fault Refusal := onCore s (fun c =>
  if !c.trained then c
  else if r.incarn ≠ c.reg R.TW_PINCARN 0 then ({ c with twin := { c.twin with incarnBad := true } }.judge).linkLost true
  else
    let c := if r.stuck && !c.twin.partnerStuck then c.logFrom 0x23 0x0108 noSrc 0 else c
    let c := c.setBit F.RST_STAT_PARTNER_STUCK 0 r.stuck
    let t := { c.twin with seen := true, partnerLinkVer := r.linkVer, partnerStuck := r.stuck, partnerDigest := some r.digest, incarnBad := false }
    let ok := match t.release with | some at_ => r.handoverSeen && decide (c.profNs + 10000 ≤ at_) | none => false
    let c := { c with twin := { t with handoverSeen := t.handoverSeen || ok } }
    let c := if c.isLead then c.setBit F.TW_ROLE_PARTNER_READY 0 r.ready else c
    let c := if r.role = 1 then c.followLead else c
    let c := if r.role = 1 && c.isLead && c.position = 1 then c.giveWay else c
    (if r.role = 2 then c.followResync (r.notReady.testBit 0) else c).judge)

/-- A mirrored path member (R371): a new path runs on from the members' positions to their targets with the speed of its lead; one whose target moves has been stopped, because a moving group takes no GO (R151). -/
def Core.adoptPath (c : Core) (k : Nat) (r : SlotRec) (t : Int) : Core :=
  let g := (c.pat.slot k).ig
  let path := c.igAt g
  if 16 ≤ g then c
  else
    match if path.moving then path.members.find? (fun m => m.1 == k) else none with
    | some m => if path.memberEnd m = r.rtarget then c else c.stopPath g t
    | none =>
      let others := if path.moving then path.members.map (fun m => let x := (c.profileAt m.1 t).1; (m.1, x, path.memberEnd m - x)) else []
      let speed (i : Nat) : F32 := if i = k then r.pvel.abs else (c.profileAt i t).2.1.abs
      let rows := others.filter (fun m => m.1 < k) ++ [(k, r.ppos, r.rtarget - r.ppos)] ++ others.filter (fun m => k < m.1)
      let lead := rows.foldl (fun a m => if a.2.2.natAbs < m.2.2.natAbs then m else a) (rows.headD (0, 0, 0))
      let len := lead.2.2.natAbs
      match c.pathLimits rows len with
      | some (v, a, d) =>
        if len = 0 then c
        else
          let mst := c.get F.IG_CFG_MASTER g
          let c := c.setIg g { path with moving := true, stopping := false, s := (planTo t 0 (speed lead.1) len v a d).1, lenL := len, lenEnd := len, vmax := v, acc := a, dec := d, members := rows,
                                         master := mst, m0 := (if mst < 128 then (c.ownAt mst t).1 else 0), k := (if c.bit F.IG_CFG_MDIR g then -1 else 1) }
          (c.set F.IG_STAT_LEAD g lead.1).setBit F.IG_STAT_MOVING g true
      | none => c
/-- A slot whose record shows no path any more leaves it. -/
def Core.leavePath (c : Core) (k : Nat) : Core :=
  match c.pathOf k with
  | none => c
  | some path =>
    let g := (c.pat.slot k).ig
    let ms := path.members.filter (fun m => m.1 ≠ k)
    (c.setIg g { path with members := ms, moving := !ms.isEmpty }).setBit F.IG_STAT_MOVING g !ms.isEmpty
/-- A mirrored follower (R371): it engages where its record first shows it so, and its offset runs on to the record's target. -/
def Core.adoptOffset (c : Core) (k : Nat) (r : SlotRec) (t : Int) : Core :=
  let c := if (c.profAt k).engaged then c else c.engage k t
  let p := c.profAt k
  let vo := F32.sub r.pvel (memberScale (c.masterAt k t).2.1 p.num p.den.natAbs)
  let (m, tr) : Motion × Traj :=
    if r.rtarget ≠ r.ppos then (match c.moveLimits k with | some (v, a, d) => (.move, (planTo t r.ppos vo r.rtarget v a d).1) | none => (.rest, Traj.rest t r.ppos))
    else if (c.pat.slot k).gearKind = 1 && !vo.isZero then (.jog, Traj.uniform t r.ppos vo) else (.rest, Traj.rest t r.ppos)
  c.setProf k { p with sup := tr, supMotion := m, supTarget := r.rtarget }
/-- The own motion of a slot as its record shows it (R371): a move or a stop goes on from the record's position and velocity. -/
def Core.adoptMotion (c : Core) (k : Nat) (r : SlotRec) (t : Int) : Core :=
  let still := Traj.rest t r.ppos
  let (m, tr) : Motion × Traj := match r.pstate with
    | 1 => (.move, match c.moveLimits k with | some (v, a, d) => (planTo t r.ppos r.pvel r.rtarget v a d).1 | none => Traj.uniform t r.ppos r.pvel)
    | 2 => (.jog, Traj.uniform t r.ppos r.pvel)
    | 5 => (.stopping, match (c.stopRate k true).1 with | some d => planStop t r.ppos r.pvel d | none => still)
    | 7 => (.stopping, match (c.stopRate k false).1 with | some d => planStop t r.ppos r.pvel d | none => still)
    | _ => (.rest, still)
  c.setProf k { c.profAt k with engaged := false, traj := tr, motion := m, target := r.rtarget, jogVel := r.pvel, limPlan := false, ss1 := r.pstate = 5, held := r.pstate = 6 && !c.slotSto k }
/-- The profile of a slot as its record shows it (R371). -/
def Core.adoptProfile (c : Core) (k : Nat) (r : SlotRec) (t : Int) : Core :=
  if r.pstate = 3 then (c.leavePath k).adoptOffset k r t
  else if r.pstate = 4 then (c.adoptPath k r t).adoptMotion k r t
  else (c.leavePath k).adoptMotion k r t
/-- SLOT_RECORD (R370, R371): the Standby takes the slot's profile, integrators and last outputs. -/
def execSlotRecord (s : State) (r : SlotRec) : Host.Outcome State Fault Refusal := inRange "slot" r.slot 128 (onCore s (fun c =>
  let k := r.slot
  let b := c.pat.slot k
  if !c.isStandby || !c.trained || b.kind = 0 then c
  else if r.poisoned then c.poisonedRecord
  else
    let t := c.recordT k
    let c := if r.late then c.setBit F.AX_STAT_LATE k true else c
    let c := c.setBit F.AX_STAT_UNPLACED k r.unplaced
    let c := (c.set F.AX_SL_STAT_STATE k r.est).set F.AX_SL_STAT_TRIES k r.tries
    let c := (c.setBit F.AX_PSTAT_DONE k r.pdone).setBit F.AX_PSTAT_REVERSING k r.reversing
    let ran := if c.hasContext k then (c.gridAt (c.slotPeriod k)).start else t
    let c := c.adoptProfile k r t
    let c := if b.kind = 2 then ((c.setReg R.SP_COUNT b.res r.iVel).set F.SP_STAT_LAG b.res r.iD.toNat).setStep b.res { c.stepAt b.res with steps := r.iVel.toInt, owed := r.ppos.fdiv 65536 - (if r.pvel.neg then -(r.iD.toNat : Int) else r.iD.toNat) } else
      let (id, iq) := if b.kind = 1 then park (c.laneCurrent b.res) r.thetaE else (0, 0)
      let l := c.loopAt k
      c.setLoop k { l with iVel := r.iVel, iD := r.iD, iQ := r.iQ, vCmd := r.vcmd, iCmd := r.icmd, vd := r.vd, vq := r.vq, id := id, iq := iq,
                           dutyU := dutyOfWord r.dutyU, dutyV := dutyOfWord r.dutyV, dutyW := dutyOfWord r.dutyW, hasDuty := true,
                           tCur := some ran, tVel := some ran }
    let c := c.set F.AX_COMM_STAT_THETA_E k r.thetaE.toNat
    let c := if c.isHot then c
      else
        let e := c.estAt k
        let turn := F32.ofInt (wrapTo e.theta r.thetaE)
        let len := (c.gridAt (c.slotPeriod k)).len
        let fe := if len = 0 then e.fe else F32.div turn (F32.mul 0x47800000 (F32.ofRat (len / 1000000000)))
        c.setEst k { e with theta := r.thetaE, fe := fe, obsTheta := r.thetaE, hfiTheta := r.thetaE, obsFreq := fe, hfiFreq := fe }
    c.publishState k c.profNs))

/-- The resync is complete (R380). -/
def Core.resynced (c : Core) : Core := ({ c with twin := { c.twin with recLost := false } }.linkUp).logFrom 0x23 0x0106 noSrc 0
/-- GRID_RECORD (R286, R380, R382): the Standby's grid takes the Lead's frame start and counters; complete frames end a resync. -/
def execGridRecord (s : State) (r : GridRec) : Host.Outcome State Fault Refusal := inRange "grid" r.period 6 (onCore s (fun c =>
  if !c.isStandby || !c.trained then c
  else if r.poisoned then c.poisonedRecord
  else
    let p := r.period
    let start := (r.startNs : Int) - c.time.stepSum
    let frame := periodNs p
    let g := c.gridAt p
    let c := ((c.setReg R.BS_FCNT p r.fcnt).set F.BS_FEPOCH_WRAPS p r.fepoch).setReg R.BS_DEBT p (BitVec.ofNat 32 r.debt)
    let c := (c.setReg R.BS_SHIFT p (BitVec.ofNat 32 r.shift)).set F.BS_STAT_LEVEL 0 r.level
    let len := frameLength frame r.debt
    let c := c.setGrid p { g with running := true, start := start, nominal := start - r.debt, len := len, prevPlan := (if g.running then g.len else len), prevLen := (if g.running then (start - g.start).toNat else len.floor.toNat), level := r.level }
    if c.link = 6 then (if r.complete then c else c.lostRecord)
    else if c.link = 5 && c.twin.snapshots then
      let n := if r.complete then Tab.get 0 c.twin.complete p + 1 else 0
      let c := { c with twin := { c.twin with complete := Tab.set 0 c.twin.complete p n } }
      if ((List.range 6).filter c.gridUsed).all (fun q => 2 ≤ Tab.get 0 c.twin.complete q) then c.resynced else c
    else c))

/-- The causes whose STO asserts XSTO (R350), with STARTUP, under which XSTO stays asserted from the start (Table 16.5). -/
def xstoCause (cause : Nat) : Bool := cause = 0 || cause = 1 || cause = 9 || cause = 11 || cause = 12 || cause = 15
/-- GROUP_RECORD (R352, R368): the Standby mirrors the group, and asserts the same XSTO and XSS1. -/
def execGroupRecord (s : State) (r : GroupRec) : Host.Outcome State Fault Refusal := inRange "lane group" r.group 16 (onCore s (fun c =>
  if !c.isStandby || !c.trained then c
  else if r.poisoned then c.poisonedRecord
  else
    let g := r.group
    let b := c.bg g
    let entering := r.state = 2 && !c.inSto g
    let xsto := r.state = 2 && (xstoCause r.cause || (c.inSto g && b.xsto))
    let xss1 := r.state = 1 || (r.state = 2 && b.xss1)
    let c := (c.setGrp g r.state).set F.SF_GRP_CAUSE g r.cause
    let c := { c with latchRec := Tab.set 0 c.latchRec g (r.latches.toNat &&& 0x0F80) }
    let start := c.profNs / 4294967296 * 4294967296 + (r.ss1Start : Int)
    let start := if c.profNs < start then start - 4294967296 else start
    let c := c.setBg g { b with xsto := xsto, xss1 := xss1, xss1Timer := xss1, xss1Expired := xss1 && b.xss1Expired, v0 := r.v0, brakeOn := r.brakeOn,
                                ss1T := (if r.state = 1 then start else b.ss1T), ss1Pend := (if r.state = 0 then b.ss1Pend else 0) }
    let c := if entering then foldN (c.groupSlots g) c Core.stoSlot else c
    c.xb2))

/-- Adopts the Lead's lane state from the mirror (R220): it neither counts nor logs. -/
def Core.adoptLane (c : Core) (lane cause : Nat) : Core :=
  let g := laneGroup lane
  let bit := if lane < 32 then lane % 4 else (lane - 32) % 8
  let m := c.get F.LG_STAT_FAULTED g
  let c := (c.setBit F.LN_STAT_FAULT lane (cause ≠ 0)).set F.LN_STAT_CAUSE lane cause
  c.set F.LG_STAT_FAULTED g (if cause ≠ 0 then m ||| 2 ^ bit else m &&& (0xFF - 2 ^ bit))
/-- Keeps a port fault of the Lead. -/
def Core.adoptPort (c : Core) (port cause : Nat) : Core := { c with twin := { c.twin with leadPorts := Tab.set 0 c.twin.leadPorts port cause } }

/-- The gearing of a SNAPSHOT record; a port master counts on from here. -/
def Core.adoptGear (c : Core) (k : Nat) (g : GearRec) : Core :=
  let port := if (c.pat.slot k).gearKind = 2 then c.portValue (c.pat.slot k).gearMaster c.profNs else 0
  c.setProf k { c.profAt k with engaged := g.engaged, gearOfs := g.offset, num := g.num, den := g.den, rampLeft := g.left, rampTotal := g.total, rampNum0 := g.num0, rampDen0 := g.den0, rampNum1 := g.num1, rampDen1 := g.den1,
                                portSum := 0, portLast := port }
/-- The path of a SNAPSHOT record, which runs on from here. -/
def Core.adoptIg (c : Core) (g : Nat) (r : PathRec) : Core :=
  let t := c.profNs
  let tr := if r.stopping then planStop t r.s r.v r.dec else (planTo t r.s r.v r.last r.vmax r.acc r.dec).1
  let c := c.setIg g { c.igAt g with moving := r.moving, stopping := r.stopping, s := tr, lenL := r.len, lenEnd := r.last, vmax := r.vmax, acc := r.acc, dec := r.dec,
                                     members := r.members, master := r.master, m0 := r.m0, k := (if r.back then -1 else 1) }
  (c.setBit F.IG_STAT_MOVING g r.moving).set F.IG_STAT_LEAD g r.lead
/-- The state that a SNAPSHOT record carries (R380). -/
def Core.adoptSnapshot (c : Core) (r : SnapRec) : Core :=
  match r with
  | .poisoned => c
  | .gear k g => if 128 ≤ k then c else c.adoptGear k g
  | .ipath g p => if 16 ≤ g then c else c.adoptIg g p
  | .capture k arm => if 128 ≤ k then c else c.captureArm k arm
  | .laneFault l cause => if 96 ≤ l then c else c.adoptLane l cause
  | .portFault p cause => if 56 ≤ p then c else c.adoptPort p cause
  | .canPhase ch o n => if 4 ≤ ch || 512 ≤ o || !(c.pat.obj ch o).cyclic then c else c.setCanObj (objAt ch o) { c.canObjAt (objAt ch o) with phase := n % Max.max 1 (c.pat.obj ch o).cycle }
  | .canTx ch o fr => if 4 ≤ ch || 512 ≤ o then c else c.canQueue ch o fr
  | .fieldString f seq outs => if 2 ≤ f then c else
      foldN (List.range 4) (c.set F.FI_FS_STAT_SEQ f seq) (fun c n => match outs[n]? with | some w => c.setReg R.FI_FS_OUT (4 * f + n) w | none => c)
/-- SNAPSHOT_RECORD (R380): state that no per-frame record carries. A pair that runs no grid has no frames to wait for. -/
def execSnapshotRecord (s : State) (r : SnapRec) : Host.Outcome State Fault Refusal := onCore s (fun c =>
  if !c.isStandby || !c.trained then c
  else if r = .poisoned then c.poisonedRecord
  else
    let c := { c with twin := { c.twin with snapshots := true } }.adoptSnapshot r
    if c.link = 5 && !(List.range 6).any c.gridUsed then c.resynced else c)

/-! ### Ordered sets and training (R363, R379) -/

/-- A module with no relink timer trains at once. -/
def Core.trainNow (c : Core) : Core := if c.relinkRuns || (3 ≤ c.link && c.link ≤ 6) then c else (c.setLink 3).emit (.ordered 0x30)
/-- BEACON (R379): recorded, and answered with TRAIN by a module that runs no timer. -/
def execBeacon (s : State) : Host.Outcome State Fault Refusal := onCore s (fun c => if c.runs 0x23 then c.sawPartner.trainNow else c)
/-- LEAD_PRESENT (R363). -/
def execLeadPresent (s : State) : Host.Outcome State Fault Refusal := onCore s (fun c => if c.runs 0x23 then c.sawPartner.followLead else c)
/-- TRAIN (R379). -/
def execTrain (s : State) : Host.Outcome State Fault Refusal := onCore s (fun c => if c.runs 0x23 then c.sawPartner.trainNow else c)
/-- LINK_STOP (R379, R384, R400): the link stops, without loss or takeover, and no timer runs. -/
def execLinkStop (s : State) : Host.Outcome State Fault Refusal := onCore s (fun c =>
  if !c.trained then c
  else
    let c := (c.setBit F.TW_RELINK_RUNNING 0 false).setBit F.TW_ROLE_PARTNER_READY 0 false
    { c.dropRecords with twin := { c.dropRecords.twin with seen := false } }.setLink 7)
/-- TRAINING_COMPLETE (R25, R364, R379, R380, R383). -/
def execTrainingComplete (s : State) (r : HeartbeatRec) (partnerPos : Bool) (partnerSerial : Word) : Host.Outcome State Fault Refusal := onCore s (fun c =>
  if c.link ≠ 3 then c
  else
    let c := c.setReg R.TW_PINCARN 0 r.incarn
    let c := { c with twin := { c.twin with seen := true, partnerSeen := true, partnerLinkVer := r.linkVer, partnerStuck := r.stuck,
                                            partnerDigest := some r.digest, incarnBad := false, complete := [], snapshots := false, nak := none } }
    let c := c.setLink 4
    let pp := if partnerPos then 1 else 0
    let mine := if c.position = pp then (c.reg R.SYS_SERIAL 0).toNat < partnerSerial.toNat else c.position = 0
    (if r.role = 1 then (if c.isLead then (if c.position = 1 then c.giveWay else c) else c.followLead)
    else if r.role = 0 && c.get F.TW_ROLE_ROLE 0 = 0 && mine then c.leadWhenLoaded
    else c).sendImage)
/-- TRAINING_TIMEOUT (R379). -/
def execTrainingTimeout (s : State) : Host.Outcome State Fault Refusal := onCore s (fun c => if c.link = 3 then c.setLink (if c.relinkRuns then 2 else 1) else c)
/-- REGISTER_IMAGE_DONE (R380): the image that a Lead gathered when training ended has been sent, and snapshots follow. -/
def execRegisterImageDone (s : State) : Host.Outcome State Fault Refusal := onCore s (fun c => if c.link = 4 then c.startResync else c)
/-- RELINK_EXPIRY (R379): every 2 s; TRAIN where the partner's ordered sets have been seen within 200 µs. -/
def execRelinkExpiry (s : State) : Host.Outcome State Fault Refusal := onCore s (fun c =>
  if !c.relinkRuns then c
  else
    let now := c.profNs
    let recent := match c.twin.seenAt with | some t => decide (now - t ≤ 200000) | none => false
    let c := { c with twin := { c.twin with relinkAt := now + 2000000000 } }
    if recent && !c.trained then (c.setLink 3).emit (.ordered 0x30) else c)
/-- SOLO_WAIT_EXPIRY (R363). -/
def execSoloWaitExpiry (s : State) : Host.Outcome State Fault Refusal := onCore s (fun c =>
  if c.get F.TW_ROLE_ROLE 0 = 0 && !c.twin.partnerSeen && c.bridle.pown = 0 && c.pat.valid then c.leadWhenLoaded else c)

/-! ### Loss, fail and handover (R375–R378) -/

/-- LATIGO_LOSS (R367): no valid frame for three ticks. -/
def execLatigoLoss (s : State) : Host.Outcome State Fault Refusal := onCore s (fun c => if c.trained then c.linkLost true else c)
/-- FAIL_IN (R375): the partner's FAIL line is low; a fail releases no OWN line first. -/
def execFailIn (s : State) : Host.Outcome State Fault Refusal := onCore s (fun c =>
  let c := { c with twin := { c.twin with failIn := true } }
  c.leadGone (c.bit F.TW_ROLE_READY 0) 2)
/-- TAKEOVER_OWN_TIMEOUT (R375): 20 µs after a loss some OWN line of the partner is still asserted. -/
def execTakeoverOwnTimeout (s : State) : Host.Outcome State Fault Refusal := onCore s (fun c =>
  if !(c.twin.lossPend || c.twin.coldPend) || c.bridle.pown = 0 then c
  else ({ c.dropGaps with twin := { c.twin with lossPend := false, coldPend := false } }.logFrom 0x23 0x0104 noSrc c.bridle.pown.toNat).judge)
/-- POWN_LINE_CHANGE (R26, R363, R375): the partner's OWN line of a group, as read on POWN. -/
def execPownLineChange (s : State) (g : Nat) (level : Bool) : Host.Outcome State Fault Refusal := inRange "lane group" g 16 (onCore s (fun c =>
  let m := BitVec.ofNat 16 (2 ^ g)
  let c := { c with bridle := { c.bridle with pown := if level then c.bridle.pown ||| m else c.bridle.pown &&& ~~~m, pownT := if level && !c.bridle.pown.getLsbD g then Tab.set 0 c.bridle.pownT g c.profNs else c.bridle.pownT } }
  let c := if level then c.followLead else c
  let c := c.xb2
  if !level && c.bridle.pown = 0 then
    if c.twin.lossPend then c.leadGone true 1
    else if c.twin.coldPend && !c.trained then { c with twin := { c.twin with coldPend := false } }.leadGoneNow false 1
    else c
  else c.judge))
/-- OWN_REFRESH (R373): Bridle-P refreshes the lines of a Lead's groups; unrefreshed they release. -/
def execOwnRefresh (s : State) : Host.Outcome State Fault Refusal := onCore s (fun c =>
  if c.isLead && c.runs 0x27 && !c.rst.held then c
  else if c.bridle.own = 0 then c else c.releaseClaims.xb2)
/-- This module gives way in a dual claim of a group: it asserted its line later, or within 5 µs of the partner in position B (R374). -/
def Core.claimedLater (c : Core) (g : Nat) : Bool :=
  let d := c.bridle.ownT - Tab.get 0 c.bridle.pownT g
  decide (0 < d) || (decide (d.natAbs ≤ 5000) && c.position = 1)
/-- DUAL_CLAIM (R26, R373, R374): both lines of a group are asserted; the later module, or position B within 5 µs, releases. -/
def execDualClaim (s : State) (g within : Nat) : Host.Outcome State Fault Refusal := inRange "lane group" g 16 (inRange "release time" within 10001 (onCore s (fun c =>
  if !(c.bridle.own.getLsbD g && c.bridle.pown.getLsbD g) then c
  else
    let c := c.logFrom 0x27 0x0004 g 15
    let c := (c.stoWithX g 15).set F.SF_GRP_CAUSE g 15
    if c.claimedLater g then c.giveWay.gapFrom within else c)))

/-- The next frame start, of any grid that carries a claimed group, at or after a time (R375). -/
def Core.releaseInstant (c : Core) (t : Int) : Int :=
  let grids := (List.range 6).filter (fun p => (c.gridAt p).running && (List.range 16).any (fun g => c.bridle.own.getLsbD g && (c.pat.group g).present && (c.pat.group g).period == p))
  let next (p : Nat) : Int :=
    let g := c.gridAt p
    let first := g.start + g.len.ceil
    let F : Int := periodNs p
    if t ≤ first then first else first + ((t - first + F - 1) / F) * F
  match grids with
  | [] => t
  | p :: ps => ps.foldl (fun a q => if next q < a then next q else a) (next p)
/-- A write of TW_CTRL.REQ (R375): the record's first copy leaves in the next link tick, and the release is at least 50 µs after it. -/
def Core.handoverWrite (c : Core) : Core :=
  let refuse (n : Nat) (c : Core) : Core := (c.set F.TW_CTRL_RESULT 0 n).setBit F.TW_CTRL_REQ 0 false
  if !c.isLead then refuse 1 c
  else if !c.readyPartner then refuse 2 c
  else if c.twin.release.isSome || c.twin.takeover || c.loading || c.get F.PT_STAT_PHASE 0 = 5 then refuse 3 c
  else
    let tick := (c.netNs / 10000 + 1) * 10000 - c.time.stepSum
    let at_ := c.releaseInstant (tick + 50000)
    let c := { c with twin := { c.twin with release := some at_, handoverSeen := false, copies := 4 } }
    (c.setBit F.TW_CTRL_REQ 0 true).set F.TW_CTRL_RESULT 0 0
/-- HANDOVER_RECORD (R375): the Standby reports HANDOVER_SEEN and acts on the first copy. -/
def execHandoverRecord (s : State) (r : HandoverRec) : Host.Outcome State Fault Refusal := onCore s (fun c =>
  if !c.isStandby || !c.bit F.TW_ROLE_READY 0 || c.twin.handover = some r.firstSeq then c
  else { c with twin := { c.twin with handover := some r.firstSeq, release := some ((r.relSec.toNat : Int) * 1000000000 + r.relNs.toNat - c.time.stepSum) } })
/-- HANDOVER_RELEASE (R375, R378): at the release instant the Lead releases its claims or keeps them, and the Standby takes over. -/
def execHandoverRelease (s : State) : Host.Outcome State Fault Refusal := onCore s (fun c =>
  if c.twin.release.isNone then c
  else if c.isLead then
    let seen := c.twin.handoverSeen
    let c := { c with twin := { c.twin with release := none, handoverSeen := false, copies := 0 } }
    let c := c.setBit F.TW_CTRL_REQ 0 false
    if seen then ((c.set F.TW_CTRL_RESULT 0 0).becomeStandby.setBit F.TW_ROLE_PARTNER_READY 0 false).setLink 4
    else c.set F.TW_CTRL_RESULT 0 2
  else
    let c := { c with twin := { c.twin with release := none } }
    if c.bit F.TW_ROLE_READY 0 then ((c.takeOver 3).setLink 4).sendImage else c)
/-- TAKEOVER_COMPLETE (R376): the takeover is logged, and HANDOVER_SEEN clears; a warm reset that waited begins (R412). -/
def execTakeoverComplete (s : State) : Host.Outcome State Fault Refusal := onCore s (fun c =>
  if !c.twin.takeover then c
  else
    let c := { c with twin := { c.twin with takeover := false, handover := none } }.logFrom 0x23 0x0100 noSrc (c.get F.TW_LAST_KIND 0)
    if c.rst.warmPend = 0 then c else { c with rst := { c.rst with warmPend := 0 } }.assertReset 1 c.rst.warmPend)

end Sys2Proof.Machine
end

