-- ==== Sys2Proof/Machine/Frame.lean ====
section
/-! DEFINITION. Frames: a grid opens a frame (R276–R280), and an engine runs its canaries and contexts in it (R180, R181, R272, R273, R286). -/
namespace Sys2Proof.Machine

/-! ### The grid's clock (R276–R280) -/

/-- The slots whose frames a grid opens. -/
def Core.gridSlots (c : Core) (p : Nat) : List Nat := c.usedSlots.filter (fun k => c.hasContext k && c.slotPeriod k == p)
/-- The lane groups of a grid. -/
def Core.gridGroups (c : Core) (p : Nat) : List Nat := (List.range 16).filter (fun g => (c.pat.group g).present && (c.pat.group g).period == p)
/-- The engines of a grid. -/
def Core.gridEngines (c : Core) (p : Nat) : List Nat := (List.range 16).filter (fun e => c.get F.BS_ENG_STAT_PERIOD e == p)
/-- A frame that starts `ext` ns late: the engines that missed the deadline count it, their contexts are LATE, and LATE is logged at most once a second (R276). -/
def Core.markLate (c : Core) (p : Nat) (planned t : Int) : Core :=
  let ext := (t - planned).toNat
  let c := c.count 0x22 F.BS_LATE_CNT_COUNT p 1
  let c := if (c.reg R.BS_OVR_MAX p).toNat < ext then c.setReg R.BS_OVR_MAX p (BitVec.ofNat 32 ext) else c
  let missed := (c.gridEngines p).filter (fun e => c.engRuns e && (!(c.engAt e).done || decide (planned - 1000 < (c.engAt e).doneAt)))
  let c := foldN missed c (fun c e => foldN (c.engAt e).ctx (c.count e F.BS_ENG_OVR_COUNT e 1) (fun c k => if c.slotSto k then c else c.setBit F.AX_STAT_LATE k true))
  let g := c.gridAt p
  if g.lateAt.any (fun t0 => decide (t - t0 < 1000000000)) then c
  else (c.setGrid p { g with lateAt := some t }).logFrom 0x26 0x0200 p ext
/-- When a grid opens its next frame (R276): at its planned start or 1 µs after the last of its running engines has completed the frame, whichever is later. The first frame starts at a multiple of F in profile time (R291); a Standby's follows the Lead's (R286). -/
def Core.openAt (c : Core) (p : Nat) : Int :=
  let g := c.gridAt p
  let n : Int := periodNs p
  if c.isStandby then c.profNs
  else if !g.running then c.profNs / n * n
  else ((c.gridEngines p).filter c.engRuns).foldl (fun a e => Max.max a ((c.engAt e).doneAt + 1000)) (g.start + g.len.ceil)
/-- A frame that would start at `t` loses the grid's schedule: its debt would exceed 4 × F (R279). -/
def Core.losesSchedule (c : Core) (p : Nat) (t : Int) : Bool :=
  let g := c.gridAt p
  let n : Int := periodNs p
  g.running && decide (4 * n < t - (g.nominal + n))
/-- The actual start of a frame due at `t`: where the schedule is lost, the first whole microsecond of network time after the late work completed (R279). -/
def Core.frameAt (c : Core) (p : Nat) (t : Int) : Int :=
  if c.losesSchedule p t then ((t - 1000 + c.time.stepSum) / 1000 + 1) * 1000 - c.time.stepSum else t
/-- A lost schedule (R279): the grid is re-anchored, and its engines are forced one operating point up. -/
def Core.scheduleLost (c : Core) (p : Nat) (t : Int) : Core :=
  let c := (c.count 0x22 F.BS_LOST_CNT_COUNT p 1).flag 0x22 F.BS_STAT_SCHED_LOST 0
  let c := c.setReg R.BS_SHIFT p (BitVec.ofInt 32 (t.fmod (periodNs p)))
  let c := c.logFrom 0x26 0x0201 p 0
  let es := (c.gridEngines p).filter (fun e => c.engRuns e)
  let c := if es.any (fun e => c.get F.ST_CLK_OP e = 7) then c.set F.BS_STAT_LEVEL 0 (Min.min 6 (c.get F.BS_STAT_LEVEL 0 + 1)) else c
  let c := foldN (es.filter (fun e => c.get F.ST_CLK_OP e < 7)) c (fun c e =>
    (c.setEng e { c.engAt e with forced := c.get F.BS_CFG_HOLD 0, forcedOp := c.get F.ST_CLK_OP e + 1 }).setBit F.BS_ENG_STAT_FORCED e true)
  c.reneed
/-- The grid's counters and plan at the start of a frame due at `due`; the first one after a reset finds debt, shift and counter at 0 (R291). A Standby's grid keeps what the Lead's record gave it (R286). -/
def Core.gridAdvance (c : Core) (p : Nat) (due : Int) : Core :=
  let g := c.gridAt p
  let lost := c.losesSchedule p due
  let t := c.frameAt p due
  let n := periodNs p
  let first := !g.running && c.reg R.BS_FCNT p = 0 && c.get F.BS_FEPOCH_WRAPS p = 0
  let f := if first then 0 else c.reg R.BS_FCNT p + 1
  let c := c.setReg R.BS_FCNT p f
  let c := if f = 0 && !first then c.addWrap F.BS_FEPOCH_WRAPS p 1 else c
  let level (c : Core) := c.get F.BS_STAT_LEVEL 0
  if !g.running then
    let c := (c.setReg R.BS_SHIFT p 0).setReg R.BS_DEBT p 0
    c.setGrid p { g with running := true, start := t, nominal := t, len := n, prevPlan := n, prevLen := n, level := level c }
  else
    let planned := g.start + g.len.ceil
    let c := if planned < t then c.markLate p planned t else c
    let nominal := g.nominal + n
    let debt := if lost then 0 else (t - nominal).toNat
    let c := if lost then c.scheduleLost p t else c
    let c := c.setReg R.BS_DEBT p (BitVec.ofNat 32 debt)
    (c.setGrid p { c.gridAt p with start := t, nominal := (if lost then t else nominal), len := frameLength n debt, prevPlan := g.len, prevLen := (t - g.start).toNat, level := level c }).reorder (c.gridEngines p)

/-! ### What a frame start samples and applies (Table 1.5) -/

/-- The duties that a lane applies in the frame that opens: its slot's last computed ones (R173), a test vector turned by the estimator's angle (R212), or 0.5 in a retry wait (R215). -/
def Core.loadDuties (c : Core) (lane : Nat) : Core :=
  match c.laneSlot lane with
  | none => c
  | some k =>
    let l := c.loopAt k
    let r := c.pat.slot k
    let ln := c.laneAt lane
    if 4 ≤ ln.probe && !r.dcMode then
      let e := c.estAt k
      let a := F32.ofRat ((F.AX_SL_CFG_IPD_V.read e.cfg : Rat) / 256)
      let n := ln.probe - 4
      let (va, vb) := unpark (F32.mul a (cos30 n)) (F32.mul a (sin30 n)) e.theta
      let vv := F32.sub (F32.mul fHalfSqrt3 vb) (F32.mul fHalf va)
      let vw := F32.sub (F32.negate (F32.mul fHalf va)) (F32.mul fHalfSqrt3 vb)
      c.setLane lane { ln with dutyU := legDutyOf va fOne, dutyV := legDutyOf vv fOne, dutyW := legDutyOf vw fOne }
    else if ln.probe = 1 || ln.probe = 3 then c.setLane lane { ln with dutyU := fHalf, dutyV := fHalf, dutyW := fHalf }
    else if !l.hasDuty && c.laneActive lane then
      -- no duty has been computed when the first PWM period begins (R221)
      let (u, c) := c.fresh
      let (v, c) := c.fresh
      let (w, c) := c.fresh
      let drawn (l : Loop) : Loop := { l with dutyU := u, dutyV := v, dutyW := w, hasDuty := true }
      (c.setLoop k (drawn l)).setLane lane { ln with dutyU := u, dutyV := v, dutyW := w }
    else c.setLane lane { ln with dutyU := l.dutyU, dutyV := l.dutyV, dutyW := l.dutyW }
/-- The lanes of a grid that a pattern binds. -/
def Core.gridLanes (c : Core) (p : Nat) : List Nat := (c.gridSlots p).filterMap (fun k => if (c.pat.slot k).kind = 1 then some (c.pat.slot k).res else none)
/-- The ports whose sample stamps are the grid's frame starts (R232). -/
def Core.gridPorts (c : Core) (p : Nat) : List Nat := (List.range 56).filter (fun q => c.portGrid q == some p)
/-- A slot's frame reads its ports, and writes its ring entry (R232, R259); one that waits for a serial reading writes it afterwards. -/
def Core.readSlot (c : Core) (ram : Ram) (k : Nat) (t : Int) : Core :=
  let r := c.pat.slot k
  let c := (c.readActual k t).readHall k t
  let c := foldN ([r.fb1, r.fb2].filter (fun q => c.pollsAt q t)) c (fun c q => c.setPort q { c.portAt q with owed := (c.portAt q).owed.filter (· ≠ k) ++ [k] })
  if r.kind ≠ 1 || r.fb1 ≥ 56 || c.pollsAt r.fb1 t then c else c.ringPort ram k
/-- A frame's end takes the ring entries that still wait for a reading, with the extrapolated position. -/
def Core.flushOwed (c : Core) (ram : Ram) (p : Nat) : Core :=
  foldN (c.gridSlots p) c (fun c k =>
    let r := c.pat.slot k
    let waits := r.fb1 < 56 && (c.portAt r.fb1).owed.contains k
    let c := if waits && r.kind = 1 then c.ringPort ram k else c
    foldN ([r.fb1, r.fb2].filter (fun q => q < 56 && (c.portAt q).owed.contains k)) c (fun c q => c.setPort q { c.portAt q with owed := (c.portAt q).owed.filter (· ≠ k) }))
/-- Samples a grid's ports at its frame start, starts an excitation that is due, and lets its slots read (R232, R245, R259). -/
def Core.samplePorts (c : Core) (ram : Ram) (p : Nat) (t : Int) : Core :=
  let c := foldN (c.gridPorts p) c (fun c q => c.samplePort q t)
  let c := foldN ((List.range 56).filter (fun q => (c.portGrid q).getD p == p)) c Core.exciteStart
  foldN (c.gridSlots p) c (fun c k => c.readSlot ram k t)
/-- GEN_A after a takeover (R376): at the first frame start of a group at least 40 µs after the event, its GEN_A is driven if it is in RUN or SS1. -/
def Core.takeoverFrame (c : Core) (g : Nat) (t : Int) : Core :=
  let st := c.get F.SF_GRP_STATE g
  if !c.isLead || c.twin.takeoverAt + 40000 > t || !c.bridle.own.getLsbD g || c.twin.takeoverAt = 0 || (c.bg g).genA || st = 2 || (c.bg g).relCheck then c
  else
    let c := c.setBg g { c.bg g with genA := true }
    let c := if c.twin.driven then c
      else { c with twin := { c.twin with driven := true } }.set F.TW_LAST_COAST_US 0 ((t - c.twin.takeoverAt).toNat / 1000)
    foldN (c.groupSlots g) c (fun c k => let lane := (c.pat.slot k).res; c.setLane lane { c.laneAt lane with pairValid := false })
/-- Bridle-P's part of a frame, and the rings of a group that leaves STO after Sleep or deeper (R260, R351, R353, R357). -/
def Core.groupFrame (c : Core) (g : Nat) (t : Int) : Core :=
  let releasing := (c.bg g).relPend
  let c := (c.takeoverFrame g t).bridleFrame g t
  if releasing && !c.inSto g && c.power.woke.testBit g then
    foldN (c.groupSlots g) { c with power := { c.power with woke := c.power.woke - 2 ^ g } } (fun c k => c.ringEmpty k)
  else c
/-- The body of a GRID record (Table 15.2). -/
def Core.gridBody (c : Core) (p : Nat) : List Nat :=
  [p, (c.reg R.BS_FCNT p).toNat, c.get F.BS_FEPOCH_WRAPS p, ((c.gridAt p).start + c.time.stepSum).toNat, (c.reg R.BS_DEBT p).toNat, (c.reg R.BS_SHIFT p).toNat, (c.gridAt p).level]
/-- The body of a GROUP record (Table 15.2). -/
def Core.groupBody (c : Core) (g : Nat) : List Nat :=
  [g, c.get F.SF_GRP_STATE g, c.get F.SF_GRP_CAUSE g, c.latches g, ((c.bg g).ss1T % 4294967296).toNat, (c.bg g).v0.toNat, if (c.bg g).path1 then 1 else 0]
/-- The SNAPSHOT records of a grid (Table 15.2), each led by what it holds: gearing of its slots and its ramps, interpolation paths, capture arms, lane and port faults, CAN frames with TX_PENDING, the phases of cyclic CAN objects (R312), and field strings. What belongs to no grid goes with the one that carries the virtual slots; 6 stands for none. -/
def Core.snapshotBodies (c : Core) (p : Nat) : List (List Nat) :=
  let u (i : Int) : Nat := (BitVec.ofInt 64 i).toNat
  let shared := c.carriesVirtual p || p = 6
  let ks := c.usedSlots.filter (fun k => if c.hasContext k then c.slotPeriod k == p else shared)
  let gear := ks.map (fun k =>
    let q := c.profAt k
    let ofs := if (c.pat.slot k).gearKind = 2 then q.gearOfs + ratioMul (c.masterAt k c.profNs).1 q.num q.den else q.gearOfs
    [1, k, if q.engaged then 1 else 0, u ofs, u q.num, u q.den, q.rampLeft, q.rampTotal, u q.rampNum0, u q.rampDen0, u q.rampNum1, u q.rampDen1])
  let path (g : Nat) : List Nat :=
    let q := c.igAt g
    let (s, v, _) := c.pathParam q c.profNs
    [2, g, (if q.moving then 1 else 0) + (if q.stopping then 2 else 0), c.get F.IG_STAT_LEAD g, u s, v.toNat, q.lenL, q.lenEnd, q.vmax.toNat, q.acc.toNat, q.dec.toNat, q.master, u q.m0, if q.k < 0 then 1 else 0] ++
      q.members.flatMap (fun m => [m.1, u m.2.1, u m.2.2])
  let arms := ks.map (fun k => [3, k, (c.reg R.CP_ARM k).toNat])
  let lanes := (c.gridLanes p).map (fun l => [4, l, if c.bit F.LN_STAT_FAULT l then c.get F.LN_STAT_CAUSE l else 0])
  let rest : List (List Nat) := if !shared then [] else
    (List.range 16).map path ++
    (c.usedPorts.map (fun q => [5, q, if c.bit F.FB_STAT_FAULT q then c.get F.FB_STAT_CAUSE q else 0])) ++
    (List.range 4).flatMap (fun ch => (c.canChAt ch).queue.filterMap (fun o => (c.canObjAt (objAt ch o)).txPend.map (fun f => [6, ch, o] ++ f.map (·.toNat)))) ++
    (c.pat.canObj.filter (fun e => e.2.cyclic && e.2.tx)).map (fun e => [8, e.1 / 512, e.1 % 512, (c.canObjAt e.1).phase]) ++
    (List.range 2).map (fun f => [7, f, c.get F.FI_FS_STAT_SEQ f] ++ (List.range 4).map (fun b => c.fsOut (f * 4 + b)))
  gear ++ arms ++ lanes ++ rest
/-- The owed SNAPSHOT records of a grid leave (R380). -/
def Core.sendSnapshots (c : Core) (p : Nat) : Core :=
  if !c.twin.snapOwed.contains p then c
  else (c.snapshotBodies p).foldl (fun c b => c.mirror 6 b) { c with twin := { c.twin with snapOwed := c.twin.snapOwed.filter (fun q => q ≠ p) } }
/-- The SLOT records of virtual and step slots (R368). -/
def Core.sendVirtual (c : Core) : Core := foldN (c.usedSlots.filter (fun k => !c.hasContext k)) c (fun c k => c.mirror 2 (c.slotBody k false false false))
/-- The records that a frame start sends (R368), the owed SNAPSHOT records of its grid among them (R380). -/
def Core.frameRecords (c : Core) (p : Nat) : Core :=
  let c := c.sendSnapshots p
  let c := c.mirror 3 (c.gridBody p)
  let c := foldN ((c.gridGroups p).filter (fun g => c.bridle.own.getLsbD g)) c (fun c g => c.mirror 4 (c.groupBody g))
  if c.carriesVirtual p then c.sendVirtual else c
/-- Where no grid carries them, the SLOT records of virtual and step slots leave every 62.5 µs: with the first link tick of each such period (R368). -/
def Core.tickRecords (c : Core) : Core :=
  if c.carrier.isNone && c.netNs / 62500 ≠ (c.netNs - 10000) / 62500 then (c.sendSnapshots 6).sendVirtual else c
/-- What the start of a frame due at profile time `due` does (Table 1.5, steps 1–3). -/
def Core.frameStart (c : Core) (ram : Ram) (p : Nat) (samples : List LaneInput) (due : Int) : Core :=
  let c := c.flushOwed ram p
  let t := if c.isStandby then due else c.frameAt p due
  let c := if c.isStandby then c else c.gridAdvance p due
  let c := c.setGrid p { c.gridAt p with stampT := t, stampNet := t + c.time.stepSum, stampEpoch := c.get F.NT_STAT_EPOCH 0 }
  let g := c.gridAt p
  let lanes := c.gridLanes p
  let groups := c.gridGroups p
  let all := (List.range 96).filter (fun l => groups.contains (laneGroup l))
  let c := foldN all c (fun c l => c.laneRearm l)
  let samples := (samples.filter (fun s => groups.contains (laneGroup s.lane))).map c.laneWords
  let c := samples.foldl (fun c s => match c.laneSlot s.lane with | some k => c.sendWords (0x10 + laneGroup s.lane) (c.hostEngine k) [s.u ++ s.v, s.w ++ s.dc] | none => c) c
  let ran (lane : Nat) : List Rat × Nat := periodLens (c.pat.group (laneGroup lane)).pwmDiv (periodNs p) g.prevPlan g.prevLen
  let c := samples.foldl (fun c s => c.laneSample (ran s.lane).1 (ran s.lane).2 s) c
  let c := foldN (all.filter (fun l => isSLane l && l % 4 = 0)) c (fun c l => c.spillHolds l (ran l).1)
  let c := c.samplePorts ram p t
  let ks := c.gridSlots p
  let c := foldN ks c (fun c k => ((c.latchParams k).applyCommit k).trackActual k t)
  let c := foldN groups c (fun c q => c.groupFrame q t)
  let c := foldN ks c (fun c k => ((c.estFrame k (periodNs p / 2)).refreshHold k t).trackActual k t)
  let c := foldN lanes c (fun c l => ((c.laneMiss l).loadDuties l).placeEdges l g.len)
  let c := foldN ks c Core.snapshot
  let c := foldN (c.gridEngines p) c (fun c e => (c.sendPulse 0x26 e 0).setEng e { c.engAt e with done := false })
  let c := c.canCyclic p
  let c := c.frameRecords p
  c.tryQuery ram
/-- A running grid opens its next frame once its running engines have completed the frame and its start is due (R276). A Standby's grid follows the Lead's (R286). -/
def Core.mayOpen (c : Core) (p : Nat) (now : Int) : Bool :=
  c.isStandby || !(c.gridAt p).running ||
    (decide (c.frameAt p (c.openAt p) ≤ now) && (c.gridEngines p).all (fun e => !c.engRuns e || (c.engAt e).done))
/-- Frames start while the time island runs, and the scheduler too or, after its failure, on its last schedule (R27, Table 1.6). -/
def Core.framesRun (c : Core) : Bool := c.runs 0x22 && (c.runs 0x26 || c.islState 0x26 = 5)
/-- FRAME_START (R276–R280, Table 1.5): `samples` are what the lanes' converters deliver. A frame that may not open yet does not (R276). -/
def execFrameStart (s : State) (grid : Nat) (samples : List LaneInput) : Host.Outcome State Fault Refusal := inRange "grid" grid 6 (onMem s (fun ram c =>
  if !c.gridUsed grid || !c.framesRun || !c.pat.valid || (c.isStandby && !(c.gridAt grid).running) || !c.mayOpen grid c.profNs then c
  else c.frameStart ram grid samples (c.openAt grid)))

/-! ### An engine's frame (R180, R181, R272, R273) -/

/-- The ring entry of a sensorless slot in a frame whose context did not run: the estimate advanced by its last speed, marked DECIM (R260). -/
def Core.ringSensorless (c : Core) (ram : Ram) (k : Nat) (len : Nat) (ran : Bool) : Core :=
  let r := c.pat.slot k
  let x := c.ctxAt k
  if r.kind ≠ 1 || !r.sensorless || !x.actKnown then c
  else
    let v : F32 := x.actVel
    let step : Int := if ran || !v.finite then 0 else ratTrunc (v.toRat * (len : Rat) / 1000000000 * 65536)
    let c := c.setCtx k { x with actPos := x.actPos + step }
    let g := c.gridAt (c.slotPeriod k)
    c.ringWrite ram k g.stampNet g.stampEpoch (x.actPos + step) false false (!ran)
/-- A slot's context in its engine's frame, at place `q` of the dispatch list: run, decimated, or not dispatched in STO. -/
def Core.dispatch (c : Core) (ram : Ram) (p q k : Nat) : Core :=
  let g := c.gridAt p
  let d := c.ratio k g.level
  if c.slotSto k then c
  else
    let c := c.set F.AX_STAT_DECIM k (Nat.log2 d)
    if (c.reg R.BS_FCNT p).toNat % d = q % d then
      let c := c.runContext ram k g.start g.prevLen
      (c.ringSensorless ram k g.prevLen true).mirror 2 (c.slotBody k (c.bit F.AX_STAT_LATE k) false false)
    else (c.ringSensorless ram k g.prevLen false).mirror 2 (c.slotBody k (c.bit F.AX_STAT_LATE k) false true)
/-- A context at place `q` of an engine's dispatch list runs in the frame (R273); one of a group in STO is not dispatched. -/
def Core.runsNow (c : Core) (p q k : Nat) : Bool := !c.slotSto k && (c.reg R.BS_FCNT p).toNat % c.ratio k (c.gridAt p).level == q % c.ratio k (c.gridAt p).level
/-- The order of dispatch: class A, then B, then C, each in list order; every entry with its place in the list (R272). -/
def Core.dispatchOrder (c : Core) (e : Nat) : List (Nat × Nat) :=
  let l := (c.engAt e).ctx
  let at_ := (List.range l.length).map (fun i => (i, l.getD i 0))
  [1, 2, 3].flatMap (fun cls => at_.filter (fun e => (c.pat.slot e.2).cls == cls))
/-- A self-check fails (R181): the engine's lanes repeat their duties, what its contexts computed in the frame, loop state, transmit data and estimator, is taken back to the frame start, and it is fenced. -/
def Core.checkFail (c : Core) (ram : Ram) (e p cause : Nat) : Core :=
  let g := c.gridAt p
  let c := (c.setBit F.ST_CHECK_FAILED e true).set F.ST_CHECK_CAUSE e cause
  let ks := (c.engAt e).ctx.filter (fun k => !c.slotSto k)
  let c := foldN ks c (fun c k => (c.restoreSnap k).estRepeat k)
  let c := foldN ks c (fun c k => (c.ringSensorless ram k g.prevLen false).mirror 2 (c.slotBody k false true false))
  c.fence e
/-- A context of a group out of STO waits for the reading of a serial port that a slot of its group names (R233). -/
def Core.contextWaits (c : Core) (k : Nat) : Bool :=
  !c.slotSto k && (match c.slotGroup k with | some g => (c.groupSlots g).any c.readingDue | none => c.readingDue k)
/-- ENGINE_DISPATCH (R180, R181, R272): the opening canary, the contexts and the closing canary of an engine in its grid's frame; `busyNs` is the time they take. An engine of no grid only runs its canary. While a context waits for a reading of its frame, the engine is not dispatched (R233). A context that ran has read one copy of its place and written the other (R119). -/
def execEngineDispatch (s : State) (e : Nat) (canary : Canary) (busyNs : Nat) : Host.Outcome State Fault Refusal := inRange "engine" e 16 (onMem s (fun ram c =>
  let p := c.get F.BS_ENG_STAT_PERIOD e
  if !c.engRuns e || Tab.get 0 c.woken e ≠ 0 || (p < 6 && (c.engAt e).done) || (c.engAt e).ctx.any c.contextWaits then c
  else
    let injected := c.bit F.ST_CHECK_INJECT e
    let c := c.setBit F.ST_CHECK_INJECT e false
    if injected then (c.logFrom 0x26 0x0204 e 0).checkFail ram e p 1
    else if canary = .openFail then c.checkFail ram e p 1
    else
      let order := if c.dispatches then c.dispatchOrder e else []
      let ran := (order.filter (fun x => c.runsNow p x.1 x.2)).map (·.2)
      let c := order.foldl (fun c x => c.dispatch ram p x.1 x.2) c
      match canary with
      | .closeFail => c.checkFail ram e p 2
      | .contextEcc => c.checkFail ram e p 3
      | _ =>
        let frame := c.engFrame e
        let c := foldN ran (c.addSat F.ST_CHECK_PASSES e 1) (fun c k => c.setCtx k { c.ctxAt k with copyB := !(c.ctxAt k).copyB })
        let c := c.set F.BS_ENG_STAT_BUSY e (Min.min 0xFFFF (busyNs * 1000 / frame))
        let c := c.setEng e { c.engAt e with done := true, doneAt := c.profNs + busyNs }
        c.orderLower e))

/-! ### The link tick -/

/-- LATIGO_TICK (R365, R366, R367, R375): the next SEQ, and on a trained link the tick's frame with its HEARTBEAT, TRAIN during training, or the ordered set of the role. A copy of a HANDOVER record carries the SEQ of the first. -/
def execLatigoTick (s : State) : Host.Outcome State Fault Refusal := onCore s (fun c =>
  if !c.runs 0x23 then c
  else
    let c := c.addWrap F.TW_SEQ_SEQ 0 1
    let role := c.get F.TW_ROLE_ROLE 0 + (if c.twin.handover.isSome then 64 else 0) + (if c.get F.RST_STUCK_BUTTON_STUCK 0 + c.get F.RST_STUCK_PIN_STUCK 0 ≠ 0 then 128 else 0)
    if c.trained then
      let c := c.tickRecords
      let at_ := (c.twin.release.getD 0) + c.time.stepSum
      let c := match c.twin.copies with
        | 0 => c
        | n + 1 =>
          let first := if n = 3 then (c.reg R.TW_SEQ 0).toNat else c.twin.firstSeq
          ({ c with twin := { c.twin with copies := n, firstSeq := first } }).latigo 8 [0, first, (at_.fdiv 1000000000).toNat % 2 ^ 32, (at_.fmod 1000000000).toNat]
      c.sendFrame [role, (c.reg R.TW_INCARN 0).toNat, c.get F.MG_IMG_LINK_LINK_VER c.runBank, c.get F.TW_NOTREADY_CAUSES 0, (c.netNs % 2 ^ 32).toNat]
    else if c.link = 3 then c.emit (.ordered 0x30)
    else if (c.reg R.TW_SEQ 0).toNat % 10 = 0 then c.emit (.ordered (if c.isLead then 0x22 else 0x21))
    else c)

end Sys2Proof.Machine
end

