-- ==== Sys2Proof/Machine/RegWrite.lean ====
section
/-! DEFINITION. What a write does at each register that tunes or commands the running structure (R3, R5): clamps, refusals and commands; any other register stores its fields. The loader's preloads use it too (R44). -/
namespace Sys2Proof.Machine

/-- A handler of a register's write: the instance, the word its stored fields take, and the bits the write acts on. -/
abbrev Handler := Core → Ram → Nat → Word → Word → Core

/-- Replaces a field that reads 0 in a word. -/
def nonzero (f : Fld) (v : Nat) (w : Word) : Word := if f.read w = 0 then f.write w v else w
/-- Holds a field of a word within bounds. -/
def within (f : Fld) (lo hi : Nat) (w : Word) : Word := f.write w (Max.max lo (Min.min hi (f.read w)))
/-- A register whose words are adjusted and stored. -/
def adjust (r : Reg) (f : Word → Word) : Handler := fun c _ i w _ => c.setReg r i (f w)
/-- A field is in the bits that a write acts on, with value 1. -/
def acts (f : Fld) (act : Word) : Bool := f.read act = 1

/-- The gains, limits and parameters of R187 and R222. -/
def paramRegs : List Reg :=
  [R.AX_KPP, R.AX_KVFF, R.AX_VLIM, R.AX_KPV, R.AX_KIV, R.AX_ILIM, R.AX_KAFF, R.AX_KPI, R.AX_KII, R.AX_VMOD, R.AX_VBUS_NOM, R.AX_FRIC_VDB, R.AX_TB_GAIN,
   R.AX_FERR_LIM, R.AX_INPOS_WIN, R.AX_MOT_RS, R.AX_MOT_LD, R.AX_MOT_LQ, R.AX_MOT_FLUX, R.AX_SL_HFI_V, R.AX_SL_VLO, R.AX_SL_VHI, R.AX_PA_WSTART, R.AX_PA_WSTEP]
/-- Handlers of the AX_ block. -/
def axHandlers : List (Reg × Handler) :=
  paramRegs.map (fun r => (r, fun c _ k w _ => c.writeParam k r w))
  ++ [R.AX_VMAX, R.AX_ACCEL, R.AX_DECEL, R.AX_SS1_DEC].map (fun r => (r, fun c _ k w _ => c.writeLimit k r w))
  ++ [(R.AX_CMD, fun c _ k _ act => c.writeCmd k (F.AX_CMD_CMD.read act)),
      (R.AX_SCALE_DEN, fun c _ k w _ => c.writeScaleDen k w),
      (R.AX_LCFG, fun c _ k w _ => c.writeLcfg k (fun c => c.setReg R.AX_LCFG k w)),
      (R.AX_INPOS_CFG, adjust R.AX_INPOS_CFG (nonzero F.AX_INPOS_CFG_RUNS 1)),
      (R.AX_COEF_CTRL, fun c _ k w act => c.writeCoefCtrl k (F.AX_COEF_CTRL_COMMIT.write w (F.AX_COEF_CTRL_COMMIT.read act))),
      (R.AX_COEF_DATA, fun c _ k w _ => c.writeCoefData k w),
      (R.AX_COMM, adjust R.AX_COMM (nonzero F.AX_COMM_POLE_PAIRS 1)),
      (R.AX_SL_CFG, adjust R.AX_SL_CFG (nonzero F.AX_SL_CFG_IPD_T 1)),
      (R.AX_SL_BW, adjust R.AX_SL_BW (fun w => nonzero F.AX_SL_BW_OBS_BW 1 (nonzero F.AX_SL_BW_HFI_BW 1 w))),
      (R.AX_PA_DATA, fun c _ k w _ => c.writePaData k w)]
/-- Handlers of the LN_, LG_ and FB_ blocks. -/
def laneHandlers : List (Reg × Handler) :=
  [(R.LN_CFG, adjust R.LN_CFG (within F.LN_CFG_DEAD 640 32000)),
   (R.LN_CTRL, fun c _ l _ act => if acts F.LN_CTRL_CLEAR act then c.laneClear l else c),
   (R.LN_SHUNT_CFG, adjust R.LN_SHUNT_CFG (nonzero F.LN_SHUNT_CFG_MISS_MAX 1)),
   (R.LG_STO_REQ, fun c _ _ _ act => c.hostSto (F.LG_STO_REQ_MASK.read act)),
   (R.LG_SS1_REQ, fun c _ _ _ act => c.hostSs1 (F.LG_SS1_REQ_MASK.read act)),
   (R.LG_RELEASE, fun c _ _ _ act => c.release (F.LG_RELEASE_MASK.read act)),
   (R.FB_CFG, adjust R.FB_CFG (nonzero F.FB_CFG_ERR_MAX 1)),
   (R.FB_CPR, fun c _ p w _ => c.writeCpr p w),
   (R.FB_SPD_CFG, adjust R.FB_SPD_CFG (fun w => nonzero F.FB_SPD_CFG_TRK_BW 1 (within F.FB_SPD_CFG_N_SW 2 255 w))),
   (R.FB_SER, fun c _ p w _ => c.writeSer p w),
   (R.FB_SER_T, adjust R.FB_SER_T (fun w => nonzero F.FB_SER_T_MONO_US 1 (nonzero F.FB_SER_T_ACK_US 1 w))),
   (R.FB_RES, fun c _ p w _ => c.writeRes p (within F.FB_RES_EXC_AMP 0 0x8C w)),
   (R.Q_CFG, fun c _ q w _ => c.writeQCfg q w),
   (R.FB_CTRL, fun c _ p _ act =>
     let c := if acts F.FB_CTRL_REF_OK act then c.setBit F.FB_STAT_REF_LOST p false else c
     if acts F.FB_CTRL_CLEAR act then (let (w, c) := c.fresh; c.portClear p (w.getLsbD 0)) else c)]
/-- Handlers of the profile and time islands' blocks. -/
def timeHandlers : List (Reg × Handler) :=
  [(R.IG_CTRL, fun c _ g _ act => c.writeIgCtrl g (acts F.IG_CTRL_GO act) (acts F.IG_CTRL_STOP act)),
   (R.IG_CFG, fun c _ g w _ => c.writeIgCfg g w),
   (R.GR_NUM, fun c _ k w _ => c.writeRatio k false w),
   (R.GR_DEN, fun c _ k w _ => c.writeRatio k true w),
   (R.SP_CFG, fun c _ g w _ => c.writeSpCfg g w),
   (R.NT_ADJ, fun c _ _ w _ => c.writeAdj w.toInt),
   (R.NT_CTRL, fun c _ _ _ act => if acts F.NT_CTRL_SET act then c.ntSet else c),
   (R.NT_PTP_CFG, fun c _ _ w _ => (c.setReg R.NT_PTP_CFG 0 w).bmca),
   (R.CP_DI_STAT, fun c _ n _ act =>
     let c := if acts F.CP_DI_STAT_OVERRUN act then c.setBit F.CP_DI_STAT_OVERRUN n false else c
     if acts F.CP_DI_STAT_POP act then c.diPop n else c),
   (R.CP_ARM, fun c _ k w _ => c.captureArm k w),
   (R.CP_Q_CTRL, fun c ram _ w act => let c := c.setReg R.CP_Q_CTRL 0 w; if acts F.CP_Q_CTRL_GO act then c.queryGo ram else c),
   (R.FI_DI_CFG, fun c _ n w _ => (c.setReg R.FI_DI_CFG n w).refreshLimits),
   (R.FI_DO_CMD, fun c _ i w _ => c.writePoints R.FI_DO_CMD i 1 0 w),
   (R.FI_FS_OUT, fun c _ i w _ => c.writePoints R.FI_FS_OUT i 3 (i * 16) w),
   (R.FI_DO_CTRL, fun c _ _ _ act => let (w, c) := c.fresh; c.doClear (F.FI_DO_CTRL_CLEAR.read act) (w.toNat % 256)),
   (R.FI_FS_CFG, adjust R.FI_FS_CFG (nonzero F.FI_FS_CFG_MISS_MAX 1))]
/-- Handlers of the memory, scheduler, network and stitch blocks. -/
def netHandlers : List (Reg × Handler) :=
  [(R.AR_STARVE_THR, adjust R.AR_STARVE_THR (fun w => nonzero F.AR_STARVE_THR_THR_LO 1 (nonzero F.AR_STARVE_THR_THR_HI 1 w))),
   (R.AR_SCRUB, adjust R.AR_SCRUB (nonzero F.AR_SCRUB_PERIOD 1)),
   (R.AR_RETAIN, fun c _ _ w act =>
     let c := if acts F.AR_RETAIN_REFUSED act then c.setBit F.AR_RETAIN_REFUSED 0 false else c
     if 3 < (bitsOf 15 (F.AR_RETAIN_MASK.read w)).length then c.setBit F.AR_RETAIN_REFUSED 0 true else c.set F.AR_RETAIN_MASK 0 (F.AR_RETAIN_MASK.read w)),
   (R.BS_CFG, fun c _ _ w _ => (c.setReg R.BS_CFG 0 (nonzero F.BS_CFG_HOLD 1 w)).reneed),
   (R.BS_HEAT, adjust R.BS_HEAT (fun w => nonzero F.BS_HEAT_RTH_JP 1 (within F.BS_HEAT_TDIE_TGT 60 120 w))),
   (R.ST_CHECK, fun c _ e _ act => if acts F.ST_CHECK_INJECT act then c.inject e else c),
   (R.CN_CFG, adjust R.CN_CFG (fun w => within F.CN_CFG_NSP 50 90 (within F.CN_CFG_DSP 50 90 w))),
   (R.CN_CTRL, fun c _ ch _ act =>
     let c := if acts F.CN_CTRL_RECOVER act then c.canRecoverCh ch else c
     if acts F.CN_CTRL_RESTART act then c.canRestartCh ch else c),
   (R.CN_OBJ_W3, fun c _ i _ act => if acts F.CN_OBJ_W3_TX_REQ act then c.canTxWrite (i / 512) (i % 512) else c),
   (R.CN_OBJ_DATA, fun c _ i w _ => c.canStage (i / 16 / 512) (i / 16 % 512) (i % 16 + 4) w),
   (R.TW_CFG, adjust R.TW_CFG (nonzero F.TW_CFG_SOLO_WAIT 1)),
   (R.TW_CTRL, fun c _ _ _ act => if acts F.TW_CTRL_REQ act then c.handoverWrite else c)]
/-- The handlers of every register whose write is more than storing and clearing. -/
def handlers : List (Reg × Handler) := axHandlers ++ laneHandlers ++ timeHandlers ++ netHandlers

/-- A field of an FB_ register applies to a port's type (R246) where the rule that gives the field its meaning names the type; where it does not, it reads 0 and discards writes. -/
def portFieldApplies (r : Reg) (f : FldDesc) (t : Nat) : Bool :=
  let here (x : Fld) : Bool := r.id = x.reg.id && f.lsb = x.lsb
  if r.base / 0x10000 ≠ 0x4030 || t = 0 then true
  else if r.id = R.FB_CFG.id then (!here F.FB_CFG_SLEEP_RUN || 3 ≤ t) && (!here F.FB_CFG_FILT || t ≠ 6)
  else if r.id = R.FB_SPD_CFG.id then !here F.FB_SPD_CFG_N_SW || t ≤ 2
  else if r.id = R.FB_SER.id then serialType t && (!here F.FB_SER_CRC || t = 5) && (!here F.FB_SER_PARITY || t ≠ 5)
  else if r.id = R.FB_SER_T.id then serialType t && (!here F.FB_SER_T_ACK_US || t = 5)
  else if r.id = R.FB_JUMP.id then serialType t
  else if r.id = R.FB_RES.id then t = 6
  else if r.id = R.FB_ZERO_T.id then t = 1 || t = 2
  else true
/-- Every field of a register applies to its port's type. -/
def Core.portRegApplies (c : Core) (r : Reg) (p : Nat) : Bool := r.base / 0x10000 ≠ 0x4030 || r.flds.all (fun f => portFieldApplies r f (c.portType p))
/-- The bits of a port's register whose fields apply to the port's type. -/
def Core.portMask (c : Core) (r : Reg) (p : Nat) : Word := if c.portRegApplies r p then 0xFFFFFFFF else r.accMask (fun f => portFieldApplies r f (c.portType p))
/-- The instance belongs to a slot that the pattern does not use: it has no register effect (R19). -/
def Core.unusedSlotReg (c : Core) (r : Reg) (i : Nat) : Bool := r.base / 0x10000 = 0x4010 && (c.pat.slot i).kind = 0
/-- A host-only transmit object, whose data words are writable (R309). -/
def Core.hostTx (c : Core) (i : Nat) : Bool := let o := Tab.get {} c.pat.canObj i; o.present && o.tx && o.slot = 0xFF
/-- The bits of a register that a write may store: RW, and RWX with `expert` set. A data word is writable in a host-only transmit object only. -/
def Core.storeMask (c : Core) (r : Reg) (i : Nat) (expert : Bool) : Word :=
  if r.id = R.CN_OBJ_DATA.id then (if c.hostTx (i / 16) then 0xFFFFFFFF else 0)
  else r.accMask (fun f => f.acc = .rw || (expert && f.acc = .rwx))
/-- The bits of a register that a write acts on without storing them. -/
def Reg.actMask (r : Reg) : Word := r.accMask FldDesc.acting
/-- Applies a write of `v` whose bits in `store` are stored and in `act` act (R3, R5): W1C bits clear; a register with a handler follows it. `old` is the word that the unwritten stored fields keep. -/
def Core.applyWrite (c : Core) (ram : Ram) (r : Reg) (i : Nat) (v store act : Word) : Core :=
  if c.unusedSlotReg r i then c
  else
    let store := store &&& c.portMask r i
    let act := act &&& c.portMask r i
    let old := c.reg r i
    let w := (old &&& ~~~store) ||| (v &&& store)
    let bits := v &&& (store ||| act)
    match handlers.find? (fun h => h.1.id == r.id) with
    | some h => if store = 0 && bits = 0 then c else h.2 c ram i w bits
    | none => c.setReg r i (w &&& ~~~(v &&& act &&& r.accMask (fun f => f.acc = .w1c)))
/-- Writes a 64-bit quantity whole. -/
def Core.writeQuad (c : Core) (lo hi : Reg) (i : Nat) (l h : Word) : Core :=
  if c.unusedSlotReg lo i then c
  else if lo.id = R.AX_TARGET_LO.id then c.writeTarget i (h ++ l : BitVec 64).toInt
  else (c.setReg lo i l).setReg hi i h
/-- A write of a word by a path at a register of a 64-bit quantity (R4), or of an ordinary one. -/
def Core.pathWrite (c : Core) (ram : Ram) (p : Path) (r : Reg) (i : Nat) (v store act : Word) : Core :=
  let writableQuad (lo : Reg) : Bool := lo.flds.any FldDesc.stored
  match highOf r with
  | some _ =>
    if writableQuad r then { c with pendLow := (c.pendLow.filter (fun e => !(e.1 = p && e.2.1 = (⟨r, i⟩ : Loc).addr))) ++ [(p, (⟨r, i⟩ : Loc).addr, v)] }
    else c
  | none =>
    match lowOf r with
    | some lo =>
      if !writableQuad lo then c
      else
        let a := (⟨lo, i⟩ : Loc).addr
        let l := match c.pendLow.find? (fun e => e.1 = p && e.2.1 = a) with | some e => e.2.2 | none => c.reg lo i
        let c := { c with pendLow := c.pendLow.filter (fun e => !(e.1 = p && e.2.1 = a)) }
        c.writeQuad lo r i l v
    | none => c.applyWrite ram r i v store act
/-- Discards every pending low word of a path that ends (R4). -/
def Core.endPath (c : Core) (p : Path) : Core := { c with pendLow := c.pendLow.filter (fun e => e.1 ≠ p), hold := c.hold.filter (fun e => e.1 ≠ p) }

/-! ### Preloads (R43, R44) -/

/-- The command fields that a preload never acts on (Table 2.11). -/
def commandFields : List Fld := [F.TW_CTRL_REQ, F.ST_CHECK_INJECT, F.NT_CTRL_SET, F.AX_COEF_CTRL_COMMIT, F.CP_ARM_ARM]
/-- Writes one preload as the loader does (R44): RW and RWX fields but the command fields. -/
def Core.preload (c : Core) (ram : Ram) (addr : Nat) (v : Word) : Core :=
  match locAt addr with
  | none => c
  | some l =>
    if l.reg.id = R.AX_TARGET_LO.id || l.reg.id = R.AX_TARGET_HI.id then c
    else
      let cmds := (commandFields.filter (fun f => f.reg.id == l.reg.id)).foldl (fun m f => m ||| maskAt f.lsb f.width) 0
      let store := c.storeMask l.reg l.inst true &&& ~~~cmds
      if l.reg.id = R.CP_ARM.id then c.setReg R.CP_ARM l.inst ((c.reg R.CP_ARM l.inst &&& ~~~store) ||| (v &&& store))
      else c.pathWrite ram .tansy l.reg l.inst v store 0

end Sys2Proof.Machine
end

