-- ==== Sys2Proof/Machine/Patterns.lean ====
section
/-! DEFINITION. Pattern images: their records (R29–R43), the structure they build, and the checks of Table 2.8 (R45–R47). -/
namespace Sys2Proof.Machine

/-! ### Bytes and records -/

/-- A byte of a list. -/
def u8 (b : List Byte) (o : Nat) : Nat := (b.getD o 0).toNat
/-- A little-endian number of `n` bytes at an offset (R1). -/
def uN (n : Nat) (b : List Byte) (o : Nat) : Nat := natOfBytes ((b.drop o).take n)
/-- A binary32 value at an offset. -/
def f32At (b : List Byte) (o : Nat) : F32 := BitVec.ofNat 32 (uN 4 b o)
/-- Bytes at some offsets are all 0. -/
def zeros (b : List Byte) (os : List Nat) : Bool := os.all (fun o => u8 b o == 0)
/-- Offsets from `a` on, `n` of them. -/
def span (a n : Nat) : List Nat := (List.range n).map (· + a)

/-- A record of an image (Table 2.2): its place in the order, its offset, header fields and body. -/
structure Rec where
  idx : Nat
  off : Nat
  type : Nat
  isl : Nat
  rsvd : Nat
  len : Nat
  body : List Byte
deriving DecidableEq, Repr

/-- Walks the records from an offset to a limit; the second part is the record that runs past it. Bytes at the end too short for a record header count as such a record, under its would-be index: DESIGN CHOICE, entry 166. -/
def walk : Nat → Nat → Nat → Nat → List Byte → List Rec × Option Nat
  | 0, _, _, _, _ => ([], none)
  | n + 1, idx, off, limit, b =>
    if limit ≤ off then ([], none)
    else if limit < off + 8 then ([], some idx)
    else
      let len := uN 4 b 4
      let r : Rec := { idx := idx, off := off, type := uN 2 b 0, isl := u8 b 2, rsvd := u8 b 3, len := len, body := (b.drop 8).take len }
      if limit < off + 8 + len then ([], some idx)
      else
        let (rs, e) := walk n (idx + 1) (off + 8 + len) limit (b.drop (8 + len))
        (r :: rs, e)
/-- TOTAL_LEN of an image. -/
def totalLen (img : List Byte) : Nat := uN 4 img 8
/-- The records of an image and the record that runs past TOTAL_LEN. -/
def records (img : List Byte) : List Rec × Option Nat :=
  let t := Min.min (totalLen img) 0x400000
  walk (t / 8 + 1) 0 64 t (img.drop 64)

/-- The body size of Table 2.4 for a record; none for an unknown TYPE. -/
def bodySize (r : Rec) : Option Nat :=
  match r.type with
  | 1 => some 8 | 2 => some 16 | 3 => some 4 | 4 => some 4100 | 5 => some 4 | 6 => some 20 | 7 => some 24
  | 8 => some (4 + 4 * uN 2 r.body 0) | 9 => some 8 | 10 => some 328 | 11 => some (4 + 8 * uN 2 r.body 0) | 15 => some 72
  | _ => none
/-- The RSVD bytes of a body (R29). -/
def rsvdBytes (type : Nat) : List Nat :=
  match type with
  | 1 => [2, 3] | 2 => [14, 15] | 3 => [3] | 4 => [2, 3] | 5 => [3] | 6 => [3] | 7 => [21, 22, 23] | 8 => [2, 3] | 9 => [1, 4, 5, 6, 7]
  | 10 => [5, 6, 7] ++ (List.range 16).flatMap (fun g => [22 + 16 * g, 23 + 16 * g])
  | 11 => [2, 3] | 15 => span 3 5 | _ => []
/-- The index of a record within its type (Table 2.12). -/
def recKey (r : Rec) : Option Nat :=
  match r.type with
  | 1 => some (u8 r.body 0)
  | 2 => some (u8 r.body 0 * 65536 + uN 2 r.body 4)
  | 3 => some (u8 r.body 0)
  | 4 => some (u8 r.body 0)
  | 5 => some r.isl
  | 6 => some r.isl
  | 7 => some (u8 r.body 0)
  | _ => none
/-- The order within a type: the index, or for PRELOAD the ISLAND. -/
def orderKey (r : Rec) : Nat := if r.type = 11 then r.isl else (recKey r).getD 0

/-! ### Building the structure -/

/-- A CAN_CH record's fields. -/
def canChOf (b : List Byte) : CanChRec := { mode := u8 b 1, nom := uN 2 b 4, data := uN 2 b 6 }
/-- A CAN_OBJ record's fields. -/
def canObjOf (b : List Byte) : CanObjRec :=
  let fl := u8 b 2
  { present := true, tx := u8 b 1 == 1, fdf := fl.testBit 0, brs := fl.testBit 1, ide := fl.testBit 2, cyclic := fl.testBit 3, dlc := u8 b 3, slot := u8 b 6, layout := u8 b 7, id := uN 4 b 8, cycle := uN 2 b 12 }
/-- A GROUP record's fields. -/
def groupOf (b : List Byte) : GroupRecP := { present := true, period := u8 b 0, pwmDiv := u8 b 1, decim := u8 b 2 }
/-- An ENGINE record's fields. -/
def engineOf (b : List Byte) : EngineRec :=
  { present := true, period := u8 b 0, nctx := u8 b 1, handover := u8 b 2 == 1, ctx := (span 4 (Min.min 16 (u8 b 1))).map (u8 b) }
/-- A SLOT record's fields. -/
def slotOf (isl : Nat) (b : List Byte) : SlotRecP :=
  { kind := u8 b 1, template := u8 b 2, cls := u8 b 3, res := uN 2 b 4, rx := uN 2 b 6, fb1 := u8 b 8, fb2 := u8 b 9, dcMode := u8 b 10 == 1,
    sensorless := (u8 b 11).testBit 0, decouple := (u8 b 11).testBit 1, velDiv := u8 b 12, posDiv := u8 b 13, tbFric := u8 b 14, tbCog := u8 b 15, ff := u8 b 16,
    gearKind := u8 b 17, gearMaster := u8 b 18, ig := u8 b 19, period := u8 b 20, island := isl }
/-- The entries of an IO_MAP record. -/
def ioOf (b : List Byte) : List IoEntry := (List.range (uN 2 b 0)).map (fun i => { kind := u8 b (4 + 4 * i), index := u8 b (5 + 4 * i), func := u8 b (6 + 4 * i), arg := u8 b (7 + 4 * i) })
/-- A group entry of the SAFETY record. -/
def safetyOf (b : List Byte) (g : Nat) : SafetyGroup :=
  let o := 8 + 16 * g
  { lim1 := f32At b o, lim2 := f32At b (o + 4), lim3 := f32At b (o + 8), monSlot := u8 b (o + 12), brk := u8 b (o + 13) }
/-- The entries of a PRELOAD record with its ISLAND. -/
def preloadsOf (r : Rec) : List (Nat × Nat × Word) := (List.range (uN 2 r.body 0)).map (fun i => (r.isl, uN 4 r.body (4 + 8 * i), BitVec.ofNat 32 (uN 4 r.body (8 + 8 * i))))
/-- Adds one record to a structure. -/
def Pattern.add (p : Pattern) (r : Rec) : Pattern :=
  let b := r.body
  match r.type with
  | 1 => { p with canCh := Tab.set {} p.canCh (u8 b 0) (canChOf b) }
  | 2 => { p with canObj := Tab.set {} p.canObj (u8 b 0 * 512 + uN 2 b 4) (canObjOf b) }
  | 3 => { p with ports := Tab.set {} p.ports (u8 b 0) { type := u8 b 1, src := u8 b 2 } }
  | 4 => { p with tables := Tab.set 0 p.tables (u8 b 0) (15 * 0x400000 + r.off + 12), tableKind := Tab.set 0 p.tableKind (u8 b 0) (u8 b 1) }
  | 5 => { p with groups := Tab.set {} p.groups (r.isl - 0x10) (groupOf b) }
  | 6 => { p with engines := Tab.set {} p.engines r.isl (engineOf b) }
  | 7 => { p with slots := Tab.set {} p.slots (u8 b 0) (slotOf r.isl b) }
  | 8 => { p with ioMap := ioOf b }
  | 9 => { p with hot := u8 b 0 == 1, groupMask := uN 2 b 2 }
  | 10 => { p with sealExpect := BitVec.ofNat 40 (uN 5 b 0), safety := (List.range 16).foldl (fun t g => Tab.set {} t g (safetyOf b g)) [] }
  | 11 => { p with preloads := p.preloads ++ preloadsOf r }
  | _ => p
/-- The structure that an image builds. -/
def patternOf (img : List Byte) : Pattern :=
  let p : Pattern := { valid := true, id := uN 4 img 0x14, ver := uN 4 img 0x18, allowRelace := (uN 4 img 0x1C).testBit 1 }
  (records img).1.foldl Pattern.add p
/-- SHA-256 of an image. -/
def digestOf (img : List Byte) : List Byte := Crypto.sha256 (img.take (totalLen img))
/-- The digest per island code over that island's records (R49). -/
def islandDigests (img : List Byte) : List (Nat × List Byte) :=
  let rs := (records img).1
  let codes := (rs.map Rec.isl).eraseDups
  codes.map (fun i => (i, Crypto.sha256 ((rs.filter (fun r => r.isl = i)).flatMap (fun r => (img.drop r.off).take (8 + r.len)))))

/-! ### The checks of Table 2.8 -/

/-- The result of a check: passed, or failed at a record, 0xFFFF where none fails. -/
abbrev Verdict := Option Nat
/-- The lowest-numbered record that fails a test, or 0xFFFF where another failure holds. -/
def verdict (rs : List Rec) (bad : Rec → Bool) (other : Bool) : Verdict :=
  match rs.find? bad with
  | some r => some r.idx
  | none => if other then some 0xFFFF else none
/-- Check 3, BAD_LENGTH. -/
def badLength (img : List Byte) : Verdict :=
  let (rs, past) := records img
  let t := totalLen img
  let header := 0x400000 < t || t < 64 || !zeros img (span 0x34 12) || (past.isNone && uN 4 img 0x0C ≠ rs.length)
  let bad (r : Rec) : Bool := r.len % 4 ≠ 0 || r.rsvd ≠ 0 || (match bodySize r with | some n => r.len ≠ n || !zeros r.body (rsvdBytes r.type) | none => false)
  match verdict rs bad false, past with
  | some i, _ => some i
  | none, some i => some i
  | none, none => if header then some 0xFFFF else none
/-- The key of a slot of Table 18.4, present or not. -/
def Core.keyOf (c : Core) (slot : Nat) : Option (List Byte) := let k := c.keyAt slot; if k.present then some k.key else none
/-- Check 6, BAD_SIGNATURE (R45). -/
def Core.badSignature (c : Core) (img : List Byte) (rs : List Rec) : Verdict :=
  match rs.getLast? with
  | none => some 0xFFFF
  | some r =>
    let good := r.type = 15 && uN 2 r.body 0 = 1 && u8 r.body 2 ≤ 3 &&
      (match c.keyOf (4 + u8 r.body 2) with | some k => Crypto.ecdsa k (r.body.drop 8) (Crypto.sha256 (img.take (totalLen img - 64))) | none => false)
    if good then none else some r.idx
/-- The greatest number of records of a type (Table 2.4); 0 for no bound. -/
def maxCount (type : Nat) : Nat :=
  match type with | 1 => 4 | 2 => 2048 | 3 => 64 | 4 => 64 | 5 => 16 | 6 => 16 | 7 => 128 | 8 => 1 | 9 => 1 | 10 => 1 | 15 => 1 | _ => 0
/-- Check 8, RECORD_ORDER (R32). -/
def recordOrder (rs : List Rec) : Verdict :=
  let prev (r : Rec) : Option Rec := rs.find? (fun q => q.idx + 1 == r.idx)
  let disorder (r : Rec) : Bool := match prev r with | none => false | some q => r.type < q.type || (r.type = q.type && orderKey r < orderKey q)
  let same (r : Rec) : List Rec := rs.filter (fun q => q.type == r.type)
  let excess (r : Rec) : Bool :=
    let m := maxCount r.type
    let before := (same r).filter (fun q => q.idx < r.idx)
    let keys := (same r).map (fun q => (recKey q).getD q.idx)
    m ≠ 0 && before.length = m && (keys.eraseDups.length = keys.length)
  verdict rs (fun r => disorder r || excess r) (!rs.any (fun r => r.type == 9) || !rs.any (fun r => r.type == 10) || !rs.any (fun r => r.type == 15))
/-- A code of Table 2.3. -/
def islandCode (i : Nat) : Bool := i ≤ 0x24 || i = 0x26 || i = 0x27 || i = 0xFF
/-- Check 9, UNKNOWN_RECORD. -/
def unknownRecord (r : Rec) : Bool :=
  match r.type with
  | 1 | 2 => r.isl ≠ 0x23
  | 3 => r.isl ≠ 0x20
  | 4 => r.isl ≠ 0x24
  | 5 => !(0x10 ≤ r.isl && r.isl ≤ 0x1F)
  | 6 => 0x0F < r.isl
  | 7 => let k := u8 r.body 1
    if k = 1 || k = 3 then 0x0F < r.isl else if k = 2 || k = 4 then r.isl ≠ 0x21 else !(r.isl ≤ 0x0F || r.isl = 0x21)
  | 8 | 9 | 15 => r.isl ≠ 0xFF
  | 10 => r.isl ≠ 0x27
  | 11 => !islandCode r.isl
  | _ => true
/-- Check 10, DUPLICATE (R32, R33). -/
def duplicate (rs : List Rec) (r : Rec) : Bool :=
  let before := rs.filter (fun q => q.idx < r.idx && q.type == r.type)
  (recKey r).isSome && before.any (fun q => recKey q == recKey r) ||
    (r.type = 2 && before.any (fun q => u8 q.body 0 == u8 r.body 0 && uN 4 q.body 8 == uN 4 r.body 8 && (u8 q.body 2).testBit 2 == (u8 r.body 2).testBit 2))
/-- A slot number or 0xFF. -/
def slotOrNone (v : Nat) : Bool := v < 128 || v = 0xFF
/-- A CAN object's place as RES and RX encode it. -/
def canCode (v : Nat) : Bool := v / 4096 < 4 && v % 4096 < 512
/-- A loop divisor. -/
def divisor (v : Nat) : Bool := [0, 1, 2, 4, 8].contains v
/-- The fields of a GROUP record lie in their ranges (R36, R199). -/
def groupRange (isl : Nat) (g : GroupRecP) : Bool :=
  let t := periodNs g.period
  let fgroup := isl < 0x18
  g.period ≤ 5 && 1 ≤ g.pwmDiv && g.pwmDiv ≤ 16 && 10000 * g.pwmDiv ≤ t && t ≤ 125000 * g.pwmDiv &&
    (if fgroup then g.decim = 1 || (g.decim = 2 && 50000 ≤ t) || (g.decim = 3 && 125000 ≤ t) else g.decim = 0)
/-- The fields of a SLOT record lie in their ranges (Table 2.6). -/
def slotRange (b : List Byte) : Bool :=
  let r := slotOf 0 b
  u8 b 0 < 128 && 1 ≤ r.kind && r.kind ≤ 4 && r.template ≤ 7 && r.cls ≤ 3 &&
    (match r.kind with | 1 => r.res < 96 | 2 => r.res < 16 | 3 => canCode r.res | _ => r.res = 0xFFFF) &&
    (r.rx = 0xFFFF || (r.kind = 3 && canCode r.rx)) && (r.fb1 < 56 || r.fb1 = 0xFF) && (r.fb2 < 56 || r.fb2 = 0xFF) && u8 b 10 ≤ 1 && u8 b 11 < 4 &&
    divisor r.velDiv && divisor r.posDiv && (r.tbFric < 64 || r.tbFric = 0xFF) && (r.tbCog < 64 || r.tbCog = 0xFF) && r.ff ≤ 2 &&
    (match r.gearKind with | 0 => r.gearMaster = 0xFF | 1 => r.gearMaster < 128 | 2 => r.gearMaster < 56 | _ => false) &&
    (r.ig < 16 || r.ig = 0xFF) && (if r.kind = 3 then r.period ≤ 5 else r.period = 0)
/-- A CAN_CH record is in range: MODE 0 leaves its rates unchecked (R33, R294). -/
def canChRange (b : List Byte) : Bool :=
  let r := canChOf b
  u8 b 0 < 4 && (match r.mode with
    | 0 => true
    | 1 => 10 ≤ r.nom && r.nom ≤ 1000 && r.data = 0 && (canBrp r.nom 8 80).isSome
    | 2 => 10 ≤ r.nom && r.nom ≤ 1000 && r.nom ≤ r.data && r.data ≤ 8000 && (canBrp r.nom 8 80).isSome && (canBrp r.data 5 40).isSome
    | _ => false)
/-- A CAN_OBJ record is in range. The cyclic flag is accepted in either direction and asks a CYCLE of at least 1: the manual does not say it of a receive object (DESIGN CHOICE, entry 167). -/
def canObjRange (b : List Byte) : Bool :=
  let r := canObjOf b
  u8 b 0 < 4 && u8 b 1 ≤ 1 && u8 b 2 < 16 && (if r.fdf then r.dlc ≤ 15 else r.dlc ≤ 8) && uN 2 b 4 < 512 && slotOrNone r.slot &&
    (if r.ide then r.id < 2 ^ 29 else r.id < 2 ^ 11) && (if r.cyclic then 1 ≤ r.cycle else r.cycle = 0)
/-- An IO_MAP entry is in range (R40). -/
def ioRange (e : IoEntry) : Bool :=
  (match e.kind with | 0 => e.index < 16 | 1 => e.index < 8 | 2 => e.index < 256 | 3 => e.index < 128 | _ => false) &&
    (if e.kind = 0 || e.kind = 2 then e.func ≤ 4 && (e.func ≠ 1 || e.kind = 0) && (if e.func = 0 then e.arg = 0 else e.arg < 128) else e.func ≤ 1 && e.arg = 0)
/-- Check 11, RANGE: a field outside its stated values. -/
def outOfRange (r : Rec) : Bool :=
  let b := r.body
  !(match r.type with
    | 1 => canChRange b
    | 2 => canObjRange b
    | 3 => let p := u8 b 0; let t := u8 b 1
      p < 64 && (t = 0 || (p < 48 && 1 ≤ t && t ≤ 5) || (48 ≤ p && p < 56 && t = 6) || (56 ≤ p && t = 7)) && (if t = 7 then u8 b 2 < 48 else u8 b 2 = 0)
    | 4 => u8 b 0 < 64 && (u8 b 1 = 1 || u8 b 1 = 2)
    | 5 => groupRange r.isl (groupOf b)
    | 6 => u8 b 0 ≤ 5 && u8 b 1 ≤ 16 && u8 b 2 ≤ 1 && (span 4 16).all (fun o => slotOrNone (u8 b o))
    | 7 => slotRange b
    | 8 => (ioOf b).all ioRange
    | 9 => u8 b 0 ≤ 1
    | 10 => (List.range 16).all (fun g => let e := safetyOf b g; slotOrNone e.monSlot && (e.brk < 8 || e.brk = 0xFF))
    | _ => true)
/-- A header field lies outside its stated values (Table 2.1). -/
def headerRange (img : List Byte) : Bool := 4 ≤ uN 4 img 0x1C || (!(uN 4 img 0x1C).testBit 0 && (uN 4 img 0x20 ≠ 0 || uN 4 img 0x24 ≠ 0))
/-- The lanes, generators and CAN objects that a SLOT record binds. -/
def resourcesOf (r : SlotRecP) : List (Nat × Nat) :=
  match r.kind with
  | 1 => [(1, r.res)]
  | 2 => [(2, r.res)]
  | 3 => [(3, r.res)] ++ (if r.rx = 0xFFFF then [] else [(3, r.rx)])
  | _ => []
/-- Check 12, RESOURCE_CONFLICT (R19): an earlier slot binds a resource of this one. -/
def conflict (rs : List Rec) (r : Rec) : Bool :=
  let res (q : Rec) := resourcesOf (slotOf q.isl q.body)
  r.type = 7 && rs.any (fun q => q.type = 7 && q.idx < r.idx && (res q).any (fun x => (res r).contains x))

/-- The rules of a SLOT record that name BINDING_INVALID: Table 2.7, R34, R36, R37, R39, R153, R169, R305. A failure that involves an earlier record too, an ENGINE, a CAN_OBJ or the SLOT of a gearing partner, is this one's (R47). -/
def slotBad (p : Pattern) (isl k : Nat) (r : SlotRecP) (b : List Byte) : Bool :=
  let sl := 32 ≤ r.res
  let combo :=
    if r.kind = 1 then
      1 ≤ r.cls && (if sl then (if r.dcMode then [2, 3, 5, 7].contains r.template else [1, 3, 5, 6].contains r.template) else !r.dcMode && [1, 3, 5, 6].contains r.template)
    else if r.kind = 3 then r.template = 4 && 1 ≤ r.cls && !r.dcMode
    else r.template = 0 && r.cls = 0 && !r.dcMode
  let div :=
    match r.template with
    | 0 => r.velDiv = 0 && r.posDiv = 0
    | 3 | 5 => r.velDiv ≠ 0 && r.posDiv = 0
    | 4 => r.velDiv = 0 && r.posDiv ≠ 0 && r.tbFric = 0xFF && r.tbCog = 0xFF && r.ff = 0
    | _ => r.velDiv ≠ 0 && r.velDiv ≤ r.posDiv
  let fbPort (q : Nat) : Bool := let t := (p.port q).type; 1 ≤ t && t ≤ 6
  let ports := ((r.kind = 1 && !r.sensorless) || (r.fb1 = 0xFF && r.fb2 = 0xFF)) && (r.fb1 = 0xFF || fbPort r.fb1) && (r.fb2 = 0xFF || fbPort r.fb2)
  let table (tb kind : Nat) : Bool := tb = 0xFF || Tab.get 0 p.tableKind tb = kind
  let listed (e : Nat) : Bool := (p.engine e).present && (p.engine e).ctx.contains k
  let hosted := (0x0F < isl || listed isl) && (List.range 16).all (fun e => e = isl || !listed e)
  let master (m : Nat) : Bool := (p.slot m).gearKind = 0 && (p.slot m).ig = 0xFF
  let gear :=
    (match r.gearKind with
      | 1 => (p.slot r.gearMaster).kind ≠ 0 && r.ig = 0xFF && (k < r.gearMaster || master r.gearMaster)
      | 2 => fbPort r.gearMaster && r.ig = 0xFF
      | _ => true) && p.slots.all (fun e => !(e.1 < k && e.2.gearKind = 1 && e.2.gearMaster = k) || master k)
  let members := r.ig = 0xFF || (p.slots.filter (fun e => e.2.ig == r.ig && e.1 ≤ k)).length ≤ 8
  let object (v : Nat) (tx : Bool) : Bool := let o := p.obj (v / 4096) (v % 4096); o.present && o.tx == tx && o.slot == k
  let can := (r.kind ≠ 3 || (object r.res true && (r.rx = 0xFFFF || object r.rx false))) &&
    p.canObj.all (fun e => e.2.slot ≠ k || (r.kind = 3 && (let v := e.1 / 512 * 4096 + e.1 % 512; r.res = v || r.rx = v)))
  let group := r.kind ≠ 1 || (p.group (laneGroup r.res)).present
  !(combo && div && ports && table r.tbFric 1 && table r.tbCog 2 && hosted && gear && members && can && group) || b.isEmpty
/-- The bytes that a layout needs, and its direction (Table 12.2); none for no layout. -/
def layoutOf (code : Nat) : Option (Nat × Option Bool) :=
  match code with | 0 => some (0, none) | 1 => some (8, some true) | 2 => some (12, some true) | 3 => some (16, some true) | 8 => some (4, some false) | 9 => some (8, some false) | _ => none
/-- The rules of a CAN_OBJ record (R33, R305); one that a SLOT record contradicts is that record's failure (R47). -/
def objBad (p : Pattern) (ch : Nat) (r : CanObjRec) : Bool :=
  let code := r.layout % 128
  let mode := (p.ch ch).mode
  let lay := match layoutOf code with | none => false | some (n, d) => n ≤ dlcLen r.dlc && (match d with | none => true | some t => t == r.tx)
  let s := p.slot r.slot
  let bound := if r.slot = 0xFF then code = 0 && !r.cyclic else code ≠ 0 && s.kind ≠ 0
  !(mode ≠ 0 && (mode = 2 || (!r.fdf && !r.brs)) && lay && bound)
/-- The rules of an IO_MAP (R40, R317). -/
def ioBad (p : Pattern) (l : List IoEntry) : Bool :=
  let input (e : IoEntry) : Bool := e.kind = 0 || e.kind = 2
  let n := l.length
  let pair (i j : Nat) : Bool :=
    let a := l.getD i ⟨0, 0, 0, 0⟩
    let b := l.getD j ⟨0, 0, 0, 0⟩
    (a.kind = b.kind && a.index = b.index) || (input a && input b && a.func ≠ 0 && a.func = b.func && a.arg = b.arg)
  l.any (fun e => input e && e.func ≠ 0 && (p.slot e.arg).kind = 0) || (List.range n).any (fun i => (List.range i).any (fun j => pair j i))
/-- The rules of the SAFETY record (R342, R347). -/
def safetyBad (p : Pattern) : Bool :=
  let code (g : Nat) : Nat := sealCode p.sealExpect g
  (List.range 16).any (fun g =>
    let e := p.safe g
    let brake := e.brk ≠ 0xFF && (g ≠ 2 * e.brk)
    let mon := e.monSlot ≠ 0xFF && (p.slot e.monSlot).kind = 0
    let s := p.slot e.monSlot
    let lim : F32 := if code g = 1 then e.lim1 else if code g = 2 then e.lim2 else e.lim3
    let sls := code g ≠ 0 && !(e.monSlot < 128 && s.kind = 1 && laneGroup s.res = g && F32.positive e.lim1 && lim.positive)
    brake || mon || sls)
/-- Check 13, BINDING_INVALID. -/
def bindingBad (p : Pattern) (r : Rec) : Bool :=
  let b := r.body
  match r.type with
  | 2 => objBad p (u8 b 0) (canObjOf b)
  | 3 => u8 b 1 = 7 && (let t := (p.port (u8 b 2)).type; !(1 ≤ t && t ≤ 5))
  | 6 =>
    let used := (span 4 16).map (u8 b) |>.takeWhile (· ≠ 0xFF)
    let rest := (span 4 16).map (u8 b) |>.drop used.length
    used.length ≠ u8 b 1 || rest.any (· ≠ 0xFF) || used.eraseDups.length ≠ used.length || used.any (fun k => (p.slot k).kind = 0)
  | 7 => slotBad p r.isl (u8 b 0) (slotOf r.isl b) b
  | 8 => ioBad p (ioOf b)
  | 9 => uN 2 b 2 ≠ ofBits ((p.slots.filter (fun e => e.2.kind == 1)).map (fun e => laneGroup e.2.res))
  | 10 => safetyBad p
  | _ => false
/-- The frame code of a slot with a context, in a pattern. -/
def Pattern.periodOf (p : Pattern) (k : Nat) : Nat := let r := p.slot k; if r.kind = 1 then (p.group (laneGroup r.res)).period else r.period
/-- Check 14, PERIOD_MIX (R20). -/
def periodMix (p : Pattern) (r : Rec) : Bool := r.type = 6 && (engineOf r.body).ctx.any (fun k => p.periodOf k ≠ u8 r.body 0)
/-- ORDER of a slot as the preloads leave it (R190). -/
def Pattern.order (p : Pattern) (k : Nat) : Nat :=
  let a := (⟨R.AX_COEF_CTRL, k⟩ : Loc).addr
  match p.preloads.reverse.find? (fun e => e.2.1 == a) with | some e => F.AX_COEF_CTRL_ORDER.read e.2.2 | none => 0
/-- Check 15, CAPACITY (R179): 85 % of an engine's cycles at OP7. -/
def overCapacity (p : Pattern) (r : Rec) : Bool :=
  r.type = 6 && (let g := engineOf r.body; decide (opCycles 7 (periodNs g.period) * 85 < 100 * (g.ctx.map (fun k => slotCost (p.slot k) (p.order k))).sum))
/-- The island that a preload's address belongs to in a pattern (R43). -/
def Pattern.holder (p : Pattern) (l : Loc) (addr : Nat) : Option Nat :=
  let b := (blockOf addr).getD 0
  if b = 15 || b = 17 then some 0xFF
  else if b = 7 then (if (p.slot l.inst).kind = 0 then none else some (p.slot l.inst).island)
  else match l.reg.hold with
    | .isl n => some n
    | .stitch => some l.inst
    | .hosting => some 0x21
    | .lane => some (0x10 + laneGroup l.inst)
    | .group => some (0x10 + l.inst)
/-- A preload entry breaks R43. -/
def preloadBad (p : Pattern) (e : Nat × Nat × Word) : Bool :=
  e.2.1 ≠ 0 && (match locAt e.2.1 with
    | none => true
    | some l =>
      let data := l.reg.id = R.CN_OBJ_DATA.id
      let o := Tab.get {} p.canObj (l.inst / 16)
      !(preloadBlock ((blockOf e.2.1).getD 0) && (if data then o.present && o.tx && o.slot = 0xFF else l.reg.flds.any (fun f => f.stored && portFieldApplies l.reg f (p.port l.inst).type)) && p.holder l e.2.1 = some e.1))
/-- Check 17 (R46): the safety signature over the SAFETY record header and 264 bytes of its body, under SK. -/
def Core.badSafetySignature (c : Core) (img : List Byte) (r : Rec) : Bool :=
  r.type = 10 && (match c.keyOf 8 with | some k => !Crypto.ecdsa k (r.body.drop 264) (Crypto.sha256 ((img.drop r.off).take 272)) | none => true)
/-- The checks of Table 2.8 in their order: the code and record of the first that fails, or code 0 (R47). -/
def Core.checkPattern (c : Core) (img : List Byte) : Nat × Nat :=
  let rs := (records img).1
  let p := patternOf img
  let flag (b : Bool) : Verdict := if b then some 0xFFFF else none
  let serial := (c.reg R.SYS_SERIAL 0).toNat
  let checks : List (Nat × (Unit → Verdict)) :=
    [(0x01, fun _ => flag (uN 4 img 0 ≠ 0x54415058 || uN 2 img 6 ≠ 64)),
     (0x02, fun _ => flag (uN 2 img 4 ≠ 1)),
     (0x03, fun _ => badLength img),
     (0x04, fun _ => flag (uN 2 img 0x10 ≠ c.get F.SYS_ID_PRODUCT 0 || c.get F.SYS_ID_SOC_STEP 0 < u8 img 0x12 || c.get F.SYS_ID_XB2_STEP 0 < u8 img 0x13)),
     (0x05, fun _ => flag ((uN 4 img 0x1C).testBit 0 && uN 4 img 0x20 ≠ serial && uN 4 img 0x24 ≠ serial)),
     (0x07, fun _ => c.badSignature img rs),
     (0x06, fun _ => flag (p.ver < (c.reg R.PT_FLOOR 0).toNat)),
     (0x09, fun _ => recordOrder rs),
     (0x0A, fun _ => verdict rs unknownRecord false),
     (0x0B, fun _ => verdict rs (duplicate rs) false),
     (0x10, fun _ => verdict rs outOfRange (headerRange img)),
     (0x0C, fun _ => verdict rs (conflict rs) false),
     (0x0D, fun _ => verdict rs (bindingBad p) false),
     (0x0E, fun _ => verdict rs (periodMix p) false),
     (0x0F, fun _ => verdict rs (overCapacity p) false),
     (0x11, fun _ => verdict rs (fun r => r.type = 11 && (preloadsOf r).any (preloadBad p)) false),
     (0x08, fun _ => verdict rs (c.badSafetySignature img) false),
     (0x12, fun _ => verdict rs (fun r => r.type = 10 && c.bridle.sealP ≠ p.sealExpect) false)]
  match checks.findSome? (fun k => (k.2 ()).map (fun r => (k.1, r))) with
  | some e => e
  | none => (0, 0xFFFF)

end Sys2Proof.Machine
end

