-- ==== Sys2Proof/Machine/Survive.lean ====
section
/-! DEFINITION. What resets and power states do to register fields, by their class (R9, Table 0.4), and to an island (R107, R108). -/
namespace Sys2Proof.Machine

/-- Fields that are lost take their reset values. -/
def Core.loseFields (c : Core) (lost : Reg → Nat → FldDesc → Bool) : Core :=
  c.regs.foldl (fun c e =>
    match allRegs[e.1 % 512]? with
    | none => c
    | some r =>
      let i := e.1 / 512
      let m := r.accMask (lost r i)
      c.setReg r i ((e.2 &&& ~~~m) ||| (r.resetAt i &&& m))) c

/-- FAULT_N_LIVE shows the pin after a reset (R222). -/
def Core.showFaultPins (c : Core) (lanes : List Nat) : Core := foldN lanes c (fun c l => c.setBit F.LN_STAT_FAULT_N_LIVE l (c.laneAt l).faultLow)
/-- A lane island in reset: PWM outputs and GEN_A are inactive, and its hidden lane state clears (R108). -/
def Core.laneIslandReset (c : Core) (g : Nat) : Core :=
  let lanes := (List.range 96).filter (fun l => laneGroup l == g)
  let c := foldN lanes c (fun c l => c.setLane l { faultHeld := (c.laneAt l).faultHeld, faultLow := (c.laneAt l).faultLow })
  let c := c.showFaultPins lanes
  c.setBg g { c.bg g with genA := false, path1 := false, relCheck := false, relPend := false }
/-- An island reset clears one island's V-class fields (R9, R107). -/
def Core.islandReset (c : Core) (code : Nat) : Core :=
  let c1 := c.loseFields (fun r i f => f.cls = .V && c.holder r i = code)
  let c1 := if 0x10 ≤ code ∧ code < 0x20 then c1.laneIslandReset (code - 0x10) else c1
  c1.setIsl code 3

/-- The lock of a bank is released; the first requester that waits for it takes it. -/
def Core.unlock (c : Core) (b : Nat) : Core :=
  let k := c.bankAt b
  let c := c.setBank b { k with lock := k.lockWait.head?, lockWait := k.lockWait.drop 1 }
  if k.lockWait.isEmpty then c.set F.AR_LOCK_HELD 0 (ofBits ((bitsOf 16 (c.get F.AR_LOCK_HELD 0)).filter (· ≠ b))) else c
/-- The locks of a failed or reset holder are released (R134): only RQ6, the application, and RQ7, the scheduler, take them. -/
def Core.dropLocks (c : Core) (rq : Nat) : Core :=
  foldN (List.range 16) c (fun c b =>
    let k := c.bankAt b
    let c := c.setBank b { k with lockWait := k.lockWait.filter (· ≠ rq) }
    if k.lock = some rq then c.unlock b else c)

/-! ### ECC (R122–R124) -/

/-- A correctable error at an address: counted and queued for write-back; three in one scrub period mark it stuck. -/
def Core.corrected (c : Core) (a : Nat) (queue : Bool) : Core :=
  let a := a / 4 * 4
  let b := a / 0x400000
  let k := c.bankAt b
  let n := Tab.get 0 k.corr a + 1
  let c := c.setBank b { k with wb := if queue && k.wb.length < 16 && !k.wb.contains a then k.wb ++ [a] else k.wb, corr := Tab.set 0 k.corr a n }
  let c := ((c.setBit F.AR_ECC_STAT_CE 0 true).addSat F.AR_ECC_CE_CNT_COUNT 0 1).setReg R.AR_ECC_CE_ADDR 0 (BitVec.ofNat 32 a)
  if n = 3 then (c.setBit F.AR_ECC_STAT_STUCK 0 true).log 0x050F b a else c
/-- A read of a poisoned word: counted, and logged once for its address. The log entry's SRC, as ECC_STUCK's, is the bank and its ARG the address: the rule gives the address only (DESIGN CHOICE, entry 162). -/
def Core.poisonRead (c : Core) (a : Nat) : Core :=
  let a := a / 4 * 4
  let c := ((c.setBit F.AR_ECC_STAT_UE 0 true).addSat F.AR_ECC_UE_CNT_COUNT 0 1).setReg R.AR_ECC_UE_ADDR 0 (BitVec.ofNat 32 a)
  if c.sad.eccLogged.contains a then c else { c with sad := { c.sad with eccLogged := c.sad.eccLogged ++ [a] } }.log 0x050E (a / 0x400000) a

end Sys2Proof.Machine
end

