-- ==== Sys2Proof/Machine/Loader.lean ====
section
/-! DEFINITION. The pattern loader (R48–R61): staging and verifying, the full load, COMMIT, the re-lace of one island, and the load at a start or a wake. -/
namespace Sys2Proof.Machine

/-! ### Results and refusals -/

/-- A host-requested island reset holds the pattern lock, so that a load or a re-lace that started after it waits (R110). -/
def Core.rstLock (c : Core) : Bool := c.loader.islReset && c.loader.rstFirst

/-- The image at the start of a bank (14 staging, 15 active), to its TOTAL_LEN. -/
def bankImage (ram : Ram) (bank : Nat) : List Byte :=
  let base := bank * 0x400000
  ram.bytes base (Max.max 64 (Min.min 0x400000 (totalLen (ram.bytes base 64))))
/-- A refused or abandoned command is logged with its code and record (Table 18.3). -/
def Core.logRefusal (c : Core) (code record src : Nat) : Core := c.log 0x0302 src (code * 65536 + record)
/-- A cold takeover that waited for the loader happens now (R377, R382). -/
def Core.loaderFree (c : Core) : Core :=
  if c.twin.coldPend && c.bridle.pown = 0 then { c with twin := { c.twin with coldPend := false } }.leadGoneNow false 1 else c
/-- The running command ends with a result, a record and a PHASE (R50). -/
def Core.loaderEnd (c : Core) (code record phase : Nat) : Core :=
  let c := ((c.set F.PT_STAT_RESULT 0 code).set F.PT_STAT_RECORD 0 record).set F.PT_STAT_PHASE 0 phase
  let c := { (c.set F.PT_CTRL_CMD 0 0) with loader := { c.loader with cmd := 0, relace := false, handover := false, handedOver := false, moved := [], ready := false, aborted := false, image := [], newPat := {}, oldImage := [], oldPat := {} } }
  c.loaderFree.judge
/-- A command starts: CMD reads it, and PHASE takes its value. -/
def Core.loaderStart (c : Core) (cmd phase : Nat) : Core :=
  let c := (c.set F.PT_CTRL_CMD 0 cmd).set F.PT_STAT_PHASE 0 phase
  { c with loader := { c.loader with cmd := cmd } }

/-! ### The scope of a re-lace (R54) -/

/-- The offsets in a body of a record of the target island that may differ. -/
def mayDiffer (isl type o : Nat) : Bool :=
  if isl < 0x10 then (type = 7 && [2, 12, 13, 14, 15, 16].contains o) || (type = 11 && 4 ≤ o) else (type = 5 && (o = 1 || o = 2)) || (type = 11 && 4 ≤ o)
/-- Two byte lists agree at every offset that `free` does not name. -/
def agree (free : Nat → Bool) : Nat → List Byte → List Byte → Bool
  | _, [], [] => true
  | o, a :: as, b :: bs => (free o || a == b) && agree free (o + 1) as bs
  | _, _, _ => false
/-- The staged image meets R54 against the active one for a target island. -/
def scopeOk (act new : List Byte) (isl : Nat) : Bool :=
  let ra := (records act).1
  let rb := (records new).1
  let header (o : Nat) : Bool := (0x18 ≤ o && o < 0x1C) || (0x28 ≤ o && o < 0x30)
  isl < 0x20 && totalLen act == totalLen new && agree header 0 (act.take 64) (new.take 64) && ra.length == rb.length
    && (List.zip ra rb).all (fun (a, b) =>
      a.off == b.off && a.type == b.type && a.isl == b.isl && a.len == b.len && a.rsvd == b.rsvd
        && (a.type == 15 || agree (fun o => a.isl == isl && mayDiffer isl a.type o) 0 a.body b.body))

/-! ### Command refusals (R48, Table 2.9) -/

/-- The lane groups with a slot on an engine. -/
def Core.engineGroups (c : Core) (e : Nat) : List Nat := ((c.engAt e).ctx.filterMap c.slotGroup).eraseDups
/-- Moves every context of an engine to other engines by the placement rule (R282), without counting it; the contexts that found no place are second. -/
def Core.moveOut (c : Core) (e : Nat) : Core × List Nat :=
  let ctx := (c.engAt e).ctx
  let period := c.get F.BS_ENG_STAT_PERIOD e
  let ks := [1, 2, 3].flatMap (fun cls => ctx.filter (fun k => (c.pat.slot k).cls == cls))
  ks.foldl (fun (r : Core × List Nat) k =>
    match r.1.bestOf period ((r.1.candidates period true).filter (· ≠ e)) with
    | some n => ((r.1.takeOff k e).hostOn k n, r.2)
    | none => (r.1, r.2 ++ [k])) (c, [])
/-- A HANDOVER re-lace: the target is a stitch island whose ENGINE record says so. -/
def Core.byHandover (c : Core) (isl : Nat) : Bool := isl < 0x10 && (c.pat.engine isl).handover
/-- The lane groups of a re-lace that must be in STO, and the CAN slots that must be at rest (R55). -/
def Core.relaceHeld (c : Core) (isl : Nat) : Bool :=
  if 0x10 ≤ isl then c.inSto (isl - 0x10)
  else c.byHandover isl || ((c.engineGroups isl).all c.inSto && (c.engAt isl).ctx.all (fun k => (c.pat.slot k).kind ≠ 3 || c.profState k == 0))
/-- The code of the first refusal of a command, 0 for none (R48). -/
def Core.ptRefusal (c : Core) (ram : Ram) (cmd isl : Nat) : Nat :=
  let phase := c.get F.PT_STAT_PHASE 0
  let heavy := cmd = 3 || cmd = 4 || cmd = 7
  if phase = 2 || phase = 4 || phase = 5 || (heavy && c.twin.takeover) then 0x17
  else if heavy && c.islState 0x26 = 5 then 0x1C
  else if (cmd = 3 || cmd = 7) && !c.allSto then 0x18
  else if (cmd = 3 || cmd = 4 || cmd = 5) && !c.bit F.PT_STAT_VERIFIED 0 then 0x1A
  else if cmd ≠ 4 then 0
  else if !c.pat.valid || !c.pat.allowRelace || c.bit F.PT_BOOT_NO_PATTERN 0 then 0x1B
  else if !scopeOk (bankImage ram 15) (bankImage ram 14) isl then 0x13
  else if c.islState isl = 4 then 0x14
  else if !c.relaceHeld isl then 0x15
  else if c.byHandover isl && !(c.moveOut isl).2.isEmpty then 0x16
  else 0
/-- A full load starts: cause STARTUP is active on every group, so that a release under way ends (R51, Table 14.5). -/
def Core.fullLoadStart (c : Core) : Core := foldN (List.range 16) c (fun c g => c.cancelRelease g)
/-- A command of PT_CTRL (R48–R55); a CMD of 0 or 8–15 is none. -/
def Core.ptCommand (c : Core) (ram : Ram) (cmd bank isl : Nat) (setBoot : Bool) : Core :=
  if cmd = 0 || 7 < cmd then c
  else
    let r := c.ptRefusal ram cmd isl
    if r ≠ 0 then (c.set F.PT_STAT_RESULT 0 r).logRefusal r 0xFFFF (if cmd = 4 then isl else noSrc)
    else
      match cmd with
      | 1 => ({ c with loader := { c.loader with digests := [] } }.setBit F.PT_STAT_VERIFIED 0 false).loaderEnd 0 0xFFFF 1
      | 2 => c.loaderStart 2 2
      | 3 => let img := bankImage ram 14; ({ c with loader := { c.loader with image := img, newPat := patternOf img } }.loaderStart 3 4).fullLoadStart.judge
      | 5 =>
        let target := 1 - c.get F.PT_BOOT_BANK 0
        ({ c with loader := { c.loader with image := bankImage ram 14, setBoot := setBoot, source := target }, patFlash := Tab.set [] c.patFlash target [] }).loaderStart 5 5
      | 6 => c.loaderEnd 0 0xFFFF 0
      | 7 => ({ c with loader := { c.loader with source := bank } }.loaderStart 7 2).fullLoadStart.judge
      | _ =>
        let img := bankImage ram 14
        let ho := c.byHandover isl
        let c := { c with loader := { c.loader with relace := true, handover := ho, target := isl, image := img, newPat := patternOf img, oldImage := bankImage ram 15, oldPat := c.pat, handedOver := false, moved := [], ready := false, aborted := false } }.loaderStart 4 4
        (if ho then c else c.islandReset isl).judge

/-! ### The full load (R51) -/

/-- A digest as the words of PT_DIGEST: byte 4n+j in bits [8j+7:8j]. -/
def Core.setDigest (c : Core) (d : List Byte) : Core := foldN (List.range 8) c (fun c n => c.setReg R.PT_DIGEST n (BitVec.ofNat 32 (uN 4 d (4 * n))))
/-- PT_DIGEST, SYS_BINDMAP, PT_ACTIVE_ID and PT_ACTIVE_VER of a pattern. -/
def Core.publishPattern (c : Core) (img : List Byte) (p : Pattern) : Core :=
  let c := c.setDigest (digestOf img)
  let kind (k : Nat) : Nat := match (p.slot k).kind with | 0 => 0 | 1 => 1 | 4 => 3 | _ => 2
  let c := foldN (List.range 8) c (fun c n => c.setReg R.SYS_BINDMAP n (BitVec.ofNat 32 ((List.range 16).foldl (fun a i => a + kind (16 * n + i) * 4 ^ i) 0)))
  (c.setReg R.PT_ACTIVE_ID 0 (BitVec.ofNat 32 p.id)).setReg R.PT_ACTIVE_VER 0 (BitVec.ofNat 32 p.ver)
/-- Writes preloads that pass a test, in record order (R44), and ends the pass (R4). -/
def Core.writePreloads (c : Core) (ram : Ram) (p : Pattern) (take : Nat → Nat → Bool) : Core :=
  (p.preloads.foldl (fun c e => if e.2.1 ≠ 0 && take e.1 e.2.1 then c.preload ram e.2.1 e.2.2 else c) c).endPath .tansy
/-- Commits a slot's coefficients after its preloads (R190). -/
def Core.commitNow (c : Core) (k : Nat) : Core := (c.setBit F.AX_LSTAT_COEF_PENDING k true).applyCommit k
/-- The profile state of a slot after a full load or a reset (R164); the gear ratio and the valid limits in force stay, and a limit register that kept a valid value through a reset has it as its first (R165). -/
def Core.profileStart (c : Core) (k : Nat) : Core :=
  let p := c.profAt k
  let valid (r : Reg) (v : F32) : F32 := if F32.positive (c.reg r k) then c.reg r k else v
  let c := c.setProf k { num := p.num, den := p.den, vmaxV := valid R.AX_VMAX p.vmaxV, accelV := valid R.AX_ACCEL p.accelV, decelV := valid R.AX_DECEL p.decelV, ss1V := valid R.AX_SS1_DEC p.ss1V }
  let c := c.setCtx k { c.ctxAt k with actKnown := false, actPos := 0, actVel := 0, frames := 0, t4Pos := 0, t4Vel := 0 }
  c.publishState k c.profNs
/-- A port as it starts after a load (R245): its count, turns and speed are 0; the lines are the wires', a resolver's excitation goes on, and a port that is no ABZ port has no Z stamp (R261). -/
def Core.portStart (c : Core) (p : Nat) : Core :=
  let t := (c.pat.port p).type
  let c := if t = 6 then c else c.exciteStop p
  let old := c.portAt p
  let new : Port := { lines := old.lines, linesKnown := old.linesKnown, n := (c.reg R.FB_CPR p).toNat }
  let c := c.setPort p (if t = 6 then { new with hist := old.hist, nomSum := old.nomSum, nomN := old.nomN, exciting := old.exciting, excZero := old.excZero } else new)
  let c := (c.set F.FB_CFG_TYPE p t).setBit F.FB_STAT_REF_LOST p (t = 1 || t = 2)
  let c := if t = 1 || 48 ≤ p then c else (c.setReg R.CP_Z_NS p 0).setReg R.CP_Z_SEC p 0
  let c := c.setReg R.FB_SPEED p 0
  ((c.setReg R.FB_ST p 0).setReg R.FB_MT p 0).set64 R.FB_POS_LO R.FB_POS_HI p 0
/-- An engine's contexts and registers as its ENGINE record gives them. -/
def Core.engineStart (c : Core) (e : Nat) : Core :=
  let g := c.pat.engine e
  let c := c.setEng e { ctx := g.ctx }
  let c := (c.set F.BS_ENG_STAT_PERIOD e (if g.present then g.period else 0xF)).set F.BS_ENG_STAT_NCTX e g.ctx.length
  c.setBit F.BS_ENG_STAT_FORCED e false
/-- The registers of a lane group as its GROUP record gives them. -/
def Core.groupStart (c : Core) (g : Nat) : Core :=
  let r := c.pat.group g
  ((c.set F.LG_CFG_PERIOD g r.period).set F.LG_CFG_PWM_DIV g (if r.present then r.pwmDiv else 0)).set F.LG_CFG_DECIM g r.decim
/-- The AX_ registers of a slot that a load leaves unused take their reset values (R19). -/
def Core.unuseSlot (c : Core) (k : Nat) : Core :=
  { c with regs := c.regs.filter (fun e => !(e.1 / 512 = k && (allRegs[e.1 % 512]?).any (fun r => r.base / 0x10000 = 0x4010))) }
/-- A slot as its SLOT record gives it, with its loops, estimator, ring and query cleared (R51, R164). -/
def Core.slotStart (c : Core) (k : Nat) : Core :=
  let r := c.pat.slot k
  let c := (c.set F.AX_STAT_CLASS k r.cls).set F.AX_STAT_ENGINE k (if r.cls = 0 then 0 else r.island % 16)
  let c := (c.setBit F.AX_STAT_UNPLACED k false).set F.AX_STAT_DECIM k 0
  let c := ((c.clearLoop k).setEst k {}).set F.AX_SL_STAT_STATE k 0
  let c := c.ringEmpty k
  let c := c.setRing k { discont := (c.ringAt k).discont, emptyT := (c.ringAt k).emptyT }
  if r.kind = 0 then ((c.setProf k {}).setCtx k {}).unuseSlot k else c.profileStart k
/-- Builds every island's structure from a pattern (R51, step 3). -/
def Core.buildAll (c : Core) (p : Pattern) : Core :=
  let c := { c with pat := p, igs := [], steps := [], query := none }
  let c := foldN (List.range 16) c Core.engineStart
  let c := foldN (List.range 16) c Core.groupStart
  let c := foldN (List.range 128) c Core.slotStart
  let c := foldN (List.range 56) c Core.portStart
  let c := foldN (List.range 8) c (fun c q => ((c.set F.Q_CFG_SRC q (p.port (56 + q)).src).setBit F.Q_STAT_MODE q ((p.port (56 + q)).type == 7 && serialType (p.port (p.port (56 + q)).src).type)).setRep q {})
  let c := if c.isLead then c.driveRepeats else c
  let c := foldN (List.range 16) c (fun c g => (c.set F.IG_STAT_MEMBERS g (p.slots.filter (fun e => e.2.ig == g)).length).setBit F.IG_STAT_MOVING g false)
  let c := foldN (List.range 16) c (fun c n => c.setReg R.SP_COUNT n 0)
  let c := foldN (List.range 2) c (fun c f =>
    let block (e : IoEntry) : Option Nat := if e.kind = 2 && e.index / 128 = f then some (e.index % 128 / 32) else if e.kind = 3 && e.index / 64 = f then some (e.index % 64 / 16) else none
    (c.set F.FI_FS_CFG_EXPECT f (ofBits (p.ioMap.filterMap block))).setStr f {})
  let c := foldN (List.range 6) c (fun c g => if c.gridUsed g then c else c.setGrid g {})
  c.canStart
/-- Places the contexts that the pattern gives to fenced engines. -/
def Core.placeFenced (c : Core) : Core := foldN ((List.range 16).filter (fun e => c.islState e == 4 && !(c.engAt e).ctx.isEmpty)) c (fun c e => c.place e)
/-- The full load of an image (R51, R190). `copy` is false where bank 15 already holds it (R61). -/
def Core.fullLoad (c : Core) (ram : Ram) (img : List Byte) (copy : Bool) : Core :=
  let p := patternOf img
  let c := if copy then c.store (15 * 0x400000) (img.take (totalLen img)) else c
  let c := c.buildAll p
  let c := foldN (List.range 16) c (fun c g => c.set F.SF_GRP_CAUSE g 0)
  let c := c.fieldStart.writePreloads ram p (fun _ _ => true)
  let c := (foldN c.usedSlots c Core.commitNow).refreshLimits
  let c := c.publishPattern img p
  let c := c.setBit F.PT_BOOT_NO_PATTERN 0 false
  let c := if copy then c.log 0x0300 noSrc p.ver else c
  let c := c.placeFenced.reneed
  let c := if c.isLead then c.claim else c
  if c.twin.won then c.leadWhenLoaded else c
/-- No valid pattern (R60): every slot is unused. -/
def Core.noPattern (c : Core) : Core :=
  let c := c.buildAll {}
  let c := foldN (List.range 8) c (fun c n => c.setReg R.SYS_BINDMAP n 0)
  (c.setBit F.PT_BOOT_NO_PATTERN 0 true).reneed

/-- The check of a flash bank's image, its failure logged (R51, "Flash damage"). -/
def Core.flashCheck (c : Core) (bank : Nat) : Core × Nat × Nat :=
  let (code, record) := c.checkPattern (Tab.get [] c.patFlash bank)
  (if code = 0 then c else c.logRefusal code record noSrc, code, record)
/-- The load of the boot bank, else of the other (R60). -/
def Core.bootLoad (c : Core) (ram : Ram) : Core :=
  let bank := c.get F.PT_BOOT_BANK 0
  let load (c : Core) (b : Nat) : Core := (c.fullLoad ram (Tab.get [] c.patFlash b) true).loaderEnd 0 0xFFFF 0
  let (c, code, _) := c.flashCheck bank
  if code = 0 then load c bank
  else
    let c := c.setBit F.PT_BOOT_FALLBACK 0 true
    let (c, code, record) := c.flashCheck (1 - bank)
    if code = 0 then load c (1 - bank) else c.noPattern.loaderEnd code record 0
/-- The load at a wake from Deep Sleep or after a warm reset (R61): from bank 15 where its digest is PT_DIGEST's. -/
def Core.wakeLoad (c : Core) (ram : Ram) (clean : Bool) : Core :=
  let img := bankImage ram 15
  let digest := (List.range 8).flatMap (fun i => (c.reg R.PT_DIGEST i).toBytes)
  if clean || digestOf img ≠ digest then c.bootLoad ram else (c.fullLoad ram img false).loaderEnd 0 0xFFFF 0

/-- A check ends in LOAD_FLASH: PHASE 4, or the command ends with the code (R50), which is FLASH_FAIL where the bank cannot be read (Table 2.9). -/
def Core.flashVerified (c : Core) (reads : Bool) : Core :=
  if !reads then (c.logRefusal 0x19 0xFFFF noSrc).loaderEnd 0x19 0xFFFF 0
  else
  let img := Tab.get [] c.patFlash c.loader.source
  let (c, code, record) := c.flashCheck c.loader.source
  if code = 0 then { (c.set F.PT_STAT_PHASE 0 4) with loader := { c.loader with image := img } } else c.loaderEnd code record 0
/-- VERIFY_COMPLETE (R47, R49, R50): the checks of Table 2.8 end, in VERIFY or in LOAD_FLASH; `reads` is false where the flash bank cannot be read. A poisoned word in bank 14 is BAD_SIGNATURE (Table 5.2). -/
def execVerifyComplete (s : State) (reads : Bool) : Host.Outcome State Fault Refusal := onMem s (fun ram c =>
  if c.get F.PT_STAT_PHASE 0 ≠ 2 then c
  else if c.loader.cmd = 7 then c.flashVerified reads
  else
    let img := bankImage ram 14
    let bad := ram.poison.filter (fun a => 14 * 0x400000 ≤ a && a < 14 * 0x400000 + img.length)
    let c := foldN bad c Core.poisonRead
    let (code, record) := if !bad.isEmpty then (0x07, 0xFFFF) else c.checkPattern img
    if code = 0 then ({ c with loader := { c.loader with digests := islandDigests img } }.setBit F.PT_STAT_VERIFIED 0 true).loaderEnd 0 0xFFFF 3
    else (({ c with loader := { c.loader with digests := [] } }.setBit F.PT_STAT_VERIFIED 0 false).logRefusal code record noSrc).loaderEnd code record 0)
/-- FULL_LOAD_COMPLETE (R51): ACTIVATE or LOAD_FLASH has copied, built and written everything. The load waits for the pattern lock that a host-requested island reset holds (R110). -/
def execFullLoadComplete (s : State) : Host.Outcome State Fault Refusal := onMem s (fun ram c =>
  if c.rstLock then c else
  let c := if c.get F.PT_STAT_PHASE 0 = 2 && c.loader.cmd = 7 then c.flashVerified true else c
  if c.get F.PT_STAT_PHASE 0 = 4 && (c.loader.cmd = 3 || c.loader.cmd = 7) then (c.fullLoad ram c.loader.image true).loaderEnd 0 0xFFFF 0 else c)
/-- COMMIT_COMPLETE (R52): the bank reads back equal or not. -/
def execCommitComplete (s : State) (equal : Bool) : Host.Outcome State Fault Refusal := onCore s (fun c =>
  if c.get F.PT_STAT_PHASE 0 ≠ 5 then c
  else if !equal then (c.logRefusal 0x19 0xFFFF noSrc).loaderEnd 0x19 0xFFFF 0
  else
    let b := c.loader.source
    let c := { c with patFlash := Tab.set [] c.patFlash b c.loader.image }
    (if c.loader.setBoot then c.set F.PT_BOOT_BANK 0 (1 - c.get F.PT_BOOT_BANK 0) else c).loaderEnd 0 0xFFFF 0)

/-! ### The re-lace (R54–R58, Table 2.10) -/

/-- TEMPLATE or a rate divisor of a slot differs between two patterns (R56). -/
def rateChanged (a b : Pattern) (k : Nat) : Bool := (a.slot k).template ≠ (b.slot k).template || (a.slot k).velDiv ≠ (b.slot k).velDiv || (a.slot k).posDiv ≠ (b.slot k).posDiv
/-- Loops of slots whose TEMPLATE or divisors changed start preset (R56). -/
def Core.presetChanged (c : Core) (old : Pattern) (ks : List Nat) : Core :=
  foldN (ks.filter (rateChanged old c.pat)) c (fun c k => c.askPreset k true true true)
/-- The re-lace that runs ends ABORTED. -/
def Core.relaceAborted (c : Core) : Core := (c.logRefusal 0x1D 0xFFFF c.loader.target).loaderEnd 0x1D 0xFFFF 0
/-- An address in the AX_ block. -/
def axAddr (a : Nat) : Bool := blockOf a = some 7
/-- RELACE_HANDOFF (Table 2.10): at the frame start of the hosted contexts they run on other engines, and the target enters island reset. Where a fence has taken the room since the command, contexts of class B or C go unplaced (R284); a class A one abandons the re-lace (R58). Abandoned before the move, the contexts stay on the target while it is rebuilt from the active pattern. -/
def execRelaceHandoff (s : State) : Host.Outcome State Fault Refusal := onCore s (fun c =>
  let l := c.loader
  if !l.relace || !l.handover || l.handedOver || c.rstLock then c
  else if c.islState l.target = 4 then c.relaceAborted
  else
    let ks := (c.engAt l.target).ctx
    let (c', left) := c.moveOut l.target
    if l.aborted || left.any (fun k => (c.pat.slot k).cls = 1) then { c with loader := { l with handedOver := true, aborted := true, moved := [] } }
    else
      let c := foldN left c' (fun c k => c.unplace k)
      let c := foldN left c (fun c k => c.takeOff k l.target)
      ({ c with loader := { c.loader with handedOver := true, moved := ks } }.islandReset l.target).reneed.judge)
/-- Bank 15 takes from an image the records of the target island, the header words that may change and the SIGNATURE record (R55). -/
def Core.rewriteTarget (c : Core) (img : List Byte) (isl : Nat) : Core :=
  let at_ (c : Core) (o n : Nat) : Core := c.store (15 * 0x400000 + o) ((img.drop o).take n)
  let c := at_ (at_ c 0x18 4) 0x28 8
  ((records img).1.filter (fun r => r.isl = isl || r.type = 15)).foldl (fun c r => at_ c r.off (8 + r.len)) c
/-- The target of a re-lace is rebuilt, bank 15 rewritten, its preloads written, and its canary passes or fails (R57, R58); its crossings resynchronise (R100). -/
def Core.relaceRebuild (c : Core) (ram : Ram) (canary : Bool) : Core :=
  let l := c.loader
  if !l.relace || l.ready || (l.handover && !l.handedOver) || c.rstLock then c
  else
    let old := c.pat
    let img := if l.aborted then l.oldImage else l.image
    let p := if l.aborted then l.oldPat else l.newPat
    let held := l.moved.map (fun k => (k, l.oldPat.slot k))
    let c := c.rewriteTarget img l.target
    let c := { c with pat := { p with slots := held.foldl (fun (t : Tab SlotRecP) (e : Nat × SlotRecP) => Tab.set {} t e.1 e.2) p.slots } }
    let c := (c.leaveReset l.target).setIsl l.target 0
    let c := if 0x10 ≤ l.target then c.groupStart (l.target - 0x10) else c
    let ks := (c.engAt l.target).ctx
    let c := if l.target < 0x10 then foldN ks c (fun c k => ((c.set F.AX_STAT_CLASS k (c.pat.slot k).cls).set F.AX_STAT_ENGINE k l.target)) else c
    let c := c.writePreloads ram p (fun isl a => isl = l.target && !(axAddr a && l.moved.contains ((a - 0x40100000) / 0x100)))
    let c := if l.target < 0x10 then (foldN ks c Core.commitNow).presetChanged old ks else c
    if canary || 0x10 ≤ l.target then { c with loader := { c.loader with ready := true } }.reneed.judge
    else
      let c := if l.aborted then c else c.publishPattern img p
      (c.fence l.target).relaceAborted
/-- A slot's context returns to the target of its re-lace, at its place in the dispatch order of the pattern. -/
def Core.returnCtx (c : Core) (p : Pattern) (isl k : Nat) : Core :=
  let e := c.get F.AX_STAT_ENGINE k
  let g := c.engAt isl
  if 16 ≤ g.ctx.length && !g.ctx.contains k then c
  else
    let c := (c.takeOff k e).hostOn k isl
    let order := (p.engine isl).ctx
    let g := c.engAt isl
    c.setEng isl { g with ctx := order.filter g.ctx.contains ++ g.ctx.filter (fun k => !order.contains k) }
/-- RELACE_RETURN (Table 2.10): at the next frame start the contexts return to the target, and their AX_ preloads are written. Contexts that a fence has meanwhile placed on the target stay there (R58). -/
def execRelaceReturn (s : State) : Host.Outcome State Fault Refusal := onMem s (fun ram c =>
  let l := c.loader
  if !l.relace || !l.handedOver || !l.ready || c.rstLock then c
  else
    let old := c.pat
    let p := if l.aborted then l.oldPat else l.newPat
    let c := { c with pat := p }
    let c := foldN l.moved c (fun c k => c.returnCtx p l.target k)
    let c := c.writePreloads ram p (fun isl a => isl = l.target && axAddr a && l.moved.contains ((a - 0x40100000) / 0x100))
    let c := foldN l.moved c Core.commitNow
    let c := if l.aborted then c else c.presetChanged old l.moved
    let c := { c with loader := { c.loader with handedOver := false, moved := [] } }.reneed
    if l.aborted then c.relaceAborted else c)
/-- RELACE_DONE (R55): the re-lace completes. -/
def execRelaceDone (s : State) : Host.Outcome State Fault Refusal := onCore s (fun c =>
  let l := c.loader
  if !l.relace || !l.ready || l.handedOver || c.rstLock then c
  else if l.aborted then c.relaceAborted
  else (((c.publishPattern l.image l.newPat).addSat F.PT_RELACE_CNT_COUNT 0 1).log 0x0301 l.target l.newPat.ver).loaderEnd 0 0xFFFF 0)

end Sys2Proof.Machine
end

