-- ==== Sys2Proof/Machine/Saddler.lean ====
section
/-! DEFINITION. Saddler (R426–R449): sensors and their trust, the sensor bus, the log in flash, the keys and the firmware images. -/
namespace Sys2Proof.Machine

/-! ### Sensors (R426–R429); points 0–13 are T0–T13, 14 is RH, 15–24 are the rails, 25 is IIN -/

/-- The other points of a point's row of Table 18.1. -/
def rowMates (p : Nat) : List Nat :=
  let row := if p ≤ 3 then [0, 1, 2, 3] else if p ≤ 5 then [4, 5] else if 9 ≤ p && p ≤ 11 then [9, 10, 11] else if p = 12 || p = 13 then [12, 13] else [p]
  row.filter (· ≠ p)
/-- The valid range of a point, in 1/16 °C or in % (Table 18.1). -/
def pointValid (p : Nat) (v : Int) : Bool :=
  if p = 14 then decide (0 ≤ v) && decide (v ≤ 100)
  else decide (-720 ≤ v) && decide (v ≤ (if p = 7 || p = 8 || 12 ≤ p then 2000 else 2400))
/-- The segment of a point (Table 18.1). -/
def segmentOf (p : Nat) : Nat := if p ≤ 5 then 0 else if p ≤ 8 then 1 else if p ≤ 11 then 2 else 3
/-- The STALE flag of a point. -/
def staleFld (p : Nat) : Fld × Nat := if p = 14 then (F.MG_RH_STALE, 0) else (F.MG_TEMP_STALE, p)
/-- A point. -/
def Core.pointAt (c : Core) (p : Nat) : Point := Tab.get {} c.sad.points p
/-- Stores a point. -/
def Core.setPoint (c : Core) (p : Nat) (v : Point) : Core := { c with sad := { c.sad with points := Tab.set {} c.sad.points p v } }
/-- A point becomes STALE, logged at entry (R427). -/
def Core.goStale (c : Core) (p : Nat) : Core :=
  let (f, i) := staleFld p
  let c := c.setPoint p { c.pointAt p with good := 0 }
  if c.bit f i then c else (c.setBit f i true).logFrom 0x28 0x0700 p 0
/-- A scheduled read of a temperature or humidity point (R427). -/
def Core.pointRead (c : Core) (p : Nat) (r : Option Int) : Core :=
  let x := c.pointAt p
  let (f, i) := staleFld p
  if (c.get F.MG_HEALTH_ISOLATED 0).testBit (segmentOf p) then c
  else
    match r with
    | none =>
      let n := Min.min 3 (x.fails + 1)
      let c := c.setPoint p { x with fails := n, good := 0 }
      if n = 3 then c.goStale p else c
    | some v =>
      if !pointValid p v then (c.setPoint p { x with fails := 0 }).goStale p
      else
        let mates := ((rowMates p).filter (fun m => (c.pointAt m).seen)).map (fun m => (m, (c.pointAt m).raw))
        let first := !x.seen
        let x := if x.seen && v = x.raw then
            let far := x.marks.any (fun a => decide (32 ≤ (a.2 - (c.pointAt a.1).raw).natAbs))
            { x with same := Min.min 300 (x.same + 1), moved := x.moved || far }
          else { x with same := 1, moved := false, marks := mates }
        let x := { x with raw := v, seen := true, fails := 0, good := Min.min 10 (x.good + 1) }
        let c := c.setPoint p x
        let c := if p = 14 then c.set F.MG_RH_RH 0 v.toNat else c.set F.MG_TEMP_TEMP p (BitVec.ofInt 16 v).toNat
        let c := if p = 14 && v < 80 then c.setBit F.MG_HEALTH_HUMIDITY_HIGH 0 false else c
        if x.same = 300 && x.moved then c.goStale p
        else if first || x.good = 10 then c.setBit f i false else c
/-- The nominal rail voltages in mV (Table 18.1); rail 0 is VIN. -/
def railNominal (n : Nat) : Nat := [0, 5000, 3300, 1800, 1200, 900, 800, 1000, 3300, 3000].getD n 0
/-- A rail lies in its range. -/
def railOk (n mv : Nat) : Bool := if n = 0 then 8000 ≤ mv && mv ≤ 60000 else decide (railNominal n * 95 ≤ mv * 100) && decide (mv * 100 ≤ railNominal n * 105)
/-- A rail measured by the converter: its value, and FAULT of a rail that is back in its range; V_BKP is the cell's reading (R404). -/
def Core.railRead (c : Core) (n mv : Nat) : Core :=
  let c := c.set F.MG_RAIL_MV n (Min.min 0xFFFF mv)
  let c := if n = 0 then c.set F.PW_SUPPLY_VIN 0 (Min.min 0xFFFF (mv / 10)) else c
  let c := if n = 9 then (c.set F.PW_CELL_CELL_MV 0 (Min.min 0xFFFF mv)).setBit F.PW_CELL_CELL_LOW 0 (decide (mv < 2500)) else c
  let c := if railOk n mv then c.setBit F.MG_RAIL_FAULT n false else c
  c.setBit F.MG_HEALTH_RAIL_FAULT 0 ((List.range 10).any (fun i => c.bit F.MG_RAIL_FAULT i))
/-- Isolates a segment: its points are STALE; with all four isolated the trunk is at fault. -/
def Core.isolate (c : Core) (seg : Nat) : Core :=
  let old := c.get F.MG_HEALTH_ISOLATED 0
  if old.testBit seg then c
  else
    let c := c.set F.MG_HEALTH_ISOLATED 0 (old ||| 2 ^ seg)
    let c := foldN ((List.range 15).filter (fun p => segmentOf p == seg)) c Core.goStale
    let c := (c.setBit F.MG_HEALTH_STALE_ANY 0 true).logFrom 0x28 0x0701 seg 0
    c.setBit F.MG_HEALTH_I2C_TRUNK 0 (c.get F.MG_HEALTH_ISOLATED 0 = 15)
/-- A point on the sensor bus is read (R427, R430, R431): a bus that a recovery freed counts it and the read goes on; one that three attempts did not free has its segment isolated, and the read fails. -/
def Core.busRead (c : Core) (p : Nat) (bus : BusCheck) (r : Option Int) : Core :=
  if (c.get F.MG_HEALTH_ISOLATED 0).testBit (segmentOf p) then c
  else
    match bus with
    | .free => c.pointRead p r
    | .recovered => (c.addSat F.MG_I2C_RECOVERIES 0 1).pointRead p r
    | .held => (c.pointRead p none).isolate (segmentOf p)
/-- SENSOR_READ (R426, R427, R430, R431): a scheduled read of a point, with the bus as it stood before the START; none is a read that failed. The converter's points are not on the bus. -/
def execSensorRead (s : State) (point : Nat) (bus : BusCheck) (r : Option Int) : Host.Outcome State Fault Refusal := inRange "sensor point" point 26 (onCore s (fun c =>
  if !c.runs 0x28 then c
  else
    let c := if point < 15 then c.busRead point bus r
      else match r with
        | none => c
        | some v =>
          let c := if point < 25 then c.railRead (point - 15) v.toNat else c.set F.MG_IIN_MA 0 (Min.min 0xFFFF v.toNat)
          if point = 15 || point = 25 then { c with sched := { c.sched with pinSum := c.sched.pinSum + c.pinNow, pinN := c.sched.pinN + 1 } } else c
    c.setBit F.MG_HEALTH_STALE_ANY 0 ((List.range 15).any (fun p => let (f, i) := staleFld p; c.bit f i))))
/-- RAIL_FAULT (R428): a rail has been outside its range for 100 µs. -/
def execRailFault (s : State) (rail mv : Nat) : Host.Outcome State Fault Refusal := inRange "rail" rail 10 (onCore s (fun c =>
  if !c.runs 0x28 || railOk rail mv then c
  else
    let was := c.bit F.MG_RAIL_FAULT rail
    let c := ((c.set F.MG_RAIL_MV rail (Min.min 0xFFFF mv)).setBit F.MG_RAIL_FAULT rail true).setBit F.MG_RAIL_FAULT_SEEN rail true
    let c := c.setBit F.MG_HEALTH_RAIL_FAULT 0 true
    if was then c else c.logFrom 0x28 0x0703 rail mv))
/-- HUMIDITY_HIGH (R429): RH has been above 85 % for 10 minutes. -/
def execHumidityHigh (s : State) (rh : Nat) : Host.Outcome State Fault Refusal := onCore s (fun c =>
  if !c.runs 0x28 || c.bit F.MG_HEALTH_HUMIDITY_HIGH 0 then c
  else (c.setBit F.MG_HEALTH_HUMIDITY_HIGH 0 true).logFrom 0x28 0x0704 noSrc rh)

/-! ### The sensor bus (R430–R432) -/

/-- I2C_SCL_STUCK (R431): SCL of a segment has stayed low for 2 ms. -/
def execI2cSclStuck (s : State) (seg : Nat) : Host.Outcome State Fault Refusal := inRange "bus segment" seg 4 (onCore s (fun c => if c.runs 0x28 then c.isolate seg else c))
/-- The check of every isolated segment (R431, R432): `pass` says which pass, and `recovered` which of those a recovery freed. -/
def Core.segmentRetry (c : Core) (pass recovered : Nat) : Core :=
  foldN (bitsOf 4 (c.get F.MG_HEALTH_ISOLATED 0)) c (fun c seg =>
    if !pass.testBit seg then c
    else
      let c := if recovered.testBit seg then c.addSat F.MG_I2C_RECOVERIES 0 1 else c
      ((c.set F.MG_HEALTH_ISOLATED 0 (c.get F.MG_HEALTH_ISOLATED 0 &&& (15 - 2 ^ seg))).setBit F.MG_HEALTH_I2C_TRUNK 0 false).logFrom 0x28 0x0702 seg 0)
/-- SEGMENT_RETRY (R432): every 60 s. -/
def execSegmentRetry (s : State) (pass recovered : BitVec 4) : Host.Outcome State Fault Refusal := onCore s (fun c => if c.runs 0x28 then c.segmentRetry pass.toNat recovered.toNat else c)

/-! ### The log (R433–R438) -/

/-- Refreshes what the registers show of the log in flash. -/
def Core.logShow (c : Core) : Core :=
  let d := c.sad
  let shown := d.ring.length - 32768
  let c := (c.set F.MG_LOG_STAT_PIN_FILL 0 (Min.min 2048 d.pins.length)).setBit F.MG_HEALTH_PIN_FULL 0 (decide (2048 ≤ d.pins.length))
  let c := match d.ring.getLast? with | some e => c.set F.MG_LOG_NEWEST_LSEQ 0 e.lseq | none => c
  let c := match (d.ring.drop shown).head? with | some e => c.set F.MG_LOG_OLDEST_LSEQ 0 e.lseq | none => c
  c.set F.MG_LOG_WEAR_ERASES 0 d.wear
/-- Writes an entry to the ring. The sector after the current one is erased as the current one begins, so the most-worn sector gains an erase in each pass of 63 sectors (R435, R439). -/
def Saddler.toRing (d : Saddler) (e : LogEntry) : Saddler :=
  { d with ring := d.ring ++ [e], written := d.written + 1, wear := ((d.written + 2048) / 2048 + 62) / 63 }
/-- A log sequence number is older than another, by serial-number arithmetic (R367, R454). -/
def olderLseq (a b : Nat) : Bool := a ≠ b && decide ((b + 2 ^ 32 - a) % 2 ^ 32 < 2 ^ 31)
/-- Writes one queued entry to flash: the older of the two queues' heads; pinned entries wait while the pinned region is erased (R436, R437). -/
def Core.logWrite (c : Core) : Core :=
  let d := c.sad
  let pin := if d.pinErasing then none else d.qPin.head?
  let d := match pin, d.qRing.head? with
    | some p, some r => if olderLseq p.lseq r.lseq then (if d.pins.length < 2048 then { d with pins := d.pins ++ [p] } else d.toRing { p with overflow := true }) |> fun d => { d with qPin := d.qPin.drop 1 }
      else { d.toRing r with qRing := d.qRing.drop 1 }
    | some p, none => (if d.pins.length < 2048 then { d with pins := d.pins ++ [p] } else d.toRing { p with overflow := true }) |> fun d => { d with qPin := d.qPin.drop 1 }
    | none, some r => { d.toRing r with qRing := d.qRing.drop 1 }
    | none, none => d
  let c := { c with sad := d }
  let c := if 0 < d.dropped && d.qRing.length < 1024 then ({ c with sad := { d with dropped := 0 } }).logFrom 0x28 0x0709 noSrc d.dropped else c
  c.logShow
/-- Writes entries until the queues are empty or a count is reached. -/
def Core.logFlush (c : Core) : Nat → Core
  | 0 => c
  | n + 1 => if c.sad.qRing.isEmpty && (c.sad.qPin.isEmpty || c.sad.pinErasing) then c else c.logWrite.logFlush n
/-- LOG_FLASH_WRITE (R437, R439): one entry; a sector that fails to erase or program is replaced from SPARE first, and what it held stays readable. -/
def execLogFlashWrite (s : State) (failed : Bool) : Host.Outcome State Fault Refusal := onCore s (fun c =>
  if !c.runs 0x28 then c
  else if failed then c.logWrite.setBit F.MG_HEALTH_FLASH_RETIRED 0 true
  else c.logWrite)
/-- The supply-fail order (R438): SUPPLY_FAIL, then the pinned queue, then the ring queue, until the clamps engage; how many are written is open, and the rest are counted. -/
def Core.logSupplyFail (c : Core) : Core :=
  let waiting := c.sad.qPin
  let (w, c) := ({ c with sad := { c.sad with qPin := [] } }.logFrom 0x28 0x0403 noSrc 0).fresh
  let d := c.sad
  let q := d.qPin ++ waiting ++ d.qRing
  let n := Max.max 1 (w.toNat % (q.length + 1))
  let d := (q.take n).foldl (fun (d : Saddler) e => if e.pinned && d.pins.length < 2048 then { d with pins := d.pins ++ [e] } else d.toRing { e with overflow := e.pinned }) { d with qPin := [], qRing := [] }
  { c with sad := { d with lostAtFail := q.length - n } }.logShow
/-- A write of MG_LOG_CTRL (R436, R450): READ, READ_PIN, or PIN_CLEAR with KEY 0x5A. -/
def Core.logCtrl (c : Core) (read pin clear : Bool) (key : Nat) : Core :=
  let sel := c.get F.MG_LOG_SEL_SEL 0
  let c := if read then { c with sad := { c.sad with readReq := some (false, sel) } }.setBit F.MG_LOG_STAT_BUSY 0 true
    else if pin then { c with sad := { c.sad with readReq := some (true, sel % 2048) } }.setBit F.MG_LOG_STAT_BUSY 0 true else c
  if clear && key = 0x5A then { c with sad := { c.sad with pinErasing := true } } else c
/-- The CRC of a stored entry fails (Table 18.2). -/
def entryDamaged (bs : List Byte) : Bool := decide (uN 4 bs 28 ≠ (Crypto.crc32 (bs.take 28)).toNat)
/-- LOG_READ_DONE (R450): MG_LOG_DATA holds the selected entry, or 0 with NOT_FOUND. `stored` is what the flash gives where it no longer holds what was written: an entry whose CRC fails is returned as stored, with CRC_BAD. -/
def execLogReadDone (s : State) (stored : Option (List Byte)) : Host.Outcome State Fault Refusal := onCore s (fun c =>
  match c.sad.readReq with
  | none => c
  | some (pin, sel) =>
    let d := c.sad
    let e := if pin then d.pins[sel]? else (d.ring.drop (d.ring.length - 32768)).find? (fun e => e.lseq == sel)
    let bytes := match e with | some e => stored.getD e.toBytes | none => []
    let c := { c with sad := { d with readReq := none } }
    let c := foldN (List.range 8) c (fun c i => c.setReg R.MG_LOG_DATA i (BitVec.ofNat 32 (uN 4 bytes (4 * i))))
    ((c.setBit F.MG_LOG_STAT_BUSY 0 false).setBit F.MG_LOG_STAT_NOT_FOUND 0 e.isNone).setBit F.MG_LOG_STAT_CRC_BAD 0 (e.isSome && stored.any entryDamaged))
/-- PIN_CLEARED (R436): the pinned region is erased; the entry names the last one cleared. -/
def execPinCleared (s : State) : Host.Outcome State Fault Refusal := onCore s (fun c =>
  if !c.sad.pinErasing then c
  else
    let last := match c.sad.pins.getLast? with | some e => e.lseq | none => 0
    ({ c with sad := { c.sad with pins := [], pinErasing := false } }.logFrom 0x28 0x070A noSrc last).logShow)
/-- Saddler stops while it erases the pinned region: which entries are left is open (R448). -/
def Core.pinCut (c : Core) : Core :=
  if !c.sad.pinErasing then c
  else
    let n := c.freeIdx
    { c with freeIdx := n + c.sad.pins.length
             sad := { c.sad with pinErasing := false, pins := ((List.zip c.sad.pins (List.range c.sad.pins.length)).filter (fun e => (Config.freeWord (n + e.2)).getLsbD 0)).map (·.1) } }

/-! ### Keys (R440–R442) -/

/-- The identifier of a key: the first three bytes of SHA-256("XKEYID01" ‖ key). -/
def keyId (key : List Byte) : Nat := uN 3 (Crypto.sha256 ([0x58, 0x4B, 0x45, 0x59, 0x49, 0x44, 0x30, 0x31] ++ key)) 0
/-- The bytes of window words from `a`, `n` of them. -/
def Core.keyBytes (c : Core) (a n : Nat) : List Byte := (List.range n).flatMap (fun i => (Tab.get 0 c.sad.keyWindow (a + i)).toBytes)
/-- An access to MG_KEY_DATA (R441): the window word at IDX, which advances; a read gives 0. -/
def Core.keyData (c : Core) (wr : Option Word) : Core :=
  let i := c.get F.MG_KEY_IDX_IDX 0
  let c := match wr with | some w => { c with sad := { c.sad with keyWindow := Tab.set 0 c.sad.keyWindow i w } } | none => c
  c.set F.MG_KEY_IDX_IDX 0 ((i + 1) % 32)
/-- The key slot that a LOAD by a path would make: an HK key unwrapped under the session's KS, or a public key. -/
def Core.newKey (c : Core) (p : Path) (slot : Nat) (expert : Bool) : Option KeySlot :=
  if slot ≤ 3 then
    match p with
    | .strap sid =>
      let pad := Crypto.hmac (c.sessAt sid).ks ([0x53, 0x54, 0x52, 0x41, 0x50, 0x4B, 0x57, 0x31] ++ bytesOfNat 2 sid ++ bytesOfNat 1 slot)
      some { present := true, expert := expert, key := (List.zip (c.keyBytes 0 8) pad).map (fun (a, b) => a ^^^ b) }
    | _ => none
  else
    let k := c.keyBytes 0 16
    if Crypto.onCurve (natOfBytesBE (k.take 32)) (natOfBytesBE (k.drop 32)) then some { present := true, key := k } else none
/-- The RESULT of a key change, 0 where it is accepted, and the slot it makes (R441, R442). -/
def Core.keyCheck (c : Core) (p : Path) (slot : Nat) (expert clear : Bool) : Nat × KeySlot :=
  let old := c.keyAt slot
  let new := if clear then some {} else c.newKey p slot expert
  let body := if clear then List.replicate 64 (0 : Byte) else c.keyBytes 0 16
  let digest := Crypto.sha256 ([0x58, 0x4B, 0x45, 0x59, 0x52, 0x45, 0x50, 0x4C] ++ bytesOfNat 1 slot ++ body ++ bytesOfNat 4 (c.reg R.SYS_SERIAL 0).toNat)
  let leftExpert := (List.range 4).any (fun i => if i = slot then new.any (fun k => k.present && k.expert) else (c.keyAt i).present && (c.keyAt i).expert)
  if c.sad.keyPend.isSome then (7, {})
  else if 8 < slot then (1, {})
  else if 4 ≤ slot && old.present && !Crypto.ecdsa old.key (c.keyBytes 16 16) digest then (2, {})
  else if slot = 8 && !c.allSto then (3, {})
  else if slot ≤ 3 && !leftExpert then (4, {})
  else match new with | some k => (0, k) | none => (5, {})
/-- A write of MG_KEY_CTRL.LOAD or CLEAR (R441). -/
def Core.keyCtrl (c : Core) (p : Path) (slot : Nat) (expert clear : Bool) : Core :=
  let (r, k) := c.keyCheck p slot expert clear
  let c := c.set F.MG_KEY_STAT_RESULT 0 r
  if r ≠ 0 then c.logFrom 0x28 0x0606 slot r
  else { c with sad := { c.sad with keyPend := some (slot, k, clear) } }.setBit F.MG_KEY_STAT_BUSY 0 true
/-- The end of a key change: the store holds it, or FLASH_FAIL (R441). -/
def Core.keyCommit (c : Core) (ok : Bool) : Core :=
  match c.sad.keyPend with
  | none => c
  | some (slot, k, clear) =>
    let c := { c with sad := { c.sad with keyPend := none } }.setBit F.MG_KEY_STAT_BUSY 0 false
    if ok then (c.setKey slot k).logFrom 0x28 0x0605 slot (if clear then 0 else keyId k.key)
    else (c.set F.MG_KEY_STAT_RESULT 0 6).logFrom 0x28 0x0606 slot 6
/-- KEY_COMMIT_DONE (R441). -/
def execKeyCommitDone (s : State) (ok : Bool) : Host.Outcome State Fault Refusal := onCore s (fun c => c.keyCommit ok)

/-! ### Firmware images (R444–R447) -/

/-- The bank that is not booted. -/
def Core.spareBank (c : Core) : Nat := 1 - c.runBank
/-- A refused or failed image command (R445). -/
def Core.imgRefuse (c : Core) (r : Nat) : Core := (c.set F.MG_IMG_STAT_RESULT 0 r).logFrom 0x28 0x0708 noSrc r
/-- A command of MG_IMG_CTRL by a path (R445–R448). -/
def Core.imgCtrl (c : Core) (p : Path) (cmd : Nat) : Core :=
  let running := c.get F.MG_IMG_CTRL_CMD 0
  let b := c.spareBank
  if cmd = 0 || 5 < cmd then c
  else if c.sad.imgOwner.any (· ≠ p) || running ≠ 0 then c.imgRefuse 7
  else
    let own (c : Core) : Core := { c with sad := { c.sad with imgOwner := some p } }.set F.MG_IMG_STAT_RESULT 0 0
    match cmd with
    | 1 =>
      let c := { own c with imgFlash := Tab.set [] c.imgFlash b [] }
      let c := { c with sad := { c.sad with imgVerified := false } }
      (((c.setReg R.MG_IMG_LINK b 0).setReg R.MG_IMG_SECVER b 0).set F.MG_IMG_STAT_PHASE 0 1).set F.MG_IMG_CTRL_CMD 0 1
    | 2 => ((own c).set F.MG_IMG_STAT_PHASE 0 2).set F.MG_IMG_CTRL_CMD 0 2
    | 3 =>
      if c.twin.takeover || c.loading || c.get F.PT_STAT_PHASE 0 = 4 then c.imgRefuse 7
      else if !c.sad.imgVerified || c.get F.MG_IMG_LINK_STATE b ≠ 2 then c.imgRefuse 8
      else if c.isLead && !c.readyPartner && !c.allSto then c.imgRefuse 9
      else
        let c := ((own c).set F.MG_IMG_LINK_STATE b 3).logFrom 0x28 0x0705 noSrc b
        { c with sad := { c.sad with imgTrial := true, imgTrialBank := b = 1, imgTrialBoots := 0, imgOwner := none }, deferred := some (.reset 2 0x0A false) }
    | 4 => (own c).imgConfirm
    | _ => { c with sad := { c.sad with imgOwner := none } }.set F.MG_IMG_STAT_PHASE 0 0
/-- An entry to Deep Sleep or Off abandons a running image command, and the bank is left unverified (R448). -/
def Core.imgAbandon (c : Core) : Core :=
  let c := if c.get F.MG_IMG_CTRL_CMD 0 = 2 then c.set F.MG_IMG_LINK_STATE c.spareBank 1 else c
  { c with sad := { c.sad with imgOwner := none, imgVerified := false } }
/-- The owner of the image sequence is gone. -/
def Core.imgRelease (c : Core) (p : Path) : Core := if c.sad.imgOwner = some p then { c with sad := { c.sad with imgOwner := none } }.set F.MG_IMG_STAT_PHASE 0 0 else c
/-- A word stored at a place of a byte list; erased flash reads 0xFF. -/
def putWord (b : List Byte) (o : Nat) (w : Word) : List Byte :=
  let b := b ++ List.replicate (o + 4 - b.length) 0xFF
  b.take o ++ w.toBytes ++ b.drop (o + 4)
/-- A write of MG_IMG_DATA (R445): one word at MG_IMG_ADDR, which advances by 4; only in PHASE 1 and by the path that owns the sequence. -/
def Core.imgData (c : Core) (p : Path) (w : Word) : Core :=
  if c.sad.imgOwner ≠ some p || c.get F.MG_IMG_STAT_PHASE 0 ≠ 1 || c.get F.MG_IMG_CTRL_CMD 0 ≠ 0 then c
  else
    let b := c.spareBank
    let o := c.get F.MG_IMG_ADDR_OFFSET 0
    let c := { c with imgFlash := Tab.set [] c.imgFlash b (putWord (Tab.get [] c.imgFlash b) (4 * o) w) }
    let c := { c with sad := { c.sad with imgVerified := false } }.set F.MG_IMG_LINK_STATE b 1
    (c.setReg R.MG_IMG_DATA 0 w).set F.MG_IMG_ADDR_OFFSET 0 (o + 1)
/-- IMG_ERASE_DONE (R445): the bank is ready for writes. -/
def execImgEraseDone (s : State) : Host.Outcome State Fault Refusal := onCore s (fun c => if c.get F.MG_IMG_CTRL_CMD 0 = 1 then c.set F.MG_IMG_CTRL_CMD 0 0 else c)
/-- IMG_VERIFY_DONE (R445): the checks end; what the header, digests and signature say is free, since the image's layout is not in the manual. -/
def execImgVerifyDone (s : State) : Host.Outcome State Fault Refusal := onCore s (fun c =>
  if c.get F.MG_IMG_CTRL_CMD 0 ≠ 2 then c
  else
    let b := c.spareBank
    let img := Tab.get [] c.imgFlash b
    let c := c.set F.MG_IMG_CTRL_CMD 0 0
    let r := Config.imageCheck img % 5
    let ver := Config.imageSecVer img
    let r := if r ≠ 0 then r else if ver < c.reg R.MG_IMG_FLOOR 0 then 5 else 0
    if r ≠ 0 then (({ c with sad := { c.sad with imgVerified := false } }.set F.MG_IMG_STAT_PHASE 0 1).set F.MG_IMG_LINK_STATE b 1).imgRefuse r
    else
      let c := { c with sad := { c.sad with imgVerified := true } }.set F.MG_IMG_STAT_PHASE 0 3
      let c := (c.setReg R.MG_IMG_SECVER b ver).set F.MG_IMG_LINK_LINK_VER b (Config.imageLinkVer img).toNat
      (c.set F.MG_IMG_LINK_STATE b 2).set F.MG_IMG_STAT_RESULT 0 0)
/-- IMG_LEAD_CONFIRM (R447): the module has been LEAD in RUN for 60 s. -/
def execImgLeadConfirm (s : State) : Host.Outcome State Fault Refusal := onCore s (fun c => if c.isLead && c.get F.PW_STAT_STATE 0 = 0 then c.imgConfirm else c)
/-- IMG_TRIAL_TIMEOUT (R447): a start of the trial bank has not reached RUN within 2 s; the next start boots the former bank. -/
def execImgTrialTimeout (s : State) : Host.Outcome State Fault Refusal := onCore s (fun c =>
  if c.sad.imgTrial then { c with sad := { c.sad with imgTrialBoots := 2 } } else c)
/-- The boot code's choice at a start (R444, R447): a trial that has been started before falls back; a boot bank that fails its check gives way to the other. The Bool says that some bank boots; the banks that fell back are noted for Yarrow. -/
def Core.imageBoot (c : Core) : Core × Bool :=
  let note (c : Core) (bank : Nat) : Core := { c with sad := { c.sad with fallbacks := c.sad.fallbacks ++ [bank] } }
  let c :=
    if !c.sad.imgTrial then c.setBit F.MG_IMG_STAT_TRIAL 0 false
    else
      let b := if c.sad.imgTrialBank then 1 else 0
      if c.sad.imgTrialBoots = 0 then { c with sad := { c.sad with imgTrialBoots := 1 } }.setBit F.MG_IMG_STAT_TRIAL 0 true
      else note (({ c with sad := { c.sad with imgTrial := false } }.setBit F.MG_IMG_STAT_TRIAL 0 false).set F.MG_IMG_LINK_STATE b 1) b
  let good (b : Nat) : Bool := 2 ≤ c.get F.MG_IMG_LINK_STATE b
  if good c.runBank then (c, true)
  else if good (1 - c.runBank) then
    let n := 1 - c.runBank
    (note (({ c with sad := { c.sad with imgTrial := false } }.setBit F.MG_IMG_STAT_TRIAL 0 false).set F.MG_IMG_STAT_BOOT 0 n) n, true)
  else (c, false)
/-- What Yarrow shows of the boot as it starts: TRIAL of an image on trial, and FALLBACK, logged, of a bank that fell back (R444, R447). -/
def Core.showBoot (c : Core) : Core :=
  let trial := c.sad.imgTrial && c.sad.imgTrialBoots == 1
  let banks := c.sad.fallbacks
  let c := ({ c with sad := { c.sad with fallbacks := [] } }.setBit F.MG_IMG_STAT_TRIAL 0 trial).setBit F.MG_HEALTH_IMG_TRIAL 0 trial
  banks.foldl (fun c bank => ((c.setBit F.MG_IMG_STAT_FALLBACK 0 true).setBit F.MG_HEALTH_IMG_FALLBACK 0 true).logFrom 0x28 0x0707 noSrc bank) c

end Sys2Proof.Machine
end

