-- ==== Sys2Proof/Machine/Sessions.lean ====
section
/-! DEFINITION. The end of a Strap session (R75, R88). -/
namespace Sys2Proof.Machine

/-- A session closes; `cause` is 0 for CLOSE, which is not logged, else 1 idle, 2 reset, 3 power state. A half-open session ends in silence. -/
def Core.closeSess (c : Core) (sid cause : Nat) : Core :=
  let s := c.sessAt sid
  if !s.live then c
  else
    let c := ((c.setSess sid {}).endPath (.strap sid)).imgRelease (.strap sid)
    let c := if c.wdHeld = some sid then { c with wdHeld := none } else c
    let c := { c with stalls := c.stalls.filter (fun e => e.1 ≠ .strap sid) }
    if s.half || cause = 0 then c else c.logFrom 0x23 0x0601 sid cause
/-- Every session closes, and no request waits any more. -/
def Core.closeAll (c : Core) (cause : Nat) : Core := { foldN (c.sessions.map (·.1)) c (fun c sid => c.closeSess sid cause) with strapWait := none, strapQ := [] }

/-- The network island enters island reset: every session closes (R75), and with SYS_AWL.ENABLE the Awl port's path ends (R4, R81). -/
def Core.networkReset (c : Core) : Core := (((c.closeAll 2).endPath .awl).imgRelease .awl).islandReset 0x23

end Sys2Proof.Machine
end

