-- ==== Sys2Proof/Machine/Power.lean ====
section
/-! DEFINITION. Power states (R388–R409): requests, transitions and their checks, entries, the backup cell and the supply. -/
namespace Sys2Proof.Machine

/-- The module's power state and its active transition. -/
def Core.pwState (c : Core) : Nat := c.get F.PW_STAT_STATE 0
/-- Target of the active transition, 7 none. -/
def Core.pwActive (c : Core) : Nat := c.get F.PW_STAT_ACTIVE 0
/-- The RESULT of Table 16.2 that a target meets, 0 for none (R394). -/
def Core.pwRefusal (c : Core) (t : Nat) : Nat :=
  let deep := 2 ≤ t && t ≤ 4
  if deep && !c.allSto then 1
  else if deep && c.usedSlots.any (fun k => ((c.pat.slot k).kind = 2 || (c.pat.slot k).kind = 3) && c.profState k ≠ 0) then 2
  else if c.hostFailed then 3
  else if 4 < t then 4
  else 0
/-- Cause STARTUP on every group, held until the module is back in Run (R395). -/
def Core.holdStartup (c : Core) : Core := foldN (List.range 16) { c with bridle := { c.bridle with startup := true } } (fun c g => (c.cancelRelease g).set F.SF_GRP_CAUSE g 0)
/-- The entry into Deep Sleep or Off up to its abort point (R399, Table 16.5): LINK_STOP, claims, sessions, CAN, outputs, strings and the time copy. -/
def Core.enterDeep (c : Core) : Core :=
  let c := if c.link = 0 then c else ((c.dropRecords.emit (.ordered 0x40)).emit (.ordered 0x40)).emit (.ordered 0x40)
  let c := (c.set F.TW_ROLE_LINK 0 7).releaseClaims.xb2
  let c := c.closeAll 3
  let c := foldN (List.range 4) c (fun c ch => c.set F.CN_STAT_STATE ch 0)
  c.timeCopy
/-- A transition starts and is checked (R394). A target shallower than the present state starts with the wake to Run, and waits behind it (R403). An ALARM that already lies in the past abandons an entry at its start (R402). -/
def Core.pwStart (c : Core) (t : Nat) : Core :=
  let r := c.pwRefusal t
  if r ≠ 0 then c.pwDeny r t
  else if t < c.pwState then
    let c := (c.set F.PW_STAT_ACTIVE 0 0).set F.PW_WAKE_SRC_FROM 0 c.pwState
    if t = 0 then c else c.pwPend t
  else
    let c := c.set F.PW_STAT_ACTIVE 0 t
    let c := if 2 ≤ t then c.holdStartup else c
    let c := if 3 ≤ t then foldN (List.range 16) { c with power := { c.power with retain := c.get F.AR_RETAIN_MASK 0 } } (fun c g => c.assertXsto g) else c
    let alarm := (c.get64 R.PW_ALARM_LO R.PW_ALARM_HI 0).toNat
    if alarm ≠ 0 && alarm ≤ c.backSec && c.wakeEnabled 9 then c.wakeBy 9
    else if 3 ≤ t then c.enterDeep else c
/-- A write of PW_REQ.TARGET (R393, R396). A write of 0 in Idle, Sleep or on the way there is wake source 10. -/
def Core.powerReq (c : Core) (t : Nat) : Core :=
  let c := c.sendLevel 0x25 0x28 linePower t
  let a := c.pwActive
  if t = 0 && (a = 1 || a = 2 || (a = 7 && c.pwState ≠ 0)) then c.wakeBy 10
  else if t = 0 && a = 0 then (c.wakeBy 10).set F.PW_STAT_RESULT 0 0
  else if a ≠ 7 then (if t = a then c.set F.PW_STAT_RESULT 0 0 else c.pwPend t)
  else if t = c.pwState then c.set F.PW_STAT_RESULT 0 0
  else if c.pwHeld then c.pwPend t
  else c.pwStart t
/-- POWER_TRANSITION_START (R393, R394): the pending request starts when nothing holds it. -/
def execPowerTransitionStart (s : State) : Host.Outcome State Fault Refusal := onCore s (fun c =>
  let t := c.get F.PW_STAT_PENDING 0
  if t = 7 || c.pwActive ≠ 7 || c.pwHeld || c.rst.held then c
  else
    let c := c.set F.PW_STAT_PENDING 0 7
    if t = c.pwState then c.set F.PW_STAT_RESULT 0 0 else c.pwStart t)

/-- On entry to Sleep or deeper every virtual slot comes to rest, and its path and gear relation end (R390). -/
def Core.restVirtual (c : Core) : Core :=
  let t := c.profNs
  let c := foldN c.usedSlots c (fun c k =>
    if (c.pat.slot k).kind = 4 then ((c.breakPath k t).restAt k t (c.profileAt k t).1).publishState k t else c)
  foldN (List.range 16) c (fun c g => (c.setIg g {}).setBit F.IG_STAT_MOVING g false)
/-- The islands that Sleep stops, if they run: stitch, lane, profile and scheduler (Table 16.1). -/
def sleepIslands : List Nat := List.range 0x20 ++ [0x21, 0x26]
/-- The islands that Deep Sleep gates (Table 16.1). -/
def mainAndSaddler : List Nat := List.range 0x29
/-- POWER_ENTRY_COMPLETE (R398, R399): the parts of the state are stopped or gated, the log queue written before the clamps engage. The bank locks of what stops are released, and the memory island stops only between transfers (R135). A session that opened during the entry closes as well (R75). -/
def execPowerEntryComplete (s : State) : Host.Outcome State Fault Refusal := onCore s (fun c =>
  let t := c.pwActive
  let c := if 2 ≤ t && t ≤ 4 then (if 3 ≤ t then (c.dropLocks 6).dropLocks 7 else c.dropLocks 7) else c
  if t = 0 || 4 < t || (3 ≤ t && (List.range 16).any (fun b => (c.bankAt b).holder.isSome)) then c
  else
    let c := c.logFrom 0x28 0x0400 noSrc t
    let c := if 2 ≤ t then c.restVirtual else c
    let c := if t = 2 then foldN (List.range 56) c (fun c p => if c.bit F.FB_CFG_SLEEP_RUN p then c else c.exciteStop p) else c
    let c := if t = 2 then foldN sleepIslands c (fun c i => if c.islState i = 0 then c.setIsl i 1 else c) else c
    let c := if t < 3 then c
      else
        let c := ((c.closeAll 3).keyCommit true).imgAbandon
        let c := c.logFlush (c.sad.qRing.length + c.sad.qPin.length + 2)
        let c := foldN mainAndSaddler c (fun c i => c.setIsl i 2)
        let c := { c with twin := { c.twin with failOut := false }, power := { c.power with clamps := true, phy := 3 } }
        if t = 4 then c.bridleOff else c
    ((c.set F.PW_STAT_STATE 0 t).set F.PW_STAT_ACTIVE 0 7).set F.PW_STAT_RESULT 0 0)
/-- APP_ISLAND_IDLE (R389): in Idle and Sleep the application island stops 1 ms after its last work. -/
def execAppIslandIdle (s : State) : Host.Outcome State Fault Refusal := onCore s (fun c =>
  if (c.pwState = 1 || c.pwState = 2) && c.runs 0x25 then c.setIsl 0x25 1 else c)

/-! ### The cell and the supply (R404–R407) -/

/-- CELL_REMOVED (R405): charging stops, and the cell is absent. -/
def execCellRemoved (s : State) : Host.Outcome State Fault Refusal := onCore s (fun c =>
  let c := { c with power := { c.power with cell := false } }.setBit F.PW_CELL_CHARGING 0 false
  if c.bit F.PW_CELL_CELL_ABSENT 0 then c
  else ((c.setBit F.PW_CELL_CELL_ABSENT 0 true).setBit F.PW_CELL_CELL_ABSENT_SEEN 0 true).logFrom 0x29 0x0404 noSrc 0)
/-- CELL_PRESENT (R405): a cell has been present for 5 s; it is charged while the supply is there. -/
def execCellPresent (s : State) : Host.Outcome State Fault Refusal := onCore s (fun c =>
  ({ c with power := { c.power with cell := true } }.setBit F.PW_CELL_CELL_ABSENT 0 false).setBit F.PW_CELL_CHARGING 0 c.power.supply)
/-- CHARGE_DONE (R404). -/
def execChargeDone (s : State) : Host.Outcome State Fault Refusal := onCore s (fun c => c.setBit F.PW_CELL_CHARGING 0 false)
/-- The backup domain loses its state (R405): B-class fields, the seconds counts, the latch record and the count of lost log entries (R438). -/
def Core.loseBackup (c : Core) : Core :=
  { c.loseFields (fun _ _ f => f.cls = .B) with backSec := 0, backSub := 0, backKept := false, latchRec := [], sad := { c.sad with lostAtFail := 0 } }
/-- BACKUP_LOSS (R405). -/
def execBackupLoss (s : State) : Host.Outcome State Fault Refusal := onCore s Core.loseBackup
/-- The supply-fail shutdown (R407, Table 16.8): every GEN_A and first brake path goes, the log and the time copy are made, and the domains are gated until the supply returns; the clamps release FAIL_OUT (R467). -/
def Core.supplyFail (c : Core) (seen : Fld) : Core :=
  if !c.runs 0x28 && c.islState 0x28 ≠ 3 then c
  else
    let c := c.setBit seen 0 true
    let c := foldN (List.range 16) c (fun c g => c.enterSto g 0 false)
    let c := if c.isLead then c.assertFail else c
    let c := c.releaseClaims.xb2
    let c := { c with twin := { c.twin with takeover := false } }
    let c := c.logSupplyFail.timeCopy
    let c := (c.set F.PW_STAT_ACTIVE 0 7).set F.PW_STAT_PENDING 0 7
    let c := c.assertReset 4 3
    let c := foldN mainAndSaddler c (fun c i => c.setIsl i 2)
    { c with twin := { c.twin with failOut := false }, power := { c.power with clamps := true, supply := false }, rst := { c.rst with supply := true, kind := 4 } }
/-- SUPPLY_FAIL (R407): below 7.0 V for 100 µs. -/
def execSupplyFail (s : State) : Host.Outcome State Fault Refusal := onCore s (fun c => c.supplyFail F.PW_SUPPLY_SUPPLY_FAIL_SEEN)
/-- SUPPLY_OVERVOLT (R407): above 62 V for 400 ms. -/
def execSupplyOvervolt (s : State) : Host.Outcome State Fault Refusal := onCore s (fun c => c.supplyFail F.PW_SUPPLY_OVERVOLT_SEEN)
/-- SUPPLY_RESTORED (R407): within 8–60 V for 10 ms; the module starts as from power-on once its reset releases. -/
def execSupplyRestored (s : State) : Host.Outcome State Fault Refusal := onCore s (fun c =>
  { c with power := { c.power with supply := true }, rst := { c.rst with supply := false } })

end Sys2Proof.Machine
end

