-- ==== Sys2Proof/Machine/Reset.lean ====
section
/-! DEFINITION. Resets and starts (R410–R424), what survives them (R9, R421, Table 17.6), and the completion of a wake (R391, R403). -/
namespace Sys2Proof.Machine

/-! ### The conditioner and the sources (R412–R417) -/

/-- A write of RST_CTRL (R412): KEY 0x5A acts; a warm reset waits for a takeover. The reset begins after the reply (R85). -/
def Core.rstCtrl (c : Core) (p : Path) (req key : Nat) : Core :=
  let src := match p with | .awl => 7 | _ => 6
  if req = 0 then c
  else if key ≠ 0x5A then c.setBit F.RST_STAT_KEY_REFUSED 0 true
  else { c with deferred := some (.reset (if req = 1 then 1 else 2) src (req = 3)) }
/-- What a write started, once its reply has left (R85). -/
def Core.runDeferred (c : Core) : Core :=
  let d := c.deferred
  let c := { c with deferred := none }
  match d with
  | none => c
  | some (.power t) => c.powerReq t
  | some .network => c.networkReset
  | some (.reset kind src clean) =>
    if kind = 1 && c.twin.takeover then { c with rst := { c.rst with warmPend := src } }
    else
      let c := c.assertReset kind src
      if clean then { c with rst := { c.rst with clean := true } } else c
/-- The fields and the hold of a reset input. -/
def inputFields : ResetInput → Fld × Fld × Fld
  | .button => (F.RST_STUCK_BUTTON_ACTIVE, F.RST_STUCK_BUTTON_MASKED, F.RST_STUCK_BUTTON_STUCK)
  | .pin => (F.RST_STUCK_PIN_ACTIVE, F.RST_STUCK_PIN_MASKED, F.RST_STUCK_PIN_STUCK)
/-- Sets whether an input holds the reset. -/
def ResetSt.setHold (r : ResetSt) (i : ResetInput) (b : Bool) : ResetSt := match i with | .button => { r with buttonHold := b } | .pin => { r with pinHold := b }
/-- An input holds the reset. -/
def ResetSt.holds (r : ResetSt) (i : ResetInput) : Bool := match i with | .button => r.buttonHold | .pin => r.pinHold
/-- The source code of an input (Table 17.2). -/
def inputSource : ResetInput → Nat | .button => 4 | .pin => 5
/-- RESET_INPUT_ASSERT (R414): active for 50 ms. -/
def execResetInputAssert (s : State) (i : ResetInput) : Host.Outcome State Fault Refusal := onCore s (fun c =>
  let (a, m, _) := inputFields i
  let c := c.setBit a 0 true
  if c.bit m 0 then c
  else
    let c := c.assertReset 2 (inputSource i)
    { c with rst := c.rst.setHold i true })
/-- RESET_INPUT_RELEASE (R414, R417): the input's active period of `heldMs` ends; from 4 s on the start is clean. -/
def execResetInputRelease (s : State) (i : ResetInput) (heldMs : Nat) : Host.Outcome State Fault Refusal := onCore s (fun c =>
  let (a, _, _) := inputFields i
  let c := c.setBit a 0 false
  if !c.rst.holds i || heldMs < 50 then c
  else { c with rst := { c.rst.setHold i false with clean := c.rst.clean || (4000 ≤ heldMs && heldMs < 10000) } })
/-- STUCK_RESET (R416): active for 10 s; the input is masked. -/
def execStuckReset (s : State) (i : ResetInput) : Host.Outcome State Fault Refusal := onCore s (fun c =>
  let (_, m, k) := inputFields i
  if !c.rst.holds i then c
  else
    let c := (c.setBit m 0 true).setBit k 0 true
    { c with rst := c.rst.setHold i false }.logFrom 0x28 0x0406 noSrc (inputSource i))
/-- RESET_MASK_LIFT (R416): the masked input has been inactive for 1 s. -/
def execResetMaskLift (s : State) (i : ResetInput) : Host.Outcome State Fault Refusal := onCore s (fun c =>
  let (a, m, _) := inputFields i
  if c.bit a 0 then c else c.setBit m 0 false)
/-- PRESENCE_LOSS (R381): unseat reset. -/
def execPresenceLoss (s : State) : Host.Outcome State Fault Refusal := onCore s (fun c =>
  let c := c.assertReset 3 8
  { c with rst := { c.rst with unseat := true } })
/-- UNSEAT_RELEASE (R422): both presence pins made for 100 ms. -/
def execUnseatRelease (s : State) : Host.Outcome State Fault Refusal := onCore s (fun c => { c with rst := { c.rst with unseat := false } })
/-- POWER_ON (R418): the supply has risen through 8.0 V. The XB-2 lost its seal reference and latches (Table 17.6). -/
def execPowerOn (s : State) : Host.Outcome State Fault Refusal := onCore s (fun c =>
  let c := c.assertReset 4 1
  { c with power := { c.power with supply := true }, rst := { c.rst with supply := false, kind := 4, retries := 0, startFail := false } }.bridleOff)
/-- START_RETRY (R423): a retry of the rails succeeds, or fails; after three the start has failed. -/
def execStartRetry (s : State) (ok : Bool) : Host.Outcome State Fault Refusal := onCore s (fun c =>
  if !c.rst.held || c.rst.startFail then c
  else if ok then { c with rst := { c.rst with retries := 0, kind := 4, source := 0x0B, sources := c.rst.sources ++ [0x0B] } }
  else { c with rst := { c.rst with retries := c.rst.retries + 1, startFail := 2 ≤ c.rst.retries } })
/-- PHY_RESET_RELEASE (R478): 10 ms after the release of module reset. -/
def execPhyResetRelease (s : State) : Host.Outcome State Fault Refusal := onCore s (fun c => if c.rst.held then c else { c with power := { c.power with phy := 3 } })

/-! ### What survives (R421, Table 17.6) -/

/-- State that every reset of the main domain, Deep Sleep and Off lose; `arrays` keeps the K-class arrays of the slots. -/
def Core.loseMain (c : Core) (arrays latches : Bool) : Core :=
  let ctxs : Tab Context := if arrays then c.ctxs.map (fun e => (e.1, { shadow := e.2.shadow, pa := e.2.pa, valid := e.2.valid })) else []
  let b := c.bridle
  let grp := (List.range 16).foldl (fun (t : Tab BGroup) (g : Nat) => let o := c.bg g; Tab.set ({} : BGroup) t g { latch := (if latches then o.latch else 0), htrip := o.htrip, xTimer := o.xTimer, xExpired := o.xExpired }) []
  { c with
    pat := {}, prof := [], igs := [], steps := [], loops := [], snaps := [], ctxs := ctxs, ests := []
    lanes := c.lanes.map (fun e => (e.1, { faultHeld := e.2.faultHeld, faultLow := e.2.faultLow }))
    ports := c.ports.map (fun e => (e.1, { lines := e.2.lines, linesKnown := e.2.linesKnown, excZero := e.2.excZero })), reps := []
    dirIn := c.dirIn.map (fun e => (e.1, { raw := e.2.raw, level := e.2.raw })), rings := [], query := none, grids := [], engines := [], sched := {}
    canObjs := [], canChs := [], strings := [], woken := [], crossings := [], banks := [], loader := { digests := c.loader.digests }
    twin := { failIn := c.twin.failIn }, sessions := [], sessAge := 0, pendLow := [], hold := [], stalls := [], strapWait := none, strapQ := [], wdHeld := none, deferred := none
    bridle := { grp := grp, sto := b.sto, ss1 := b.ss1, door := b.door, discrep := b.discrep, sealP := b.sealP, xSeal := b.xSeal, xRef := b.xRef, refStored := b.refStored,
                sealLatch := b.sealLatch, xSealLatch := b.xSealLatch, supplied := b.supplied, pown := b.pown, pownT := b.pownT } }
/-- What Saddler loses when it restarts: the trust in its points and its running work; what flash and FREC hold stays. -/
def Saddler.restart (d : Saddler) : Saddler :=
  { lseq := d.lseq, qRing := d.qRing, qPin := d.qPin, ring := d.ring, pins := d.pins, written := d.written, wear := d.wear, lostAtFail := d.lostAtFail,
    imgTrial := d.imgTrial, imgTrialBank := d.imgTrialBank, imgTrialBoots := d.imgTrialBoots, fallbacks := d.fallbacks }
/-- The states of the islands of a start: all run, but fenced engines stay out over a warm reset, and a failed Saddler over it too. -/
def Core.islandsUp (c : Core) (warm : Bool) : Core :=
  let sad := c.islState 0x28
  let c := { c with isl := [] }
  if !warm then c
  else
    let c := foldN (List.range 16) c (fun c e => if c.bit F.BS_ENG_STAT_FENCED e then c.setIsl e 4 else c)
    if sad = 5 then c.setIsl 0x28 5 else c
/-- Clears the banks that are not kept (R121); VERIFIED ends with bank 14. -/
def Core.clearBanks (c : Core) (kept : Nat → Bool) : Core :=
  let c := foldN ((List.range 16).filter (fun b => !kept b)) c (fun c b => c.clearBank b)
  if kept 14 then c else { c with loader := { c.loader with digests := [] } }.setBit F.PT_STAT_VERIFIED 0 false
/-- The banks that AR_RETAIN keeps. -/
def Core.retained (c : Core) (b : Nat) : Bool := b = 15 || (c.get F.AR_RETAIN_MASK 0).testBit b
/-- The position pins as they were sampled (R28, R465). -/
def Core.samplePlace (c : Core) (pos0 pos1 : Bool) : Core :=
  let c := { c with pos0 := pos0, pos1 := pos1 }
  (c.setBit F.SYS_PLACE_PLACE_FAULT 0 (pos0 == pos1)).setBit F.SYS_PLACE_POSITION 0 !(pos0 && !pos1)
/-- Every group is in STO with cause STARTUP (R360, R411). -/
def Core.allStartup (c : Core) : Core := foldN (List.range 16) c (fun c g => (c.setGrp g 2).set F.SF_GRP_CAUSE g 0)
/-- EN_IPV4 as it reads: until it is written, the factory value of the position (R90). -/
def Core.ipConfig (c : Core) : Word := if c.ipSet then c.reg R.EN_IPV4 0 else 0xA9FE800A + (BitVec.ofNat 32 (c.get F.SYS_PLACE_POSITION 0))
/-- EN_IPV4_LIVE shows the address in use again once the network island runs (R90). -/
def Core.showIp (c : Core) : Core := c.setReg R.EN_IPV4_LIVE 0 c.ipLive
/-- The start that ends a reset of a kind by a source; the sessions it closed are logged (R88, R411, R413, R418, R421, R424). -/
def Core.start (c : Core) (ram : Ram) (kind source : Nat) (pos0 pos1 frecOk : Bool) : Core :=
  let warm := kind = 1
  let clean := c.rst.clean
  let lost (r : Reg) (i : Nat) (f : FldDesc) : Bool :=
    let h := c.holder r i
    if warm then f.cls = .V && h ≠ 0x28 && h ≠ 0x29 else (f.cls = .V || f.cls = .W || f.cls = .K) && (h ≠ 0x29)
  let keepB (r : Reg) : Bool := [R.RST_CAUSE, R.RST_STUCK, R.RST_CNT0, R.RST_CNT1].any (fun x => x.id == r.id)
  let sources := c.rst.sources
  let backupLost := !c.backKept
  let open_ := (c.sessions.filter (fun e => e.2.live && !e.2.half)).map (·.1)
  let c := open_.foldl (fun (c : Core) (sid : Nat) => c.imgRelease (.strap sid)) c
  let c := c.loseFields (fun r i f => lost r i f || (clean && f.cls = .B && !keepB r))
  let c := c.clearBanks (fun b => warm && c.retained b)
  let energy := if warm then (c.sched.einUj, c.sched.estUj) else (0, 0)
  let c := c.loseMain warm warm
  let c := { c with sched := { c.sched with einUj := energy.1, estUj := energy.2 } }
  let c := if warm then (if c.sad.imgTrial then { c with sad := { c.sad with imgTrialBoots := 2 } } else c)
    else { c.pinCut with sad := c.pinCut.sad.restart, power := { c.power with woke := 0, scrub := [] } }
  let c := (c.islandsUp warm).timeStart
  let c := { c with rst := { (c.rst) with held := false, clean := false, cleanNext := c.rst.cleanNext || clean, sources := [], warmPend := 0 }, power := { c.power with clamps := false, phy := (if warm then c.power.phy else 0) } }
  let c := (c.set F.PW_STAT_STATE 0 0).set F.PW_STAT_ACTIVE 0 7 |>.set F.PW_STAT_PENDING 0 7
  let c := (c.allStartup.samplePlace pos0 pos1).showFaultPins (List.range 96)
  let incarn : Word := c.frecIncarn + 1
  let c := { c with frecIncarn := if frecOk then incarn else c.frecIncarn }.setReg R.TW_INCARN 0 incarn
  let c := (c.set F.TW_ROLE_ROLE 0 0).setBit F.TW_ROLE_READY 0 false
  let c := if warm then c.showIp else { { c with ipLive := c.ipConfig }.showIp with livePorts := c.get F.EN_IPCFG_STRAP_PORTS 0, liveVlan := if c.bit F.EN_IPCFG_VLAN_EN 0 then c.get F.EN_IPCFG_VLAN_ID 0 else 0 }
  let c := (((c.set F.RST_CAUSE_TYPE 0 kind).set F.RST_CAUSE_SOURCE 0 source).setBit F.RST_CAUSE_CLEAN 0 clean).setBit F.RST_CAUSE_BACKUP_LOST 0 backupLost
  let c : Core := match kind with
    | 1 => c.addSat F.RST_CNT0_WARM 0 1
    | 2 => c.addSat F.RST_CNT0_MODULE 0 1
    | 3 => c.addSat F.RST_CNT1_UNSEAT 0 1
    | _ => c.addSat F.RST_CNT1_POWER_ON 0 1
  let c := if warm then c else c.showBoot
  let c := open_.foldl (fun (c : Core) (sid : Nat) => c.logFrom 0x23 0x0601 sid 2) c
  let c := sources.foldl (fun (c : Core) (x : Nat) => c.logFrom 0x29 0x0405 noSrc x) c
  let c := c.setBit F.RST_STAT_INCARN_UNSAVED 0 !frecOk
  let c := if frecOk then c else c.logFrom 0x28 0x0407 noSrc 0
  let c := if c.sad.lostAtFail = 0 then c else ({ c with sad := { c.sad with lostAtFail := 0 } }).logFrom 0x28 0x070B noSrc c.sad.lostAtFail
  let (w, c) := c.fresh
  let c := (c.set F.RST_STAT_START_MS 0 w.toNat).logShow
  let c := if warm then c.wakeLoad ram false else c.bootLoad ram
  (if c.bridle.pown ≠ 0 then c.followLead else c).xb2.judge
/-- MODULE_RESET_RELEASE (R411, R417, R418, R422, R444): the reset releases once nothing holds it, and the module starts. -/
def execModuleResetRelease (s : State) (pos0 pos1 frecOk : Bool) : Host.Outcome State Fault Refusal := onMem s (fun ram c =>
  let r := c.rst
  if !r.held || r.buttonHold || r.pinHold || r.unseat || r.supply || r.startFail || 0 < r.retries then c
  else
    let (c, boots) := if r.kind = 1 then (c, true) else c.imageBoot
    if !boots then { c with rst := { c.rst with startFail := true } }
    else c.start ram r.kind r.source pos0 pos1 frecOk)

/-! ### The end of a wake (R391, R403, Tables 16.6 and 16.7) -/

/-- The scrubber's pass over the retained banks at a wake from Deep Sleep, before the digest check (R123). -/
def Core.wakeScrub (c : Core) (ram : Ram) (ecc : List EccFault) : Core :=
  let kept (a : Nat) : Bool := a < 0x4000000 && c.retained (a / 0x400000)
  let c := ecc.foldl (fun c e => match e with
    | .ce a => if kept a then c.corrected a false else c
    | .ue a => if kept a then { c with memq := c.memq ++ [.poison a] } else c) c
  let c := foldN ((c.view ram).poison.filter kept) c Core.poisonRead
  let c := foldN (List.range 16) c (fun c b => c.setBank b { c.bankAt b with wb := [], corr := [] })
  c.addSat F.AR_SCRUB_PASSES 0 1
/-- A wake from Deep Sleep: K, B and F fields stay, the retained banks are scrubbed, the banks and the pattern are treated, roles are kept and the link beacons. The mask that governs the banks is the one in force when the entry began (R120). -/
def Core.wakeDeep (c : Core) (ram : Ram) : Core :=
  let clean := c.bit F.PW_REQ_CLEAN 0 || c.rst.cleanNext
  let from_ := c.get F.PW_WAKE_SRC_FROM 0
  let found := c.power.scrub
  let c := c.loseFields (fun r i f => (f.cls = .V || f.cls = .W) && c.holder r i ≠ 0x29)
  let c := c.clearBanks (fun b => b = 15 || c.power.retain.testBit b)
  let c := c.pinCut
  let c := { c.loseMain true false with sad := c.sad.restart, rst := { c.rst with cleanNext := false }, power := { c.power with clamps := false, woke := 0xFFFF, scrub := [] } }
  let c := (((c.islandsUp false).timeStart.allStartup.samplePlace c.pos0 c.pos1).showFaultPins (List.range 96)).set F.PW_WAKE_SRC_FROM 0 from_ |>.showIp
  let c := (c.setBit F.PW_REQ_CLEAN 0 false).set F.TW_ROLE_LINK 0 1
  let c := c.showBoot.logShow.wakeScrub ram found
  c.wakeLoad (c.view ram) clean
/-- The module reaches Run (R403). A wake from Off is a start, and whether FREC takes its incarnation (R424) is a free value; a wake that ended an entry only returns to Run. -/
def Core.wakeUp (c : Core) (ram : Ram) : Core :=
  if c.pwActive ≠ 0 then c
  else
    let st := c.pwState
    if st = 4 then
      let c := { c with rst := { c.rst with sources := [2] } }
      let (c, boots) := c.imageBoot
      if !boots then { c with rst := { c.rst with startFail := true } }.assertReset 4 2
      else
        let (w, c) := c.fresh
        let c := (c.start ram 4 2 c.pos0 c.pos1 (w.getLsbD 0)).logFrom 0x28 0x0401 noSrc 4
        let c := { c with power := { c.power with woke := 0xFFFF } }
        c.addSat F.PW_CNT_WAKES 0 1
    else
      let c := if st = 3 then c.wakeDeep ram
        else if st = 2 then
          let c := foldN sleepIslands c (fun c i => if c.islState i = 1 then c.setIsl i 0 else c)
          let c := { c with power := { c.power with woke := 0xFFFF } }
          foldN c.usedSlots { c.allStartup with woken := [] } (fun c k => c.clearLoop k)
        else c
      let c := if st = 3 then c else c.canGo
      let c := if c.islState 0x25 = 1 then c.setIsl 0x25 0 else c
      let c := { c with bridle := { c.bridle with startup := false } }
      let c := (c.set F.PW_STAT_STATE 0 0).set F.PW_STAT_ACTIVE 0 7
      let c := if c.isLead then c.claim else c
      let c := if st = 0 then c else (c.addSat F.PW_CNT_WAKES 0 1).logFrom 0x28 0x0401 noSrc st
      c.xb2.judge

end Sys2Proof.Machine
end

