-- ==== Sys2Proof/Machine/Failure.lean ====
section
/-! DEFINITION. The reaction to an island failure (R27, Table 1.6) and the loss of Saddler's heartbeat (R449). -/
namespace Sys2Proof.Machine

/-- Cause ISLAND latches on a group and takes it to STO (Table 14.5). -/
def Core.islandStop (c : Core) (g : Nat) : Core := ((c.latch g 14).enterSto g 14 false).xb2
/-- A Lead with a READY Standby hands over; another module does `f`. -/
def Core.handOverOr (c : Core) (f : Core → Core) : Core := if c.isLead && c.readyPartner then c.handOver else f c
/-- An island is declared FAILED: its locks go (R134), and the module reacts as Table 1.6 states for its role. A stitch island is fenced instead. -/
def Core.islandFail (c : Core) (code : Nat) : Core :=
  if c.rst.held || c.islState code = 4 || c.islState code = 5 then c
  else if code < 0x10 then c.fence code
  else
    let c := c.setIsl code 5
    let c := if code = 0x25 then c.dropLocks 6 else if code = 0x26 then c.dropLocks 7 else c
    let moduleReset (c : Core) : Core := c.assertReset 2 9
    let c :=
      if code < 0x20 then c.handOverOr (fun c => if c.isLead then c.islandStop (code - 0x10) else c)
      else if code = 0x20 || code = 0x21 || code = 0x22 || code = 0x24 then
        (if c.isLead && !c.readyPartner then foldN (List.range 16) c (fun c g => c.islandStop g) else moduleReset (c.handOverOr id))
      else if code = 0x25 || code = 0x26 then (if c.isLead && !c.readyPartner then c else moduleReset (c.handOverOr id))
      else if code = 0x23 then c.handOverOr id
      else if code = 0x27 then (foldN (List.range 16) c (fun c g => c.islandStop g)).handOverOr id
      else c.reneed
    c.judge

end Sys2Proof.Machine
end

