-- ==== Sys2Proof/Machine/Arbiter.lean ====
section
/-! DEFINITION. The shared memory (R118–R136): who writes which bank, arbitration and starvation, revocation, bank locks, ECC, the scrubber and the repair of the pattern's lines. -/
namespace Sys2Proof.Machine

/-! ### Banks and requesters (Tables 5.1 and 5.3) -/

/-- The requesters that Table 5.1 names as writers of a bank. -/
def bankWriters (b : Nat) : List Nat :=
  if b ≤ 1 then [6] else if b = 2 then [5, 6] else if b = 3 then [3] else if b = 4 then [0, 1, 8] else if b = 5 then [7] else if b = 6 then [9] else if b = 7 then [4]
  else if b ≤ 11 then [0, 1, 7] else if b ≤ 13 then [2, 4] else if b = 14 then [5] else [6]
/-- Bank locks are taken on these banks only. -/
def lockable (b : Nat) : Bool := [0, 1, 3, 5, 8, 9, 10, 11, 14, 15].contains b
/-- A requester may write a bank (R118): the enabled Awl port every bank but 15; the scrubber rewrites what it corrected. -/
def Core.mayWrite (c : Core) (rq b : Nat) : Bool := rq = 11 || (rq = 10 && c.bit F.SYS_AWL_ENABLE 0 && b ≠ 15) || (bankWriters b).contains rq
/-- A write that breaks R118 is discarded, flagged and logged. The log entry's SRC is the requester and its ARG the bank, and AR_LOCK.RQ takes the requester: DESIGN CHOICE, entry 161. -/
def Core.wrongBank (c : Core) (rq b : Nat) : Core := ((c.setBit F.AR_LOCK_WRONG_BANK 0 true).set F.AR_LOCK_RQ 0 rq).log 0x0516 rq b
/-- The priority of a requester on a bank (R125); RQ9's is fixed. -/
def Core.prio (c : Core) (b rq : Nat) : Nat :=
  if rq = 9 then 15 else if rq < 8 then (c.reg R.AR_PRIO_LO b).toNat / 16 ^ rq % 16 else (c.reg R.AR_PRIO_HI b).toNat / 16 ^ (rq - 8) % 16
/-- The starvation threshold of a requester. -/
def Core.starveThr (c : Core) (rq : Nat) : Nat := c.get (if rq % 2 = 0 then F.AR_STARVE_THR_THR_LO else F.AR_STARVE_THR_THR_HI) (rq / 2)

/-! ### Decisions (R126, R128, R133) -/

/-- The requester that wins a decision: RQ9 first, on a locked bank and against any other of priority 15, so that it waits for one transfer at most (R130, R133); then the lock's holder; then the highest priority, and among equals the first after the last winner. -/
def Core.winner (c : Core) (b : Nat) : Option Nat :=
  let k := c.bankAt b
  let asks (rq : Nat) : Bool := k.waiting.any (fun x => x.rq == rq)
  let order := (List.range 12).map (fun i => (k.last + 1 + i) % 12)
  let best := order.foldl (fun (r : Option Nat) rq => if !asks rq then r else match r with | none => some rq | some w => if c.prio b w < c.prio b rq then some rq else r) none
  if asks 9 then some 9
  else match k.lock with
    | none => best
    | some l => if asks l then some l else best
/-- A requester has lost a decision (a saturating count, R452): at its threshold it signals once until its next grant. -/
def Core.lose (c : Core) (b rq : Nat) : Core :=
  let k := c.bankAt b
  let n := Min.min 0xFFFF (Tab.get 0 k.lost rq + 1)
  let c := c.setBank b { k with lost := Tab.set 0 k.lost rq n }
  if n < c.starveThr rq || Tab.get false k.told rq then c
  else
    let c := c.setBank b { c.bankAt b with told := Tab.set false k.told rq true }
    (((c.set F.AR_STARVE_FLAGS 0 (c.get F.AR_STARVE_FLAGS 0 ||| 2 ^ rq)).set F.AR_STARVE_BANK 0 b).set F.AR_STARVE_RQ 0 rq).log 0x0510 rq b
/-- A grant ends a requester's count. -/
def Bank.granted (k : Bank) (rq : Nat) : Bank := { k with lost := Tab.set 0 k.lost rq 0, told := Tab.set false k.told rq false }
/-- Takes the first waiting transfer of a requester out of a list. -/
def takeFirst (rq : Nat) : List Xfer → List Xfer
  | [] => []
  | x :: xs => if x.rq = rq then xs else x :: takeFirst rq xs
/-- An arbiter with no transfer in progress decides. -/
def Core.decide (c : Core) (b : Nat) : Core :=
  match c.winner b with
  | none => c
  | some w =>
    let k := c.bankAt b
    let rest := takeFirst w k.waiting
    let c := c.setBank b { k.granted w with holder := k.waiting.find? (fun x => x.rq == w), waiting := rest, last := w }
    foldN ((List.range 12).filter (fun rq => rq ≠ w && rest.any (fun x => x.rq == rq))) c (fun c rq => c.lose b rq)
/-- A transfer is 1–16 consecutive words of its bank (R126); other operands name none. -/
def xferRange (x : Xfer) (o : Host.Outcome State Fault Refusal) : Host.Outcome State Fault Refusal :=
  if 1 ≤ x.words && x.words ≤ 16 && x.offset / 4 + x.words ≤ 0x100000 then o else .fault (.noSuch "transfer" x.words)
/-- The island from which a requester's words reach the memory island (Table 5.3); a stitch port stands for its first engine, or for the one whose places the address lies in. -/
def rqIsland (rq bank offset : Nat) : Nat :=
  match rq with
  | 0 | 1 => if 8 ≤ bank && bank ≤ 11 then 4 * (bank - 8) + Min.min 3 (offset / 0x10000) else 8 * rq
  | 2 => 0x20 | 3 => 0x21 | 4 => 0x22 | 6 => 0x25 | 7 => 0x26 | 9 => 0x27 | 11 => 0x24
  | _ => 0x23
/-- BANK_REQUEST (R126): a request arrives; an idle bank decides at once. A write that R118 forbids is discarded. -/
def execBankRequest (s : State) (bank : Nat) (x : Xfer) : Host.Outcome State Fault Refusal :=
  inRange "bank" bank 16 (inRange "requester" x.rq 12 (xferRange x (onCore s (fun c =>
    if !c.runs 0x24 then c
    else if x.wr.isSome && !c.mayWrite x.rq bank then c.wrongBank x.rq bank
    else
      let k := c.bankAt bank
      let c := (c.setBank bank { k with waiting := k.waiting ++ [x] }).sendWords (rqIsland x.rq bank x.offset) 0x24 (BitVec.ofNat 32 (bank * 0x400000 + x.offset) :: x.wr.getD [])
      if k.holder.isSome then c else c.decide bank))))

/-! ### ECC (R122–R124, Table 5.2) -/

/-- A poisoned word of bank 2 (Table 5.2): the frame whose buffer it lies in is discarded as if lost on the wire. The manual does not lay the buffers out; the frame is the oldest that waits (entry 60). -/
def Core.dropFrame (c : Core) : Core := { c with strapQ := c.strapQ.drop 1 }
/-- A poisoned word of bank 7 (Table 5.2): the stamp that it holds is marked INVALID. The manual does not lay the stamps out; which direct input's it is is a free value (entry 60). -/
def Core.spoilStamp (c : Core) (a : Nat) : Core :=
  let n := Config.stampInput a % 16
  let d := c.diAt n
  c.setDi n { d with fifo := match d.fifo with | x :: xs => { x with invalid := true } :: xs | [] => [] }
/-- What the reader of a poisoned word does (Table 5.2). A Strap or Awl read is answered under R66; the scrubber only counts. -/
def Core.poisonReact (c : Core) (ram : Ram) (rq a : Nat) : Core :=
  let b := a / 0x400000
  if b = 2 && (rq = 5 || rq = 6) then c.dropFrame
  else if rq = 5 || rq = 10 || rq = 11 then c
  else if b ≤ 1 then c.islandFail 0x25
  else if b = 3 then c.islandFail 0x21
  else if b = 4 then (if c.isLead then (if rq = 8 then { c with twin := { c.twin with txPoison := true } } else c) else c.poisonedRecord)
  else if b = 5 then (c.poisonRead a).islandFail 0x26
  else if b = 6 then c.islandFail 0x27
  else if b = 7 then c.spoilStamp a
  else if 8 ≤ b && b ≤ 11 then
    let e := match c.placeSlot a with | some k => c.hostEngine k | none => 4 * (b - 8) + a % 0x400000 / 0x10000
    if e < 16 && a % 0x400000 < 0x40000 && c.engRuns e then c.checkFail ram e (c.get F.BS_ENG_STAT_PERIOD e) 3 else c
  else c
/-- Addresses of the words of a transfer. -/
def xferWords (bank : Nat) (x : Xfer) : List Nat := (List.range x.words).map (fun i => bank * 0x400000 + x.offset / 4 * 4 + 4 * i)
/-- A transfer moves its words: a write stores them and drops their queued write-backs, the scrubber's changes no data; a read returns its words, poisoned ones as 0 with the status ECC_ERROR for their mark. -/
def Core.moveWords (c : Core) (ram : Ram) (bank : Nat) (x : Xfer) (ecc : List EccFault) : Core :=
  let ws := xferWords bank x
  match x.wr with
  | some data =>
    let k := c.bankAt bank
    let c := c.setBank bank { k with wb := k.wb.filter (fun a => !ws.contains a) }
    if x.rq = 11 then c else (List.zip ws data).foldl (fun c e => c.store e.1 e.2.toBytes) c
  | none =>
    let ces := ecc.filterMap (fun e => match e with | .ce a => if ws.contains (a / 4 * 4) then some a else none | .ue _ => none)
    let ues := ecc.filterMap (fun e => match e with | .ue a => if ws.contains (a / 4 * 4) then some (a / 4 * 4) else none | .ce _ => none)
    let c := foldN ces c (fun c a => c.corrected a true)
    let c := foldN ues c (fun c a => { c with memq := c.memq ++ [.poison a] })
    let view := c.view ram
    let bad := ws.filter view.poisoned
    let c := c.answer (if bad.isEmpty then 0 else 0x0C) (ws.map view.word)
    foldN bad c (fun c a => (c.poisonRead a).poisonReact ram x.rq a)
/-- TRANSFER_END (R126): the last word of the granted transfer moves, and the arbiter decides. -/
def execTransferEnd (s : State) (bank : Nat) (ecc : List EccFault) : Host.Outcome State Fault Refusal := inRange "bank" bank 16 (onMem s (fun ram c =>
  let k := c.bankAt bank
  match k.holder with
  | none => c
  | some x =>
    if !c.runs 0x24 then c
    else
      let c := (c.setBank bank { k with holder := none }).moveWords ram bank x ecc
      c.decide bank))
/-- An emergency requester's count has reached its threshold (R131). -/
def Core.emergent (c : Core) (b rq : Nat) : Bool := c.starveThr rq ≤ Tab.get 0 (c.bankAt b).lost rq
/-- One emergency transfer (R131, R132): the transfer in progress is suspended for it and goes on, and a lock stays held. -/
def Core.emergency (c : Core) (ram : Ram) (bank : Nat) (x : Xfer) : Core :=
  let k := c.bankAt bank
  if x.wr.isSome && !c.mayWrite x.rq bank then c.wrongBank x.rq bank
  else
    let c := c.setBank bank { k.granted x.rq with waiting := takeFirst x.rq k.waiting }
    let c := if k.holder.isSome then c.addSat F.AR_REVOKE_COUNT 0 1 else c
    let c := match k.lock with
      | some l => if x.rq = 10 && x.wr.isSome then (c.setBit F.AR_REVOKE_AWL_IN_LOCK 0 true).logFrom 0x23 0x0604 bank l else c
      | none => c
    c.moveWords ram bank x []
/-- EMERGENCY_TRANSFER (R131, R132): RQ10 or RQ11, its count at its threshold, takes one transfer. Where RQ11 asks as well, its transfer goes before RQ10's. -/
def execEmergencyTransfer (s : State) (bank : Nat) (x : Xfer) : Host.Outcome State Fault Refusal :=
  inRange "bank" bank 16 (xferRange x (onMem s (fun ram c =>
    if !c.runs 0x24 || (x.rq ≠ 10 && x.rq ≠ 11) || !c.emergent bank x.rq then c
    else
      let first := if x.rq = 10 && c.emergent bank 11 then (c.bankAt bank).waiting.find? (fun y => y.rq == 11) else none
      let c := match first with | some y => c.emergency ram bank y | none => c
      c.emergency ram bank x)))

/-! ### Locks and holds (R133, R134) -/

/-- The pattern lock is held (R110): by the loader, for the duration of a full load, a re-lace or a host-requested island reset. -/
def Core.patternLock (c : Core) : Bool := c.loading || c.loader.relace || c.loader.islReset
/-- BANK_LOCK_REQ (R133): refused at once with LOCK_ORDER out of order or on a bank without locks; otherwise taken, or waited for. On the banks of patterns RQ6 is the loader, which takes the pattern lock first (R110). -/
def execBankLockReq (s : State) (rq bank : Nat) : Host.Outcome State Fault Refusal := inRange "requester" rq 12 (inRange "bank" bank 16 (onCore s (fun c =>
  if !c.runs 0x24 then c
  else
    let above := (List.range 16).any (fun b => bank ≤ b && (c.bankAt b).lock == some rq)
    let unlocked := rq = 6 && 14 ≤ bank && !c.patternLock
    let told (c : Core) (a : LockAnswer) : Core := { c with lockAns := some (rq, bank, a) }
    if (rq ≠ 6 && rq ≠ 7) || above || unlocked || !lockable bank then told ((c.setBit F.AR_LOCK_ORDER_REFUSED 0 true).set F.AR_LOCK_RQ 0 rq) .lockOrder
    else
      let k := c.bankAt bank
      match k.lock with
      | none => told ((c.setBank bank { k with lock := some rq }).set F.AR_LOCK_HELD 0 (c.get F.AR_LOCK_HELD 0 ||| 2 ^ bank)) .granted
      | some _ => told (c.setBank bank { k with lockWait := k.lockWait ++ [rq] }) .waits)))
/-- BANK_LOCK_RELEASE (R133). -/
def execBankLockRelease (s : State) (rq bank : Nat) : Host.Outcome State Fault Refusal := inRange "requester" rq 12 (inRange "bank" bank 16 (onCore s (fun c =>
  if (c.bankAt bank).lock = some rq then c.unlock bank else c)))
/-- HOLD_OVERRUN (R134): the grant or lock of a bank has lasted longer than LIMIT; it continues. -/
def execHoldOverrun (s : State) (bank : Nat) : Host.Outcome State Fault Refusal := inRange "bank" bank 16 (onCore s (fun c =>
  let k := c.bankAt bank
  match k.lock, k.holder.map (·.rq) with
  | some h, _ | none, some h => (((c.setBit F.AR_HOLD_OVERRUN 0 true).set F.AR_HOLD_BANK 0 bank).set F.AR_HOLD_RQ 0 h).log 0x0511 bank h
  | none, none => c))

/-! ### The scrubber and bank 15 (R123, R124) -/

/-- SCRUB_PASS (R123): every word is read; what was correctable is rewritten, with the queued words; poisoned words stay. While a wake from Deep Sleep runs it is that wake's pass over the retained banks, and its findings take effect as the module reaches Run. -/
def execScrubPass (s : State) (ecc : List EccFault) : Host.Outcome State Fault Refusal := onMem s (fun ram c =>
  if !c.runs 0x24 then (if c.pwState = 3 && c.pwActive = 0 then { c with power := { c.power with scrub := ecc } } else c)
  else
    let c := ecc.foldl (fun c e => match e with
      | .ce a => if a < 0x4000000 then c.corrected a false else c
      | .ue a => if a < 0x4000000 then { c with memq := c.memq ++ [.poison a] } else c) c
    let c := foldN (c.view ram).poison c Core.poisonRead
    let c := foldN (List.range 16) c (fun c b => c.setBank b { c.bankAt b with wb := [], corr := [] })
    c.addSat F.AR_SCRUB_PASSES 0 1)
/-- PATTERN_LINE_REPAIR (Table 5.2): the 64-byte line around a poisoned word of bank 15 is rewritten from the flash bank whose image matches PT_DIGEST; without one a Lead with a READY Standby hands over. The work wakes an idle application island (R389). -/
def execPatternLineRepair (s : State) (addr : Nat) : Host.Outcome State Fault Refusal := inRange "address" addr 0x4000000 (onMem s (fun ram c =>
  let line := addr / 64 * 64
  let c := if addr / 0x400000 = 15 && (List.range 16).any (fun i => ram.poisoned (line + 4 * i)) then c.pokeApp else c
  if addr / 0x400000 ≠ 15 || !c.runs 0x25 || !(List.range 16).any (fun i => ram.poisoned (line + 4 * i)) then c
  else
    let digest := (List.range 8).flatMap (fun i => (c.reg R.PT_DIGEST i).toBytes)
    match [0, 1].find? (fun b => let img := Tab.get [] c.patFlash b; !img.isEmpty && digestOf img == digest) with
    | some b => c.store line (((Tab.get [] c.patFlash b).drop (line % 0x400000) ++ List.replicate 64 0).take 64)
    | none => (c.log 0x0303 noSrc addr).handOverOr id))

end Sys2Proof.Machine
end

