-- ==== Sys2Proof/Machine/Access.lean ====
section
/-! DEFINITION. Accesses to registers and SRAM by a path (R3–R8, R63–R67, R71, R74, R85, R103, R104, R369): what a register shows, what a read and a write do, statuses, and accesses to islands that do not run. -/
namespace Sys2Proof.Machine

/-! ### What registers show -/

/-- Bits of a Bool function over the first `n` indices. -/
def maskOf (n : Nat) (f : Nat → Bool) : Nat := ofBits ((List.range n).filter f)
/-- A Bool as a bit. -/
def bitOf (b : Bool) : Nat := if b then 1 else 0
/-- A word with one-bit or wider fields replaced. -/
def withFields (w : Word) (l : List (Fld × Nat)) : Word := l.foldl (fun w e => e.1.write w e.2) w
/-- The open sessions. -/
def Core.openSessions (c : Core) : List Session := (c.sessions.map (·.2)).filter (fun s => s.live && !s.half)
/-- SF_STATE (R362). -/
def Core.sfState (c : Core) (w : Word) : Word :=
  let b := c.bridle
  withFields w [(F.SF_STATE_SEAL_LATCH, bitOf c.sealFaulted), (F.SF_STATE_PARITY_ERR, bitOf !(sealParity b.sealP)), (F.SF_STATE_SEAL_DISAGREE, bitOf (b.linkSeen && !c.sealAgrees)),
    (F.SF_STATE_XB2_LINK_LOST, bitOf b.linkLost), (F.SF_STATE_DISCREPANCY, bitOf (b.discrep ≠ 0)), (F.SF_STATE_READBACK, bitOf ((List.range 16).any (fun g => (c.latches g).testBit 11))),
    (F.SF_STATE_STO_IN, bitOf c.stoIn), (F.SF_STATE_SS1_IN, bitOf c.ss1In), (F.SF_STATE_DOOR_OPEN, bitOf c.doorIn), (F.SF_STATE_DOOR_IL, bitOf (sealDoor b.sealP)),
    (F.SF_STATE_TWIN_REQ, bitOf (sealTwin b.sealP)), (F.SF_STATE_ANTIVALENT, bitOf (sealAntivalent b.sealP)), (F.SF_STATE_SS1_CODE, sealTime b.sealP), (F.SF_STATE_T_SS1, if b.refStored then c.tSs1 else 0)]
/-- SF_GRP of a group. -/
def Core.sfGrp (c : Core) (g : Nat) (w : Word) : Word :=
  let b := c.bg g
  withFields w [(F.SF_GRP_LATCHED, bitOf (c.latched g)), (F.SF_GRP_GEN_A_PIN, bitOf (c.genAOut g)), (F.SF_GRP_GEN_B_PIN, bitOf b.genB), (F.SF_GRP_XSTO, bitOf b.xsto), (F.SF_GRP_XSS1, bitOf b.xss1),
    (F.SF_GRP_HTRIP, bitOf b.htrip), (F.SF_GRP_CODE, sealCode c.bridle.sealP g), (F.SF_GRP_MON_SLOT, (c.pat.safe g).monSlot)]
/-- MG_KEY_ID of a slot (R440). -/
def Core.keyWord (c : Core) (s : Nat) : Word :=
  let k := c.keyAt s
  if k.present then withFields 0 [(F.MG_KEY_ID_PRESENT, 1), (F.MG_KEY_ID_EXPERT, bitOf k.expert), (F.MG_KEY_ID_ID, keyId k.key)] else 0
/-- The head of a direct input's FIFO. -/
def Core.diHead (c : Core) (n : Nat) : Stamp := (c.diAt n).fifo.head?.getD ⟨0, 0, false, 0, false⟩
/-- A free bit, for the level of an input pin that no command carries. -/
def Core.freeBit (c : Core) (i : Nat) : Nat := bitOf ((Config.freeWord c.freeIdx).getLsbD i)
/-- Registers whose value is not the stored word alone. -/
def shown : List (Reg × (Core → Nat → Word → Word)) :=
  [(R.SYS_AWL, fun c _ w => F.SYS_AWL_ACTIVE.write w (if F.SYS_AWL_ENABLE.read w = 1 then c.freeBit 8 else 0)),
   (R.SYS_ISL_STATE, fun c n _ => BitVec.ofNat 32 ((List.range 8).foldl (fun a i => a + c.islState (8 * n + i) * 16 ^ i) 0)),
   (R.SYS_PINS, fun c _ w => withFields w [(F.SYS_PINS_AWL_DET, c.freeBit 8), (F.SYS_PINS_FAIL_IN, bitOf c.twin.failIn), (F.SYS_PINS_FAIL_OUT, bitOf c.twin.failOut), (F.SYS_PINS_WAKE, c.freeBit 5),
     (F.SYS_PINS_PPRES, c.freeBit 4), (F.SYS_PINS_PRES_L, bitOf !c.rst.unseat), (F.SYS_PINS_PRES_E, bitOf !c.rst.unseat), (F.SYS_PINS_POS1, bitOf c.pos1), (F.SYS_PINS_POS0, bitOf c.pos0)]),
   (R.EN_IPV4, fun c _ _ => c.ipConfig),
   (R.EN_STRAP_STAT, fun c _ w => withFields w [(F.EN_STRAP_STAT_OPEN, c.openSessions.length), (F.EN_STRAP_STAT_EXPERT, (c.openSessions.filter (·.expert)).length), (F.EN_STRAP_STAT_WD_HELD, bitOf c.wdHeld.isSome)]),
   (R.FI_DI_STATE, fun c _ w => F.FI_DI_STATE_LEVEL.write w (maskOf 16 (fun n => c.diLevel n))),
   (R.FI_DO_CMD, fun c _ _ => BitVec.ofNat 32 c.doCmd),
   (R.FI_DO_STAT, fun c _ w => F.FI_DO_STAT_DRIVEN.write w c.doDriven),
   (R.FI_FS_OUT, fun c i _ => BitVec.ofNat 32 (c.fsOut i)),
   (R.NT_SEC_LO, fun c _ _ => BitVec.ofNat 32 c.time.sec), (R.NT_SEC_HI, fun c _ _ => BitVec.ofNat 32 (c.time.sec / 2 ^ 32)),
   (R.NT_NS, fun c _ _ => BitVec.ofNat 32 c.time.ns), (R.NT_FRAC, fun c _ _ => BitVec.ofNat 32 (c.time.frac / 2 ^ 16)),
   (R.NT_STEP_SUM_LO, fun c _ _ => (BitVec.ofInt 64 c.time.stepSum).extractLsb' 0 32), (R.NT_STEP_SUM_HI, fun c _ _ => (BitVec.ofInt 64 c.time.stepSum).extractLsb' 32 32),
   (R.CP_DI_NS, fun c n w => withFields w [(F.CP_DI_NS_POL, bitOf (c.diHead n).rising), (F.CP_DI_NS_NS, (c.diHead n).ns)]),
   (R.CP_DI_SEC, fun c n _ => BitVec.ofNat 32 (c.diHead n).sec),
   (R.CP_DI_STAT, fun c n w => F.CP_DI_STAT_LEVEL.write w (c.diAt n).fifo.length),
   (R.SF_SEAL_LO, fun c _ _ => c.bridle.sealP.extractLsb' 0 32), (R.SF_SEAL_HI, fun c _ _ => (c.bridle.sealP.extractLsb' 32 8).zeroExtend 32),
   (R.SF_XSEAL_LO, fun c _ _ => c.bridle.xSeal.extractLsb' 0 32), (R.SF_XSEAL_HI, fun c _ _ => (c.bridle.xSeal.extractLsb' 32 8).zeroExtend 32),
   (R.SF_STATE, fun c _ w => c.sfState w), (R.SF_GRP, fun c g w => c.sfGrp g w),
   (R.SF_BRK, fun c _ w => withFields w [(F.SF_BRK_PATH1, maskOf 8 (fun n => (c.bg (2 * n)).path1)), (F.SF_BRK_PATH2, maskOf 8 (fun n => (c.bg (2 * n)).path2))]),
   (R.LG_STAT, fun c g w => withFields w [(F.LG_STAT_GEN_A, bitOf (c.genAOut g)), (F.LG_STAT_GEN_B, bitOf (c.bg g).genB), (F.LG_STAT_SDCLK_SEEN, bitOf (g < 8 && c.sdclkSeen g)), (F.LG_STAT_SDCLK_OWN, bitOf (g < 8 && c.drives g))]),
   (R.TW_ROLE, fun c _ w => withFields w [(F.TW_ROLE_PARTNER_PRESENT, c.freeBit 4), (F.TW_ROLE_HOT, bitOf c.isHot)]),
   (R.TW_RELINK, fun c _ w => F.TW_RELINK_REMAIN.write w (if c.relinkRuns then Min.min 0x7FF ((c.twin.relinkAt - c.profNs + 999999).toNat / 1000000) else 0)),
   (R.TW_CLAIM, fun c _ w => withFields w [(F.TW_CLAIM_PARTNER_OWN, c.bridle.pown.toNat), (F.TW_CLAIM_OWN, c.bridle.own.toNat)]),
   (R.MG_HEALTH, fun c _ w => withFields w [(F.MG_HEALTH_WC_IN_USE, c.get F.BS_STAT_STALE_WC 0), (F.MG_HEALTH_CELL, bitOf (c.bit F.PW_CELL_CELL_LOW 0 || c.bit F.PW_CELL_CELL_ABSENT 0)),
     (F.MG_HEALTH_KEY_EMPTY, bitOf (!(c.keyAt 8).present || (List.range 4).all (fun i => !(c.keyAt (4 + i)).present)))]),
   (R.MG_KEY_ID, fun c s _ => c.keyWord s), (R.MG_KEY_DATA, fun _ _ _ => 0),
   (R.NT_PTP_CFG, fun c _ w => if c.bit F.NT_STAT_GM 0 then F.NT_PTP_CFG_SERVO_EN.write w 0 else w),
   (R.FB_CPR, fun c p w => if c.portType p ≤ 2 then w else BitVec.ofNat 32 (c.portN p))]
/-- The word that a read of a register by a path would show. -/
def Core.value (c : Core) (p : Path) (r : Reg) (i : Nat) : Word :=
  match r.place with
  | .canWord n => (c.canRead p (i / 512) (i % 512) n).1
  | .canData => (c.canRead p (i / 16 / 512) (i / 16 % 512) (i % 16 + 4)).1
  | _ =>
    if r.id = R.AX_COEF_DATA.id then (c.readCoefData i).1
    else if r.id = R.AX_PA_DATA.id then (c.readPaData i).1
    else match shown.find? (fun e => e.1.id == r.id) with
      | some e => e.2 c i (c.reg r i) &&& c.portMask r i
      | none => c.reg r i &&& c.portMask r i
/-- What a read of a register does: an RC field clears (R5), an index advances, a CAN object locks or releases, a free level is spent. -/
def Core.readEffect (c : Core) (p : Path) (r : Reg) (i : Nat) : Core :=
  match r.place with
  | .canWord n => (c.canRead p (i / 512) (i % 512) n).2
  | .canData => (c.canRead p (i / 16 / 512) (i / 16 % 512) (i % 16 + 4)).2
  | _ =>
    if r.id = R.AX_COEF_DATA.id then (c.readCoefData i).2
    else if r.id = R.AX_PA_DATA.id then (c.readPaData i).2
    else if r.id = R.MG_KEY_DATA.id then c.keyData none
    else if r.id = R.SYS_PINS.id || r.id = R.SYS_AWL.id || r.id = R.TW_ROLE.id then { c with freeIdx := c.freeIdx + 1 }
    else
      let rc := r.accMask (fun f => f.acc = .rc)
      if rc = 0 then c else c.setReg r i (c.reg r i &&& ~~~rc)

/-! ### Reads (R4) -/

/-- Drops what a path holds of a 64-bit quantity. -/
def Core.dropHold (c : Core) (p : Path) : Core := { c with hold := c.hold.filter (fun e => e.1 ≠ p) }
/-- The words a read of a low word holds for the path: the high word; for NT_SEC_LO also NT_NS and NT_FRAC (R247). -/
def Core.heldBy (c : Core) (p : Path) (r : Reg) (i : Nat) : List (Nat × Word) :=
  match highOf r with
  | none => []
  | some h => ([h] ++ (if r.id = R.NT_SEC_LO.id then [R.NT_NS, R.NT_FRAC] else [])).map (fun x => ((⟨x, i⟩ : Loc).addr, c.value p x i))
/-- A read of a register of a running island by a path: the held copy where it follows on, else the live word. -/
def Core.readReg (c : Core) (p : Path) (l : Loc) : Word × Core :=
  let a := l.addr
  match (c.hold.find? (fun e => e.1 = p)).map (·.2) with
  | some ((a0, w) :: rest) =>
    if a0 = a then (w, { c.dropHold p with hold := c.dropHold p |>.hold |> (· ++ [(p, rest)]) })
    else fresh (c.dropHold p) l
  | _ => fresh (c.dropHold p) l
where
  /-- A live read. -/
  fresh (c : Core) (l : Loc) : Word × Core :=
    let held := c.heldBy p l.reg l.inst
    let c' := c.readEffect p l.reg l.inst
    (c.value p l.reg l.inst, if held.isEmpty then c' else { c' with hold := c'.hold ++ [(p, held)] })

/-! ### Writes -/

/-- The path writes RWX fields (R7, R8, R81). Expert are an Expert session, the Awl port (R81), and the Tansy firmware's own path: of the last the manual says it for the loader's preloads only (R44). DESIGN CHOICE, entry 159. -/
def Core.expert (c : Core) (p : Path) : Bool := match p with | .strap sid => (c.sessAt sid).expert | _ => true
/-- The result of a request to reset an island (R107, Table 4.6, R113). -/
def Core.islRstResult (c : Core) (isl : Nat) : Nat :=
  if !(isl < 0x20 || isl = 0x23) then 2
  else if c.loader.relace || c.loader.islReset || c.twin.takeover then 3
  else if c.islState isl = 4 then 4
  else if isl < 0x10 && (c.engAt isl).ctx.any (fun k => (c.slotGroup k).isSome && !c.slotSto k) then 1
  else if 0x10 ≤ isl && isl < 0x20 && !c.inSto (isl - 0x10) then 1
  else 0
/-- A write of SYS_ISL_RST with REQ. -/
def Core.islRstReq (c : Core) (isl : Nat) : Core :=
  let r := c.islRstResult isl
  let c := c.set F.SYS_ISL_RST_RESULT 0 r
  if r ≠ 0 then (if c.loader.islReset then c else c.setBit F.SYS_ISL_RST_REQ 0 false)
  else
    let c := c.setBit F.SYS_ISL_RST_REQ 0 true
    if isl = 0x23 then { c with deferred := some .network }
    else ({ c with loader := { c.loader with islReset := true, rstTarget := isl, rstFirst := !c.fullLoading } }.islandReset isl).judge
/-- A write of PW_REQ: a transition into Deep Sleep or Off that starts now starts after the reply (R85); a request that waits, or that its check refuses, starts none. -/
def Core.pwWrite (c : Core) (t : Nat) : Core :=
  if (t = 3 || t = 4) && c.pwActive = 7 && t ≠ c.pwState && !c.pwHeld && c.pwRefusal t = 0 then { c with deferred := some (.power t) } else c.powerReq t
/-- What a write does at the registers of the SYS_, PW_, RST_, EN_, MG_ and PT_ blocks that command something; `w` is the stored word, `act` the bits written and accepted. -/
def sysHandlers : List (Reg × (Core → Ram → Path → Word → Word → Core)) :=
  [(R.SYS_AWL, fun c _ _ w _ =>
     let was := c.bit F.SYS_AWL_ENABLE 0
     let now := F.SYS_AWL_ENABLE.read w = 1
     let c := c.setBit F.SYS_AWL_ENABLE 0 now
     let c := if now && !was then c.logFrom 0x23 0x0603 noSrc 0 else if !now then (c.endPath .awl).imgRelease .awl else c
     c.judge),
   (R.SYS_ISL_RST, fun c _ _ w act =>
     let c := c.set F.SYS_ISL_RST_ISLAND 0 (F.SYS_ISL_RST_ISLAND.read w)
     if acts F.SYS_ISL_RST_REQ act then c.islRstReq (F.SYS_ISL_RST_ISLAND.read w) else c),
   (R.SYS_WAKE_ON_ACCESS, fun c _ _ w _ => c.setReg R.SYS_WAKE_ON_ACCESS 0 w),
   (R.SYS_LED, fun c _ _ _ act => if acts F.SYS_LED_LOCATE act && !c.rst.held then { c with sad := { c.sad with locate := true } } else c),
   (R.PW_REQ, fun c _ _ w act => (c.set F.PW_REQ_CLEAN 0 (F.PW_REQ_CLEAN.read w)).pwWrite (F.PW_REQ_TARGET.read act)),
   (R.RST_CTRL, fun c _ p _ act => c.rstCtrl p (F.RST_CTRL_REQ.read act) (F.RST_CTRL_KEY.read act)),
   (R.EN_IPV4, fun c _ _ w _ => { c.setReg R.EN_IPV4 0 w with ipSet := true }),
   (R.EN_IPCFG, fun c _ _ w _ => c.setReg R.EN_IPCFG 0 (if F.EN_IPCFG_VLAN_ID.read w = 4095 then F.EN_IPCFG_VLAN_ID.write w (c.get F.EN_IPCFG_VLAN_ID 0) else w)),
   (R.EN_SESS_CFG, fun c _ _ w _ => c.setReg R.EN_SESS_CFG 0 (within F.EN_SESS_CFG_IDLE_TIMEOUT 100 60000 w)),
   (R.EN_HOST_WD, fun c _ _ w act =>
     let c := (c.setReg R.EN_HOST_WD 0 w).setBit F.EN_HOST_WD_ARMED 0 false
     if acts F.EN_HOST_WD_EXPIRED act then c.setBit F.EN_HOST_WD_EXPIRED 0 false else c),
   (R.MG_I2C, fun c _ _ _ act => if acts F.MG_I2C_RETRY act then (let (w, c) := c.fresh; c.segmentRetry (w.toNat % 16) (w.toNat / 16 % 16)) else c),
   (R.MG_LOG_CTRL, fun c _ _ _ act => c.logCtrl (acts F.MG_LOG_CTRL_READ act) (acts F.MG_LOG_CTRL_READ_PIN act) (acts F.MG_LOG_CTRL_PIN_CLEAR act) (F.MG_LOG_CTRL_KEY.read act)),
   (R.MG_IMG_CTRL, fun c _ p _ act => c.imgCtrl p (F.MG_IMG_CTRL_CMD.read act)),
   (R.MG_IMG_DATA, fun c _ p w _ => c.imgData p w),
   (R.MG_KEY_CTRL, fun c _ p w act =>
     let c := (c.set F.MG_KEY_CTRL_SLOT 0 (F.MG_KEY_CTRL_SLOT.read w)).set F.MG_KEY_CTRL_EXPERT 0 (F.MG_KEY_CTRL_EXPERT.read w)
     if acts F.MG_KEY_CTRL_LOAD act || acts F.MG_KEY_CTRL_CLEAR act then c.keyCtrl p (F.MG_KEY_CTRL_SLOT.read w) (F.MG_KEY_CTRL_EXPERT.read w = 1) !(acts F.MG_KEY_CTRL_LOAD act) else c),
   (R.MG_KEY_DATA, fun c _ _ w _ => c.keyData (some w)),
   (R.PT_CTRL, fun c ram _ w act =>
     let c := ((c.set F.PT_CTRL_ISLAND 0 (F.PT_CTRL_ISLAND.read w)).set F.PT_CTRL_SET_BOOT 0 (F.PT_CTRL_SET_BOOT.read w)).set F.PT_CTRL_BANK 0 (F.PT_CTRL_BANK.read w)
     c.ptCommand (c.view ram) (F.PT_CTRL_CMD.read act) (F.PT_CTRL_BANK.read w) (F.PT_CTRL_ISLAND.read w) (F.PT_CTRL_SET_BOOT.read w = 1)),
   (R.PT_FLOOR, fun c _ _ w _ => if w < c.reg R.PT_FLOOR 0 then c else c.setReg R.PT_FLOOR 0 w)]
/-- The effect of a write of `v` by a path, `store` and `act` being the bits that it may store and act on. -/
def Core.effect (c : Core) (ram : Ram) (p : Path) (r : Reg) (i : Nat) (v store act : Word) : Core :=
  match sysHandlers.find? (fun h => h.1.id == r.id) with
  | some h => if v &&& (store ||| act) = 0 && store = 0 && r.id ≠ R.EN_HOST_WD.id then c else h.2 c ram p ((c.reg r i &&& ~~~store) ||| (v &&& store)) (v &&& (store ||| act))
  | none => c.pathWrite ram p r i v store act
/-- The CHANGE records of a Lead's accepted write; a 64-bit quantity is sent when it is whole (R369). -/
def Core.sendChange (c : Core) (r : Reg) (i : Nat) (w : Word) : Core :=
  let send (c : Core) (x : Reg) (v : Word) : Core := c.mirror 5 [(⟨x, i⟩ : Loc).addr, v.toNat]
  if !mirrored r || (highOf r).isSome then c
  else match lowOf r with
    | some lo => send (send c lo (c.reg lo i)) r w
    | none => send c r w
/-- A write of a register of a running island by a path: its status and its effect (R5, R7, R74, R369). `hook` stands for the effect of a command whose outcome the environment gives. -/
def Core.writeReg (c : Core) (ram : Ram) (p : Path) (l : Loc) (v : Word) (hook : Option (Core → Core)) : Nat × Core :=
  let r := l.reg
  let i := l.inst
  let c := c.dropHold p
  if (mirrored r && c.isStandby && p ≠ .tansy) || !(r.writable || c.storeMask r i true ≠ 0) then (7, c)
  else
    let ex := c.expert p
    let rwx := r.accMask (fun f => f.acc = .rwx)
    let store := c.storeMask r i ex
    let act := r.actMask
    let status := if ex || v &&& rwx = c.value p r i &&& rwx then 0 else 8
    let taken := (c.reg r i &&& ~~~store) ||| (v &&& store)
    let c' := match hook with
      | some f => if v &&& (store ||| act) = 0 then c else f c
      | none => c.effect ram p r i v store act
    (status, c'.sendChange r i (taken ||| (v &&& act)))

/-! ### Addresses (R64, R71) and islands that do not run (R103, R104) -/

/-- The address names a register or SRAM. -/
def mapped (a : Nat) : Bool := a < 0x4000000 || (locAt a).isSome
/-- The check of an operation's addresses before any access (R64, R71): BAD_OP, BAD_ADDR or OK. Where several apply, a first address that is unmapped or not aligned gives BAD_ADDR, then leaving the block BAD_OP, then any other unmapped address BAD_ADDR: DESIGN CHOICE, entry 160. -/
def opCheck (addr n : Nat) : Nat :=
  let last := addr + 4 * (n - 1)
  if n = 0 || 256 < n then 5
  else if addr % 4 ≠ 0 || (blockOf addr).isNone then 6
  else if blockOf last ≠ blockOf addr then 5
  else if (List.range n).all (fun i => mapped (addr + 4 * i)) then 0 else 6
/-- The island that an address reaches. -/
def Core.islandOf (c : Core) (a : Nat) : Nat := if a < 0x4000000 then 0x24 else match locAt a with | some l => c.holder l.reg l.inst | none => 0x23
/-- Wake-on-access stalls an access to this island (R104). -/
def Core.stallsOn (c : Core) (isl : Nat) : Bool :=
  let st := c.islState isl
  c.bit F.SYS_WAKE_ON_ACCESS_EN 0 && (st = 1 || st = 3 || (st = 2 && c.bit F.SYS_WAKE_ON_ACCESS_PGATED 0))
/-- Flags an access that R103 completes, and logs it at most once per island and second. -/
def Core.asleep (c : Core) (isl : Nat) (wakeFail : Bool) : Core :=
  let c := ((c.flag 0x25 F.AR_FAULT_ASLEEP 0).set F.AR_FAULT_ISLAND 0 isl).count 0x25 F.AR_FAULT_COUNT 0 1
  let c := if wakeFail then c.flag 0x25 F.AR_FAULT_WAKE_FAIL 0 else c
  let now := c.profNs.toNat + 1
  let last := Tab.get 0 c.sad.accessLogged isl
  if last ≠ 0 && now < last + 1000000000 then c
  else { c with sad := { c.sad with accessLogged := Tab.set 0 c.sad.accessLogged isl now } }.log 0x0514 isl 0
/-- The status of an access that R103 completes. -/
def Core.downStatus (c : Core) (isl : Nat) : Nat := if c.islState isl = 5 then 0x0E else 0x0B
/-- An access that no acknowledge meets within 10 ms is withdrawn at the crossing (Table 3.4): the flag and its island. -/
def Core.withdrawn (c : Core) (isl : Nat) : Core := (c.flag 0x25 F.AR_FAULT_TIMEOUT 0).set F.AR_FAULT_ISLAND 0 isl
/-- A read of one mapped address by a path: status, word and effect; its words cross to the island and back (R94). `down` are islands whose wake has failed. The data of a withdrawn read are open. A poisoned word read by Tansy has the reaction of Table 5.2. -/
def Core.readAt (c : Core) (ram : Ram) (p : Path) (down : List Nat) (a : Nat) : Nat × Word × Core :=
  let isl := c.islandOf a
  if !c.runs isl then (c.downStatus isl, 0x0FF00FF0, (c.dropHold p).asleep isl (down.contains isl))
  else if c.silent.contains a then (let (w, c) := (c.dropHold p).fresh; (0x0D, w, c.withdrawn isl))
  else
    let c := c.sendWords 0x25 isl [BitVec.ofNat 32 a]
    match locAt a with
    | some l => if a < 0x4000000 then (0, 0, c) else (let (w, c) := c.readReg p l; (0, w, c.sendWords isl 0x25 [w]))
    | none =>
      let view := c.view ram
      let c := c.dropHold p
      if view.poisoned a then (0x0C, 0, (let c := c.poisonRead a; if p = .tansy then c.poisonReact ram 6 a else c))
      else (0, view.word a, c.sendWords isl 0x25 [view.word a])
/-- A write of an SRAM word by a path (R49, R66, R81, R118). -/
def Core.writeRam (c : Core) (p : Path) (a : Nat) (v : Word) : Nat × Core :=
  let b := a / 0x400000
  match p with
  | .awl => if b = 15 then (7, c.wrongBank 10 15) else (0, c.store a v.toBytes)
  | .tansy => if c.mayWrite 6 b then (0, c.store a v.toBytes) else (7, c.wrongBank 6 b)
  | .strap _ =>
    if b ≠ 14 then (7, c)
    else if !c.expert p then (8, c)
    else if c.get F.PT_STAT_PHASE 0 ≠ 1 then (9, c.setBit F.PT_STAT_STAGE_WRITE_LATE 0 true)
    else (0, c.store a v.toBytes)
/-- A write of one mapped address by a path: status and effect. -/
def Core.writeAt (c : Core) (ram : Ram) (p : Path) (down : List Nat) (a : Nat) (v : Word) (hook : Option (Core → Core)) : Nat × Core :=
  let isl := c.islandOf a
  if blockOf a = some 16 then (7, c.dropHold p)
  else if !c.runs isl then (c.downStatus isl, (c.dropHold p).asleep isl (down.contains isl))
  else if c.silent.contains a then (0x0D, (c.dropHold p).withdrawn isl)
  else
    let c := c.sendWords 0x25 isl [BitVec.ofNat 32 a, v]
    match locAt a with
    | some l => if a < 0x4000000 then (0, c) else c.writeReg ram p l v hook
    | none => (c.dropHold p).writeRam p a v

/-! ### One access as a command -/

/-- A path is heard: Strap and the Awl port through the network island, the port only while enabled. -/
def Core.heard (c : Core) (p : Path) : Bool :=
  match p with
  | .strap _ => c.runs 0x23
  | .awl => c.runs 0x23 && c.bit F.SYS_AWL_ENABLE 0
  | .tansy => c.runs 0x25
/-- The refusal of a request of a path before any access: NO_SESSION, or FAILED while the application island has failed (R87). -/
def Core.pathRefusal (c : Core) (p : Path) (addr : Nat) (rd : Bool) : Nat :=
  match p with
  | .strap sid => if !(c.sessAt sid).live || (c.sessAt sid).half then 2 else if c.islState 0x25 = 5 && !(rd && addr / 0x10000 = 0x4000) then 0x0E else 0
  | _ => 0
/-- An accepted request: the application island wakes from Idle (R106), and a session that holds HOST_WD feeds it (R83). -/
def Core.accepted (c : Core) (p : Path) : Core :=
  match p with
  | .strap sid => let c := (c.pokeApp).sendPulse 0x23 0x25 0; if c.wdHeld = some sid then c.feedWd else c
  | _ => c
/-- The requests of a path share one engine: all Strap sessions have one, the Awl port another. -/
def pathEngine (p : Path) : Nat := match p with | .strap _ => 0 | .awl => 1 | .tansy => 2
/-- A request of this path's engine already waits for an island. -/
def Core.engineBusy (c : Core) (p : Path) : Bool := c.stalls.any (fun e => pathEngine e.1 == pathEngine p) || (pathEngine p = 0 && c.strapWait.isSome)
/-- One access of a path, its result recorded. -/
def Core.access (c : Core) (ram : Ram) (p : Path) (addr : Nat) (wr : Option Word) (down : List Nat) (hook : Option (Core → Core)) : Core :=
  match wr with
  | none => let (st, w, c) := c.readAt ram p down addr; c.answer st [w]
  | some v => let (st, c) := c.writeAt ram p down addr v hook; c.answer st []
/-- A read or write of one word by a path (R64, R65, R103, R104), and what it started once its reply has left (R85). -/
def Core.command (c : Core) (ram : Ram) (p : Path) (addr : Nat) (wr : Option Word) (hook : Option (Core → Core)) : Core :=
  if !c.heard p then c
  else
    let r := c.pathRefusal p addr wr.isNone
    if r ≠ 0 then c.answer r []
    else
      let c := c.accepted p
      let bad := opCheck addr 1
      if bad ≠ 0 then c.answer bad (if wr.isNone then [0] else [])
      else if c.engineBusy p || c.stallsOn (c.islandOf addr) then { c with stalls := c.stalls ++ [(p, addr, wr)] }
      else (c.access ram p addr wr [] hook).runDeferred
end Sys2Proof.Machine
end

