-- ==== Sys2Proof/Machine/Strap.lean ====
section
/-! DEFINITION. Strap (R68–R89): frames and their checks, the sequence window, sessions, the operations of a request, events, and the host watchdog. -/
namespace Sys2Proof.Machine

/-! ### Frames as bytes (R69, R70) -/

/-- OP, WORDS, ADDR and the request data of an operation (Table 3.3). -/
def opParts : StrapOp → Nat × Nat × Nat × List Byte
  | .read a n => (1, n, a, [])
  | .write a d => (2, d.length, a, d.flatMap Word.toBytes)
  | .rmw a m v => (3, 1, a, m.toBytes ++ v.toBytes)
  | .nop => (4, 0, 0, [])
  | .hello slot nh => (0x10, 0, slot, (nh ++ List.replicate 16 0).take 16)
  | .openS arg => (0x11, 0, arg, [])
  | .close => (0x12, 0, 0, [])
  | .subscribe m => (0x13, 0, m, [])
  | .evAck q => (0x14, 0, q, [])
  | .unknown op n a => (op, n, a, [])
/-- The operation header with a STATUS. -/
def opHeader (o : StrapOp) (status : Nat) : List Byte :=
  let (op, n, a, _) := opParts o
  bytesOfNat 1 op ++ bytesOfNat 1 status ++ bytesOfNat 2 n ++ bytesOfNat 4 a
/-- The bytes of a request before its TAG. -/
def requestBytes (h : StrapHdr) (ops : List StrapOp) : List Byte :=
  bytesOfNat 2 h.magic ++ bytesOfNat 1 h.ver ++ bytesOfNat 1 h.kind ++ bytesOfNat 2 h.session ++ bytesOfNat 2 h.seq ++ bytesOfNat 2 h.len
    ++ bytesOfNat 1 h.count ++ bytesOfNat 1 h.status ++ bytesOfNat 1 h.flags ++ bytesOfNat 1 h.rsvd ++ bytesOfNat 2 h.echo
    ++ ops.flatMap (fun o => opHeader o 0 ++ (opParts o).2.2.2)
/-- The words of an operation's reply. -/
def replyWords : StrapOp → Nat
  | .read _ n => n
  | .rmw _ _ _ => 1
  | .hello _ _ => 7
  | .openS _ => 1
  | _ => 0
/-- COUNT and LEN describe the frame. -/
def shapeOk (h : StrapHdr) (ops : List StrapOp) : Bool :=
  h.count = ops.length && ops.length ≤ 32 && h.len = 32 + (ops.map (fun o => 8 + (opParts o).2.2.2.length)).sum
/-- The zero TAG of a frame without authentication. -/
def noTag : List Byte := List.replicate 16 0
/-- A frame with its TAG under a key, or with the zero TAG without one. -/
def withTag (ks body : List Byte) : List Byte := if ks.isEmpty then body ++ noTag else tagged ks body
/-- A reply to a frame as a whole, without operations. -/
def Core.frameReply (c : Core) (dst : SrcAddr) (ks : List Byte) (h : StrapHdr) (status : Nat) : Core :=
  c.emit (.strap dst (withTag ks (strapHeader 2 h.session h.seq 32 0 status 0 h.echo)))

/-! ### The sequence window (R79, R80) -/

/-- What the window says of a sequence number. -/
inductive Verdict79 where
  | accept | duplicate | old
deriving DecidableEq, Repr
/-- The window's decision and the session once it has accepted. -/
def Session.window (s : Session) (q : Nat) : Verdict79 × Session :=
  let d := (q + 65536 - s.head) % 65536
  if 1 ≤ d && d ≤ 32767 then (.accept, { s with head := q, seen := (if 64 ≤ d then 0 else s.seen <<< d) ||| 1 })
  else
    let back := (s.head + 65536 - q) % 65536
    if 63 < back then (.old, s)
    else if s.seen.getLsbD back then (.duplicate, s)
    else (.accept, { s with seen := s.seen ||| (1 <<< back) })

/-! ### Operations (R71, R76, R77, R82, R87) -/

/-- The addresses that an operation touches; none where its checks refuse it. -/
def opAddrs : StrapOp → List Nat
  | .read a n => if opCheck a n = 0 then (List.range n).map (fun i => a + 4 * i) else []
  | .write a d => if opCheck a d.length = 0 then (List.range d.length).map (fun i => a + 4 * i) else []
  | .rmw a _ _ => if opCheck a 1 = 0 then [a] else []
  | _ => []
/-- A burst read: every word is read (R71: each word is one register access, so that each counts in AR_FAULT where the island sleeps, R103: DESIGN CHOICE, entry 165), and the first status that is not OK is the operation's. -/
def Core.readBurst (c : Core) (ram : Ram) (p : Path) (down : List Nat) (a n : Nat) : Nat × List Word × Core :=
  (List.range n).foldl (fun (r : Nat × List Word × Core) i =>
    let (st, w, c) := r.2.2.readAt ram p down (a + 4 * i)
    (if r.1 = 0 then st else r.1, r.2.1 ++ [w], c)) (0, [], c)
/-- A burst write, in address order. -/
def Core.writeBurst (c : Core) (ram : Ram) (p : Path) (down : List Nat) (a : Nat) (ds : List Word) : Nat × Core :=
  (List.range ds.length).foldl (fun (r : Nat × Core) i =>
    let (st, c) := r.2.writeAt ram p down (a + 4 * i) (ds.getD i 0) none
    (if r.1 = 0 then st else r.1, c)) (0, c)
/-- A read-modify-write (R71): refused on a register with WO, W1C, W1S or RC fields; a read that does not return OK writes nothing. -/
def Core.rmwAt (c : Core) (ram : Ram) (p : Path) (down : List Nat) (a : Nat) (m v : Word) : Nat × List Word × Core :=
  if 0x4000000 ≤ a && (locAt a).any (fun l => !l.reg.rmwable) then (5, [0], c)
  else
    let (st, old, c) := c.readAt ram p down a
    if st ≠ 0 then (st, [old], c)
    else
      let (st, c) := c.writeAt ram p down a ((old &&& ~~~m) ||| (v &&& m)) none
      (st, [old], c)
/-- HELLO (R77): a key slot above 3 names no Strap key and answers NO_KEY (DESIGN CHOICE, entry 164); else a free SID and nonce, the session key, and the half-open session; a third half-open one discards the older. -/
def Core.hello (c : Core) (src : SrcAddr) (slot : Nat) (nh : List Byte) : Nat × List Word × List Byte × Core :=
  let k := c.keyAt slot
  if 3 < slot || !k.present then (0x10, List.replicate 7 0, [], c)
  else
    let half := (c.sessions.filter (fun e => e.2.live && e.2.half))
    let c := if half.length < 2 then c
      else match half.find? (fun e => half.all (fun x => e.2.age ≤ x.2.age)) with | some e => c.setSess e.1 {} | none => c
    let i := c.freeIdx
    let (w, c) := c.fresh
    let sid := ((List.range 16).map (fun n => (w.toNat + n) % 65535 + 1)).find? (fun x => !(c.sessAt x).live) |>.getD 1
    let nm := (List.range 16).map (Config.nonceByte i)
    let serial := c.reg R.SYS_SERIAL 0
    let ks := Crypto.hmac k.key ([0x53, 0x54, 0x52, 0x41, 0x50, 0x4B, 0x53, 0x31] ++ (nh ++ List.replicate 16 0).take 16 ++ nm ++ bytesOfNat 2 sid ++ serial.toBytes)
    let c := { c.setSess sid { live := true, half := true, expert := k.expert, ks := ks, src := src, age := c.sessAge } with sessAge := c.sessAge + 1 }
    let word (n : Nat) : Word := BitVec.ofNat 32 (natOfBytes ((nm.drop (4 * n)).take 4))
    (0, [BitVec.ofNat 32 sid, word 0, word 1, word 2, word 3, serial, c.reg R.TW_INCARN 0], ks, c)
/-- OPEN on a half-open session (R75, R77): its SEQ becomes the window's head. -/
def Core.openSess (c : Core) (src : SrcAddr) (sid seq arg : Nat) : Nat × List Word × Core :=
  let s := c.sessAt sid
  let wd := arg % 2 = 1
  let open_ := c.openSessions
  if !s.half || 2 ≤ arg then (5, [0], c)
  else if 8 ≤ open_.length || (s.expert && 2 ≤ (open_.filter (·.expert)).length) then (0x0A, [0], c)
  else if wd && c.wdHeld.isSome then (0x12, [0], c)
  else
    let c := c.setSess sid { s with half := false, src := src, head := seq, seen := 1, evSeq := 1 }
    let c := if wd then { c with wdHeld := some sid }.feedWd else c
    (0, [BitVec.ofNat 32 ((if s.expert then 1 else 0) + (if wd then 2 else 0))], c.logFrom 0x23 0x0600 sid (if s.expert then 1 else 0))
/-- SUBSCRIBE (R82): the mask of Table 3.5; 0 ends delivery. -/
def Core.subscribe (c : Core) (sid mask : Nat) : Core :=
  let s := c.sessAt sid
  let m := mask % 128
  c.setSess sid (if m = 0 then { s with mask := 0, queue := [], outstanding := none, resent := 0 } else { s with mask := m })
/-- EV_ACK (R82): the outstanding frame is acknowledged, and the next may go. -/
def Core.evAck (c : Core) (sid seq : Nat) : Core :=
  let s := c.sessAt sid
  match s.outstanding with
  | some (_, q, _) => if q = seq % 65536 then (c.setSess sid { s with outstanding := none, resent := 0 }).pump sid else c
  | none => c
/-- A READ wholly within some addresses. -/
def readWithin (o : StrapOp) (last : Nat) : Bool := match o with | .read a n => 1 ≤ n && n ≤ 256 && 0x40000000 ≤ a && a + 4 * n ≤ last | _ => false
/-- One operation of a request: status, reply data, the key that the reply takes, effect. NO_SESSION goes untagged, and with it the reply that carries it (Table 3.4). Where R76 does not allow a sessionless operation, it is answered NO_SESSION also while the application island has failed (R87): DESIGN CHOICE, entry 163. -/
def Core.runOp (c : Core) (ram : Ram) (j : StrapJob) (o : StrapOp) : Nat × List Word × List Byte × Core :=
  let failed := c.islState 0x25 = 5
  let p : Path := .strap j.sid
  let mem (r : Nat × List Word × Core) : Nat × List Word × List Byte × Core := (r.1, r.2.1, j.ks, r.2.2)
  let no (st : Nat) : Nat × List Word × List Byte × Core := (st, [], (if st = 2 then [] else j.ks), c)
  if j.sid = 0 then
    match o with
    | .hello slot nh => if j.count ≠ 1 then no 2 else if failed then no 0x0E else c.hello j.dst slot nh
    | .read a n => if !readWithin o 0x40000010 then no 2 else if opCheck a n ≠ 0 then no (opCheck a n) else mem (c.readBurst ram p j.down a n)
    | _ => no 2
  else
    let s := c.sessAt j.sid
    let isOpen : Bool := match o with | .openS _ => true | _ => false
    if !s.live || (s.half && !isOpen) then no 2
    else if failed && !readWithin o 0x40010000 then no 0x0E
    else
      match o with
      | .read a n => if opCheck a n ≠ 0 then no (opCheck a n) else mem (c.readBurst ram p j.down a n)
      | .write a d => if opCheck a d.length ≠ 0 then no (opCheck a d.length) else (let r := c.writeBurst ram p j.down a d; (r.1, [], j.ks, r.2))
      | .rmw a m v => if opCheck a 1 ≠ 0 then no (opCheck a 1) else mem (c.rmwAt ram p j.down a m v)
      | .nop => no 0
      | .hello _ _ => no 5
      | .openS arg => mem (c.openSess j.dst j.sid j.seq arg)
      | .close => (0, [], j.ks, c.closeSess j.sid 0)
      | .subscribe m => (0, [], j.ks, c.subscribe j.sid m)
      | .evAck q => (0, [], j.ks, c.evAck j.sid q)
      | .unknown _ _ _ => no 5
/-- An operation as the reply repeats it, its data filled with zeros to its length. -/
def opReply (o : StrapOp) (status : Nat) (data : List Word) : List Byte :=
  opHeader o status ++ ((data ++ List.replicate (replyWords o) 0).take (replyWords o)).flatMap Word.toBytes

/-! ### Requests (R72, R73, R85) -/

/-- The operation waits for an island that wake-on-access wakes (R104). -/
def Core.opStalls (c : Core) (j : StrapJob) (o : StrapOp) : Bool :=
  !j.stop && j.sid ≠ 0 && (c.sessAt j.sid).live && (opAddrs o).any (fun a => c.stallsOn (c.islandOf a) && !j.down.contains (c.islandOf a))
/-- Runs a request's operations in order (R72): the Bool says that one waits. -/
def Core.runOps (ram : Ram) : List StrapOp → StrapJob → Core → Core × StrapJob × Bool
  | [], j, c => (c, { j with ops := [] }, false)
  | o :: os, j, c =>
    if j.stop then Core.runOps ram os { j with done := j.done ++ opReply o 0x11 [], first := if j.first = 0 then 0x11 else j.first } c
    else if c.opStalls j o then (c, { j with ops := o :: os }, true)
    else
      let (st, data, ks, c) := c.runOp ram j o
      let c := c.answer st data
      Core.runOps ram os { j with ks := ks, done := j.done ++ opReply o st data, down := [], first := (if j.first = 0 then st else j.first), stop := (st ≠ 0 && !j.cont) || c.deferred.isSome } c
/-- The reply leaves, is kept with the four latest of its session (R80), and what a write started begins (R85). -/
def Core.finishJob (c : Core) (j : StrapJob) : Core :=
  let frame := withTag j.ks (strapHeader 2 j.sid j.seq (32 + j.done.length) j.count j.first 0 j.echo ++ j.done)
  let s := c.sessAt j.sid
  let c := c.emit (.strap j.dst frame)
  let c := if j.sid ≠ 0 && s.live && !s.half then c.setSess j.sid { s with replies := ((j.seq, frame) :: s.replies).take 4 } else c
  c.runDeferred
/-- Runs or goes on with a request until it ends or waits. -/
def Core.runJob (c : Core) (ram : Ram) (j : StrapJob) : Core :=
  let (c, j, waits) := Core.runOps ram j.ops j { c with strapWait := none }
  if waits then { c with strapWait := some j } else c.finishJob j
/-- A request whose checks have passed is executed; a reply that would be too long executes nothing (R72). -/
def Core.execute (c : Core) (ram : Ram) (h : StrapHdr) (ks : List Byte) (ops : List StrapOp) : Core :=
  let s := c.sessAt h.session
  let j : StrapJob := { sid := h.session, seq := h.seq, echo := h.echo, cont := h.flags % 2 = 1, dst := (if h.session ≠ 0 && s.live && !s.half then s.src else h.src), ks := ks, count := ops.length, ops := ops }
  if 1472 < 32 + (ops.map (fun o => 8 + 4 * replyWords o)).sum then
    c.finishJob { j with first := 0x0F, done := ops.flatMap (fun o => opHeader o 0x11), ops := [] }
  else c.runJob ram j
/-- A frame with a bad TAG: counted always, logged at most once a second for a source address (R88). -/
def Core.badTag (c : Core) (ip : Nat) : Core :=
  let c := c.addSat F.EN_BAD_TAG_COUNT 0 1
  let now := c.profNs.toNat + 1
  match c.sad.badTag.find? (fun e => e.1 == ip) with
  | some e => if now < e.2 + 1000000000 then c else { c with sad := { c.sad with badTag := (ip, now) :: c.sad.badTag.filter (fun e => e.1 != ip) } }.logFrom 0x23 0x0602 noSrc ip
  | none => { c with sad := { c.sad with badTag := (ip, now) :: c.sad.badTag } }.logFrom 0x23 0x0602 noSrc ip
/-- A request of a session, its TAG good: window, structure, execution (R78–R80). -/
def Core.sessionFrame (c : Core) (ram : Ram) (h : StrapHdr) (ops : List StrapOp) : Core :=
  let s := c.sessAt h.session
  if s.half then (if shapeOk h ops then c.pokeApp.execute ram h s.ks ops else c.frameReply h.src s.ks h 1)
  else
    match s.window h.seq with
    | (.old, _) => (c.addSat F.EN_OLD_SEQ_COUNT 0 1).frameReply s.src s.ks h 3
    | (.duplicate, _) =>
      match s.replies.find? (fun e => e.1 == h.seq) with
      | some e => c.emit (.strap s.src e.2)
      | none => c.frameReply s.src s.ks h 4
    | (.accept, s') =>
      if !shapeOk h ops then c.frameReply s.src s.ks h 1
      else ((c.setSess h.session s').accepted (.strap h.session)).execute ram h s.ks ops
/-- The checks of R78 in their order. -/
def Core.frameIn (c : Core) (ram : Ram) (h : StrapHdr) (ops : List StrapOp) : Core :=
  if h.magic ≠ 0x5053 || h.ver ≠ 1 || h.kind ≠ 1 || h.len < 32 || 1472 < h.len || h.len ≠ h.payload then c.addSat F.EN_BAD_FRAME_COUNT 0 1
  else if h.session = 0 then
    if h.tag ≠ noTag then c.badTag h.src.ip.toNat
    else if !shapeOk h ops then c.frameReply h.src [] h 1
    else c.pokeApp.execute ram h [] ops
  else if !(c.sessAt h.session).live then c.frameReply h.src [] h 2
  else if h.tag ≠ (Crypto.hmac (c.sessAt h.session).ks (requestBytes h ops)).take 16 then c.badTag h.src.ip.toNat
  else c.sessionFrame ram h ops
/-- Requests that waited behind a stalled one go on, in order. -/
def Core.drain (ram : Ram) : Nat → Core → Core
  | 0, c => c
  | n + 1, c =>
    if c.strapWait.isSome || c.stalls.any (fun e => pathEngine e.1 == 0) then c
    else match c.strapQ with
      | [] => c
      | (h, ops) :: rest => Core.drain ram n ({ c with strapQ := rest }.frameIn ram h ops)
/-! ### What waits for an island (R104, R113) -/

/-- Stalled accesses complete in order where their islands let them; `down` are islands whose wake has failed. An engine with one still stalled keeps its later ones. -/
def Core.resumeAccesses (ram : Ram) (down : List Nat) : List (Path × Nat × Option Word) → List Nat → Core → Core
  | [], _, c => c
  | (p, a, wr) :: rest, busy, c =>
    let isl := c.islandOf a
    if busy.contains (pathEngine p) || (c.stallsOn isl && !down.contains isl) then
      Core.resumeAccesses ram down rest (pathEngine p :: busy) { c with stalls := c.stalls ++ [(p, a, wr)] }
    else Core.resumeAccesses ram down rest busy (c.access ram p a wr down none).runDeferred
/-- What waits for islands goes on: single accesses, the waiting Strap request, and the requests behind it. -/
def Core.resume (c : Core) (ram : Ram) (down : List Nat) : Core :=
  let c := Core.resumeAccesses ram down c.stalls [] { c with stalls := [] }
  let c := match c.strapWait with
    | some j => c.runJob ram { j with down := j.down ++ down }
    | none => c
  Core.drain ram (c.strapQ.length + 1) c
/-- Something that waits no longer has to: its island runs, or wake-on-access no longer covers it (R104, R113). -/
def Core.unstalled (c : Core) : Bool :=
  c.stalls.any (fun e => !c.stallsOn (c.islandOf e.2.1)) || c.strapWait.any (fun j => match j.ops with | o :: _ => !c.opStalls j o | [] => true)
/-- What waits without need goes on. -/
def Core.goOn (c : Core) (ram : Ram) : Core := if c.unstalled then c.resume ram [] else c
/-- Something waits for an island. -/
def Core.awaited (c : Core) (isl : Nat) : Bool :=
  c.stalls.any (fun e => c.islandOf e.2.1 == isl)
    || c.strapWait.any (fun j => j.ops.head?.any (fun o => (opAddrs o).any (fun a => c.islandOf a == isl)))
/-- A datagram arrives (R68, R84): on a Strap port of a running network island, with the VLAN tag in force. While a request holds the engine it waits, 64 at most; a repeat of the executing one is discarded (R80). -/
def Core.datagram (c : Core) (ram : Ram) (h : StrapHdr) (ops : List StrapOp) : Core :=
  if !c.runs 0x23 || !c.livePorts.testBit h.src.eport || h.src.vlan ≠ c.liveVlan then c
  else if c.strapWait.any (fun j => j.sid ≠ 0 && j.sid == h.session && j.seq == h.seq && h.tag == (Crypto.hmac j.ks (requestBytes h ops)).take 16) then c
  else if c.strapWait.isSome || c.stalls.any (fun e => pathEngine e.1 == 0) then
    (if 64 ≤ c.strapQ.length then c.addSat F.EN_RX_DROP_COUNT 0 1 else { c with strapQ := c.strapQ ++ [(h, ops)] })
  else c.frameIn ram h ops
/-- The outcome of a Strap request. -/
def strapRequest (s : State) (h : StrapHdr) (ops : List StrapOp) : Host.Outcome State Fault Refusal := onMem s (fun ram c => (c.datagram ram h ops).goOn ram)

/-- STRAP_READ (R71): a request that opens with a READ. -/
def execStrapRead (s : State) (h : StrapHdr) (addr words : Nat) (rest : List StrapOp) : Host.Outcome State Fault Refusal := strapRequest s h (.read addr words :: rest)
/-- STRAP_WRITE (R71). -/
def execStrapWrite (s : State) (h : StrapHdr) (addr : Nat) (data : List Word) (rest : List StrapOp) : Host.Outcome State Fault Refusal := strapRequest s h (.write addr data :: rest)
/-- STRAP_RMW (R71). -/
def execStrapRmw (s : State) (h : StrapHdr) (addr : Nat) (mask value : Word) (rest : List StrapOp) : Host.Outcome State Fault Refusal := strapRequest s h (.rmw addr mask value :: rest)
/-- STRAP_NOP (R70). -/
def execStrapNop (s : State) (h : StrapHdr) (rest : List StrapOp) : Host.Outcome State Fault Refusal := strapRequest s h (.nop :: rest)
/-- HELLO (R77). -/
def execHello (s : State) (h : StrapHdr) (slot : Nat) (nh : List Byte) (rest : List StrapOp) : Host.Outcome State Fault Refusal := strapRequest s h (.hello slot nh :: rest)
/-- OPEN (R77). -/
def execOpenSession (s : State) (h : StrapHdr) (arg : Nat) (rest : List StrapOp) : Host.Outcome State Fault Refusal := strapRequest s h (.openS arg :: rest)
/-- CLOSE (R75). -/
def execCloseSession (s : State) (h : StrapHdr) (rest : List StrapOp) : Host.Outcome State Fault Refusal := strapRequest s h (.close :: rest)
/-- SUBSCRIBE (R82). -/
def execSubscribe (s : State) (h : StrapHdr) (mask : Nat) (rest : List StrapOp) : Host.Outcome State Fault Refusal := strapRequest s h (.subscribe mask :: rest)
/-- EV_ACK (R82). -/
def execEvAck (s : State) (h : StrapHdr) (seq : Nat) (rest : List StrapOp) : Host.Outcome State Fault Refusal := strapRequest s h (.evAck seq :: rest)

/-! ### Register accesses as commands -/

/-- One access of a path, and what its effect lets go on (R113). -/
def Core.request (c : Core) (ram : Ram) (p : Path) (addr : Nat) (wr : Option Word) (hook : Option (Core → Core)) : Core := (c.command ram p addr wr hook).goOn ram
/-- The outcome of a command that is one register write. -/
def regWrite (s : State) (p : Path) (r : Reg) (i : Nat) (v : Word) : Host.Outcome State Fault Refusal := onMem s (fun ram c => c.request ram p (⟨r, i⟩ : Loc).addr (some v) none)
/-- The outcome of a command that is one register read. -/
def regRead (s : State) (p : Path) (r : Reg) (i : Nat) : Host.Outcome State Fault Refusal := onMem s (fun ram c => c.request ram p (⟨r, i⟩ : Loc).addr none none)
/-- The outcome of a command that is one register write with an outcome that the environment gives. -/
def regHook (s : State) (p : Path) (r : Reg) (i : Nat) (v : Word) (f : Core → Core) : Host.Outcome State Fault Refusal := onMem s (fun ram c => c.request ram p (⟨r, i⟩ : Loc).addr (some v) (some f))

/-! ### Other frames and timeouts (R68, R75, R77, R82, R83) -/

/-- The address that the module answers to: the one in force since the last module reset (R90). Before the first one it is the configured one. -/
def Core.liveIp (c : Core) : Word := if c.ipLive = 0 then c.ipConfig else c.ipLive
/-- ARP_REQUEST (R68). -/
def execArpRequest (s : State) (src : SrcAddr) (ip : Word) : Host.Outcome State Fault Refusal := onCore s (fun c =>
  if c.runs 0x23 && ip = c.liveIp then c.emit (.arp src ip) else c)
/-- ICMP_ECHO (R68). -/
def execIcmpEcho (s : State) (src : SrcAddr) (ip : Word) (ident seq : Nat) (payload : List Byte) : Host.Outcome State Fault Refusal := onCore s (fun c =>
  if c.runs 0x23 && ip = c.liveIp then c.emit (.icmp src ident seq payload) else c)
/-- OTHER_IP_FRAME (R68): discarded. -/
def execOtherIpFrame (s : State) (_ : SrcAddr) : Host.Outcome State Fault Refusal := onCore s id
/-- HALF_OPEN_TIMEOUT (R77): a half-open session has met 1 s without OPEN. -/
def execHalfOpenTimeout (s : State) (sid : Nat) : Host.Outcome State Fault Refusal := onCore s (fun c =>
  let x := c.sessAt sid
  if x.live && x.half then c.closeSess sid 0 else c)
/-- SESSION_IDLE_TIMEOUT (R75): IDLE_TIMEOUT has passed; the timer does not run while a request of the session waits. -/
def execSessionIdleTimeout (s : State) (sid : Nat) : Host.Outcome State Fault Refusal := onCore s (fun c =>
  let x := c.sessAt sid
  let waits := c.strapWait.any (fun j => j.sid == sid) || c.strapQ.any (fun e => e.1.session == sid) || c.stalls.any (fun e => e.1 == .strap sid)
  if x.live && !x.half && !waits then c.closeSess sid 1 else c)
/-- EVENT_RETRANSMIT (R82): the outstanding frame is sent again, or after five retransmissions dropped and counted. -/
def execEventRetransmit (s : State) (sid : Nat) : Host.Outcome State Fault Refusal := onCore s (fun c =>
  let x := c.sessAt sid
  match x.outstanding with
  | none => c
  | some (frame, _, n) =>
    if x.resent < 5 then (c.setSess sid { x with resent := x.resent + 1 }).emit (.strap x.src frame)
    else ((c.addSat F.EN_EV_DROPPED_COUNT 0 n).setSess sid { x with outstanding := none, resent := 0 }).pump sid)
/-- HOST_WD_EXPIRY (R83): no feed for TIMEOUT ms. In Idle and Sleep the event to deliver wakes the application island (R389). -/
def execHostWdExpiry (s : State) : Host.Outcome State Fault Refusal := onCore s (fun c =>
  let c := if c.bit F.EN_HOST_WD_ARMED 0 && c.get F.EN_HOST_WD_TIMEOUT 0 ≠ 0 then c.pokeApp else c
  if !c.bit F.EN_HOST_WD_ARMED 0 || c.get F.EN_HOST_WD_TIMEOUT 0 = 0 || !c.runs 0x25 then c
  else
    let c := (c.setBit F.EN_HOST_WD_EXPIRED 0 true).log 0x050D noSrc (c.get F.EN_HOST_WD_ACTION 0)
    if c.isLead then c.hostLost else c)

end Sys2Proof.Machine
end

