-- ==== Sys2Proof/Machine/Islands.lean ====
section
/-! DEFINITION. Islands and crossings as commands (R94–R116): acknowledges, resynchronisation, hangs, quiescence, wake-on-access and host-requested island resets. -/
namespace Sys2Proof.Machine

/-! ### Crossings -/

/-- Both ends of a crossing are islands (R101). -/
def crossRange (x : CrossId) (o : Host.Outcome State Fault Refusal) : Host.Outcome State Fault Refusal := inRange "island" x.src 0x2A (inRange "island" x.dst 0x2A o)
/-- CROSSING_ACK (R95–R98): the round trip ends, and what waited makes the next delivery. -/
def execCrossingAck (s : State) (x : CrossId) : Host.Outcome State Fault Refusal := crossRange x (onCore s (fun c =>
  (c.deliverNext x).setCross (crossKey x) ((c.crossAt (crossKey x)).ack x.kind)))
/-- CROSS_MERGE (R115): a frame-start delivery carries MERGED; the receiving island has missed a frame. -/
def execCrossMerge (s : State) (x : CrossId) : Host.Outcome State Fault Refusal := crossRange x (onCore s (fun c =>
  if c.rst.held then c else (c.log 0x0513 x.dst x.src).islandFail x.dst))
/-- CROSSING_RESYNC (R99, R100): the surviving side discards what is unsent or unread, `words` being words on their way that the queue does not show, clears PENDING, MERGED and delta, zeroes the pointers and counts what it discarded; a level crossing sends its state again. -/
def execCrossingResync (s : State) (x : CrossId) (words : Nat) : Host.Outcome State Fault Refusal := crossRange x (onCore s (fun c => c.resync x words))
/-- RESYNC_TIMEOUT (R115): the acknowledge of a resynchronisation has not returned within 1 ms. -/
def execResyncTimeout (s : State) (isl : Nat) : Host.Outcome State Fault Refusal := inRange "island" isl 0x2A (onCore s (fun c => c.islandFail isl))
/-- CROSS_HANG (R114): an acknowledge has been missing for 200 µs. -/
def execCrossHang (s : State) (x : CrossId) : Host.Outcome State Fault Refusal := crossRange x (onCore s (fun c =>
  if c.rst.held then c else (c.log 0x0512 x.dst x.src).islandFail x.dst))
/-- ACCESS_TIMEOUT (R111, Table 3.4): an access, single or in the request `req`, that no acknowledge met within 10 ms is withdrawn and not applied; where the acknowledge came first it wins. The data of a withdrawn read are open. -/
def execAccessTimeout (s : State) (p : Path) (addr : Nat) (req : PathReq) (ackWins : Bool) : Host.Outcome State Fault Refusal := onMem s (fun ram c =>
  let c := { c with silent := if ackWins then [] else [addr] }
  let c := match req with
    | .frame h ops => (c.datagram ram h ops).goOn ram
    | .word wr => c.request ram p addr wr none
  { c with silent := [] })
/-- The locks of the islands that stop are released (R135): the application and the scheduler hold them. -/
def Core.stopLocks (c : Core) (isl : Nat) : Core := if isl = 0x25 then c.dropLocks 6 else if isl = 0x26 then c.dropLocks 7 else c
/-- What keeps the memory island from stopping (R135): a bank lock that is held, or a transfer in progress. -/
def Core.memoryBusy (c : Core) (isl : Nat) : Bool := isl = 0x24 && (List.range 16).any (fun b => (c.bankAt b).lock.isSome || (c.bankAt b).holder.isSome)
/-- ISLAND_QUIESCED (R102, R135): every accepted request of a running island is acknowledged, and it enters CLOCK_STOPPED (1), POWER_GATED (2) or ISLAND_RESET (3); its bank locks are released. -/
def execIslandQuiesced (s : State) (isl target : Nat) : Host.Outcome State Fault Refusal := inRange "island" isl 0x2A (
  if target = 1 || target = 2 then onCore s (fun c => if c.runs isl && !c.memoryBusy isl then (c.stopLocks isl).setIsl isl target else c)
  else if target = 3 then onCore s (fun c => if !c.runs isl || c.memoryBusy isl then c else if isl = 0x23 then c.networkReset else (c.stopLocks isl).islandReset isl)
  else .fault (.noSuch "island state" target))

/-! ### Wake-on-access (R104, R105, R113) -/

/-- The loader holds an island in reset: for a re-lace, or for a host's request. -/
def Core.heldByLoader (c : Core) (isl : Nat) : Bool := (c.loader.islReset && c.loader.rstTarget = isl) || (c.loader.relace && c.loader.target = isl && !c.loader.ready)
/-- WAKE_ON_ACCESS_READY (R104): the clock or power of an accessed island has come up, or its reset is over; it is marked as woken by access, and its crossings resynchronise where it left reset (R100). A reset that the loader runs ends by its own command. What waits goes on also where the island came up for another reason, or can no longer come up. -/
def execWakeOnAccessReady (s : State) (isl : Nat) : Host.Outcome State Fault Refusal := inRange "island" isl 0x2A (onMem s (fun ram c =>
  if !c.awaited isl then c
  else if !c.stallsOn isl then c.resume ram []
  else if c.heldByLoader isl then c
  else
    let c := if c.islState isl = 3 then c.leaveReset isl else { c with woken := Tab.set 0 c.woken isl 1 }
    (c.setIsl isl 0).resume ram []))
/-- WAKE_ACCESS_TIMEOUT (R104): 5 ms have passed; the accesses that still wait for the island complete under R103, with WAKE_FAIL. -/
def execWakeAccessTimeout (s : State) (isl : Nat) : Host.Outcome State Fault Refusal := inRange "island" isl 0x2A (onMem s (fun ram c =>
  if !c.awaited isl then c else c.resume ram [isl]))
/-- WOKEN_ISLAND_IDLE (R105): 10 ms without an access; the island returns to the state that the power state requires. -/
def execWokenIslandIdle (s : State) (isl : Nat) : Host.Outcome State Fault Refusal := inRange "island" isl 0x2A (onCore s (fun c =>
  if Tab.get 0 c.woken isl = 0 then c
  else
    let c := { c with woken := Tab.set 0 c.woken isl 0 }
    if c.runs isl && ((c.pwState = 2 && sleepIslands.contains isl) || ((c.pwState = 1 || c.pwState = 2) && isl = 0x25)) then c.setIsl isl 1 else c))

/-! ### Island reset by the host (R107, R108) -/

/-- ISLAND_RESET_REQ (R107): a write of SYS_ISL_RST with REQ. -/
def execIslandResetReq (s : State) (p : Path) (isl : Nat) : Host.Outcome State Fault Refusal := inRange "island" isl 0x100
  (regWrite s p R.SYS_ISL_RST 0 (F.SYS_ISL_RST_ISLAND.write (F.SYS_ISL_RST_REQ.write 0 1) isl))
/-- A stitch or lane island is rebuilt from bank 15: its structure and its preloads, and a stitch island's contexts, coefficients and loops (Table 4.6); its crossings resynchronise (R100). -/
def Core.rebuild (c : Core) (ram : Ram) (isl : Nat) : Core :=
  let c := (c.leaveReset isl).setIsl isl 0
  let c := if 0x10 ≤ isl then c.groupStart (isl - 0x10) else c
  let ks := (c.engAt isl).ctx
  let c := if isl < 0x10 then foldN ks c (fun c k => ((c.set F.AX_STAT_CLASS k (c.pat.slot k).cls).set F.AX_STAT_ENGINE k isl)) else c
  let c := c.writePreloads ram c.pat (fun i _ => i = isl)
  if isl < 0x10 then (foldN ks c (fun c k => (c.commitNow k).clearLoop k)).reneed else c
/-- ISLAND_RESET_DONE (R107, R108, R110): the reset releases; a stitch island runs its canary, and is fenced where it fails. A re-lace of the island that waits for the pattern lock then holds it in reset for its own rebuild. The network island has its address again (R90). -/
def execIslandResetDone (s : State) (canary : Bool) : Host.Outcome State Fault Refusal := onMem s (fun ram c =>
  if c.loader.islReset && (c.loader.rstFirst || !c.fullLoading) then
    let isl := c.loader.rstTarget
    let c := c.rebuild ram isl
    let c := { c with loader := { c.loader with islReset := false } }
    let c := (c.setBit F.SYS_ISL_RST_REQ 0 false).set F.SYS_ISL_RST_RESULT 0 0
    let c := if isl < 0x10 && !canary then c.fence isl else c
    let c := if c.loader.relace && c.loader.target = isl && !c.loader.handover && c.runs isl then c.islandReset isl else c
    c.loaderFree.judge.goOn ram
  else if c.islState 0x23 = 3 && !c.rst.held then ((((c.leaveReset 0x23).setIsl 0x23 0).showIp).set F.SYS_ISL_RST_RESULT 0 0).judge.goOn ram
  else c)

/-! ### Commands that end what waits: failures, wakes and the end of a re-lace -/

/-- ISLAND_FAILURE (R27). An access that waits for the island completes under R103 (R104). -/
def execIslandFailure (s : State) (isl : Nat) : Host.Outcome State Fault Refusal := inRange "island" isl 0x2A (onMem s (fun ram c => (c.islandFail isl).goOn ram))
/-- SADDLER_HEARTBEAT_LOSS (R449): no heartbeat for 10 ms; Tansy must run to see it. -/
def execSaddlerHeartbeatLoss (s : State) : Host.Outcome State Fault Refusal := onMem s (fun ram c => if c.runs 0x25 then (c.islandFail 0x28).goOn ram else c)
/-- WAKE_COMPLETE (R403): the module reaches Run. -/
def execWakeComplete (s : State) : Host.Outcome State Fault Refusal := onMem s (fun ram c => (c.wakeUp ram).goOn ram)
/-- RELACE_REBUILD_DONE (R57, R58): the target is rebuilt, and its canary passes or fails. -/
def execRelaceRebuildDone (s : State) (canary : Bool) : Host.Outcome State Fault Refusal := onMem s (fun ram c => (c.relaceRebuild ram canary).goOn ram)

end Sys2Proof.Machine
end

