-- ==== Sys2Proof/Machine/Commands.lean ====
section
/-! DEFINITION. The commands that are one access to one register: each is that access, so it meets the path's rights, the island's state and the register's own rules (R3–R8, R63–R67, R103, R104). -/
namespace Sys2Proof.Machine

/-- A word with one field set. -/
def fieldWord (f : Fld) (v : Nat) : Word := f.write 0 v
/-- A write that leaves the other fields of the register as they stand. -/
def regWriteF (s : State) (p : Path) (r : Reg) (i : Nat) (f : Word → Word) : Host.Outcome State Fault Refusal :=
  onMem s (fun ram c => c.request ram p (⟨r, i⟩ : Loc).addr (some (f (c.reg r i))) none)
/-- A read or a write of a register. -/
def regAccess (s : State) (p : Path) (r : Reg) (i : Nat) (wr : Option Word) : Host.Outcome State Fault Refusal :=
  match wr with
  | some v => regWrite s p r i v
  | none => regRead s p r i

/-! ### Any register (R3–R5) -/

/-- REGISTER_WRITE (R5): a write of a register with no row of its own. -/
def execRegisterWrite (s : State) (p : Path) (addr : Nat) (v : Word) : Host.Outcome State Fault Refusal := onMem s (fun ram c => c.request ram p addr (some v) none)
/-- QUAD_LOW_READ (R4): the high word is held for the path. -/
def execQuadLowRead (s : State) (p : Path) (addr : Nat) : Host.Outcome State Fault Refusal := onMem s (fun ram c => c.request ram p addr none none)
/-- QUAD_LOW_WRITE (R4): the low word is pending for the path. -/
def execQuadLowWrite (s : State) (p : Path) (addr : Nat) (v : Word) : Host.Outcome State Fault Refusal := onMem s (fun ram c => c.request ram p addr (some v) none)
/-- QUAD_HIGH_WRITE (R4): the quantity is written whole. -/
def execQuadHighWrite (s : State) (p : Path) (addr : Nat) (v : Word) : Host.Outcome State Fault Refusal := onMem s (fun ram c => c.request ram p addr (some v) none)
/-- RC_FIELD_READ (R5): the fields clear after the read. -/
def execRcFieldRead (s : State) (p : Path) (addr : Nat) : Host.Outcome State Fault Refusal := onMem s (fun ram c => c.request ram p addr none none)

/-! ### The pattern loader (R48–R54) -/

/-- A write of PT_CTRL with a command. -/
def ptWrite (s : State) (p : Path) (cmd : Nat) (f : Word → Word) : Host.Outcome State Fault Refusal := regWriteF s p R.PT_CTRL 0 (fun w => F.PT_CTRL_CMD.write (f w) cmd)
/-- STAGE_OPEN (R49). -/
def execStageOpen (s : State) (p : Path) : Host.Outcome State Fault Refusal := ptWrite s p 1 id
/-- VERIFY (R49). -/
def execVerify (s : State) (p : Path) : Host.Outcome State Fault Refusal := ptWrite s p 2 id
/-- ACTIVATE (R51). -/
def execActivate (s : State) (p : Path) : Host.Outcome State Fault Refusal := ptWrite s p 3 id
/-- LOAD_FLASH (R51). -/
def execLoadFlash (s : State) (p : Path) (bank : Bool) : Host.Outcome State Fault Refusal := ptWrite s p 7 (fun w => F.PT_CTRL_BANK.write w (bitOf bank))
/-- RELACE (R54). -/
def execRelace (s : State) (p : Path) (isl : Nat) : Host.Outcome State Fault Refusal := inRange "island" isl 0x100 (ptWrite s p 4 (fun w => F.PT_CTRL_ISLAND.write w isl))
/-- COMMIT (R52). -/
def execCommit (s : State) (p : Path) (setBoot : Bool) : Host.Outcome State Fault Refusal := ptWrite s p 5 (fun w => F.PT_CTRL_SET_BOOT.write w (bitOf setBoot))
/-- STAGE_CLOSE (R49). -/
def execStageClose (s : State) (p : Path) : Host.Outcome State Fault Refusal := ptWrite s p 6 id
/-- STAGING_WRITE (R49, R66): a word of SRAM, bank 14 for Strap. -/
def execStagingWrite (s : State) (p : Path) (addr : Nat) (v : Word) : Host.Outcome State Fault Refusal := inRange "address" addr 0x4000000 (onMem s (fun ram c => c.request ram p addr (some v) none))

/-! ### The Awl port and the arbiter (R81, R120, R127) -/

/-- AWL_ENABLE (R81). -/
def execAwlEnable (s : State) (p : Path) (en : Bool) : Host.Outcome State Fault Refusal := regWrite s p R.SYS_AWL 0 (fieldWord F.SYS_AWL_ENABLE (bitOf en))
/-- AWL_ACCESS (R81). -/
def execAwlAccess (s : State) (a : AwlAccess) : Host.Outcome State Fault Refusal :=
  onMem s (fun ram c => match a with | .read addr => c.request ram .awl addr none none | .write addr v => c.request ram .awl addr (some v) none)
/-- PRIO_WRITE (R127). -/
def execPrioWrite (s : State) (p : Path) (bank : Nat) (hi : Bool) (v : Word) : Host.Outcome State Fault Refusal := inRange "bank" bank 16 (regWrite s p (if hi then R.AR_PRIO_HI else R.AR_PRIO_LO) bank v)
/-- RETAIN_WRITE (R120). -/
def execRetainWrite (s : State) (p : Path) (v : Word) : Host.Outcome State Fault Refusal := regWrite s p R.AR_RETAIN 0 v

/-! ### Profiles, gearing and interpolation (R142–R155) -/

/-- TARGET_WRITE (R142): the low word, then the high word, of AX_TARGET. -/
def execTargetWrite (s : State) (p : Path) (slot : Nat) (v : BitVec 64) : Host.Outcome State Fault Refusal := inRange "slot" slot 128 (onMem s (fun ram c =>
  (c.request ram p (⟨R.AX_TARGET_LO, slot⟩ : Loc).addr (some (v.extractLsb' 0 32)) none).request ram p (⟨R.AX_TARGET_HI, slot⟩ : Loc).addr (some (v.extractLsb' 32 32)) none))
/-- A write of AX_CMD. -/
def axCmd (s : State) (p : Path) (slot cmd : Nat) : Host.Outcome State Fault Refusal := inRange "slot" slot 128 (regWrite s p R.AX_CMD slot (fieldWord F.AX_CMD_CMD cmd))
/-- JOG (R146). -/
def execJog (s : State) (p : Path) (slot : Nat) : Host.Outcome State Fault Refusal := axCmd s p slot 1
/-- STOP (R146). -/
def execStop (s : State) (p : Path) (slot : Nat) : Host.Outcome State Fault Refusal := axCmd s p slot 2
/-- GEAR_ENGAGE (R155). -/
def execGearEngage (s : State) (p : Path) (slot : Nat) : Host.Outcome State Fault Refusal := axCmd s p slot 3
/-- GEAR_DISENGAGE (R155). -/
def execGearDisengage (s : State) (p : Path) (slot : Nat) : Host.Outcome State Fault Refusal := axCmd s p slot 4
/-- RATIO_WRITE (R155): GR_NUM, or GR_DEN. -/
def execRatioWrite (s : State) (p : Path) (slot : Nat) (den : Bool) (v : Word) : Host.Outcome State Fault Refusal := inRange "slot" slot 128 (regWrite s p (if den then R.GR_DEN else R.GR_NUM) slot v)
/-- A write of one register of a list in the AX_ block, named by its offset there; another offset names no such parameter. -/
def axParam (s : State) (p : Path) (regs : List Reg) (slot param : Nat) (v : Word) : Host.Outcome State Fault Refusal :=
  inRange "slot" slot 128 (match regs.find? (fun r => r.base == 0x40100000 + param) with
    | some r => regWrite s p r slot v
    | none => .fault (.noSuch "parameter" param))
/-- PROFILE_PARAM_WRITE (R143). -/
def execProfileParamWrite (s : State) (p : Path) (slot param : Nat) (v : Word) : Host.Outcome State Fault Refusal := axParam s p [R.AX_VMAX, R.AX_ACCEL, R.AX_DECEL, R.AX_SS1_DEC] slot param v
/-- IG_GO (R149). -/
def execIgGo (s : State) (p : Path) (g : Nat) : Host.Outcome State Fault Refusal := inRange "interpolation group" g 16 (regWrite s p R.IG_CTRL g (fieldWord F.IG_CTRL_GO 1))
/-- IG_STOP (R151). -/
def execIgStop (s : State) (p : Path) (g : Nat) : Host.Outcome State Fault Refusal := inRange "interpolation group" g 16 (regWrite s p R.IG_CTRL g (fieldWord F.IG_CTRL_STOP 1))
/-- IG_CFG_WRITE (R150). -/
def execIgCfgWrite (s : State) (p : Path) (g : Nat) (v : Word) : Host.Outcome State Fault Refusal := inRange "interpolation group" g 16 (regWrite s p R.IG_CFG g v)

/-! ### Loops, lanes and ports (R177–R242) -/

/-- COEF_DATA_ACCESS (R177). -/
def execCoefDataAccess (s : State) (p : Path) (slot : Nat) (wr : Option Word) : Host.Outcome State Fault Refusal := inRange "slot" slot 128 (regAccess s p R.AX_COEF_DATA slot wr)
/-- COEF_COMMIT (R177): ORDER and NSTATE as given, with COMMIT. -/
def execCoefCommit (s : State) (p : Path) (slot : Nat) (v : Word) : Host.Outcome State Fault Refusal := inRange "slot" slot 128 (regWrite s p R.AX_COEF_CTRL slot (F.AX_COEF_CTRL_COMMIT.write v 1))
/-- MAN_SWITCH (R182): a write of AX_LCFG. -/
def execManSwitch (s : State) (p : Path) (slot : Nat) (v : Word) : Host.Outcome State Fault Refusal := inRange "slot" slot 128 (regWrite s p R.AX_LCFG slot v)
/-- LOOP_PARAM_WRITE (R187). -/
def execLoopParamWrite (s : State) (p : Path) (slot param : Nat) (v : Word) : Host.Outcome State Fault Refusal := axParam s p paramRegs slot param v
/-- INJECT (R180). -/
def execInject (s : State) (p : Path) (e : Nat) : Host.Outcome State Fault Refusal := inRange "engine" e 16 (regWrite s p R.ST_CHECK e (fieldWord F.ST_CHECK_INJECT 1))
/-- LANE_CLEAR (R219). -/
def execLaneClear (s : State) (p : Path) (lane : Nat) : Host.Outcome State Fault Refusal := inRange "lane" lane 96 (regWrite s p R.LN_CTRL lane (fieldWord F.LN_CTRL_CLEAR 1))
/-- PA_DATA_ACCESS (R209). -/
def execPaDataAccess (s : State) (p : Path) (slot : Nat) (wr : Option Word) : Host.Outcome State Fault Refusal := inRange "slot" slot 128 (regAccess s p R.AX_PA_DATA slot wr)
/-- PORT_CLEAR (R242): `absent` says that the cause is absent. -/
def execPortClear (s : State) (p : Path) (port : Nat) (absent : Bool) : Host.Outcome State Fault Refusal := inRange "port" port 56 (regHook s p R.FB_CTRL port (fieldWord F.FB_CTRL_CLEAR 1) (fun c => c.portClear port absent))
/-- REF_OK (R242). -/
def execRefOk (s : State) (p : Path) (port : Nat) : Host.Outcome State Fault Refusal := inRange "port" port 56 (regWrite s p R.FB_CTRL port (fieldWord F.FB_CTRL_REF_OK 1))
/-- CPR_WRITE (R230). -/
def execCprWrite (s : State) (p : Path) (port : Nat) (v : Word) : Host.Outcome State Fault Refusal := inRange "port" port 56 (regWrite s p R.FB_CPR port v)
/-- SER_WRITE (R227). -/
def execSerWrite (s : State) (p : Path) (port : Nat) (v : Word) : Host.Outcome State Fault Refusal := inRange "port" port 56 (regWrite s p R.FB_SER port v)

/-! ### Time, capture, CAN and field I/O (R251–R333) -/

/-- NT_SET (R251). -/
def execNtSet (s : State) (p : Path) : Host.Outcome State Fault Refusal := regWrite s p R.NT_CTRL 0 (fieldWord F.NT_CTRL_SET 1)
/-- DI_POP (R261). -/
def execDiPop (s : State) (p : Path) (n : Nat) : Host.Outcome State Fault Refusal := inRange "direct input" n 16 (regWrite s p R.CP_DI_STAT n (fieldWord F.CP_DI_STAT_POP 1))
/-- CAPTURE_ARM (R263): a write of CP_ARM. -/
def execCaptureArm (s : State) (p : Path) (slot : Nat) (v : Word) : Host.Outcome State Fault Refusal := inRange "slot" slot 128 (regWrite s p R.CP_ARM slot v)
/-- CAPTURE_QUERY (R264): CP_Q_CTRL as given, with GO. -/
def execCaptureQuery (s : State) (p : Path) (v : Word) : Host.Outcome State Fault Refusal := regWrite s p R.CP_Q_CTRL 0 (F.CP_Q_CTRL_GO.write v 1)
/-- A channel and an object of it. -/
def objRange (ch obj : Nat) (o : Host.Outcome State Fault Refusal) : Host.Outcome State Fault Refusal := inRange "CAN channel" ch 4 (inRange "CAN object" obj 512 o)
/-- CAN_OBJ_WORD0_READ (R299). -/
def execCanObjWord0Read (s : State) (p : Path) (ch obj : Nat) : Host.Outcome State Fault Refusal := objRange ch obj (regRead s p R.CN_OBJ_W0 (ch * 512 + obj))
/-- CAN_OBJ_LAST_READ (R300): a read of the object's last word. -/
def execCanObjLastRead (s : State) (p : Path) (ch obj : Nat) : Host.Outcome State Fault Refusal := objRange ch obj (
  let w := (s.core.pat.obj ch obj).lastWord
  if w ≤ 3 then regRead s p R.CN_OBJ_W3 (ch * 512 + obj) else regRead s p R.CN_OBJ_DATA ((ch * 512 + obj) * 16 + (w - 4)))
/-- CAN_TX_REQ (R309). -/
def execCanTxReq (s : State) (p : Path) (ch obj : Nat) : Host.Outcome State Fault Refusal := objRange ch obj (regWrite s p R.CN_OBJ_W3 (ch * 512 + obj) (fieldWord F.CN_OBJ_W3_TX_REQ 1))
/-- CAN_RECOVER (R310). -/
def execCanRecover (s : State) (p : Path) (ch : Nat) : Host.Outcome State Fault Refusal := inRange "CAN channel" ch 4 (regWrite s p R.CN_CTRL ch (fieldWord F.CN_CTRL_RECOVER 1))
/-- CAN_RESTART (R313). -/
def execCanRestart (s : State) (p : Path) (ch : Nat) : Host.Outcome State Fault Refusal := inRange "CAN channel" ch 4 (regWrite s p R.CN_CTRL ch (fieldWord F.CN_CTRL_RESTART 1))
/-- DO_CLEAR (R319): `cooled` are the outputs that have cooled. -/
def execDoClear (s : State) (p : Path) (mask cooled : BitVec 8) : Host.Outcome State Fault Refusal :=
  regHook s p R.FI_DO_CTRL 0 (fieldWord F.FI_DO_CTRL_CLEAR mask.toNat) (fun c => c.doClear mask.toNat cooled.toNat)

/-! ### Safety, twin, power and resets (R350–R415) -/

/-- HOST_STO (R350). -/
def execHostSto (s : State) (p : Path) (mask : BitVec 16) : Host.Outcome State Fault Refusal := regWrite s p R.LG_STO_REQ 0 (fieldWord F.LG_STO_REQ_MASK mask.toNat)
/-- HOST_SS1 (R351). -/
def execHostSs1 (s : State) (p : Path) (mask : BitVec 16) : Host.Outcome State Fault Refusal := regWrite s p R.LG_SS1_REQ 0 (fieldWord F.LG_SS1_REQ_MASK mask.toNat)
/-- LG_RELEASE (R357). -/
def execLgRelease (s : State) (p : Path) (mask : BitVec 16) : Host.Outcome State Fault Refusal := regWrite s p R.LG_RELEASE 0 (fieldWord F.LG_RELEASE_MASK mask.toNat)
/-- CHANGE_RECORD (R369): the Standby stores the written value of a mirrored field and acts on no command field; it keeps the Lead's lane and port faults. -/
def execChangeRecord (s : State) (r : ChangeRec) : Host.Outcome State Fault Refusal := onMem s (fun ram c =>
  if !c.isStandby || !c.trained then c
  else
    match r with
    | .poisoned => c.poisonedRecord
    | .write addr v =>
      match locAt addr with
      | none => c
      | some l =>
        if !mirrored l.reg then c
        else if (highOf l.reg).isSome || (lowOf l.reg).isSome then c.setReg l.reg l.inst v
        else c.applyWrite ram l.reg l.inst v (c.storeMask l.reg l.inst true) 0
    | .laneFault lane cause => if lane < 96 then c.adoptLane lane cause else c
    | .laneClear lane => if lane < 96 then c.adoptLane lane 0 else c
    | .portFault port cause => if port < 56 then c.adoptPort port cause else c
    | .portClear port => if port < 56 then c.adoptPort port 0 else c)
/-- HANDOVER_REQ (R375). -/
def execHandoverReq (s : State) (p : Path) : Host.Outcome State Fault Refusal := regWrite s p R.TW_CTRL 0 (fieldWord F.TW_CTRL_REQ 1)
/-- A write of PW_REQ with a target; CLEAN keeps its value. -/
def pwWrite (s : State) (p : Path) (t : Nat) : Host.Outcome State Fault Refusal := regWriteF s p R.PW_REQ 0 (fun w => F.PW_REQ_TARGET.write w t)
/-- POWER_REQ_RUN (R393). -/
def execPowerReqRun (s : State) (p : Path) : Host.Outcome State Fault Refusal := pwWrite s p 0
/-- POWER_REQ_IDLE (R393). -/
def execPowerReqIdle (s : State) (p : Path) : Host.Outcome State Fault Refusal := pwWrite s p 1
/-- POWER_REQ_SLEEP (R394). -/
def execPowerReqSleep (s : State) (p : Path) : Host.Outcome State Fault Refusal := pwWrite s p 2
/-- POWER_REQ_DEEP_SLEEP (R399). -/
def execPowerReqDeepSleep (s : State) (p : Path) : Host.Outcome State Fault Refusal := pwWrite s p 3
/-- POWER_REQ_OFF (R399). -/
def execPowerReqOff (s : State) (p : Path) : Host.Outcome State Fault Refusal := pwWrite s p 4
/-- POWER_REQ_BAD_TARGET (R394): a target of 5–7. -/
def execPowerReqBadTarget (s : State) (p : Path) (target : Nat) : Host.Outcome State Fault Refusal :=
  if 5 ≤ target && target ≤ 7 then pwWrite s p target else .fault (.noSuch "bad power target" target)
/-- A write of RST_CTRL. -/
def rstWrite (s : State) (p : Path) (req : Nat) (key : Byte) : Host.Outcome State Fault Refusal := regWrite s p R.RST_CTRL 0 (F.RST_CTRL_KEY.write (fieldWord F.RST_CTRL_REQ req) key.toNat)
/-- WARM_RESET_REQ (R412). -/
def execWarmResetReq (s : State) (p : Path) (key : Byte) : Host.Outcome State Fault Refusal := rstWrite s p 1 key
/-- MODULE_RESET_REQ (R412). -/
def execModuleResetReq (s : State) (p : Path) (key : Byte) : Host.Outcome State Fault Refusal := rstWrite s p 2 key
/-- CLEAN_RESET_REQ (R415). -/
def execCleanResetReq (s : State) (p : Path) (key : Byte) : Host.Outcome State Fault Refusal := rstWrite s p 3 key

/-! ### Saddler (R432–R473) -/

/-- I2C_RETRY (R432): `pass` are the segments that pass their check. -/
def execI2cRetry (s : State) (p : Path) (pass recovered : BitVec 4) : Host.Outcome State Fault Refusal := regHook s p R.MG_I2C 0 (fieldWord F.MG_I2C_RETRY 1) (fun c => c.segmentRetry pass.toNat recovered.toNat)
/-- LOG_READ (R450). -/
def execLogRead (s : State) (p : Path) : Host.Outcome State Fault Refusal := regWrite s p R.MG_LOG_CTRL 0 (fieldWord F.MG_LOG_CTRL_READ 1)
/-- LOG_READ_PIN (R450). -/
def execLogReadPin (s : State) (p : Path) : Host.Outcome State Fault Refusal := regWrite s p R.MG_LOG_CTRL 0 (fieldWord F.MG_LOG_CTRL_READ_PIN 1)
/-- PIN_CLEAR (R436). -/
def execPinClear (s : State) (p : Path) (key : Byte) : Host.Outcome State Fault Refusal := regWrite s p R.MG_LOG_CTRL 0 (F.MG_LOG_CTRL_KEY.write (fieldWord F.MG_LOG_CTRL_PIN_CLEAR 1) key.toNat)
/-- KEY_DATA_ACCESS (R441). -/
def execKeyDataAccess (s : State) (p : Path) (wr : Option Word) : Host.Outcome State Fault Refusal := regAccess s p R.MG_KEY_DATA 0 wr
/-- KEY_LOAD (R441): SLOT and EXPERT as given, with LOAD. -/
def execKeyLoad (s : State) (p : Path) (v : Word) : Host.Outcome State Fault Refusal := regWrite s p R.MG_KEY_CTRL 0 (F.MG_KEY_CTRL_CLEAR.write (F.MG_KEY_CTRL_LOAD.write v 1) 0)
/-- KEY_CLEAR (R441): SLOT as given, with CLEAR. -/
def execKeyClear (s : State) (p : Path) (v : Word) : Host.Outcome State Fault Refusal := regWrite s p R.MG_KEY_CTRL 0 (F.MG_KEY_CTRL_LOAD.write (F.MG_KEY_CTRL_CLEAR.write v 1) 0)
/-- A command of the image sequence. -/
def imgWrite (s : State) (p : Path) (cmd : Nat) : Host.Outcome State Fault Refusal := regWrite s p R.MG_IMG_CTRL 0 (fieldWord F.MG_IMG_CTRL_CMD cmd)
/-- IMG_OPEN (R445). -/
def execImgOpen (s : State) (p : Path) : Host.Outcome State Fault Refusal := imgWrite s p 1
/-- IMG_DATA_WRITE (R445). -/
def execImgDataWrite (s : State) (p : Path) (v : Word) : Host.Outcome State Fault Refusal := regWrite s p R.MG_IMG_DATA 0 v
/-- IMG_VERIFY (R445). -/
def execImgVerify (s : State) (p : Path) : Host.Outcome State Fault Refusal := imgWrite s p 2
/-- IMG_ACTIVATE (R446). -/
def execImgActivate (s : State) (p : Path) : Host.Outcome State Fault Refusal := imgWrite s p 3
/-- IMG_CONFIRM (R447). -/
def execImgConfirm (s : State) (p : Path) : Host.Outcome State Fault Refusal := imgWrite s p 4
/-- IMG_CLOSE (R445). -/
def execImgClose (s : State) (p : Path) : Host.Outcome State Fault Refusal := imgWrite s p 5
/-- LOCATE (R473). -/
def execLocate (s : State) (p : Path) : Host.Outcome State Fault Refusal := regWrite s p R.SYS_LED 0 (fieldWord F.SYS_LED_LOCATE 1)
/-- LOCATE_END (R473): 30 s have passed. -/
def execLocateEnd (s : State) : Host.Outcome State Fault Refusal := onCore s (fun c => { c with sad := { c.sad with locate := false } })

end Sys2Proof.Machine
end

