-- ==== Sys2Proof/Machine/Dispatch.lean ====
section
/-! DEFINITION. One arm per command, each one direct call of its meaning. -/
namespace Sys2Proof.Machine

def exec (i : Instr) (s : State) : Host.Outcome State Fault Refusal :=
  match i with
  | .registerWrite p addr v => Sys2Proof.Machine.execRegisterWrite s p addr v
  | .quadLowRead p addr => Sys2Proof.Machine.execQuadLowRead s p addr
  | .quadLowWrite p addr v => Sys2Proof.Machine.execQuadLowWrite s p addr v
  | .quadHighWrite p addr v => Sys2Proof.Machine.execQuadHighWrite s p addr v
  | .rcFieldRead p addr => Sys2Proof.Machine.execRcFieldRead s p addr
  | .stageOpen p => Sys2Proof.Machine.execStageOpen s p
  | .verify p => Sys2Proof.Machine.execVerify s p
  | .verifyComplete reads => Sys2Proof.Machine.execVerifyComplete s reads
  | .activate p => Sys2Proof.Machine.execActivate s p
  | .loadFlash p bank => Sys2Proof.Machine.execLoadFlash s p bank
  | .fullLoadComplete => Sys2Proof.Machine.execFullLoadComplete s
  | .relace p isl => Sys2Proof.Machine.execRelace s p isl
  | .relaceHandoff => Sys2Proof.Machine.execRelaceHandoff s
  | .relaceRebuildDone canary => Sys2Proof.Machine.execRelaceRebuildDone s canary
  | .relaceReturn => Sys2Proof.Machine.execRelaceReturn s
  | .relaceDone => Sys2Proof.Machine.execRelaceDone s
  | .commit p setBoot => Sys2Proof.Machine.execCommit s p setBoot
  | .commitComplete equal => Sys2Proof.Machine.execCommitComplete s equal
  | .stageClose p => Sys2Proof.Machine.execStageClose s p
  | .stagingWrite p addr v => Sys2Proof.Machine.execStagingWrite s p addr v
  | .strapRead h addr words rest => Sys2Proof.Machine.execStrapRead s h addr words rest
  | .strapWrite h addr data rest => Sys2Proof.Machine.execStrapWrite s h addr data rest
  | .strapRmw h addr mask value rest => Sys2Proof.Machine.execStrapRmw s h addr mask value rest
  | .strapNop h rest => Sys2Proof.Machine.execStrapNop s h rest
  | .hello h slot nh rest => Sys2Proof.Machine.execHello s h slot nh rest
  | .openSession h arg rest => Sys2Proof.Machine.execOpenSession s h arg rest
  | .closeSession h rest => Sys2Proof.Machine.execCloseSession s h rest
  | .subscribe h mask rest => Sys2Proof.Machine.execSubscribe s h mask rest
  | .evAck h seq rest => Sys2Proof.Machine.execEvAck s h seq rest
  | .arpRequest src ip => Sys2Proof.Machine.execArpRequest s src ip
  | .icmpEcho src ip ident seq payload => Sys2Proof.Machine.execIcmpEcho s src ip ident seq payload
  | .otherIpFrame src => Sys2Proof.Machine.execOtherIpFrame s src
  | .halfOpenTimeout sid => Sys2Proof.Machine.execHalfOpenTimeout s sid
  | .sessionIdleTimeout sid => Sys2Proof.Machine.execSessionIdleTimeout s sid
  | .eventRetransmit sid => Sys2Proof.Machine.execEventRetransmit s sid
  | .hostWdExpiry => Sys2Proof.Machine.execHostWdExpiry s
  | .awlEnable p en => Sys2Proof.Machine.execAwlEnable s p en
  | .awlAccess a => Sys2Proof.Machine.execAwlAccess s a
  | .opChangeSettled e => Sys2Proof.Machine.execOpChangeSettled s e
  | .crossingAck c => Sys2Proof.Machine.execCrossingAck s c
  | .crossMerge c => Sys2Proof.Machine.execCrossMerge s c
  | .crossingResync c words => Sys2Proof.Machine.execCrossingResync s c words
  | .resyncTimeout isl => Sys2Proof.Machine.execResyncTimeout s isl
  | .crossHang c => Sys2Proof.Machine.execCrossHang s c
  | .accessTimeout p addr req ackWins => Sys2Proof.Machine.execAccessTimeout s p addr req ackWins
  | .islandQuiesced isl target => Sys2Proof.Machine.execIslandQuiesced s isl target
  | .wakeOnAccessReady isl => Sys2Proof.Machine.execWakeOnAccessReady s isl
  | .wakeAccessTimeout isl => Sys2Proof.Machine.execWakeAccessTimeout s isl
  | .wokenIslandIdle isl => Sys2Proof.Machine.execWokenIslandIdle s isl
  | .islandResetReq p isl => Sys2Proof.Machine.execIslandResetReq s p isl
  | .islandResetDone canary => Sys2Proof.Machine.execIslandResetDone s canary
  | .bankRequest bank x => Sys2Proof.Machine.execBankRequest s bank x
  | .transferEnd bank ecc => Sys2Proof.Machine.execTransferEnd s bank ecc
  | .emergencyTransfer bank x => Sys2Proof.Machine.execEmergencyTransfer s bank x
  | .bankLockReq rq bank => Sys2Proof.Machine.execBankLockReq s rq bank
  | .bankLockRelease rq bank => Sys2Proof.Machine.execBankLockRelease s rq bank
  | .holdOverrun bank => Sys2Proof.Machine.execHoldOverrun s bank
  | .scrubPass ecc => Sys2Proof.Machine.execScrubPass s ecc
  | .patternLineRepair addr => Sys2Proof.Machine.execPatternLineRepair s addr
  | .prioWrite p bank hi v => Sys2Proof.Machine.execPrioWrite s p bank hi v
  | .retainWrite p v => Sys2Proof.Machine.execRetainWrite s p v
  | .profileTick => Sys2Proof.Machine.execProfileTick s
  | .targetWrite p slot v => Sys2Proof.Machine.execTargetWrite s p slot v
  | .jog p slot => Sys2Proof.Machine.execJog s p slot
  | .stop p slot => Sys2Proof.Machine.execStop s p slot
  | .gearEngage p slot => Sys2Proof.Machine.execGearEngage s p slot
  | .gearDisengage p slot => Sys2Proof.Machine.execGearDisengage s p slot
  | .ratioWrite p slot den v => Sys2Proof.Machine.execRatioWrite s p slot den v
  | .profileParamWrite p slot param v => Sys2Proof.Machine.execProfileParamWrite s p slot param v
  | .igGo p g => Sys2Proof.Machine.execIgGo s p g
  | .igStop p g => Sys2Proof.Machine.execIgStop s p g
  | .igCfgWrite p g v => Sys2Proof.Machine.execIgCfgWrite s p g v
  | .frameStart grid samples => Sys2Proof.Machine.execFrameStart s grid samples
  | .engineDispatch e c busyNs => Sys2Proof.Machine.execEngineDispatch s e c busyNs
  | .engineHang e => Sys2Proof.Machine.execEngineHang s e
  | .coefDataAccess p slot wr => Sys2Proof.Machine.execCoefDataAccess s p slot wr
  | .coefCommit p slot v => Sys2Proof.Machine.execCoefCommit s p slot v
  | .manSwitch p slot v => Sys2Proof.Machine.execManSwitch s p slot v
  | .loopParamWrite p slot param v => Sys2Proof.Machine.execLoopParamWrite s p slot param v
  | .inject p e => Sys2Proof.Machine.execInject s p e
  | .laneFaultN lane => Sys2Proof.Machine.execLaneFaultN s lane
  | .sdLost lane => Sys2Proof.Machine.execSdLost s lane
  | .laneClear p lane => Sys2Proof.Machine.execLaneClear s p lane
  | .slRetryWait slot => Sys2Proof.Machine.execSlRetryWait s slot
  | .paDataAccess p slot wr => Sys2Proof.Machine.execPaDataAccess s p slot wr
  | .encoderEdge port lines => Sys2Proof.Machine.execEncoderEdge s port lines
  | .serialPoll port => Sys2Proof.Machine.execSerialPoll s port
  | .serialReading port r => Sys2Proof.Machine.execSerialReading s port r
  | .portPersistentError port cause => Sys2Proof.Machine.execPortPersistentError s port cause
  | .portClear p port absent => Sys2Proof.Machine.execPortClear s p port absent
  | .refOk p port => Sys2Proof.Machine.execRefOk s p port
  | .cprWrite p port v => Sys2Proof.Machine.execCprWrite s p port v
  | .serWrite p port v => Sys2Proof.Machine.execSerWrite s p port v
  | .speedZeroTimeout port => Sys2Proof.Machine.execSpeedZeroTimeout s port
  | .repeatUpdate q => Sys2Proof.Machine.execRepeatUpdate s q
  | .resolverTrack port sinS cosS excS => Sys2Proof.Machine.execResolverTrack s port sinS cosS excS
  | .backupTimeCopy => Sys2Proof.Machine.execBackupTimeCopy s
  | .ntSet p => Sys2Proof.Machine.execNtSet s p
  | .ptpSync m => Sys2Proof.Machine.execPtpSync s m
  | .ptpFollowUp m => Sys2Proof.Machine.execPtpFollowUp s m
  | .ptpAnnounce m => Sys2Proof.Machine.execPtpAnnounce s m
  | .pdelayReqRx m => Sys2Proof.Machine.execPdelayReqRx s m
  | .pdelayReqTx => Sys2Proof.Machine.execPdelayReqTx s
  | .pdelayRespRx m => Sys2Proof.Machine.execPdelayRespRx s m
  | .ptpSignaling => Sys2Proof.Machine.execPtpSignaling s
  | .ptpForeignFrame => Sys2Proof.Machine.execPtpForeignFrame s
  | .gmSyncTx => Sys2Proof.Machine.execGmSyncTx s
  | .gmAnnounceTx => Sys2Proof.Machine.execGmAnnounceTx s
  | .announceTimeout => Sys2Proof.Machine.execAnnounceTimeout s
  | .timeHoldover => Sys2Proof.Machine.execTimeHoldover s
  | .e0LinkLoss => Sys2Proof.Machine.execE0LinkLoss s
  | .ringTick => Sys2Proof.Machine.execRingTick s
  | .diEdge n level => Sys2Proof.Machine.execDiEdge s n level
  | .diPop p n => Sys2Proof.Machine.execDiPop s p n
  | .zEdge port => Sys2Proof.Machine.execZEdge s port
  | .captureArm p slot v => Sys2Proof.Machine.execCaptureArm s p slot v
  | .capture slot => Sys2Proof.Machine.execCapture s slot
  | .captureQuery p v => Sys2Proof.Machine.execCaptureQuery s p v
  | .reconTimeout slot => Sys2Proof.Machine.execReconTimeout s slot
  | .budgetTick => Sys2Proof.Machine.execBudgetTick s
  | .thermalClear => Sys2Proof.Machine.execThermalClear s
  | .canFrameRx ch f => Sys2Proof.Machine.execCanFrameRx s ch f
  | .canTxDone ch => Sys2Proof.Machine.execCanTxDone s ch
  | .canObjWord0Read p ch obj => Sys2Proof.Machine.execCanObjWord0Read s p ch obj
  | .canObjLastRead p ch obj => Sys2Proof.Machine.execCanObjLastRead s p ch obj
  | .canLockTimeout ch obj => Sys2Proof.Machine.execCanLockTimeout s ch obj
  | .canTxReq p ch obj => Sys2Proof.Machine.execCanTxReq s p ch obj
  | .canError ch tec rec => Sys2Proof.Machine.execCanError s ch tec rec
  | .canBoffHoldExpiry ch => Sys2Proof.Machine.execCanBoffHoldExpiry s ch
  | .canRecover p ch => Sys2Proof.Machine.execCanRecover s p ch
  | .canRecoveryDone ch => Sys2Proof.Machine.execCanRecoveryDone s ch
  | .canRestart p ch => Sys2Proof.Machine.execCanRestart s p ch
  | .canIntegrated ch => Sys2Proof.Machine.execCanIntegrated s ch
  | .canRxLost ch obj => Sys2Proof.Machine.execCanRxLost s ch obj
  | .fieldSupplyChange mv => Sys2Proof.Machine.execFieldSupplyChange s mv
  | .doOverload n => Sys2Proof.Machine.execDoOverload s n
  | .doOvertemp n => Sys2Proof.Machine.execDoOvertemp s n
  | .doOpenLoad n => Sys2Proof.Machine.execDoOpenLoad s n
  | .doClear p mask cooled => Sys2Proof.Machine.execDoClear s p mask cooled
  | .stringCycle f => Sys2Proof.Machine.execStringCycle s f
  | .stringReply f b bytes => Sys2Proof.Machine.execStringReply s f b bytes
  | .stringReplyMiss f b crcBad => Sys2Proof.Machine.execStringReplyMiss s f b crcBad
  | .stoReqInput a b => Sys2Proof.Machine.execStoReqInput s a b
  | .ss1ReqInput a b => Sys2Proof.Machine.execSs1ReqInput s a b
  | .doorInput a b => Sys2Proof.Machine.execDoorInput s a b
  | .srstN lowMs => Sys2Proof.Machine.execSrstN s lowMs
  | .discrepancy pair => Sys2Proof.Machine.execDiscrepancy s pair
  | .sealFault live => Sys2Proof.Machine.execSealFault s live
  | .xb2Status st => Sys2Proof.Machine.execXb2Status s st
  | .xb2LinkLoss => Sys2Proof.Machine.execXb2LinkLoss s
  | .readbackCheck r => Sys2Proof.Machine.execReadbackCheck s r
  | .hostSto p mask => Sys2Proof.Machine.execHostSto s p mask
  | .hostSs1 p mask => Sys2Proof.Machine.execHostSs1 s p mask
  | .ss1BrakeLeadExpiry g => Sys2Proof.Machine.execSs1BrakeLeadExpiry s g
  | .ss1TimeEnd g => Sys2Proof.Machine.execSs1TimeEnd s g
  | .xb2Ss1Timer g => Sys2Proof.Machine.execXb2Ss1Timer s g
  | .watchLineTrip g => Sys2Proof.Machine.execWatchLineTrip s g
  | .xb2SupplyLoss => Sys2Proof.Machine.execXb2SupplyLoss s
  | .xb2SealReference => Sys2Proof.Machine.execXb2SealReference s
  | .lgRelease p mask => Sys2Proof.Machine.execLgRelease s p mask
  | .releaseGenBCheck g => Sys2Proof.Machine.execReleaseGenBCheck s g
  | .dualClaim g within => Sys2Proof.Machine.execDualClaim s g within
  | .islandFailure isl => Sys2Proof.Machine.execIslandFailure s isl
  | .latigoTick => Sys2Proof.Machine.execLatigoTick s
  | .latigoBadFrame seq => Sys2Proof.Machine.execLatigoBadFrame s seq
  | .heartbeat r => Sys2Proof.Machine.execHeartbeat s r
  | .slotRecord r => Sys2Proof.Machine.execSlotRecord s r
  | .gridRecord r => Sys2Proof.Machine.execGridRecord s r
  | .groupRecord r => Sys2Proof.Machine.execGroupRecord s r
  | .changeRecord r => Sys2Proof.Machine.execChangeRecord s r
  | .snapshotRecord r => Sys2Proof.Machine.execSnapshotRecord s r
  | .nakRecord seq => Sys2Proof.Machine.execNakRecord s seq
  | .handoverRecord r => Sys2Proof.Machine.execHandoverRecord s r
  | .beacon => Sys2Proof.Machine.execBeacon s
  | .leadPresent => Sys2Proof.Machine.execLeadPresent s
  | .train => Sys2Proof.Machine.execTrain s
  | .linkStop => Sys2Proof.Machine.execLinkStop s
  | .trainingComplete r partnerPos partnerSerial => Sys2Proof.Machine.execTrainingComplete s r partnerPos partnerSerial
  | .registerImageDone => Sys2Proof.Machine.execRegisterImageDone s
  | .latigoLoss => Sys2Proof.Machine.execLatigoLoss s
  | .failIn => Sys2Proof.Machine.execFailIn s
  | .handoverReq p => Sys2Proof.Machine.execHandoverReq s p
  | .handoverRelease => Sys2Proof.Machine.execHandoverRelease s
  | .takeoverOwnTimeout => Sys2Proof.Machine.execTakeoverOwnTimeout s
  | .ownRefresh => Sys2Proof.Machine.execOwnRefresh s
  | .relinkExpiry => Sys2Proof.Machine.execRelinkExpiry s
  | .soloWaitExpiry => Sys2Proof.Machine.execSoloWaitExpiry s
  | .presenceLoss => Sys2Proof.Machine.execPresenceLoss s
  | .unseatRelease => Sys2Proof.Machine.execUnseatRelease s
  | .powerReqRun p => Sys2Proof.Machine.execPowerReqRun s p
  | .powerReqIdle p => Sys2Proof.Machine.execPowerReqIdle s p
  | .powerReqSleep p => Sys2Proof.Machine.execPowerReqSleep s p
  | .powerReqDeepSleep p => Sys2Proof.Machine.execPowerReqDeepSleep s p
  | .powerReqOff p => Sys2Proof.Machine.execPowerReqOff s p
  | .powerReqBadTarget p target => Sys2Proof.Machine.execPowerReqBadTarget s p target
  | .powerTransitionStart => Sys2Proof.Machine.execPowerTransitionStart s
  | .powerEntryComplete => Sys2Proof.Machine.execPowerEntryComplete s
  | .wakePin => Sys2Proof.Machine.execWakePin s
  | .phyWake k => Sys2Proof.Machine.execPhyWake s k
  | .canWake ch => Sys2Proof.Machine.execCanWake s ch
  | .alarm => Sys2Proof.Machine.execAlarm s
  | .wakeComplete => Sys2Proof.Machine.execWakeComplete s
  | .appIslandIdle => Sys2Proof.Machine.execAppIslandIdle s
  | .cellRemoved => Sys2Proof.Machine.execCellRemoved s
  | .cellPresent => Sys2Proof.Machine.execCellPresent s
  | .chargeDone => Sys2Proof.Machine.execChargeDone s
  | .backupLoss => Sys2Proof.Machine.execBackupLoss s
  | .supplyFail => Sys2Proof.Machine.execSupplyFail s
  | .supplyOvervolt => Sys2Proof.Machine.execSupplyOvervolt s
  | .supplyRestored => Sys2Proof.Machine.execSupplyRestored s
  | .warmResetReq p key => Sys2Proof.Machine.execWarmResetReq s p key
  | .moduleResetReq p key => Sys2Proof.Machine.execModuleResetReq s p key
  | .cleanResetReq p key => Sys2Proof.Machine.execCleanResetReq s p key
  | .resetInputAssert idx => Sys2Proof.Machine.execResetInputAssert s idx
  | .resetInputRelease idx heldMs => Sys2Proof.Machine.execResetInputRelease s idx heldMs
  | .stuckReset idx => Sys2Proof.Machine.execStuckReset s idx
  | .resetMaskLift idx => Sys2Proof.Machine.execResetMaskLift s idx
  | .powerOn => Sys2Proof.Machine.execPowerOn s
  | .moduleResetRelease pos0 pos1 frecOk => Sys2Proof.Machine.execModuleResetRelease s pos0 pos1 frecOk
  | .startRetry ok => Sys2Proof.Machine.execStartRetry s ok
  | .phyResetRelease => Sys2Proof.Machine.execPhyResetRelease s
  | .sensorRead point bus r => Sys2Proof.Machine.execSensorRead s point bus r
  | .i2cSclStuck seg => Sys2Proof.Machine.execI2cSclStuck s seg
  | .segmentRetry pass recovered => Sys2Proof.Machine.execSegmentRetry s pass recovered
  | .i2cRetry p pass recovered => Sys2Proof.Machine.execI2cRetry s p pass recovered
  | .railFault rail mv => Sys2Proof.Machine.execRailFault s rail mv
  | .humidityHigh rh => Sys2Proof.Machine.execHumidityHigh s rh
  | .logFlashWrite failed => Sys2Proof.Machine.execLogFlashWrite s failed
  | .logRead p => Sys2Proof.Machine.execLogRead s p
  | .logReadPin p => Sys2Proof.Machine.execLogReadPin s p
  | .pinClear p key => Sys2Proof.Machine.execPinClear s p key
  | .pinCleared => Sys2Proof.Machine.execPinCleared s
  | .keyDataAccess p wr => Sys2Proof.Machine.execKeyDataAccess s p wr
  | .keyLoad p v => Sys2Proof.Machine.execKeyLoad s p v
  | .keyClear p v => Sys2Proof.Machine.execKeyClear s p v
  | .keyCommitDone ok => Sys2Proof.Machine.execKeyCommitDone s ok
  | .imgOpen p => Sys2Proof.Machine.execImgOpen s p
  | .imgDataWrite p v => Sys2Proof.Machine.execImgDataWrite s p v
  | .imgVerify p => Sys2Proof.Machine.execImgVerify s p
  | .imgVerifyDone => Sys2Proof.Machine.execImgVerifyDone s
  | .imgActivate p => Sys2Proof.Machine.execImgActivate s p
  | .imgConfirm p => Sys2Proof.Machine.execImgConfirm s p
  | .imgClose p => Sys2Proof.Machine.execImgClose s p
  | .imgLeadConfirm => Sys2Proof.Machine.execImgLeadConfirm s
  | .imgTrialTimeout => Sys2Proof.Machine.execImgTrialTimeout s
  | .saddlerHeartbeatLoss => Sys2Proof.Machine.execSaddlerHeartbeatLoss s
  | .locate p => Sys2Proof.Machine.execLocate s p
  | .locateEnd => Sys2Proof.Machine.execLocateEnd s
  | .overcurrent lane => Sys2Proof.Machine.execOvercurrent s lane
  | .pownLineChange g level => Sys2Proof.Machine.execPownLineChange s g level
  | .safetyInputReturn pair => Sys2Proof.Machine.execSafetyInputReturn s pair
  | .e0LinkUp => Sys2Proof.Machine.execE0LinkUp s
  | .sampleCycleStamp port => Sys2Proof.Machine.execSampleCycleStamp s port
  | .trainingTimeout => Sys2Proof.Machine.execTrainingTimeout s
  | .takeoverComplete => Sys2Proof.Machine.execTakeoverComplete s
  | .imgEraseDone => Sys2Proof.Machine.execImgEraseDone s
  | .logReadDone stored => Sys2Proof.Machine.execLogReadDone s stored

end Sys2Proof.Machine
end

