-- ==== Sys2Proof/Machine/Leds.lean ====
section
/-! DEFINITION. The four status LEDs as the state shows them (R473, Table 20.4). -/
namespace Sys2Proof.Machine

/-- What an LED shows. -/
inductive Led where
  | off | green | amber | red | greenBlink (hz : Nat) | amberBlink (hz : Nat) | redBlink (hz : Nat)
deriving DecidableEq, Repr

/-- PWR. -/
def Core.ledPwr (c : Core) : Led :=
  if c.rst.startFail then .redBlink 4
  else if c.rst.held then .red
  else
    match c.get F.PW_STAT_STATE 0 with
    | 0 | 1 => .green
    | 2 => .greenBlink 1
    | _ => .off
/-- ROLE. -/
def Core.ledRole (c : Core) : Led :=
  if c.ledPwr != .green then .off
  else if c.isLead then .green
  else if c.get F.TW_ROLE_ROLE 0 = 2 then (if c.bit F.TW_ROLE_READY 0 then .greenBlink 1 else .amber)
  else .amberBlink 1
/-- SAFE. -/
def Core.ledSafe (c : Core) : Led :=
  if c.ledPwr != .green then .off
  else if c.sealFaulted then .redBlink 2
  else if (List.range 16).any (fun g => c.latched g) then .red
  else if (bitsOf 16 c.pat.groupMask).all (fun g => c.get F.SF_GRP_STATE g = 0) then .green
  else .amber
/-- FLT. -/
def Core.ledFlt (c : Core) : Led :=
  if c.bit F.RST_STUCK_PIN_MASKED 0 || c.bit F.RST_STUCK_BUTTON_MASKED 0 then .redBlink 4
  else if (List.range 0x2A).any (fun i => c.islState i = 4 || c.islState i = 5) then .red
  else if c.bit F.MG_HEALTH_STALE_ANY 0 || c.bit F.MG_HEALTH_RAIL_FAULT 0 || c.bit F.MG_HEALTH_I2C_TRUNK 0
      || c.bit F.PW_CELL_CELL_LOW 0 || c.bit F.PW_CELL_CELL_ABSENT 0 then .amber
  else .off
/-- PWR, ROLE, SAFE and FLT; LOCATE flashes all four green at 2 Hz unless PWR shows red. -/
def Core.leds (c : Core) : List Led :=
  let redPwr := c.ledPwr == .red || c.ledPwr == .redBlink 4
  if c.sad.locate && !redPwr then [.greenBlink 2, .greenBlink 2, .greenBlink 2, .greenBlink 2]
  else [c.ledPwr, c.ledRole, c.ledSafe, c.ledFlt]

end Sys2Proof.Machine
end

