-- ==== Sys2Proof/WellFormed.lean ====
section
/-! DEFINITION. Which commands name something that the part has: every index within its range (R12–R17, R63), and every choice among those the row gives. -/
namespace Sys2Proof

/-- Offsets in an AX_ instance of the profile parameters (R143): AX_VMAX, AX_ACCEL, AX_DECEL, AX_SS1_DEC. -/
def profileParams : List Nat := [0x10, 0x14, 0x18, 0x1C]
/-- Offsets in an AX_ instance of the gains, limits and motor parameters of R187 and R222. -/
def loopParams : List Nat := [0x68, 0x6C, 0x70, 0x74, 0x78, 0x7C, 0x80, 0x84, 0x88, 0x8C, 0x90, 0x94, 0x98, 0x9C, 0xA0, 0xC4, 0xC8, 0xCC, 0xD0, 0xD8, 0xE0, 0xE4, 0xE8, 0xEC]
/-- A transfer of 1–16 words within its bank (R126). -/
def xferOk (x : Xfer) : Bool := 1 ≤ x.words && x.words ≤ 16 && x.offset / 4 + x.words ≤ 0x100000

/-- The command is well formed. A path, a session identifier, an address or a frame may hold any value: the module answers those itself. -/
def Instr.wellFormed : Instr → Bool
  | .registerWrite _ _ _ => true
  | .quadLowRead _ _ => true
  | .quadLowWrite _ _ _ => true
  | .quadHighWrite _ _ _ => true
  | .rcFieldRead _ _ => true
  | .stageOpen _ => true
  | .verify _ => true
  | .verifyComplete _ => true
  | .activate _ => true
  | .loadFlash _ _ => true
  | .fullLoadComplete => true
  | .relace _ isl => isl < 0x100
  | .relaceHandoff => true
  | .relaceRebuildDone _ => true
  | .relaceReturn => true
  | .relaceDone => true
  | .commit _ _ => true
  | .commitComplete _ => true
  | .stageClose _ => true
  | .stagingWrite _ addr _ => addr < 0x4000000
  | .strapRead _ _ _ _ => true
  | .strapWrite _ _ _ _ => true
  | .strapRmw _ _ _ _ _ => true
  | .strapNop _ _ => true
  | .hello _ _ _ _ => true
  | .openSession _ _ _ => true
  | .closeSession _ _ => true
  | .subscribe _ _ _ => true
  | .evAck _ _ _ => true
  | .arpRequest _ _ => true
  | .icmpEcho _ _ _ _ _ => true
  | .otherIpFrame _ => true
  | .halfOpenTimeout _ => true
  | .sessionIdleTimeout _ => true
  | .eventRetransmit _ => true
  | .hostWdExpiry => true
  | .awlEnable _ _ => true
  | .awlAccess _ => true
  | .opChangeSettled e => e < 16
  | .crossingAck X => X.src < 0x2A && X.dst < 0x2A
  | .crossMerge X => X.src < 0x2A && X.dst < 0x2A
  | .crossingResync X _ => X.src < 0x2A && X.dst < 0x2A
  | .resyncTimeout isl => isl < 0x2A
  | .crossHang X => X.src < 0x2A && X.dst < 0x2A
  | .accessTimeout _ _ _ _ => true
  | .islandQuiesced isl target => isl < 0x2A && (target == 1 || target == 2 || target == 3)
  | .wakeOnAccessReady isl => isl < 0x2A
  | .wakeAccessTimeout isl => isl < 0x2A
  | .wokenIslandIdle isl => isl < 0x2A
  | .islandResetReq _ isl => isl < 0x100
  | .islandResetDone _ => true
  | .bankRequest bank x => bank < 16 && x.rq < 12 && xferOk x
  | .transferEnd bank _ => bank < 16
  | .emergencyTransfer bank x => bank < 16 && xferOk x
  | .bankLockReq rq bank => rq < 12 && bank < 16
  | .bankLockRelease rq bank => rq < 12 && bank < 16
  | .holdOverrun bank => bank < 16
  | .scrubPass _ => true
  | .patternLineRepair addr => addr < 0x4000000
  | .prioWrite _ bank _ _ => bank < 16
  | .retainWrite _ _ => true
  | .profileTick => true
  | .targetWrite _ slot _ => slot < 128
  | .jog _ slot => slot < 128
  | .stop _ slot => slot < 128
  | .gearEngage _ slot => slot < 128
  | .gearDisengage _ slot => slot < 128
  | .ratioWrite _ slot _ _ => slot < 128
  | .profileParamWrite _ slot param _ => slot < 128 && profileParams.contains param
  | .igGo _ g => g < 16
  | .igStop _ g => g < 16
  | .igCfgWrite _ g _ => g < 16
  | .frameStart grid _ => grid < 6
  | .engineDispatch e _ _ => e < 16
  | .engineHang e => e < 16
  | .coefDataAccess _ slot _ => slot < 128
  | .coefCommit _ slot _ => slot < 128
  | .manSwitch _ slot _ => slot < 128
  | .loopParamWrite _ slot param _ => slot < 128 && loopParams.contains param
  | .inject _ e => e < 16
  | .laneFaultN lane => lane < 96
  | .sdLost lane => lane < 96
  | .laneClear _ lane => lane < 96
  | .slRetryWait slot => slot < 128
  | .paDataAccess _ slot _ => slot < 128
  | .encoderEdge port _ => port < 48
  | .serialPoll port => port < 48
  | .serialReading port _ => port < 48
  | .portPersistentError port _ => port < 56
  | .portClear _ port _ => port < 56
  | .refOk _ port => port < 56
  | .cprWrite _ port _ => port < 56
  | .serWrite _ port _ => port < 56
  | .speedZeroTimeout port => port < 48
  | .repeatUpdate q => q < 8
  | .resolverTrack port _ _ _ => port < 56
  | .backupTimeCopy => true
  | .ntSet _ => true
  | .ptpSync _ => true
  | .ptpFollowUp _ => true
  | .ptpAnnounce _ => true
  | .pdelayReqRx _ => true
  | .pdelayReqTx => true
  | .pdelayRespRx _ => true
  | .ptpSignaling => true
  | .ptpForeignFrame => true
  | .gmSyncTx => true
  | .gmAnnounceTx => true
  | .announceTimeout => true
  | .timeHoldover => true
  | .e0LinkLoss => true
  | .ringTick => true
  | .diEdge n _ => n < 16
  | .diPop _ n => n < 16
  | .zEdge port => port < 48
  | .captureArm _ slot _ => slot < 128
  | .capture slot => slot < 128
  | .captureQuery _ _ => true
  | .reconTimeout slot => (slot.getD 0) < 128
  | .budgetTick => true
  | .thermalClear => true
  | .canFrameRx ch _ => ch < 4
  | .canTxDone ch => ch < 4
  | .canObjWord0Read _ ch obj => ch < 4 && obj < 512
  | .canObjLastRead _ ch obj => ch < 4 && obj < 512
  | .canLockTimeout ch obj => ch < 4 && obj < 512
  | .canTxReq _ ch obj => ch < 4 && obj < 512
  | .canError ch _ _ => ch < 4
  | .canBoffHoldExpiry ch => ch < 4
  | .canRecover _ ch => ch < 4
  | .canRecoveryDone ch => ch < 4
  | .canRestart _ ch => ch < 4
  | .canIntegrated ch => ch < 4
  | .canRxLost ch obj => ch < 4 && obj < 512
  | .fieldSupplyChange _ => true
  | .doOverload n => n < 8
  | .doOvertemp n => n < 8
  | .doOpenLoad n => n < 8
  | .doClear _ _ _ => true
  | .stringCycle f => f < 2
  | .stringReply f b _ => f < 2 && b < 4
  | .stringReplyMiss f b _ => f < 2 && b < 4
  | .stoReqInput _ _ => true
  | .ss1ReqInput _ _ => true
  | .doorInput _ _ => true
  | .srstN _ => true
  | .discrepancy _ => true
  | .sealFault _ => true
  | .xb2Status _ => true
  | .xb2LinkLoss => true
  | .readbackCheck _ => true
  | .hostSto _ _ => true
  | .hostSs1 _ _ => true
  | .ss1BrakeLeadExpiry g => g < 16
  | .ss1TimeEnd g => g < 16
  | .xb2Ss1Timer g => g < 16
  | .watchLineTrip g => g < 16
  | .xb2SupplyLoss => true
  | .xb2SealReference => true
  | .lgRelease _ _ => true
  | .releaseGenBCheck g => g < 16
  | .dualClaim g within => g < 16 && within < 10001
  | .islandFailure isl => isl < 0x2A
  | .latigoTick => true
  | .latigoBadFrame _ => true
  | .heartbeat _ => true
  | .slotRecord r => r.slot < 128
  | .gridRecord r => r.period < 6
  | .groupRecord r => r.group < 16
  | .changeRecord _ => true
  | .snapshotRecord _ => true
  | .nakRecord _ => true
  | .handoverRecord _ => true
  | .beacon => true
  | .leadPresent => true
  | .train => true
  | .linkStop => true
  | .trainingComplete _ _ _ => true
  | .registerImageDone => true
  | .latigoLoss => true
  | .failIn => true
  | .handoverReq _ => true
  | .handoverRelease => true
  | .takeoverOwnTimeout => true
  | .ownRefresh => true
  | .relinkExpiry => true
  | .soloWaitExpiry => true
  | .presenceLoss => true
  | .unseatRelease => true
  | .powerReqRun _ => true
  | .powerReqIdle _ => true
  | .powerReqSleep _ => true
  | .powerReqDeepSleep _ => true
  | .powerReqOff _ => true
  | .powerReqBadTarget _ target => 5 ≤ target && target ≤ 7
  | .powerTransitionStart => true
  | .powerEntryComplete => true
  | .wakePin => true
  | .phyWake k => k < 2
  | .canWake ch => ch < 4
  | .alarm => true
  | .wakeComplete => true
  | .appIslandIdle => true
  | .cellRemoved => true
  | .cellPresent => true
  | .chargeDone => true
  | .backupLoss => true
  | .supplyFail => true
  | .supplyOvervolt => true
  | .supplyRestored => true
  | .warmResetReq _ _ => true
  | .moduleResetReq _ _ => true
  | .cleanResetReq _ _ => true
  | .resetInputAssert _ => true
  | .resetInputRelease _ _ => true
  | .stuckReset _ => true
  | .resetMaskLift _ => true
  | .powerOn => true
  | .moduleResetRelease _ _ _ => true
  | .startRetry _ => true
  | .phyResetRelease => true
  | .sensorRead point _ _ => point < 26
  | .i2cSclStuck seg => seg < 4
  | .segmentRetry _ _ => true
  | .i2cRetry _ _ _ => true
  | .railFault rail _ => rail < 10
  | .humidityHigh _ => true
  | .logFlashWrite _ => true
  | .logRead _ => true
  | .logReadPin _ => true
  | .pinClear _ _ => true
  | .pinCleared => true
  | .keyDataAccess _ _ => true
  | .keyLoad _ _ => true
  | .keyClear _ _ => true
  | .keyCommitDone _ => true
  | .imgOpen _ => true
  | .imgDataWrite _ _ => true
  | .imgVerify _ => true
  | .imgVerifyDone => true
  | .imgActivate _ => true
  | .imgConfirm _ => true
  | .imgClose _ => true
  | .imgLeadConfirm => true
  | .imgTrialTimeout => true
  | .saddlerHeartbeatLoss => true
  | .locate _ => true
  | .locateEnd => true
  | .overcurrent lane => lane < 96
  | .pownLineChange g _ => g < 16
  | .safetyInputReturn _ => true
  | .e0LinkUp => true
  | .sampleCycleStamp port => port < 56
  | .trainingTimeout => true
  | .takeoverComplete => true
  | .imgEraseDone => true
  | .logReadDone _ => true

end Sys2Proof
end

