-- ==== Sys2Proof/Safety.lean ====
section
/-! DEFINITION. What counts as a sound state, and the words in which statements speak of an access that reaches its register and of the state it leaves. -/
namespace Sys2Proof.Machine

/-- The SRAM is in canonical form: addresses strictly rising with no zero byte listed (R121), and the poisoned words listed once, each by the address of its first byte (R124). -/
def Ram.wf (r : Ram) : Prop := Memory.wf r.mem = true ∧ r.poison.Nodup ∧ ∀ a ∈ r.poison, a % 4 = 0

/-- A sound state: its SRAM is in canonical form. -/
def State.sound (s : State) : Prop := s.ram.wf

/-- The state after a command that leaves the parts as `c`: the SRAM takes the changes that the command made, in order, and the queue is as it was. -/
def State.after (s : State) (c : Core) : State := { s with core := { c with memq := [] }, ram := s.ram.apply c.memq }

/-- The parts as an accepted access of a path finds them: the application island has work (R106), a session that holds HOST_WD has fed it (R83), and the path holds no high word any longer (R4). -/
def Core.begun (c : Core) (p : Path) : Core := (c.accepted p).dropHold p
/-- The parts as an accepted access finds them at its island, when the address and a word written have crossed to it (R94). -/
def Core.sent (c : Core) (p : Path) (a : Nat) (ws : List Word) : Core := ((c.accepted p).sendWords 0x25 ((c.accepted p).islandOf a) (BitVec.ofNat 32 a :: ws)).dropHold p
/-- The bits of a register instance that a write by a path stores: its RW fields, and its RWX fields where the path has Expert rights (R5, R7). -/
def Core.stores (c : Core) (p : Path) (r : Reg) (i : Nat) : Word := c.storeMask r i (c.expert p)
/-- The word that the stored fields of a register instance take when a path writes `v`. -/
def Core.taken (c : Core) (p : Path) (r : Reg) (i : Nat) (v : Word) : Word := (c.reg r i &&& ~~~c.stores p r i) ||| (v &&& c.stores p r i)
/-- The reply to an accepted write, and what the write starts after it (R85). -/
def Core.done (c : Core) : Core := (c.answer 0 []).runDeferred
/-- The Lead's CHANGE record of an accepted write of `v` (R369), which the parts `b` met, and the reply. -/
def Core.mirrorDone (c b : Core) (p : Path) (r : Reg) (i : Nat) (v : Word) : Core := (c.sendChange r i (b.taken p r i v ||| (v &&& r.actMask))).done

/-- An access of a path to a register instance is served at once: the path is heard and entitled to it (R76, R81, R87), no earlier request of its engine waits (R104), the register's island runs (R103), and it acknowledges (Table 3.4). -/
structure Reaches (c : Core) (p : Path) (l : Loc) (rd : Bool) : Prop where
  heard : c.heard p = true
  allowed : c.pathRefusal p l.addr rd = 0
  free : (c.accepted p).engineBusy p = false
  awake : (c.accepted p).stallsOn ((c.accepted p).islandOf l.addr) = false
  runs : (c.accepted p).runs ((c.accepted p).islandOf l.addr) = true
  acks : c.silent.contains l.addr = false

/-- A write of a path to a register instance is served and not refused: it reaches the register, the path may write its Expert fields if it has any (R7, R74), and the register is not one that the Lead mirrors into a Standby (R369). -/
structure Writes (c : Core) (p : Path) (l : Loc) : Prop extends Reaches c p l false where
  entitled : c.expert p = true ∨ l.reg.accMask (fun f => f.acc = .rwx) = 0
  notMirrored : (mirrored l.reg && c.isStandby && p ≠ .tansy) = false

/-- The parts after a served write of `v` by a path to a register instance whose effect is `f`, and what that lets go on (R5, R64, R85, R113, R369). -/
def Core.wrote (c : Core) (ram : Ram) (p : Path) (r : Reg) (i : Nat) (v : Word) (f : Core → Core) : Core :=
  ((f (c.sent p (⟨r, i⟩ : Loc).addr [v])).mirrorDone (c.sent p (⟨r, i⟩ : Loc).addr [v]) p r i v).goOn ram
/-- The parts after a served read by a path of a register instance that answers `w` and has the effect `f`; the word crosses back (R4, R5, R94, R113). -/
def Core.wasRead (c : Core) (ram : Ram) (p : Path) (r : Reg) (i : Nat) (w : Word) (f : Core → Core) : Core :=
  ((((f (c.sent p (⟨r, i⟩ : Loc).addr [])).sendWords ((c.accepted p).islandOf (⟨r, i⟩ : Loc).addr) 0x25 [w]).answer 0 [w]).runDeferred).goOn ram

/-- A write of PT_CTRL: ISLAND, SET_BOOT and BANK are stored, and the command runs (R48). -/
def Core.loaderCommand (c : Core) (ram : Ram) (w : Word) (cmd : Nat) : Core :=
  let d := ((c.set F.PT_CTRL_ISLAND 0 (F.PT_CTRL_ISLAND.read w)).set F.PT_CTRL_SET_BOOT 0 (F.PT_CTRL_SET_BOOT.read w)).set F.PT_CTRL_BANK 0 (F.PT_CTRL_BANK.read w)
  d.ptCommand (d.view ram) cmd (F.PT_CTRL_BANK.read w) (F.PT_CTRL_ISLAND.read w) (F.PT_CTRL_SET_BOOT.read w = 1)
/-- A write of MG_KEY_CTRL: SLOT and EXPERT are stored, and LOAD or CLEAR runs (R441). -/
def Core.keyCommand (c : Core) (p : Path) (w : Word) (clear : Bool) : Core :=
  ((c.set F.MG_KEY_CTRL_SLOT 0 (F.MG_KEY_CTRL_SLOT.read w)).set F.MG_KEY_CTRL_EXPERT 0 (F.MG_KEY_CTRL_EXPERT.read w)).keyCtrl p (F.MG_KEY_CTRL_SLOT.read w) (F.MG_KEY_CTRL_EXPERT.read w = 1) clear

/-! ### Strap requests -/

/-- A request frame that the module takes up at once: its island runs, it came in on a Strap port with the VLAN tag in force, no earlier request holds the engine, its header and length are right, and its reply fits a frame (R68, R69, R72, R78). -/
structure Taken (c : Core) (h : StrapHdr) (ops : List StrapOp) : Prop where
  runs : c.runs 0x23 = true
  port : c.livePorts.testBit h.src.eport = true
  vlan : h.src.vlan = c.liveVlan
  free : c.strapWait = none ∧ c.stalls.any (fun e => pathEngine e.1 == 0) = false
  framed : h.magic = 0x5053 ∧ h.ver = 1 ∧ h.kind = 1 ∧ 32 ≤ h.len ∧ h.len ≤ 1472 ∧ h.len = h.payload
  shaped : shapeOk h ops = true
  fits : 32 + (ops.map (fun o => 8 + 4 * replyWords o)).sum ≤ 1472
/-- A request of an open session that passes every check of R78: it is taken up, its TAG is right, and the window accepts its sequence number. -/
structure InSession (c : Core) (h : StrapHdr) (ops : List StrapOp) : Prop extends Taken c h ops where
  session : h.session ≠ 0
  live : (c.sessAt h.session).live = true
  opened : (c.sessAt h.session).half = false
  tagged : h.tag = (Crypto.hmac (c.sessAt h.session).ks (requestBytes h ops)).take 16
  fresh : ((c.sessAt h.session).window h.seq).1 = .accept
/-- The parts once a session's request is accepted: the window has taken its sequence number, the application island has work, and a held HOST_WD is fed (R79, R83, R106). -/
def Core.admitted (c : Core) (h : StrapHdr) : Core := (c.setSess h.session ((c.sessAt h.session).window h.seq).2).accepted (.strap h.session)
/-- A request as its operations run, its reply going to `dst` under the key `ks`. -/
def jobOf (h : StrapHdr) (dst : SrcAddr) (ks : List Byte) (ops : List StrapOp) : StrapJob :=
  { sid := h.session, seq := h.seq, echo := h.echo, cont := h.flags % 2 = 1, dst := dst, ks := ks, count := ops.length, ops := ops }
/-- The job of a request of an open session. -/
def Core.sessionJob (c : Core) (h : StrapHdr) (ops : List StrapOp) : StrapJob := jobOf h (c.sessAt h.session).src (c.sessAt h.session).ks ops
/-- A request of one operation ends: the operation's status and words are its reply, which leaves under the key `ks` (R69–R73). -/
def Core.endRequest (c : Core) (j : StrapJob) (o : StrapOp) (st : Nat) (data : List Word) (ks : List Byte) : Core :=
  (c.answer st data).finishJob
    { j with ks := ks, done := opReply o st data, down := [], first := st, stop := (st ≠ 0 && !j.cont) || c.deferred.isSome, ops := [] }

end Sys2Proof.Machine

namespace Sys2Proof

/-- The commands that may store to SRAM: accesses by a path and what stalls on an island, transfers of the arbiters, the loader, frames and rings, and resets. -/
def Instr.mayStore (i : Instr) : Bool :=
  match i with
  | .registerWrite .. | .quadLowRead .. | .quadLowWrite .. | .quadHighWrite .. | .rcFieldRead .. | .stageOpen .. | .verify .. | .verifyComplete .. | .activate ..
  | .loadFlash .. | .fullLoadComplete | .relace .. | .relaceRebuildDone .. | .relaceReturn | .commit .. | .stageClose .. | .stagingWrite .. | .strapRead .. | .strapWrite ..
  | .strapRmw .. | .strapNop .. | .hello .. | .openSession .. | .closeSession .. | .subscribe .. | .evAck .. | .awlEnable .. | .awlAccess .. | .accessTimeout ..
  | .wakeOnAccessReady .. | .wakeAccessTimeout .. | .islandResetReq .. | .islandResetDone .. | .transferEnd .. | .emergencyTransfer .. | .scrubPass .. | .patternLineRepair ..
  | .prioWrite .. | .retainWrite .. | .targetWrite .. | .jog .. | .stop .. | .gearEngage .. | .gearDisengage .. | .ratioWrite .. | .profileParamWrite .. | .igGo ..
  | .igStop .. | .igCfgWrite .. | .frameStart .. | .engineDispatch .. | .coefDataAccess .. | .coefCommit .. | .manSwitch .. | .loopParamWrite .. | .inject .. | .laneClear ..
  | .paDataAccess .. | .serialReading .. | .portClear .. | .refOk .. | .cprWrite .. | .serWrite .. | .ntSet .. | .ringTick | .diPop .. | .captureArm .. | .capture ..
  | .captureQuery .. | .reconTimeout .. | .canFrameRx .. | .canObjWord0Read .. | .canObjLastRead .. | .canTxReq .. | .canRecover .. | .canRestart .. | .doClear .. | .hostSto ..
  | .hostSs1 .. | .lgRelease .. | .changeRecord .. | .handoverReq .. | .powerReqRun .. | .powerReqIdle .. | .powerReqSleep .. | .powerReqDeepSleep .. | .powerReqOff ..
  | .powerReqBadTarget .. | .warmResetReq .. | .moduleResetReq .. | .cleanResetReq .. | .wakeComplete | .moduleResetRelease .. | .i2cRetry .. | .logRead .. | .logReadPin ..
  | .pinClear .. | .keyDataAccess .. | .keyLoad .. | .keyClear .. | .imgOpen .. | .imgDataWrite .. | .imgVerify .. | .imgActivate .. | .imgConfirm .. | .imgClose .. | .locate .. => true
  | _ => false

end Sys2Proof
end

