-- ==== Sys2Proof/Certificates/Slice0/Obligations.lean ====
section
/-! DEFINITION. The statements for the provers, from the spec's rules, family by family. -/
open Sys2Proof Sys2Proof.Machine

/-! ### The queue, reset, and what every command does -/

/-- The command at the front of the queue leaves it and runs on the state with the queue's rest. -/
def Obligations.StepRunsTheFrontCommand : Prop :=
  ∀ (i : Instr) (rest : List Instr) (s : State), step { s with pending := i :: rest } = exec i { s with pending := rest }

/-- On an empty queue one clock of the time island passes, and nothing but the time unit and the backup counts changes. While the island runs, network time, counted with its 32-bit fraction of a nanosecond, advances by 8 ns and NT_ADJ (R247, R248); while it does not, network time stands. While the backup domain keeps them, the backup counts advance by 8 ns of their 32.768 kHz oscillator (R257). That a clock passes in place of idling is the model's choice (log entry 2). -/
def Obligations.EmptyQueueCountsOneClock : Prop :=
  ∀ s : State, s.pending = [] →
    ∃ (t : Time) (sec sub phase : Nat), step s = .next { s with core := { s.core with time := t, backSec := sec, backSub := sub, backPhase := phase } } ∧
      (s.core.runs 0x22 = false → t = s.core.time) ∧
      (s.core.runs 0x22 = true → s.core.netNs + 10 < 2 ^ 48 * 1000000000 →
        t.ns < 1000000000 ∧ t.frac < 2 ^ 32 ∧ t.stepSum = s.core.time.stepSum ∧
          ((t.sec : Int) * 1000000000 + t.ns) * 2 ^ 32 + t.frac = s.core.netNs * 2 ^ 32 + s.core.time.frac + 8 * 2 ^ 32 + (s.core.reg R.NT_ADJ 0).toInt) ∧
      (s.core.backKept = false → sec = s.core.backSec ∧ sub = s.core.backSub ∧ phase = s.core.backPhase) ∧
      (s.core.backKept = true → s.core.backSec + 1 < 2 ^ 64 → s.core.backSub < 32768 → s.core.backPhase < 125000000 →
        sub < 32768 ∧ phase < 125000000 ∧ (sec * 32768 + sub) * 125000000 + phase = (s.core.backSec * 32768 + s.core.backSub) * 125000000 + s.core.backPhase + 32768)

/-- After module reset every register holds its reset value, every byte of SRAM reads 0 (R121), no slot is used, no session is open, every lane group is in STO with cause STARTUP (R360, R411), and no command waits. A reset value that the spec does not give is the model's choice (log entry 3). -/
def Obligations.ResetLeaves : Prop :=
  (∀ (r : Reg) (i : Nat), State.reset.core.reg r i = r.resetAt i) ∧
  (∀ a, State.reset.ram.byte a = 0 ∧ State.reset.ram.poisoned a = false) ∧
  State.reset.core.usedSlots = [] ∧ State.reset.core.openSessions = [] ∧
  (∀ g < 16, State.reset.core.inSto g = true ∧ State.reset.core.get F.SF_GRP_CAUSE g = 0) ∧
  State.reset.pending = []

/-- The state after reset is sound. -/
def Obligations.ResetIsSound : Prop := State.reset.sound

/-- Every step of a sound state leaves a sound state: the SRAM keeps its canonical form and the list of its poisoned words, whatever the command. -/
def Obligations.StepKeepsSoundness : Prop := ∀ s t : State, s.sound → step s = .next t → t.sound

/-- A command completes in every state exactly when it names what the part has, and one that does not faults by that name in every state: no command is ever refused (that such a command faults is the model's choice, log entry 19). A command that answers a next state leaves the queue as it found it. -/
def Obligations.WellFormedCommandsComplete : Prop :=
  (∀ (i : Instr) (s : State),
      (i.wellFormed = true → ∃ t, exec i s = .next t) ∧
      (i.wellFormed = false → ∃ what n, exec i s = .fault (.noSuch what n))) ∧
  (∀ (i : Instr) (s t : State), exec i s = .next t → t.pending = s.pending)

/-- Every command but those that may store leaves every byte of SRAM and every poison mark as it was. -/
def Obligations.OtherCommandsKeepSram : Prop := ∀ (i : Instr) (s t : State), i.mayStore = false → exec i s = .next t → t.ram = s.ram

/-! ### Registers and their access -/

/-- Every instance of every register that is not a word of a CAN object has an address of its own, aligned and outside SRAM, and that address names it (R17, R63, R64). -/
def Obligations.EveryRegisterHasItsAddress : Prop :=
  ∀ r ∈ allRegs, (∃ st, r.place = .lin st) ∨ r.place = .fieldString → ∀ i < r.count, locAt (⟨r, i⟩ : Loc).addr = some ⟨r, i⟩ ∧ 0x4000000 ≤ (⟨r, i⟩ : Loc).addr

/-- An access to an address that names no register and lies outside SRAM, or that is not aligned, accesses nothing, answers BAD_ADDR, and returns 0 for a word read (R64). A write by a Strap session or the Awl port to a register of the SF_ block answers READ_ONLY, and but for the bookkeeping of an accepted request it changes nothing (R67). Where the manual leaves a point open, the model’s choice is log entry 13. -/
def Obligations.AccessesWithoutARegister : Prop :=
  (∀ (s : State) (p : Path) (a : Nat) (v : Word), s.core.heard p = true → (a % 4 ≠ 0 ∨ (0x4000000 ≤ a ∧ locAt a = none)) →
      (s.core.pathRefusal p a false = 0 → exec (.registerWrite p a v) s = .next (s.after (((s.core.accepted p).answer 6 []).goOn s.ram))) ∧
      (s.core.pathRefusal p a true = 0 → exec (.quadLowRead p a) s = .next (s.after (((s.core.accepted p).answer 6 [0]).goOn s.ram)) ∧ exec (.rcFieldRead p a) s = .next (s.after (((s.core.accepted p).answer 6 [0]).goOn s.ram)))) ∧
  (∀ (s : State) (p : Path) (l : Loc) (v : Word), locAt l.addr = some l → blockOf l.addr = some 16 → Reaches s.core p l false →
      exec (.registerWrite p l.addr v) s = .next (s.after ((((s.core.begun p).answer 7 []).runDeferred).goOn s.ram)))

/-- An access to an island that is not RUNNING, and that wake-on-access does not wake, completes with 0x0FF00FF0 for the word, or discards the write, and with ASLEEP or, for a FAILED island, FAILED; AR_FAULT names the island, and its ASLEEP flag sets, or waits at its crossing for the round trip under way (R94, R96, R103). -/
def Obligations.StoppedIslandsAnswerAsleep : Prop :=
  ∀ (s : State) (p : Path) (a : Nat) (v : Word), s.core.heard p = true → opCheck a 1 = 0 → blockOf a ≠ some 16 → (s.core.accepted p).engineBusy p = false →
    (s.core.accepted p).stallsOn ((s.core.accepted p).islandOf a) = false → (s.core.accepted p).runs ((s.core.accepted p).islandOf a) = false →
    let c := (s.core.begun p).asleep ((s.core.accepted p).islandOf a) false
    let st := if (s.core.accepted p).islState ((s.core.accepted p).islandOf a) = 5 then 0x0E else 0x0B
    let k := crossKey ⟨0x25, 0x24, .pulse, F.AR_FAULT_ASLEEP.line 0⟩
    (s.core.pathRefusal p a true = 0 → exec (.quadLowRead p a) s = .next (s.after (((c.answer st [0x0FF00FF0]).runDeferred).goOn s.ram))) ∧
    (s.core.pathRefusal p a false = 0 → exec (.registerWrite p a v) s = .next (s.after (((c.answer st []).runDeferred).goOn s.ram))) ∧
    ((s.core.crossAt k).trip = false → c.bit F.AR_FAULT_ASLEEP 0 = true) ∧ ((s.core.crossAt k).trip = true → (c.crossAt k).pending = true) ∧
    ((s.core.accepted p).islandOf a < 0x40 → c.get F.AR_FAULT_ISLAND 0 = (s.core.accepted p).islandOf a)

/-- A write of a register that has no command of its own stores its RW fields, and its RWX fields on an Expert path, clears the W1C bits written with 1, and leaves every other bit (R5, R7). Where no effect of an earlier write is owed and nothing waits for an island, such a write changes no other register but EN_HOST_WD, which a session that holds it feeds, and no byte of SRAM; and the register holds what the access codes say (R5, R83). A write that would change an RWX field on a path without Expert rights answers EXPERT_ONLY and leaves the RWX fields (R7, R74). It states the completion of registerWrite. Where the manual leaves a point open, the model’s choice is log entry 13. -/
def Obligations.RegisterWrites : Prop :=
  (∀ (s : State) (p : Path) (r : Reg) (i : Nat) (v : Word), locAt (⟨r, i⟩ : Loc).addr = some ⟨r, i⟩ → 0x4000000 ≤ (⟨r, i⟩ : Loc).addr → blockOf (⟨r, i⟩ : Loc).addr ≠ some 16 →
      (blockOf (⟨r, i⟩ : Loc).addr).isSome = true → r.writable = true → highOf r = none → lowOf r = none → handlers.all (fun h => h.1.id != r.id) = true →
      sysHandlers.all (fun h => h.1.id != r.id) = true → s.core.unusedSlotReg r i = false → s.core.portRegApplies r i = true → Writes s.core p ⟨r, i⟩ →
      exec (.registerWrite p (⟨r, i⟩ : Loc).addr v) s =
        .next (s.after (s.core.wrote s.ram p r i v (fun c => c.setReg r i (c.taken p r i v &&& ~~~(v &&& r.actMask &&& r.accMask (fun f => f.acc = .w1c))))))) ∧
  (∀ (s t : State) (p : Path) (r : Reg) (i : Nat) (v : Word), s.core.deferred = none → s.core.memq = [] → s.core.stalls = [] → s.core.strapWait = none → r.id < 512 → r.id ≠ R.EN_HOST_WD.id →
      locAt (⟨r, i⟩ : Loc).addr = some ⟨r, i⟩ → 0x4000000 ≤ (⟨r, i⟩ : Loc).addr → blockOf (⟨r, i⟩ : Loc).addr ≠ some 16 → (blockOf (⟨r, i⟩ : Loc).addr).isSome = true →
      r.writable = true → highOf r = none → lowOf r = none → handlers.all (fun h => h.1.id != r.id) = true → sysHandlers.all (fun h => h.1.id != r.id) = true →
      s.core.unusedSlotReg r i = false → s.core.portRegApplies r i = true → Writes s.core p ⟨r, i⟩ → exec (.registerWrite p (⟨r, i⟩ : Loc).addr v) s = .next t →
      t.core.reg r i = ((s.core.reg r i &&& ~~~s.core.stores p r i) ||| (v &&& s.core.stores p r i)) &&& ~~~(v &&& r.actMask &&& r.accMask (fun f => f.acc = .w1c)) ∧
      (∀ (q : Reg) (j : Nat), q.id < 512 → q.id ≠ R.EN_HOST_WD.id → (q.id ≠ r.id ∨ j ≠ i) → t.core.reg q j = s.core.reg q j) ∧ t.ram = s.ram) ∧
  (∀ (s t : State) (p : Path) (r : Reg) (i : Nat) (v : Word), s.core.deferred = none → s.core.stalls = [] → s.core.strapWait = none → r.id < 512 → r.id ≠ R.EN_HOST_WD.id → locAt (⟨r, i⟩ : Loc).addr = some ⟨r, i⟩ → 0x4000000 ≤ (⟨r, i⟩ : Loc).addr →
      blockOf (⟨r, i⟩ : Loc).addr ≠ some 16 → (blockOf (⟨r, i⟩ : Loc).addr).isSome = true → r.writable = true → highOf r = none → lowOf r = none → handlers.all (fun h => h.1.id != r.id) = true →
      sysHandlers.all (fun h => h.1.id != r.id) = true → shown.all (fun e => e.1.id != r.id) = true → (∃ n, r.place = .lin n) → s.core.portRegApplies r i = true →
      Reaches s.core p ⟨r, i⟩ false → (mirrored r && s.core.isStandby) = false → s.core.expert p = false →
      v &&& r.accMask (fun f => f.acc = .rwx) ≠ s.core.reg r i &&& r.accMask (fun f => f.acc = .rwx) → exec (.registerWrite p (⟨r, i⟩ : Loc).addr v) s = .next t →
      t.core.acc.status = 8 ∧ ∀ b < 32, (r.accMask (fun f => f.acc = .rwx)).getLsbD b = true → (t.core.reg r i).getLsbD b = (s.core.reg r i).getLsbD b)

/-- A write of the low word of a writable 64-bit quantity waits on its path, in place of an earlier one, and changes no register; the high word then applies both, or itself with the low word in force (R4). A read of NT_SEC_LO answers network time's low seconds and holds NT_SEC_HI, NT_NS and NT_FRAC of the same moment for the path; the next read of NT_SEC_HI on that path answers the held word (R4, R247). A read of a register with fields of code RC answers them and clears them, and no other bit (R5). It states the completion of quadLowWrite, quadHighWrite, quadLowRead and rcFieldRead. Where the manual leaves a point open, the model’s choice is log entry 13. -/
def Obligations.WordsThatReadTogether : Prop :=
  (∀ (s : State) (p : Path) (v : Word), ∀ lh ∈ [(R.AX_SOFT_MIN_LO, R.AX_SOFT_MIN_HI), (R.AX_SOFT_MAX_LO, R.AX_SOFT_MAX_HI)], ∀ k < 128, (s.core.pat.slot k).kind ≠ 0 →
      let a := (⟨lh.1, k⟩ : Loc).addr
      let others (c : Core) := c.pendLow.filter (fun e : Path × Nat × Word => !(e.1 = p && e.2.1 = a))
      (Writes s.core p ⟨lh.1, k⟩ → exec (.quadLowWrite p a v) s = .next (s.after (s.core.wrote s.ram p lh.1 k v (fun c => { c with pendLow := others c ++ [(p, a, v)] })))) ∧
      (Writes s.core p ⟨lh.2, k⟩ → exec (.quadHighWrite p (⟨lh.2, k⟩ : Loc).addr v) s = .next (s.after (s.core.wrote s.ram p lh.2 k v (fun c =>
        (({ c with pendLow := others c }.setReg lh.1 k (((c.pendLow.find? (fun e : Path × Nat × Word => e.1 = p && e.2.1 = a)).map (fun e : Path × Nat × Word => e.2.2)).getD (c.reg lh.1 k))).setReg lh.2 k v)))))) ∧
  (∀ (s : State) (p : Path),
      (Reaches s.core p ⟨R.NT_SEC_LO, 0⟩ true → (∀ e ∈ s.core.hold, Prod.fst e ≠ p) →
        exec (.quadLowRead p (⟨R.NT_SEC_LO, 0⟩ : Loc).addr) s = .next (s.after (s.core.wasRead s.ram p R.NT_SEC_LO 0 (BitVec.ofNat 32 s.core.time.sec) (fun c => { c with hold := c.hold ++
          [(p, [((⟨R.NT_SEC_HI, 0⟩ : Loc).addr, BitVec.ofNat 32 (s.core.time.sec / 2 ^ 32)), ((⟨R.NT_NS, 0⟩ : Loc).addr, BitVec.ofNat 32 s.core.time.ns), ((⟨R.NT_FRAC, 0⟩ : Loc).addr, BitVec.ofNat 32 (s.core.time.frac / 2 ^ 16))])] })))) ∧
      (∀ w rest, Reaches s.core p ⟨R.NT_SEC_HI, 0⟩ true → s.core.hold.find? (fun e : Path × List (Nat × Word) => e.1 = p) = some (p, ((⟨R.NT_SEC_HI, 0⟩ : Loc).addr, w) :: rest) →
        exec (.quadLowRead p (⟨R.NT_SEC_HI, 0⟩ : Loc).addr) s = .next (s.after (s.core.wasRead s.ram p R.NT_SEC_HI 0 w (fun c => { c with hold := c.hold ++ [(p, rest)] }))))) ∧
  (∀ (s : State) (p : Path), ∀ r ∈ allRegs, r.accMask (fun f => f.acc = .rc) ≠ 0 → ∀ i < r.count, (∀ e ∈ s.core.hold, Prod.fst e ≠ p) → Reaches s.core p ⟨r, i⟩ true →
      exec (.rcFieldRead p (⟨r, i⟩ : Loc).addr) s = .next (s.after (s.core.wasRead s.ram p r i ((s.core.sent p (⟨r, i⟩ : Loc).addr []).value p r i) (fun c => c.setReg r i (c.reg r i &&& ~~~r.accMask (fun f => f.acc = .rc))))))

/-! ### SRAM -/

/-- A word stored from an aligned address reads back whole, is no longer poisoned, and every byte outside it and every other poison mark is as it was (R122, R124). A poisoned word reads 0 until it is written, and its poisoning leaves every byte and the mark of every other word (R124). -/
def Obligations.SramWords : Prop :=
  (∀ (r : Ram) (a : Nat) (v : Word), a % 4 = 0 →
      let t := r.apply [.bytes a v.toBytes]
      t.word a = v ∧ t.poisoned a = false ∧ (∀ b, b < a ∨ a + 4 ≤ b → t.byte b = r.byte b ∧ t.poisoned b = r.poisoned b)) ∧
  (∀ (r : Ram) (a : Nat), (r.apply [.poison a]).word a = 0 ∧ (r.apply [.poison a]).poisoned a = true ∧ (∀ b, (r.apply [.poison a]).byte b = r.byte b) ∧
      (∀ b, b / 4 ≠ a / 4 → (r.apply [.poison a]).poisoned b = r.poisoned b))

/-- A Strap write of SRAM: READ_ONLY outside bank 14; EXPERT_ONLY from a Basic session; STAGE_CLOSED, with STAGE_WRITE_LATE, outside PHASE 1; else the word is stored. A Strap burst read of any bank returns each word, 0 for a poisoned one, and ECC_ERROR where one was poisoned (R66). It states the completion of stagingWrite. -/
def Obligations.StrapReachesSram : Prop :=
  (∀ (s : State) (sid a : Nat) (v : Word), a < 0x4000000 → a % 4 = 0 → s.core.heard (.strap sid) = true → s.core.pathRefusal (.strap sid) a false = 0 →
    (s.core.accepted (.strap sid)).engineBusy (.strap sid) = false → (s.core.accepted (.strap sid)).stallsOn 0x24 = false → (s.core.accepted (.strap sid)).runs 0x24 = true → s.core.silent.contains a = false →
    let c := s.core.sent (.strap sid) a [v]
    let answers (st : Nat) (c : Core) := exec (.stagingWrite (.strap sid) a v) s = .next (s.after (((c.answer st []).runDeferred).goOn s.ram))
    (a / 0x400000 ≠ 14 → answers 7 c) ∧
    (a / 0x400000 = 14 → (s.core.sessAt sid).expert = false → answers 8 c) ∧
    (a / 0x400000 = 14 → (s.core.sessAt sid).expert = true → c.get F.PT_STAT_PHASE 0 ≠ 1 → answers 9 (c.setBit F.PT_STAT_STAGE_WRITE_LATE 0 true)) ∧
    (a / 0x400000 = 14 → (s.core.sessAt sid).expert = true → c.get F.PT_STAT_PHASE 0 = 1 → answers 0 (c.store a v.toBytes))) ∧
  (∀ (c : Core) (ram : Ram) (sid a n : Nat), a % 4 = 0 → a + 4 * n ≤ 0x4000000 → c.runs 0x24 = true → c.silent = [] →
    (c.readBurst ram (.strap sid) [] a n).2.1 = (List.range n).map (fun i => if (c.view ram).poisoned (a + 4 * i) then 0 else (c.view ram).word (a + 4 * i)) ∧
    (c.readBurst ram (.strap sid) [] a n).1 = (if (List.range n).any (fun i => (c.view ram).poisoned (a + 4 * i)) then 0x0C else 0))

/-! ### Strap -/

/-- The window of a session over the last 64 sequence numbers, counted modulo 65,536: a number ahead of the head by 1 to 32,767 is accepted and becomes the head; one behind it by 64 or more is old; one of the last 64 is accepted once and is a duplicate afterwards (R79). -/
def Obligations.SequenceWindow : Prop :=
  ∀ (x : Session) (q : Nat), q < 65536 → x.head < 65536 →
    let ahead := (q + 65536 - x.head) % 65536
    let back := (x.head + 65536 - q) % 65536
    (1 ≤ ahead ∧ ahead ≤ 32767 → (x.window q).1 = .accept ∧ (x.window q).2.head = q ∧
      (∀ k < 64, (x.window q).2.seen.getLsbD k = (k == 0 || (ahead ≤ k && x.seen.getLsbD (k - ahead))))) ∧
    (¬(1 ≤ ahead ∧ ahead ≤ 32767) → 63 < back → x.window q = (.old, x)) ∧
    (back ≤ 63 → x.seen.getLsbD back = true → x.window q = (.duplicate, x)) ∧
    (back ≤ 63 → x.seen.getLsbD back = false → (x.window q).1 = .accept ∧ (x.window q).2.head = x.head ∧ (∀ k < 64, (x.window q).2.seen.getLsbD k = (k == back || x.seen.getLsbD k)))

/-- A request of an open session that passes the checks of R78 runs its operations in order, whatever its first operation is; its reply follows when they have ended (R72, R78). What each operation of an open session does, alone in its request: READ, WRITE and RMW of addresses whose island need not wake access them; NOP answers OK; SUBSCRIBE sets the mask of the classes; EV_ACK acknowledges the outstanding event frame; CLOSE ends the session (R71, R75, R82). It states the completion of strapRead, strapWrite, strapRmw, strapNop, closeSession, subscribe and evAck. Where the manual leaves a point open, the model’s choice is log entries 38 and 41 to 43. -/
def Obligations.StrapRequests : Prop :=
  (∀ (s : State) (h : StrapHdr) (rest : List StrapOp) (a n : Nat) (d : List Word) (m v : Word),
      let runs (o : StrapOp) (i : Instr) := InSession s.core h (o :: rest) → exec i s = .next (s.after (((s.core.admitted h).runJob s.ram (s.core.sessionJob h (o :: rest))).goOn s.ram))
      runs (.read a n) (.strapRead h a n rest) ∧ runs (.write a d) (.strapWrite h a d rest) ∧ runs (.rmw a m v) (.strapRmw h a m v rest) ∧ runs .nop (.strapNop h rest) ∧
      runs .close (.closeSession h rest) ∧ runs (.subscribe n) (.subscribe h n rest) ∧ runs (.evAck n) (.evAck h n rest)) ∧
  (∀ (s : State) (h : StrapHdr) (a n : Nat) (d : List Word) (m v : Word), s.core.islState 0x25 ≠ 5 →
      let c := s.core.admitted h
      let ends (o : StrapOp) (c' : Core) (st : Nat) (data : List Word) := State.after s ((c'.endRequest (s.core.sessionJob h [o]) o st data (s.core.sessAt h.session).ks).goOn s.ram)
      (InSession s.core h [.nop] → exec (.strapNop h []) s = .next (ends .nop c 0 [])) ∧
      (InSession s.core h [.read a n] → opCheck a n = 0 → c.opStalls (s.core.sessionJob h [.read a n]) (.read a n) = false →
        let r := c.readBurst s.ram (.strap h.session) [] a n
        exec (.strapRead h a n []) s = .next (ends (.read a n) r.2.2 r.1 r.2.1)) ∧
      (InSession s.core h [.write a d] → opCheck a d.length = 0 → c.opStalls (s.core.sessionJob h [.write a d]) (.write a d) = false →
        let r := c.writeBurst s.ram (.strap h.session) [] a d
        exec (.strapWrite h a d []) s = .next (ends (.write a d) r.2 r.1 [])) ∧
      (InSession s.core h [.rmw a m v] → opCheck a 1 = 0 → c.opStalls (s.core.sessionJob h [.rmw a m v]) (.rmw a m v) = false →
        let r := c.rmwAt s.ram (.strap h.session) [] a m v
        exec (.strapRmw h a m v []) s = .next (ends (.rmw a m v) r.2.2 r.1 r.2.1)) ∧
      (InSession s.core h [.subscribe n] → exec (.subscribe h n []) s = .next (ends (.subscribe n) (c.subscribe h.session n) 0 [])) ∧
      (InSession s.core h [.evAck n] → exec (.evAck h n []) s = .next (ends (.evAck n) (c.evAck h.session n) 0 [])) ∧
      (InSession s.core h [.close] → exec (.closeSession h []) s = .next (ends .close (c.closeSess h.session 0) 0 [])))

/-- A sessionless HELLO for a key slot that holds a key opens a half-open session: SID, nonce and session key are set, and the reply carries them under that key (R76, R77). An OPEN whose TAG is right on a half-open session opens it with the level of its key, and the window starts at its sequence number (R75, R77, R79). It states the completion of hello and openSession. Where the manual leaves a point open, the model’s choice is log entries 10 and 40. -/
def Obligations.SessionsOpen : Prop :=
  ∀ (s : State) (h : StrapHdr), s.core.islState 0x25 ≠ 5 →
    (∀ slot nh, Taken s.core h [.hello slot nh] → h.session = 0 → h.tag = noTag → slot ≤ 3 → (s.core.keyAt slot).present = true →
      let r := s.core.pokeApp.hello h.src slot nh
      r.1 = 0 ∧ exec (.hello h slot nh []) s = .next (s.after ((r.2.2.2.endRequest (jobOf h h.src [] [.hello slot nh]) (.hello slot nh) 0 r.2.1 r.2.2.1).goOn s.ram))) ∧
    (∀ arg, Taken s.core h [.openS arg] → h.session ≠ 0 → (s.core.sessAt h.session).live = true → (s.core.sessAt h.session).half = true →
      h.tag = (Crypto.hmac (s.core.sessAt h.session).ks (requestBytes h [.openS arg])).take 16 → arg < 2 → s.core.openSessions.length < 8 →
      ((s.core.sessAt h.session).expert = true → (s.core.openSessions.filter (·.expert)).length < 2) → (arg = 1 → s.core.wdHeld = none) →
      let x := s.core.sessAt h.session
      let c := s.core.pokeApp.setSess h.session { x with half := false, src := h.src, head := h.seq, seen := 1, evSeq := 1 }
      let c := if arg = 1 then { c with wdHeld := some h.session }.feedWd else c
      exec (.openSession h arg []) s = .next (s.after (((c.logFrom 0x23 0x0600 h.session (if x.expert then 1 else 0)).endRequest (jobOf h h.src x.ks [.openS arg]) (.openS arg) 0
        [BitVec.ofNat 32 ((if x.expert then 1 else 0) + (if arg = 1 then 2 else 0))] x.ks).goOn s.ram)))

/-- ARP and ICMP echo requests for the address in force are answered, and every other IP frame is discarded without effect, as is a Strap frame of another VLAN (R68). The timers of a session: a half-open one ends in silence, an idle one closes with cause 1, an unacknowledged event frame is sent again up to 5 times and then given up with its events counted as dropped (R75, R77, R82). The host watchdog's expiry sets EXPIRED, is logged, and on the Lead acts as ACTION says (R83). It states the completion of otherIpFrame, arpRequest, icmpEcho, halfOpenTimeout, sessionIdleTimeout, eventRetransmit and hostWdExpiry. Where the manual leaves a point open, the model’s choice is log entries 47, 48 and 50. -/
def Obligations.NetworkAndTimers : Prop :=
  (∀ (s : State) (src : SrcAddr) (ip : Word) (ident seq : Nat) (payload : List Byte),
      exec (.otherIpFrame src) s = .next s ∧
      (∀ h rest, h.src.vlan ≠ s.core.liveVlan → exec (.strapNop h rest) s = .next (s.after (s.core.goOn s.ram))) ∧
      (s.core.runs 0x23 = true → ip = s.core.liveIp →
        exec (.arpRequest src ip) s = .next { s with core := s.core.emit (.arp src ip) } ∧
        exec (.icmpEcho src ip ident seq payload) s = .next { s with core := s.core.emit (.icmp src ident seq payload) }) ∧
      (ip ≠ s.core.liveIp → exec (.arpRequest src ip) s = .next s ∧ exec (.icmpEcho src ip ident seq payload) s = .next s)) ∧
  (∀ (s : State) (sid : Nat),
      let x := s.core.sessAt sid
      (x.live = true → x.half = true → exec (.halfOpenTimeout sid) s = .next { s with core := s.core.closeSess sid 0 }) ∧
      (x.live = true → x.half = false →
        let waits := s.core.strapWait.any (fun j => j.sid == sid) || s.core.strapQ.any (fun w => w.1.session == sid) || s.core.stalls.any (fun w => w.1 == .strap sid)
        exec (.sessionIdleTimeout sid) s = .next (if waits then s else { s with core := s.core.closeSess sid 1 })) ∧
      (∀ frame q n, x.outstanding = some (frame, q, n) → x.resent < 5 →
        exec (.eventRetransmit sid) s = .next { s with core := (s.core.setSess sid { x with resent := x.resent + 1 }).emit (.strap x.src frame) }) ∧
      (∀ frame q n, x.outstanding = some (frame, q, n) → 5 ≤ x.resent →
        exec (.eventRetransmit sid) s = .next { s with core := ((s.core.addSat F.EN_EV_DROPPED_COUNT 0 n).setSess sid { x with outstanding := none, resent := 0 }).pump sid }) ∧
      (s.core.bit F.EN_HOST_WD_ARMED 0 = true → s.core.get F.EN_HOST_WD_TIMEOUT 0 ≠ 0 → s.core.islState 0x25 = 0 ∨ s.core.islState 0x25 = 1 →
        let c := (s.core.pokeApp.setBit F.EN_HOST_WD_EXPIRED 0 true).log 0x050D noSrc (s.core.get F.EN_HOST_WD_ACTION 0)
        (c.isLead = false → exec .hostWdExpiry s = .next { s with core := c }) ∧ (c.isLead = true → exec .hostWdExpiry s = .next { s with core := c.hostLost })))

/-! ### The pattern loader -/

/-- The commands of PT_CTRL.CMD, written by an Expert path, store ISLAND, SET_BOOT and BANK and run (R48, R49, R51, R52, R54). A refused loader command changes nothing but RESULT, which takes the code, and the log: PHASE, VERIFIED, PT_BOOT, the staged and the active image and the flash banks keep what they held (R48). One that is not refused takes PHASE where R49–R55 say: STAGE_OPEN to 1 and VERIFY to 2, ACTIVATE and a re-lace to 4 and COMMIT to 5 with the staged image, STAGE_CLOSE to 0, LOAD_FLASH to 2 with its bank; a re-lace without HANDOVER puts its target into reset. It states the completion of stageOpen, verify, activate, relace, commit, stageClose and loadFlash. Where the manual leaves a point open, the model’s choice is log entry 13. -/
def Obligations.LoaderCommands : Prop :=
  (∀ (s : State) (p : Path) (bank setBoot : Bool) (isl : Nat), Writes s.core p ⟨R.PT_CTRL, 0⟩ → isl < 0x100 →
      let w := s.core.reg R.PT_CTRL 0
      let runs (i : Instr) (cmd : Nat) (w : Word) :=
        exec i s = .next (s.after (s.core.wrote s.ram p R.PT_CTRL 0 (F.PT_CTRL_CMD.write w cmd) (fun c => c.loaderCommand s.ram (c.taken p R.PT_CTRL 0 (F.PT_CTRL_CMD.write w cmd)) cmd)))
      runs (.stageOpen p) 1 w ∧ runs (.verify p) 2 w ∧ runs (.activate p) 3 w ∧ runs (.relace p isl) 4 (F.PT_CTRL_ISLAND.write w isl) ∧
      runs (.commit p setBoot) 5 (F.PT_CTRL_SET_BOOT.write w (bitOf setBoot)) ∧ runs (.stageClose p) 6 w ∧ runs (.loadFlash p bank) 7 (F.PT_CTRL_BANK.write w (bitOf bank))) ∧
  (∀ (c : Core) (ram : Ram) (cmd bank isl : Nat) (setBoot : Bool), 1 ≤ cmd → cmd ≤ 7 → c.ptRefusal ram cmd isl ≠ 0 →
      let d := c.ptCommand ram cmd bank isl setBoot
      d.get F.PT_STAT_RESULT 0 = c.ptRefusal ram cmd isl ∧ d.get F.PT_STAT_PHASE 0 = c.get F.PT_STAT_PHASE 0 ∧ d.bit F.PT_STAT_VERIFIED 0 = c.bit F.PT_STAT_VERIFIED 0 ∧
      d.reg R.PT_BOOT 0 = c.reg R.PT_BOOT 0 ∧ d.memq = c.memq ∧ d.patFlash = c.patFlash ∧ d.pat = c.pat ∧ d.loader = c.loader) ∧
  (∀ (c : Core) (ram : Ram) (bank isl : Nat) (setBoot : Bool), c.twin.coldPend = false →
      let img := bankImage ram 14
      let takes (cmd phase : Nat) (P : Core → Prop) := c.ptRefusal ram cmd isl = 0 → (c.ptCommand ram cmd bank isl setBoot).get F.PT_STAT_PHASE 0 = phase ∧ P (c.ptCommand ram cmd bank isl setBoot)
      takes 1 1 (fun d => d.bit F.PT_STAT_VERIFIED 0 = false ∧ d.loader.digests = []) ∧ takes 2 2 (fun d => d.loader.cmd = 2) ∧ takes 3 4 (fun d => d.loader.cmd = 3 ∧ d.loader.image = img) ∧
      takes 4 4 (fun d => d.loader.relace = true ∧ d.loader.target = isl ∧ d.loader.image = img ∧ (c.byHandover isl = false → d.islState isl = 3)) ∧
      takes 5 5 (fun d => d.loader.image = img ∧ d.loader.setBoot = setBoot ∧ d.loader.source = 1 - c.get F.PT_BOOT_BANK 0) ∧ takes 6 0 (fun d => d.get F.PT_STAT_RESULT 0 = 0) ∧
      takes 7 2 (fun d => d.loader.cmd = 7 ∧ d.loader.source = bank))

/-- The loader's work ends. The checks of Table 2.8 pass, which sets VERIFIED, records the digests of the islands and leaves PHASE 3, or fail, which clears VERIFIED and leaves PHASE 0 with the code; in LOAD_FLASH they lead to the load, or end it, FLASH_FAIL where the bank cannot be read. A full load copies the image, builds every island, writes the preloads, commits, publishes the pattern and claims. A COMMIT that reads back equal leaves the image in the target bank and, with SET_BOOT, toggles PT_BOOT.BANK; one that does not ends with FLASH_FAIL. A command that ends shows its result and record, and CMD reads 0 (R47, R50–R52). The steps of a re-lace (Table 2.10): at the handoff the contexts of the target run on other engines and it enters island reset, unless one of class A finds no place or the target is fenced; the rebuilt target runs, with its preloads, and a canary that fails fences it; the contexts return; at the end the new pattern is in force, the re-lace is counted and logged (R54–R58). It states the completion of verifyComplete, fullLoadComplete, commitComplete, relaceHandoff, relaceRebuildDone, relaceReturn and relaceDone. Where the manual leaves a point open, the model’s choice is log entries 29 to 33. -/
def Obligations.LoaderWork : Prop :=
  (∀ (s : State) (reads : Bool),
      let l := s.core.loader
      let img := bankImage s.ram 14
      let bad := s.ram.poison.filter (fun a => 14 * 0x400000 ≤ a && a < 14 * 0x400000 + img.length)
      let c := foldN bad s.core Core.poisonRead
      let check := if bad = [] then s.core.checkPattern img else (0x07, 0xFFFF)
      let passed := ({ c with loader := { c.loader with digests := islandDigests img } }.setBit F.PT_STAT_VERIFIED 0 true).loaderEnd 0 0xFFFF 3
      let failed := (({ c with loader := { c.loader with digests := [] } }.setBit F.PT_STAT_VERIFIED 0 false).logRefusal check.1 check.2 noSrc).loaderEnd check.1 check.2 0
      let flash := s.core.flashCheck l.source
      (s.core.get F.PT_STAT_PHASE 0 = 2 → l.cmd ≠ 7 → exec (.verifyComplete reads) s = .next (s.after (if check.1 = 0 then passed else failed))) ∧
      (s.core.get F.PT_STAT_PHASE 0 = 2 → l.cmd = 7 →
        exec (.verifyComplete false) s = .next (s.after ((s.core.logRefusal 0x19 0xFFFF noSrc).loaderEnd 0x19 0xFFFF 0)) ∧
        exec (.verifyComplete true) s = .next (s.after (if flash.2.1 = 0 then { (flash.1.set F.PT_STAT_PHASE 0 4) with loader := { flash.1.loader with image := Tab.get [] s.core.patFlash l.source } } else flash.1.loaderEnd flash.2.1 flash.2.2 0)))) ∧
  (∀ s : State, s.core.get F.PT_STAT_PHASE 0 = 4 → s.core.loader.cmd = 3 ∨ s.core.loader.cmd = 7 → s.core.rstLock = false →
      let img := s.core.loader.image
      let p := patternOf img
      let built := foldN (List.range 16) ((s.core.store (15 * 0x400000) (img.take (totalLen img))).buildAll p) (fun c g => c.set F.SF_GRP_CAUSE g 0)
      let written := built.fieldStart.writePreloads s.ram p (fun _ _ => true)
      let shown := ((foldN written.usedSlots written Core.commitNow).refreshLimits.publishPattern img p).setBit F.PT_BOOT_NO_PATTERN 0 false
      let placed := (shown.log 0x0300 noSrc p.ver).placeFenced.reneed
      let claimed := if placed.isLead then placed.claim else placed
      exec .fullLoadComplete s = .next (s.after ((if claimed.twin.won then claimed.leadWhenLoaded else claimed).loaderEnd 0 0xFFFF 0))) ∧
  (∀ s : State, s.core.get F.PT_STAT_PHASE 0 = 5 →
      let c := { s.core with patFlash := Tab.set [] s.core.patFlash s.core.loader.source s.core.loader.image }
      exec (.commitComplete true) s = .next { s with core := (if s.core.loader.setBoot then c.set F.PT_BOOT_BANK 0 (1 - c.get F.PT_BOOT_BANK 0) else c).loaderEnd 0 0xFFFF 0 } ∧
      exec (.commitComplete false) s = .next { s with core := (s.core.logRefusal 0x19 0xFFFF noSrc).loaderEnd 0x19 0xFFFF 0 }) ∧
  (∀ (c : Core) (code record phase : Nat), c.twin.coldPend = false → code < 32 → record < 65536 → phase < 8 →
      let d := c.loaderEnd code record phase
      d.get F.PT_STAT_RESULT 0 = code ∧ d.get F.PT_STAT_RECORD 0 = record ∧ d.get F.PT_STAT_PHASE 0 = phase ∧ d.get F.PT_CTRL_CMD 0 = 0 ∧ d.loader.cmd = 0 ∧ d.loader.relace = false) ∧
  (∀ (s : State), s.core.loader.relace = true → s.core.rstLock = false →
      let l := s.core.loader
      let img := if l.aborted then l.oldImage else l.image
      let p := if l.aborted then l.oldPat else l.newPat
      let held := l.moved.foldl (fun (t : Tab SlotRecP) k => Tab.set {} t k (l.oldPat.slot k)) p.slots
      (l.handover = true → l.handedOver = false →
        let left := (s.core.moveOut l.target).2
        let c := foldN left (foldN left (s.core.moveOut l.target).1 (fun c k => c.unplace k)) (fun c k => c.takeOff k l.target)
        let d :=
          if s.core.islState l.target = 4 then s.core.relaceAborted
          else if l.aborted = true ∨ (∃ k ∈ left, (s.core.pat.slot k).cls = 1) then { s.core with loader := { l with handedOver := true, aborted := true, moved := [] } }
          else ({ c with loader := { c.loader with handedOver := true, moved := (s.core.engAt l.target).ctx } }.islandReset l.target).reneed.judge
        exec .relaceHandoff s = .next { s with core := d }) ∧
      (l.ready = false → (l.handover = true → l.handedOver = true) →
        let c := ({ s.core.rewriteTarget img l.target with pat := { p with slots := held } }.leaveReset l.target).setIsl l.target 0
        let ks := (c.engAt l.target).ctx
        let mine (isl a : Nat) : Bool := isl = l.target && !(axAddr a && l.moved.contains ((a - 0x40100000) / 0x100))
        let stitch := (foldN ks ((foldN ks c (fun c k => (c.set F.AX_STAT_CLASS k (c.pat.slot k).cls).set F.AX_STAT_ENGINE k l.target)).writePreloads s.ram p mine) Core.commitNow).presetChanged s.core.pat ks
        let done (canary : Bool) (c : Core) := exec (.relaceRebuildDone canary) s = .next (s.after ((({ c with loader := { c.loader with ready := true } }.reneed).judge).goOn s.ram))
        (16 ≤ l.target → ∀ canary, done canary ((c.groupStart (l.target - 16)).writePreloads s.ram p mine)) ∧
        (l.target < 16 → done true stitch ∧ exec (.relaceRebuildDone false) s = .next (s.after (((((if l.aborted then stitch else stitch.publishPattern img p).fence l.target)).relaceAborted).goOn s.ram)))) ∧
      (l.handedOver = true → l.ready = true →
        let c := foldN l.moved { s.core with pat := p } (fun c k => c.returnCtx p l.target k)
        let c := foldN l.moved (c.writePreloads s.ram p (fun isl a => isl = l.target && axAddr a && l.moved.contains ((a - 0x40100000) / 0x100))) Core.commitNow
        let back (c : Core) := { c with loader := { c.loader with handedOver := false, moved := [] } }.reneed
        (l.aborted = false → exec .relaceReturn s = .next (s.after (back (c.presetChanged s.core.pat l.moved)))) ∧ (l.aborted = true → exec .relaceReturn s = .next (s.after (back c).relaceAborted))) ∧
      (l.ready = true → l.handedOver = false →
        (l.aborted = false → exec .relaceDone s = .next { s with core := (((s.core.publishPattern l.image l.newPat).addSat F.PT_RELACE_CNT_COUNT 0 1).log 0x0301 l.target l.newPat.ver).loaderEnd 0 0xFFFF 0 }) ∧
        (l.aborted = true → exec .relaceDone s = .next { s with core := s.core.relaceAborted })))

/-! ### The arbiters, ECC, and the Awl port -/

/-- RQ9 wins a decision in which it waits, whatever the lock, so that it waits for one transfer at most (R130). Without it, the winner on an unlocked bank is a requester that waits, none that waits has a higher priority, and among those of its priority it is the first after the last winner in ascending order with wrap-around; there is none only where nothing waits (R126). On a locked bank the holder of the lock wins over the others (R133). A lock request is refused with LOCK_ORDER, ORDER_REFUSED and the requester recorded, unless RQ6 or RQ7 asks for a lockable bank numbered above every bank it holds, RQ6 on a bank of patterns under the pattern lock; a free bank is then locked, a held one waited for. A release passes the lock to the first that waits (R110, R133). It states the completion of bankLockReq and bankLockRelease. Where the manual leaves a point open, the model’s choice is log entry 59. -/
def Obligations.BanksDecideAndLock : Prop :=
  (∀ (c : Core) (b : Nat),
      let waits (rq : Nat) := (c.bankAt b).waiting.any (fun x => x.rq == rq) = true
      let asks (rq : Nat) := rq < 12 ∧ waits rq
      let dist (rq : Nat) := (rq + 12 - ((c.bankAt b).last + 1) % 12) % 12
      (waits 9 → c.winner b = some 9) ∧
      (¬waits 9 → (∀ l, (c.bankAt b).lock = some l → ¬waits l) →
        (∀ w, c.winner b = some w → asks w ∧ ∀ rq, asks rq → c.prio b rq < c.prio b w ∨ (c.prio b rq = c.prio b w ∧ dist w ≤ dist rq)) ∧ (c.winner b = none → ∀ rq, ¬asks rq)) ∧
      (∀ l, ¬waits 9 → (c.bankAt b).lock = some l → waits l → c.winner b = some l)) ∧
  (∀ (s : State) (rq b : Nat), rq < 12 → b < 16 →
      let k := s.core.bankAt b
      let told (c : Core) (a : LockAnswer) : State := { s with core := { c with lockAns := some (rq, b, a) } }
      let refused := (rq ≠ 6 ∧ rq ≠ 7) ∨ lockable b = false ∨ (rq = 6 ∧ 14 ≤ b ∧ s.core.patternLock = false) ∨ ∃ b' < 16, b ≤ b' ∧ (s.core.bankAt b').lock = some rq
      (s.core.runs 0x24 = true → refused → exec (.bankLockReq rq b) s = .next (told ((s.core.setBit F.AR_LOCK_ORDER_REFUSED 0 true).set F.AR_LOCK_RQ 0 rq) .lockOrder)) ∧
      (s.core.runs 0x24 = true → ¬refused → k.lock = none →
        exec (.bankLockReq rq b) s = .next (told ((s.core.setBank b { k with lock := some rq }).set F.AR_LOCK_HELD 0 (s.core.get F.AR_LOCK_HELD 0 ||| 2 ^ b)) .granted)) ∧
      (∀ o, s.core.runs 0x24 = true → ¬refused → k.lock = some o → exec (.bankLockReq rq b) s = .next (told (s.core.setBank b { k with lockWait := k.lockWait ++ [rq] }) .waits)) ∧
      (k.lock = some rq → exec (.bankLockRelease rq b) s = .next { s with core := s.core.unlock b } ∧ ((s.core.unlock b).bankAt b).lock = k.lockWait.head?) ∧
      (k.lock ≠ some rq → exec (.bankLockRelease rq b) s = .next s))

/-- A request waits at its bank, where its words cross to, and an idle bank decides at once; a write to a bank that Table 5.1 does not give the requester is discarded, flagged and logged. The last word of the granted transfer ends it and the arbiter decides. A grant that lasts too long is flagged and goes on. An emergency transfer of RQ10 or RQ11 at its threshold moves at once, RQ11's that waits at its threshold before RQ10's; it counts as a revocation where a grant stood, and RQ10's write under a lock is flagged and logged (R118, R126, R131, R132, R134). A pass of the scrubber takes what it found, counts every poisoned word it meets, empties the write-back queues, and counts the pass; what the pass of a wake from Deep Sleep finds is kept for the wake's end. A line of the pattern that holds a poisoned word is copied again from the flash bank whose image has the active digest; where there is none it is logged, and a Lead with a READY Standby hands over (R123, R124, R136, R389). It states the completion of bankRequest, transferEnd, holdOverrun, emergencyTransfer, scrubPass and patternLineRepair. Where the manual leaves a point open, the model’s choice is log entries 58, 60, 62 and 185. -/
def Obligations.TransfersAndErrors : Prop :=
  (∀ (s : State) (b : Nat) (x : Xfer) (ecc : List EccFault), b < 16 → x.rq < 12 → xferOk x = true → s.core.runs 0x24 = true →
      let k := s.core.bankAt b
      let may := x.wr.isSome = false ∨ s.core.mayWrite x.rq b = true
      let queued := (s.core.setBank b { k with waiting := k.waiting ++ [x] }).sendWords (rqIsland x.rq b x.offset) 0x24 (BitVec.ofNat 32 (b * 0x400000 + x.offset) :: x.wr.getD [])
      (¬may → exec (.bankRequest b x) s = .next { s with core := s.core.wrongBank x.rq b }) ∧
      (may → k.holder.isSome = true → exec (.bankRequest b x) s = .next { s with core := queued }) ∧
      (may → k.holder = none → exec (.bankRequest b x) s = .next { s with core := queued.decide b }) ∧
      (k.holder = some x → exec (.transferEnd b ecc) s = .next (s.after (((s.core.setBank b { k with holder := none }).moveWords s.ram b x ecc).decide b))) ∧
      (k.lock = none → k.holder = some x → exec (.holdOverrun b) s = .next { s with core := (((s.core.setBit F.AR_HOLD_OVERRUN 0 true).set F.AR_HOLD_BANK 0 b).set F.AR_HOLD_RQ 0 x.rq).log 0x0511 b x.rq }) ∧
      (x.rq = 10 ∨ x.rq = 11 → s.core.starveThr x.rq ≤ Tab.get 0 k.lost x.rq → may →
        let moves (c : Core) : Core :=
          let c := c.setBank b { (c.bankAt b).granted x.rq with waiting := takeFirst x.rq (c.bankAt b).waiting }
          let c := if (c.bankAt b).holder.isSome then c.addSat F.AR_REVOKE_COUNT 0 1 else c
          let c := if x.rq = 10 ∧ x.wr.isSome = true then match (c.bankAt b).lock with | some l => (c.setBit F.AR_REVOKE_AWL_IN_LOCK 0 true).logFrom 0x23 0x0604 b l | none => c else c
          c.moveWords s.ram b x []
        (x.rq = 11 ∨ Tab.get 0 k.lost 11 < s.core.starveThr 11 ∨ k.waiting.any (fun y => y.rq == 11) = false → exec (.emergencyTransfer b x) s = .next (s.after (moves s.core))) ∧
        (∀ y, x.rq = 10 → s.core.starveThr 11 ≤ Tab.get 0 k.lost 11 → k.waiting.find? (fun y => y.rq == 11) = some y →
          exec (.emergencyTransfer b x) s = .next (s.after ((s.core.emergency s.ram b y).emergency s.ram b x))))) ∧
  (∀ (s : State) (ecc : List EccFault) (addr : Nat),
      (s.core.runs 0x24 = true →
        let found (c : Core) (f : EccFault) : Core := match f with
          | .ce a => if a < 0x4000000 then c.corrected a false else c
          | .ue a => if a < 0x4000000 then { c with memq := c.memq ++ [.poison a] } else c
        let c := ecc.foldl found s.core
        exec (.scrubPass ecc) s = .next (s.after ((foldN (List.range 16) (foldN (c.view s.ram).poison c Core.poisonRead) (fun c b => c.setBank b { c.bankAt b with wb := [], corr := [] })).addSat F.AR_SCRUB_PASSES 0 1))) ∧
      (s.core.runs 0x24 = false → s.core.pwState = 3 → s.core.pwActive = 0 → exec (.scrubPass ecc) s = .next (s.after { s.core with power := { s.core.power with scrub := ecc } })) ∧
      (addr < 0x4000000 → addr / 0x400000 = 15 → s.core.islState 0x25 = 0 ∨ s.core.islState 0x25 = 1 → (List.range 16).any (fun i => s.ram.poisoned (addr / 64 * 64 + 4 * i)) = true →
        let c := s.core.pokeApp
        exec (.patternLineRepair addr) s = .next (s.after (
          match [0, 1].find? (fun b => !(Tab.get [] c.patFlash b).isEmpty && digestOf (Tab.get [] c.patFlash b) == (List.range 8).flatMap (fun i => (c.reg R.PT_DIGEST i).toBytes)) with
          | some bank => c.store (addr / 64 * 64) (((Tab.get [] c.patFlash bank).drop (addr / 64 * 64 % 0x400000) ++ List.replicate 64 0).take 64)
          | none => let d := c.log 0x0303 noSrc addr; if d.isLead && d.readyPartner then d.handOver else d))))

/-- Writes of AR_PRIO store it; AR_RETAIN takes a mask of up to three banks and refuses a larger one; SYS_AWL.ENABLE enables the Awl port, logged, or disables it and ends its path; the enabled port's own accesses are accesses with Expert rights (R81, R120, R127). It states the completion of prioWrite, retainWrite, awlEnable and awlAccess. Where the manual leaves a point open, the model’s choice is log entries 13 and 63. -/
def Obligations.ArbiterAndAwlRegisters : Prop :=
  ∀ (s : State) (p : Path) (v : Word),
    (∀ b < 16, Writes s.core p ⟨R.AR_PRIO_LO, b⟩ → exec (.prioWrite p b false v) s = .next (s.after (s.core.wrote s.ram p R.AR_PRIO_LO b v (fun c => c.setReg R.AR_PRIO_LO b (c.taken p R.AR_PRIO_LO b v))))) ∧
    (∀ b < 16, Writes s.core p ⟨R.AR_PRIO_HI, b⟩ → exec (.prioWrite p b true v) s = .next (s.after (s.core.wrote s.ram p R.AR_PRIO_HI b v (fun c => c.setReg R.AR_PRIO_HI b (c.taken p R.AR_PRIO_HI b v))))) ∧
    (Writes s.core p ⟨R.AR_RETAIN, 0⟩ → F.AR_RETAIN_REFUSED.read v = 0 →
      exec (.retainWrite p v) s = .next (s.after (s.core.wrote s.ram p R.AR_RETAIN 0 v (fun c =>
        if 3 < (bitsOf 15 (F.AR_RETAIN_MASK.read v)).length then c.setBit F.AR_RETAIN_REFUSED 0 true else c.set F.AR_RETAIN_MASK 0 (F.AR_RETAIN_MASK.read v))))) ∧
    (Writes s.core p ⟨R.SYS_AWL, 0⟩ →
      exec (.awlEnable p true) s = .next (s.after (s.core.wrote s.ram p R.SYS_AWL 0 (fieldWord F.SYS_AWL_ENABLE 1) (fun c =>
        (if c.bit F.SYS_AWL_ENABLE 0 then c.setBit F.SYS_AWL_ENABLE 0 true else (c.setBit F.SYS_AWL_ENABLE 0 true).logFrom 0x23 0x0603 noSrc 0).judge))) ∧
      exec (.awlEnable p false) s = .next (s.after (s.core.wrote s.ram p R.SYS_AWL 0 (fieldWord F.SYS_AWL_ENABLE 0) (fun c => (((c.setBit F.SYS_AWL_ENABLE 0 false).endPath .awl).imgRelease .awl).judge)))) ∧
    (∀ a, s.core.runs 0x23 = true → s.core.bit F.SYS_AWL_ENABLE 0 = true → a % 4 = 0 → a < 0x4000000 → s.core.runs 0x24 = true → s.core.engineBusy .awl = false → s.core.silent.contains a = false →
      let ends (c : Core) (st : Nat) (ws : List Word) := s.after (((c.answer st ws).runDeferred).goOn s.ram)
      let c := s.core.sent .awl a [v]
      exec (.awlAccess (.write a v)) s = .next (if a / 0x400000 = 15 then ends (c.wrongBank 10 15) 7 [] else ends (c.store a v.toBytes) 0 [])) ∧
    (∀ a, s.core.runs 0x23 = true → s.core.bit F.SYS_AWL_ENABLE 0 = true → a % 4 = 0 → a < 0x4000000 → s.core.runs 0x24 = true → s.core.engineBusy .awl = false → s.core.silent.contains a = false →
      let ends (c : Core) (st : Nat) (ws : List Word) := s.after (((c.answer st ws).runDeferred).goOn s.ram)
      let c := s.core.sent .awl a []
      exec (.awlAccess (.read a)) s = .next (if (c.view s.ram).poisoned a then ends (c.poisonRead a) 0x0C [0] else ends (c.sendWords 0x24 0x25 [(c.view s.ram).word a]) 0 [(c.view s.ram).word a]))

/-! ### Islands and crossings -/

/-- An event on a pulse crossing starts a round trip, or during one sets PENDING, then MERGED; an increment on a counted one adds to the delta, up to 65,535 of which a delivery takes; a level is sent once and the newest state after the round trip; words stand in order behind earlier ones (R95–R98). The end of a round trip starts the next delivery where something is owed: the flag or the counter that the line feeds takes it, and the delivery carries MERGED (R96, R97). When a side of an either-side crossing leaves reset, the survivor clears PENDING, MERGED and the delta; the words it discards are counted in SYS_XDROP, a discarded delta sets DELTA_LOST, and a level crossing sends its newest state again (R99, R100). What declares an island FAILED: its own failure, a resynchronisation not acknowledged, an acknowledge missing for 200 µs, a merged frame start, and the loss of Saddler's heartbeat (R27, R114, R115, R449). Outside a reset Saddler and an island without contexts of its own are then FAILED. It states the completion of crossingAck, crossingResync, islandFailure, resyncTimeout, crossHang, crossMerge and saddlerHeartbeatLoss. Where the manual leaves a point open, the model’s choice is log entries 26, 54 and 55. -/
def Obligations.CrossingsAndFailures : Prop :=
  (∀ (s : State) (x : CrossId), x.src < 0x2A → x.dst < 0x2A →
      let k := crossKey x
      let q := s.core.crossAt k
      let next (c : Core) (q : Crossing) : State := { s with core := c.setCross k q }
      (x.kind = .pulse → exec (.crossingAck x) s = .next (next
        (match lineField x.line with | some (f, i) => if q.trip && q.pending && x.line ≠ 0 then s.core.setBit f i true else s.core | none => s.core)
        { q with trip := q.trip && q.pending, carried := q.trip && q.pending && q.merged, pending := false, merged := false })) ∧
      (x.kind = .counted → exec (.crossingAck x) s = .next (next
        (match lineField x.line with | some (f, i) => if q.trip then s.core.addSat f i (Min.min q.delta 65535) else s.core | none => s.core)
        { q with trip := q.trip && q.delta ≠ 0, delta := if q.trip then q.delta - Min.min q.delta 65535 else q.delta })) ∧
      (x.kind = .level → exec (.crossingAck x) s = .next (next s.core (match q.next with
        | some v => if v = q.held then { q with trip := false, next := none } else { q with held := v, next := none }
        | none => { q with trip := false }))) ∧
      (x.kind = .word → exec (.crossingAck x) s = .next (next s.core { q with trip := false, words := [], rd := q.rd + q.words.length }))) ∧
  (∀ (q : Crossing) (n : Nat) (ws : List Word),
      q.pulse = (if q.trip = false then { q with trip := true, carried := false } else if q.pending = false then { q with pending := true } else { q with merged := true }) ∧
      (q.trip = true → q.count n = ({ q with delta := q.delta + n }, 0)) ∧
      (q.trip = false → (q.count n).1.trip = true ∧ (q.count n).2 ≤ 65535 ∧ (q.count n).1.delta + (q.count n).2 = q.delta + n ∧ ((q.count n).1.delta = 0 ∨ (q.count n).2 = 65535)) ∧
      (q.push false ws).words = q.words ++ ws ∧ (q.push true ws).words = [] ∧ (q.push true ws).rd = q.rd + q.words.length + ws.length ∧ q.queued ++ q.heldBack = q.words) ∧
  (∀ (s : State) (x : CrossId) (words : Nat), x.src < 0x2A → x.dst < 0x2A →
      let k := crossKey x
      let q := s.core.crossAt k
      (eitherSide x = true →
        let clear := s.core.setCross k {}
        (x.kind = .level → exec (.crossingResync x words) s = .next { s with core := s.core.setCross k { held := q.next.getD q.held, trip := true } }) ∧
        (x.kind = .pulse → exec (.crossingResync x words) s = .next { s with core := clear }) ∧
        (x.kind = .counted → exec (.crossingResync x words) s = .next { s with core := if q.delta = 0 then clear else clear.setBit F.SYS_XDROP_DELTA_LOST 0 true }) ∧
        (x.kind = .word → exec (.crossingResync x words) s = .next { s with core := clear.addSat F.SYS_XDROP_WORDS 0 (q.words.length + words) })) ∧
      (eitherSide x = false → exec (.crossingResync x words) s = .next s)) ∧
  (∀ (s : State) (isl : Nat) (x : CrossId), x.src < 0x2A → x.dst < 0x2A → isl < 0x2A → s.core.rst.held = false →
      exec (.islandFailure isl) s = .next (s.after ((s.core.islandFail isl).goOn s.ram)) ∧ exec (.resyncTimeout isl) s = .next { s with core := s.core.islandFail isl } ∧
      exec (.crossHang x) s = .next { s with core := (s.core.log 0x0512 x.dst x.src).islandFail x.dst } ∧
      exec (.crossMerge x) s = .next { s with core := (s.core.log 0x0513 x.dst x.src).islandFail x.dst } ∧
      (s.core.runs 0x25 = true → exec .saddlerHeartbeatLoss s = .next (s.after ((s.core.islandFail 0x28).goOn s.ram))) ∧
      (s.core.islState isl = 4 ∨ s.core.islState isl = 5 → s.core.islandFail isl = s.core) ∧
      (s.core.islState isl ≠ 4 → s.core.islState isl ≠ 5 → isl < 0x10 → s.core.islandFail isl = s.core.fence isl) ∧
      (s.core.islState 0x28 ≠ 4 → s.core.islState 0x28 ≠ 5 → s.core.islandFail 0x28 = (s.core.setIsl 0x28 5).reneed.judge))

/-- The states of an island: quiesced, with its locks released and no transfer or lock left at the memory island, it stops, is powered down, or enters ISLAND_RESET, the network island as its sessions close; ready, it runs for the access that woke it and is marked as woken, unless the loader holds it in reset; idle for 10 ms it returns to what the power state requires; after 5 ms its accesses complete under R103 (R75, R102–R105, R135). A host's request to reset an island is judged by Table 4.6; granted, the island enters ISLAND_RESET (the network island after the reply), and when it ends the island is rebuilt, RESULT reads 0, a stitch island whose canary fails is fenced, and what waited goes on. An access withdrawn after 10 ms is not applied and sets TIMEOUT; the data of a withdrawn read are open; one whose acknowledge came first is an access like any other (R85, R104, R107, R108, R111; the open data are the model's free value, log entry 4). It states the completion of islandQuiesced, wakeAccessTimeout, wakeOnAccessReady, wokenIslandIdle, islandResetReq, islandResetDone and accessTimeout. Where the manual leaves a point open, the model’s choice is log entries 13, 56 and 57. -/
def Obligations.IslandStates : Prop :=
  (∀ (s : State) (isl : Nat), isl < 0x2A →
      let drop (c : Core) := if isl = 0x25 then c.dropLocks 6 else if isl = 0x26 then c.dropLocks 7 else c
      let busy := isl = 0x24 ∧ ∃ b < 16, (s.core.bankAt b).lock.isSome = true ∨ (s.core.bankAt b).holder.isSome = true
      (s.core.runs isl = true → ¬busy →
        exec (.islandQuiesced isl 1) s = .next { s with core := (drop s.core).setIsl isl 1 } ∧ exec (.islandQuiesced isl 2) s = .next { s with core := (drop s.core).setIsl isl 2 } ∧
        exec (.islandQuiesced isl 3) s = .next { s with core := if isl = 0x23 then (((s.core.closeAll 2).endPath .awl).imgRelease .awl).islandReset 0x23 else (drop s.core).islandReset isl }) ∧
      (s.core.runs isl = false ∨ busy → exec (.islandQuiesced isl 1) s = .next s ∧ exec (.islandQuiesced isl 2) s = .next s ∧ exec (.islandQuiesced isl 3) s = .next s) ∧
      (s.core.awaited isl = true →
        exec (.wakeAccessTimeout isl) s = .next (s.after (s.core.resume s.ram [isl])) ∧
        (s.core.stallsOn isl = false → exec (.wakeOnAccessReady isl) s = .next (s.after (s.core.resume s.ram []))) ∧
        (s.core.stallsOn isl = true → s.core.loader.islReset = false → s.core.loader.relace = false →
          exec (.wakeOnAccessReady isl) s = .next (s.after (((if s.core.islState isl = 3 then s.core.leaveReset isl else { s.core with woken := Tab.set 0 s.core.woken isl 1 }).setIsl isl 0).resume s.ram [])))) ∧
      (Tab.get 0 s.core.woken isl ≠ 0 →
        let c := { s.core with woken := Tab.set 0 s.core.woken isl 0 }
        let stops := s.core.runs isl = true ∧ ((s.core.pwState = 2 ∧ sleepIslands.contains isl = true) ∨ ((s.core.pwState = 1 ∨ s.core.pwState = 2) ∧ isl = 0x25))
        (stops → exec (.wokenIslandIdle isl) s = .next { s with core := c.setIsl isl 1 }) ∧ (¬stops → exec (.wokenIslandIdle isl) s = .next { s with core := c }))) ∧
  (∀ (s : State) (p : Path) (isl a : Nat) (v : Word), isl < 0x100 →
      (Writes s.core p ⟨R.SYS_ISL_RST, 0⟩ →
        exec (.islandResetReq p isl) s = .next (s.after (s.core.wrote s.ram p R.SYS_ISL_RST 0 (F.SYS_ISL_RST_ISLAND.write (F.SYS_ISL_RST_REQ.write 0 1) isl) (fun c => (c.set F.SYS_ISL_RST_ISLAND 0 isl).islRstReq isl)))) ∧
      (∀ canary, s.core.loader.islReset = true → s.core.loader.rstFirst = true ∨ s.core.fullLoading = false →
        let isl := s.core.loader.rstTarget
        let c := s.core.rebuild s.ram isl
        let c := ({ c with loader := { c.loader with islReset := false } }.setBit F.SYS_ISL_RST_REQ 0 false).set F.SYS_ISL_RST_RESULT 0 0
        let c := if isl < 0x10 ∧ canary = false then c.fence isl else c
        let takes := c.loader.relace = true ∧ c.loader.target = isl ∧ c.loader.handover = false ∧ c.runs isl = true
        exec (.islandResetDone canary) s = .next (s.after ((if takes then c.islandReset isl else c).loaderFree.judge.goOn s.ram))) ∧
      (s.core.loader.islReset = false → s.core.islState 0x23 = 3 → s.core.rst.held = false →
        ∀ canary, exec (.islandResetDone canary) s = .next (s.after (((((s.core.leaveReset 0x23).setIsl 0x23 0).showIp).set F.SYS_ISL_RST_RESULT 0 0).judge.goOn s.ram))) ∧
      (s.core.heard p = true → opCheck a 1 = 0 → blockOf a ≠ some 16 → (s.core.accepted p).engineBusy p = false → (s.core.accepted p).stallsOn ((s.core.accepted p).islandOf a) = false → (s.core.accepted p).runs ((s.core.accepted p).islandOf a) = true →
        let c := ({ s.core with silent := [a] } : Core).begun p
        let gone (c : Core) := (c.flag 0x25 F.AR_FAULT_TIMEOUT 0).set F.AR_FAULT_ISLAND 0 (c.islandOf a)
        let ends (c : Core) := s.after { c.runDeferred.goOn s.ram with silent := [] }
        (s.core.pathRefusal p a false = 0 → exec (.accessTimeout p a (.word (some v)) false) s = .next (ends ((gone c).answer 0x0D []))) ∧
        (s.core.pathRefusal p a true = 0 → exec (.accessTimeout p a (.word none) false) s = .next (ends ((gone { c with freeIdx := c.freeIdx + 1 }).answer 0x0D [Config.freeWord c.freeIdx])))) ∧
      (∀ h ops, exec (.accessTimeout p a (.frame h ops) false) s = .next (s.after { (({ s.core with silent := [a] } : Core).datagram s.ram h ops).goOn s.ram with silent := [] })) ∧
      (∀ wr, exec (.accessTimeout p a (.word wr) true) s = .next (s.after { ({ s.core with silent := [] } : Core).request s.ram p a wr none with silent := [] })))

/-! ### Profiles, gearing and interpolation -/

/-- AX_CMD of a used slot waits for the next profile tick: JOG, gear engage and disengage replace an earlier command, and STOP is kept so that it wins over a target (R141, R146, R155). A completed write of AX_TARGET stores both words and waits for the next tick (R4, R141, R142). While a slot is in STO_TRACK or SS1 a target only sets TARGET_IGNORED, and a jog, a STOP or a gearing command only sets CMD_REFUSED (R148). It states the completion of jog, stop, gearEngage, gearDisengage and targetWrite. Where the manual leaves a point open, the model’s choice is log entry 13. -/
def Obligations.SlotCommands : Prop :=
  (∀ (s : State) (p : Path) (k : Nat), k < 128 → (s.core.pat.slot k).kind ≠ 0 → Writes s.core p ⟨R.AX_CMD, k⟩ →
      let waits (i : Instr) (n : Nat) := exec i s = .next (s.after (s.core.wrote s.ram p R.AX_CMD k (fieldWord F.AX_CMD_CMD n) (fun c => c.setProf k { c.profAt k with pendCmd := some n, pendStop := n == 2, cmdFirst := false })))
      waits (.jog p k) 1 ∧ waits (.stop p k) 2 ∧ waits (.gearEngage p k) 3 ∧ waits (.gearDisengage p k) 4) ∧
  (∀ (s : State) (p : Path) (k : Nat) (v : BitVec 64), k < 128 → (s.core.pat.slot k).kind ≠ 0 → s.core.deferred = none → s.core.stalls = [] → s.core.strapWait = none →
      Writes s.core p ⟨R.AX_TARGET_LO, k⟩ → Writes s.core p ⟨R.AX_TARGET_HI, k⟩ →
      let a := (⟨R.AX_TARGET_LO, k⟩ : Loc).addr
      let lo : Word := v.extractLsb' 0 32
      let others (c : Core) := c.pendLow.filter (fun w : Path × Nat × Word => !(w.1 = p && w.2.1 = a))
      let c := s.core.wrote s.ram p R.AX_TARGET_LO k lo (fun c => { c with pendLow := others c ++ [(p, a, lo)] })
      exec (.targetWrite p k v) s = .next (s.after (c.wrote s.ram p R.AX_TARGET_HI k (v.extractLsb' 32 32) (fun c =>
        let d := ({ c with pendLow := others c }).set64 R.AX_TARGET_LO R.AX_TARGET_HI k v.toInt
        d.setProf k { d.profAt k with pendTarget := some v.toInt, cmdFirst := (d.profAt k).pendCmd.isSome })))) ∧
  (∀ (c : Core) (k : Nat) (t target : Int), c.tracking k = true ∨ (c.profAt k).ss1 = true →
      c.applyTarget k target t = c.setBit F.AX_PSTAT_TARGET_IGNORED k true ∧ (∀ cmd, 1 ≤ cmd → cmd ≤ 4 → c.applyCmd k cmd t = c.setBit F.AX_PSTAT_CMD_REFUSED k true))

/-- A planned move ends exactly at its target and at rest, from whatever position and velocity it starts (R142, R145). -/
def Obligations.MovesEndAtTheirTarget : Prop :=
  ∀ (t t' pos target : Int) (v vmax acc dec : F32), (planTo t pos v target vmax acc dec).1.ended t' = true → (planTo t pos v target vmax acc dec).1.eval t' = (target, 0, 0)

/-- A write of GR_NUM or of a GR_DEN other than 0 is stored, and while engaged starts the ramp from the ratio in force; a GR_DEN of 0 is discarded and sets DEN_REFUSED. A profile limit is stored, and an invalid one sets PARAM_REFUSED while the valid one stays in force (R143, R155). It states the completion of ratioWrite and profileParamWrite. Where the manual leaves a point open, the model’s choice is log entries 13, 67 and 70. -/
def Obligations.ProfileParameters : Prop :=
  ∀ (s : State) (p : Path) (k : Nat) (v : Word), k < 128 → (s.core.pat.slot k).kind ≠ 0 →
    (Writes s.core p ⟨R.GR_DEN, k⟩ → exec (.ratioWrite p k true 0) s = .next (s.after (s.core.wrote s.ram p R.GR_DEN k 0 (fun c => c.setBit F.GR_STAT_DEN_REFUSED k true)))) ∧
    (Writes s.core p ⟨R.GR_DEN, k⟩ → v ≠ 0 → (s.core.profAt k).engaged = false → exec (.ratioWrite p k true v) s = .next (s.after (s.core.wrote s.ram p R.GR_DEN k v (fun c => c.setReg R.GR_DEN k v)))) ∧
    (Writes s.core p ⟨R.GR_NUM, k⟩ → (s.core.profAt k).engaged = false → exec (.ratioWrite p k false v) s = .next (s.after (s.core.wrote s.ram p R.GR_NUM k v (fun c => c.setReg R.GR_NUM k v)))) ∧
    (∀ r ∈ [R.AX_VMAX, R.AX_ACCEL, R.AX_DECEL, R.AX_SS1_DEC], Writes s.core p ⟨r, k⟩ →
      exec (.profileParamWrite p k (r.base - 0x40100000) v) s = .next (s.after (s.core.wrote s.ram p r k v (fun c => c.writeLimit k r v))) ∧
      (F32.positive v = false → ∀ c : Core, c.writeLimit k r v = (c.setReg r k v).paramRefused k) ∧
      (F32.positive v = true → ∀ c : Core, (c.writeLimit k r v).reg r k = v ∧
        ((c.writeLimit k r v).profAt k).vmaxV = (if r.id = R.AX_VMAX.id then v else (c.profAt k).vmaxV) ∧ ((c.writeLimit k r v).profAt k).accelV = (if r.id = R.AX_ACCEL.id then v else (c.profAt k).accelV) ∧
        ((c.writeLimit k r v).profAt k).decelV = (if r.id = R.AX_DECEL.id then v else (c.profAt k).decelV) ∧ ((c.writeLimit k r v).profAt k).ss1V = (if r.id = R.AX_SS1_DEC.id then v else (c.profAt k).ss1V)))

/-- GO and STOP of an interpolation group wait for the next tick; a MASTER that is a member of a group or geared is refused; at a tick the paths advance, then the slots; then the GO and STOP that waited act, STOP first, and a STOP of a member stops its path; and every used slot publishes its profile (R141, R149–R151). It states the completion of igGo, igStop, igCfgWrite and profileTick. Where the manual leaves a point open, the model’s choice is log entries 13, 65 and 72. -/
def Obligations.InterpolationAndTheTick : Prop :=
  ∀ (s : State) (p : Path) (g : Nat) (v : Word), g < 16 →
    (Writes s.core p ⟨R.IG_CTRL, g⟩ →
      exec (.igGo p g) s = .next (s.after (s.core.wrote s.ram p R.IG_CTRL g (fieldWord F.IG_CTRL_GO 1) (fun c => c.setIg g { c.igAt g with pendGo := true }))) ∧
      exec (.igStop p g) s = .next (s.after (s.core.wrote s.ram p R.IG_CTRL g (fieldWord F.IG_CTRL_STOP 1) (fun c => c.setIg g { c.igAt g with pendStop := true })))) ∧
    (Writes s.core p ⟨R.IG_CFG, g⟩ →
      let m := F.IG_CFG_MASTER.read v
      let r := s.core.pat.slot m
      let bad := m < 128 ∧ r.kind ≠ 0 ∧ (r.ig < 16 ∨ r.gearKind ≠ 0)
      (bad → exec (.igCfgWrite p g v) s = .next (s.after (s.core.wrote s.ram p R.IG_CFG g v (fun c => c.setBit F.IG_STAT_CFG_REFUSED g true)))) ∧
      (¬bad → exec (.igCfgWrite p g v) s = .next (s.after (s.core.wrote s.ram p R.IG_CFG g v (fun c => (c.set F.IG_CFG_MASTER g m).set F.IG_CFG_MDIR g (F.IG_CFG_MDIR.read v)))))) ∧
    (s.core.runs 0x21 = true →
      let t := s.core.profNs
      let stops (g : Nat) := (s.core.igAt g).pendStop || (s.core.igMembers g).any (fun k => (s.core.profAt k).pendStop && !s.core.tracking k && !(s.core.profAt k).ss1)
      let c := foldN (List.range 16) s.core (fun c g => c.igTick t g)
      let c := foldN c.usedSlots c (fun c k => c.slotTick t k)
      let c := foldN (List.range 16) c (fun c g => if stops g then c.stopPath g t else if (s.core.igAt g).pendGo then c.igGo g t else c)
      exec .profileTick s = .next { s with core := foldN c.usedSlots c (fun c k => c.publish k t) })

/-! ### Frames, engines and loops -/

/-- A frame start of a used grid that may open its frame runs Table 1.5's steps up to the engines: but for a Standby's the grid advances, the lanes re-arm and deliver their samples, the ports are sampled, parameters and commits apply, groups and estimators step, duties load and edges are placed, every engine of the grid is started, and the cyclic frames and the records leave; a grid that no slot uses, or that may not open its frame yet, does nothing (R21, R276–R280). As the grid advances, its frame counter counts; a first frame has no debt and no shift; a start no more than four periods late keeps the schedule, with the debt and the planned length of R278, and a later one is anchored anew at a whole microsecond of network time (R276–R280, R291). An engine that runs, whose canaries pass, dispatches its contexts by class, counts the pass and ends its frame; an injected error, a failed canary or a context error fails the check with its cause, and the engine is fenced; one that has not ended by the deadline is marked HANG and fenced; INJECT waits for the next opening canary (R180, R181, R272, R277). It states the completion of frameStart, engineDispatch, engineHang and inject. Where the manual leaves a point open, the model’s choice is log entries 13, 97, 100 and 188. -/
def Obligations.FramesAndEngines : Prop :=
  (∀ (s : State) (p : Nat) (xs : List LaneInput), p < 6 →
      let due := s.core.openAt p
      let t := if s.core.isStandby then due else s.core.frameAt p due
      (s.core.gridUsed p = true → s.core.runs 0x22 = true → s.core.runs 0x26 = true ∨ s.core.islState 0x26 = 5 → s.core.pat.valid = true → s.core.isStandby = false ∨ (s.core.gridAt p).running = true → s.core.mayOpen p s.core.profNs = true →
        let c := s.core.flushOwed s.ram p
        let c := if c.isStandby then c else c.gridAdvance p due
        let c := c.setGrid p { c.gridAt p with stampT := t, stampNet := t + c.time.stepSum, stampEpoch := c.get F.NT_STAT_EPOCH 0 }
        let g := c.gridAt p
        let all := (List.range 96).filter (fun l => (c.gridGroups p).contains (laneGroup l))
        let d := foldN all c (fun c l => c.laneRearm l)
        let words := (xs.filter (fun x => (c.gridGroups p).contains (laneGroup x.lane))).map d.laneWords
        let d := words.foldl (fun c x => match c.laneSlot x.lane with | some k => c.sendWords (0x10 + laneGroup x.lane) (c.hostEngine k) [x.u ++ x.v, x.w ++ x.dc] | none => c) d
        let ran (l : Nat) := periodLens (d.pat.group (laneGroup l)).pwmDiv (periodNs p) g.prevPlan g.prevLen
        let d := words.foldl (fun c x => c.laneSample (ran x.lane).1 (ran x.lane).2 x) d
        let d := (foldN (all.filter (fun l => isSLane l && l % 4 = 0)) d (fun c l => c.spillHolds l (ran l).1)).samplePorts s.ram p t
        let ks := d.gridSlots p
        let d := foldN ks d (fun c k => ((c.latchParams k).applyCommit k).trackActual k t)
        let d := foldN (c.gridGroups p) d (fun c q => c.groupFrame q t)
        let d := foldN ks d (fun c k => ((c.estFrame k (periodNs p / 2)).refreshHold k t).trackActual k t)
        let d := foldN ks (foldN (c.gridLanes p) d (fun c l => ((c.laneMiss l).loadDuties l).placeEdges l g.len)) Core.snapshot
        let d := foldN (d.gridEngines p) d (fun c e => (c.sendPulse 0x26 e 0).setEng e { c.engAt e with done := false })
        exec (.frameStart p xs) s = .next (s.after (((d.canCyclic p).frameRecords p).tryQuery s.ram))) ∧
      (s.core.gridUsed p = false ∨ s.core.mayOpen p s.core.profNs = false → exec (.frameStart p xs) s = .next (s.after s.core))) ∧
  (∀ (c : Core) (p : Nat) (t : Int), p < 6 →
      let g := c.gridAt p
      let d := c.gridAdvance p t
      let n := periodNs p
      let anchor := ((t - 1000 + c.time.stepSum) / 1000 + 1) * 1000 - c.time.stepSum
      (d.gridAt p).running = true ∧
      (g.running = false → (d.gridAt p).start = t ∧ (d.gridAt p).nominal = t ∧ d.reg R.BS_DEBT p = 0 ∧ d.reg R.BS_SHIFT p = 0) ∧
      (g.running = true → d.reg R.BS_FCNT p = c.reg R.BS_FCNT p + 1) ∧
      (g.running = true → g.nominal + n + 4 * n < t → (d.gridAt p).start = anchor ∧ (d.gridAt p).nominal = anchor ∧ d.reg R.BS_DEBT p = 0 ∧ d.reg R.BS_SHIFT p = BitVec.ofInt 32 (anchor.fmod n) ∧ (d.gridAt p).len = n) ∧
      (g.running = true → t ≤ g.nominal + n + 4 * n → (d.gridAt p).start = t ∧ (d.gridAt p).nominal = g.nominal + n ∧ (d.reg R.BS_DEBT p).toNat = (t - (g.nominal + n)).toNat % 2 ^ 32 ∧ (d.gridAt p).len = frameLength n (t - (g.nominal + n)).toNat)) ∧
  (∀ (s : State) (e busy : Nat) (path : Path), e < 16 →
      let p := s.core.get F.BS_ENG_STAT_PERIOD e
      let c := s.core.setBit F.ST_CHECK_INJECT e false
      let ran := (if c.dispatches then c.dispatchOrder e else []).foldl (fun c x => c.dispatch s.ram p x.1 x.2) c
      (s.core.engRuns e = true → Tab.get 0 s.core.woken e = 0 → p < 6 → (s.core.engAt e).done = false → (∀ k ∈ (s.core.engAt e).ctx, s.core.contextWaits k = false) →
        (s.core.bit F.ST_CHECK_INJECT e = true → ∀ canary, exec (.engineDispatch e canary busy) s = .next (s.after ((c.logFrom 0x26 0x0204 e 0).checkFail s.ram e p 1))) ∧
        (s.core.bit F.ST_CHECK_INJECT e = false →
          exec (.engineDispatch e .openFail busy) s = .next (s.after (c.checkFail s.ram e p 1)) ∧ exec (.engineDispatch e .closeFail busy) s = .next (s.after (ran.checkFail s.ram e p 2)) ∧
          exec (.engineDispatch e .contextEcc busy) s = .next (s.after (ran.checkFail s.ram e p 3)) ∧
          (let d := foldN (((if c.dispatches then c.dispatchOrder e else []).filter (fun x => c.runsNow p x.1 x.2)).map (·.2)) (ran.addSat F.ST_CHECK_PASSES e 1) (fun c k => c.setCtx k { c.ctxAt k with copyB := !(c.ctxAt k).copyB })
           let d := d.set F.BS_ENG_STAT_BUSY e (Min.min 0xFFFF (busy * 1000 / ran.engFrame e))
           exec (.engineDispatch e .pass busy) s = .next (s.after ((d.setEng e { d.engAt e with done := true, doneAt := d.profNs + busy }).orderLower e))))) ∧
      (s.core.engRuns e = true → (s.core.engAt e).done = false → exec (.engineHang e) s = .next { s with core := (s.core.setBit F.BS_ENG_STAT_HANG e true).fence e }) ∧
      (Writes s.core path ⟨R.ST_CHECK, e⟩ → exec (.inject path e) s = .next (s.after (s.core.wrote s.ram path R.ST_CHECK e (fieldWord F.ST_CHECK_INJECT 1) (fun c => c.setBit F.ST_CHECK_INJECT e true)))))

/-- A write of a gain, a limit or a motor parameter is stored; a valid one is in force from the next run of its loop, an invalid one sets CFG_REFUSED and leaves the one in force, and a VLO or VHI that would cross the other is discarded (R187, R214). AX_COEF_DATA and AX_PA_DATA reach the entry that the index names, and the index advances with wrap-around; a phase-advance entry that is positive or not finite is discarded and sets CFG_REFUSED. COMMIT waits for the frame start with ORDER and NSTATE, NSTATE held to 1–8. AX_LCFG switches manual operation (R177, R182, R209). It states the completion of loopParamWrite, coefDataAccess, paDataAccess, coefCommit and manSwitch. Where the manual leaves a point open, the model’s choice is log entries 13 and 79. -/
def Obligations.LoopsAreTuned : Prop :=
  (∀ (s : State) (p : Path) (k : Nat) (v : Word), k < 128 → (s.core.pat.slot k).kind ≠ 0 → ∀ r ∈ paramRegs, Writes s.core p ⟨r, k⟩ →
      exec (.loopParamWrite p k (r.base - 0x40100000) v) s = .next (s.after (s.core.wrote s.ram p r k v (fun c => c.writeParam k r v))) ∧
      (∀ c : Core,
        let d := c.writeParam k r v
        let crosses := F32.nonneg v = true ∧ ((r.id = R.AX_SL_VLO.id ∧ F32.le (c.param k R.AX_SL_VHI) v = true) ∨ (r.id = R.AX_SL_VHI.id ∧ F32.le v (c.param k R.AX_SL_VLO) = true))
        (crosses → d = c.setBit F.AX_LSTAT_CFG_REFUSED k true) ∧
        (¬crosses → d.reg r k = v ∧ d.param k r = (if paramValid r v then v else c.param k r) ∧ d.bit F.AX_LSTAT_CFG_REFUSED k = (c.bit F.AX_LSTAT_CFG_REFUSED k || !paramValid r v)))) ∧
  (∀ (s : State) (p : Path) (k : Nat) (v : Word), k < 128 → (s.core.pat.slot k).kind ≠ 0 →
      let i := s.core.get F.AX_COEF_IDX_IDX k
      let j := s.core.get F.AX_PA_WIN_IDX k
      (Writes s.core p ⟨R.AX_COEF_DATA, k⟩ → exec (.coefDataAccess p k (some v)) s = .next (s.after (s.core.wrote s.ram p R.AX_COEF_DATA k v (fun c =>
        (c.setCtx k { c.ctxAt k with shadow := Tab.set 0 (c.ctxAt k).shadow i v }).set F.AX_COEF_IDX_IDX k ((i + 1) % 128))))) ∧
      (Reaches s.core p ⟨R.AX_COEF_DATA, k⟩ true → (∀ e ∈ s.core.hold, Prod.fst e ≠ p) → exec (.coefDataAccess p k none) s =
        .next (s.after (s.core.wasRead s.ram p R.AX_COEF_DATA k (Tab.get 0 (s.core.ctxAt k).shadow i) (fun c => c.set F.AX_COEF_IDX_IDX k ((i + 1) % 128))))) ∧
      (Writes s.core p ⟨R.AX_PA_DATA, k⟩ → F32.positive v = false → F32.finite v = true → exec (.paDataAccess p k (some v)) s = .next (s.after (s.core.wrote s.ram p R.AX_PA_DATA k v (fun c =>
        (c.set F.AX_PA_WIN_IDX k ((j + 1) % 16)).setCtx k { c.ctxAt k with pa := Tab.set 0 (c.ctxAt k).pa j v })))) ∧
      (Writes s.core p ⟨R.AX_PA_DATA, k⟩ → F32.positive v = true ∨ F32.finite v = false → exec (.paDataAccess p k (some v)) s = .next (s.after (s.core.wrote s.ram p R.AX_PA_DATA k v (fun c =>
        (c.set F.AX_PA_WIN_IDX k ((j + 1) % 16)).setBit F.AX_LSTAT_CFG_REFUSED k true)))) ∧
      (Reaches s.core p ⟨R.AX_PA_DATA, k⟩ true → (∀ e ∈ s.core.hold, Prod.fst e ≠ p) → exec (.paDataAccess p k none) s =
        .next (s.after (s.core.wasRead s.ram p R.AX_PA_DATA k (Tab.get 0 (s.core.ctxAt k).pa j) (fun c => c.set F.AX_PA_WIN_IDX k ((j + 1) % 16))))) ∧
      (Writes s.core p ⟨R.AX_COEF_CTRL, k⟩ → exec (.coefCommit p k v) s = .next (s.after (s.core.wrote s.ram p R.AX_COEF_CTRL k (F.AX_COEF_CTRL_COMMIT.write v 1) (fun c =>
        ((((c.set F.AX_COEF_CTRL_NSTATE k (Min.min 8 (Max.max 1 (F.AX_COEF_CTRL_NSTATE.read v)))).set F.AX_COEF_CTRL_ORDER k (F.AX_COEF_CTRL_ORDER.read v)).setBit F.AX_COEF_CTRL_COMMIT k true).setBit
          F.AX_LSTAT_COEF_PENDING k true))))) ∧
      (Writes s.core p ⟨R.AX_LCFG, k⟩ → exec (.manSwitch p k v) s = .next (s.after (s.core.wrote s.ram p R.AX_LCFG k v (fun c => c.writeLcfg k (fun d => d.setReg R.AX_LCFG k (c.taken p R.AX_LCFG k v)))))))

/-- A budget tick decides under the scheduler island alone; the thermal limit ends where every die point reads below 115 °C; a settled operating point is the one ordered, and is counted (R92, R93, R270, R275, R289). It states the completion of budgetTick, thermalClear and opChangeSettled. -/
def Obligations.SchedulerEvents : Prop :=
  ∀ (s : State) (e : Nat), e < 16 →
    (s.core.runs 0x26 = false → exec .budgetTick s = .next s) ∧
    (s.core.runs 0x26 = true →
      let c := s.core.meanPin
      let pin := c.budgetIn.2.2
      let a := c.allowance
      let c := c.setBit F.BS_STAT_STALE_WC 0 (c.sadFailed || c.iinStale || c.stale 7 || (List.range 6).any c.stale)
      let c := (c.set F.BS_ALLOW_P_HEAT 0 (tenMw a.1)).set F.BS_ALLOW_P_ENERGY 0 (match a.2 with | some x => tenMw x | none => 0xFFFF)
      let c := foldN (List.range 16) c (fun c n => (c.setEng n { c.engAt n with forced := (c.engAt n).forced - 1 }).setBit F.BS_ENG_STAT_FORCED n (1 < (c.engAt n).forced))
      let c := c.hotTick.choose true
      let p := c.powerAt (c.get F.BS_STAT_LEVEL 0)
      let ein := c.sched.einUj + (ratTrunc (pin * 1000)).toNat
      let est := c.sched.estUj + (ratTrunc (p * 1000)).toNat
      let c := { c with sched := { c.sched with pLast := p, einUj := ein, estUj := est } }
      let c := (c.set64 R.BS_EIN_LO R.BS_EIN_HI 0 (ein / 1000 : Nat)).set64 R.BS_ESTITCH_LO R.BS_ESTITCH_HI 0 (est / 1000 : Nat)
      exec .budgetTick s = .next { s with core := ((c.set F.BS_PWR_P_IN 0 (tenMw pin)).set F.BS_PWR_P_STITCH 0 (tenMw p)).thermal }) ∧
    (∀ (c : Core) (allow : Rat), c.get F.BS_STAT_LEVEL 0 ≤ 6 →
      let l := (c.raiseLevel allow 6).get F.BS_STAT_LEVEL 0
      c.get F.BS_STAT_LEVEL 0 ≤ l ∧ l ≤ 6 ∧ (l < 6 → (c.raiseLevel allow 6).powerAt l ≤ allow) ∧ (c.get F.BS_STAT_LEVEL 0 < l → allow < (c.set F.BS_STAT_LEVEL 0 (l - 1)).powerAt (l - 1))) ∧
    (s.core.runs 0x26 = true → (∀ i < 6, s.core.tempOf i < 115) → exec .thermalClear s = .next { s with core := { s.core with sched := { s.core.sched with therm := false } }.judge }) ∧
    (∀ i < 6, 115 ≤ s.core.tempOf i → exec .thermalClear s = .next s) ∧
    (s.core.bit F.ST_CLK_CHANGING e = true →
      exec (.opChangeSettled e) s = .next { s with core := ((s.core.set F.ST_CLK_OP e (s.core.get F.BS_ENG_STAT_OP_SET e)).setBit F.ST_CLK_CHANGING e false).addSat F.ST_CLK_CHANGES e 1 }) ∧
    (s.core.bit F.ST_CLK_CHANGING e = false → exec (.opChangeSettled e) s = .next s)

/-! ### Lanes and ports -/

/-- The causes that disable a lane: its FAULT_N line, a silent converter on an F-lane, an overcurrent where a limit is set, and the last retry of a sensorless start; on a lane that this module drives and that is not yet disabled, FAULT and CAUSE are set and the disable is counted (R219, R220). CLEAR waits for the frame start, or is refused while its cause is live. A sensorless start that waits begins its next attempt, with IPD; an attempt that fails is retried, or with no retry left disables its lane with cause 6 (R215). It states the completion of laneFaultN, sdLost, overcurrent, laneClear and slRetryWait. Where the manual leaves a point open, the model’s choice is log entries 13 and 81. -/
def Obligations.LanesStop : Prop :=
  (∀ (s : State) (l : Nat) (p : Path), l < 96 →
      (s.core.runs (0x10 + laneGroup l) = true →
        exec (.laneFaultN l) s = .next { s with core := ((s.core.setLane l { s.core.laneAt l with faultHeld := true, faultLow := true }).setBit F.LN_STAT_FAULT_N_LIVE l true).laneDisable l 1 }) ∧
      (isSLane l = false → exec (.sdLost l) s = .next { s with core := (s.core.setLane l { s.core.laneAt l with sdSilent := true }).laneDisable l 3 }) ∧
      (isSLane l = true → exec (.sdLost l) s = .next s) ∧
      (F32.isZero (s.core.reg R.LN_OC_LIM l) = false → exec (.overcurrent l) s = .next { s with core := s.core.laneDisable l 2 }) ∧
      (F32.isZero (s.core.reg R.LN_OC_LIM l) = true → exec (.overcurrent l) s = .next s) ∧
      (Writes s.core p ⟨R.LN_CTRL, l⟩ → exec (.laneClear p l) s = .next (s.after (s.core.wrote s.ram p R.LN_CTRL l (fieldWord F.LN_CTRL_CLEAR 1) (fun c =>
        if c.bit F.LN_STAT_FAULT l = false then c
        else if (c.get F.LN_STAT_CAUSE l = 1 ∧ c.bit F.LN_STAT_FAULT_N_LIVE l = true) ∨ (c.get F.LN_STAT_CAUSE l = 3 ∧ (c.laneAt l).sdSilent = true) then c.setBit F.LN_STAT_CLEAR_REFUSED l true
        else c.setLane l { c.laneAt l with clearPend := true })))) ∧
      (∀ (c : Core) (cause : Nat), c.bit F.LN_STAT_FAULT l = false → c.runs (0x10 + laneGroup l) = true → c.drives (laneGroup l) = true → cause < 8 →
        (c.laneDisable l cause).bit F.LN_STAT_FAULT l = true ∧ (c.laneDisable l cause).get F.LN_STAT_CAUSE l = cause ∧ (c.laneDisable l cause).get F.LN_FAULTS_COUNT l = (c.addSat F.LN_FAULTS_COUNT l 1).get F.LN_FAULTS_COUNT l)) ∧
  (∀ (s : State) (k : Nat), k < 128 → (s.core.estAt k).waiting = true → s.core.startsUp k = true →
      let c := s.core.setEst k { s.core.estAt k with retries := (s.core.estAt k).retries + 1, frame := 0, cfg := s.core.reg R.AX_SL_CFG k, probe := [], pulses := [], waiting := false, restart := false, again := false, back := 0, backFrames := 0, excess := 0 }
      exec (.slRetryWait k) s = .next { s with core := (c.set F.AX_SL_STAT_STATE k 2).addSat F.AX_SL_STAT_TRIES k 1 }) ∧
  (∀ (c : Core) (k : Nat) (flag : Fld),
      let d := (c.setBit flag k true).clearLoop k
      let e := d.estAt k
      c.estFail k flag = if F.AX_SL_CFG_RETRIES.read e.cfg ≤ e.retries then d.laneDisable (d.pat.slot k).res 6
        else (d.set F.AX_SL_STAT_STATE k 2).setEst k { e with waiting := true, restart := false, again := false, probe := [], pulses := [] })

/-- An ABZ port counts a forward transition as +1 and a backward one as −1, and a change of both lines at once faults it with cause 1; unchanged lines count nothing, and before its first edge the lines are as the pins held them. A Hall port counts a step to a neighbouring state, and any other as an error, which marks its reading; a first edge fixes the reference of an ABZ count that needs it (R207, R231, R237; the pins' levels at the start are a free value, log entry 178). The repeat outputs that pass the port on follow. One counted edge moves the position of its port by one count, up, or down where DIR reverses it, through the wrap of ST into MT (R231, Table 9.3). It states the completion of encoderEdge. -/
def Obligations.EncodersCount : Prop :=
  (∀ (s : State) (p : Nat) (lines : BitVec 3), p < 48 → s.core.runs 0x20 = true →
      let old := if (s.core.portAt p).linesKnown then (s.core.portAt p).lines else Config.pinLevels p
      let d := s.core.setPort p { s.core.portAt p with lines := lines, linesKnown := true }
      let c := foldN (d.repeatsOf p) d Core.passLevel
      let turn := (quadPhase lines + 4 - quadPhase old) % 4
      (s.core.portType p = 1 →
        (turn = 0 → exec (.encoderEdge p lines) s = .next { s with core := c }) ∧ (turn = 1 → exec (.encoderEdge p lines) s = .next { s with core := c.edge p true }) ∧
        (turn = 3 → exec (.encoderEdge p lines) s = .next { s with core := c.edge p false }) ∧ (turn = 2 → exec (.encoderEdge p lines) s = .next { s with core := c.portFault p 1 })) ∧
      (∀ a b, s.core.portType p = 2 → hallSector old = some a → hallSector lines = some b →
        (a = b → exec (.encoderEdge p lines) s = .next { s with core := c }) ∧
        (a ≠ b → (a + 1) % 6 = b → exec (.encoderEdge p lines) s = .next { s with core := (c.edge p true).hallReference p (hallEdge b true) }) ∧
        (a ≠ b → (a + 1) % 6 ≠ b → (b + 1) % 6 = a → exec (.encoderEdge p lines) s = .next { s with core := (c.edge p false).hallReference p (hallEdge b false) }) ∧
        (a ≠ b → (a + 1) % 6 ≠ b → (b + 1) % 6 ≠ a → exec (.encoderEdge p lines) s = .next { s with core := (c.setPort p { c.portAt p with skipped := true }).readingError p 5 }))) ∧
  (∀ (c : Core) (p : Nat) (up : Bool), (c.portAt p).st < c.portN p → -(2 ^ 31) < (c.portAt p).mt → (c.portAt p).mt < 2 ^ 31 - 1 → c.portType p ≤ 2 →
      let pos (c : Core) : Int := (c.portAt p).mt * c.portN p + (c.portAt p).st
      pos (c.countEdge p up) = pos c + (if up then 1 else -1) ∧ ((c.countEdge p up).portAt p).st < c.portN p)

/-- What faults a port and what clears it: a persistent error faults it, with its cause shown and the fault counted; a CLEAR of a per-reading cause ends the fault, and one of a persistent cause waits for the next sample where the cause is absent, as a resolver's own checks say of its causes, and is refused where it is not; REF_OK clears REF_LOST (R241, R242). That the environment says whether another port's cause is absent is the model's choice (log entry 5). FB_CPR is discarded on serial and resolver ports, refused while a naming slot is out of STO, and else held to 2–2^31 and applied at the next sample; FB_SER follows R227 (R227, R230). It states the completion of portPersistentError, portClear, refOk, cprWrite and serWrite. Where the manual leaves a point open, the model’s choice is log entry 13. -/
def Obligations.PortsFaultAndTakeTheirSettings : Prop :=
  (∀ (s : State) (p cause : Nat) (path : Path) (absent : Bool), p < 56 →
      (s.core.runs 0x20 = true → causeApplies (s.core.portType p) cause = true → s.core.suppressed cause = false → exec (.portPersistentError p cause) s = .next { s with core := s.core.portFault p cause }) ∧
      (Writes s.core path ⟨R.FB_CTRL, p⟩ →
        exec (.portClear path p absent) s = .next (s.after (s.core.wrote s.ram path R.FB_CTRL p (fieldWord F.FB_CTRL_CLEAR 1) (fun c =>
          if c.bit F.FB_STAT_FAULT p = false then c
          else if persistentCause (c.get F.FB_STAT_CAUSE p) = false then c.portOk p
          else if (c.portType p ≠ 6 ∧ absent = true) ∨ (c.portType p = 6 ∧ Tab.get 0 (c.portAt p).runs (c.get F.FB_STAT_CAUSE p) = 0) then c.setPort p { c.portAt p with clearPend := true }
          else c.setBit F.FB_STAT_CFG_REFUSED p true))) ∧
        exec (.refOk path p) s = .next (s.after (s.core.wrote s.ram path R.FB_CTRL p (fieldWord F.FB_CTRL_REF_OK 1) (fun c => c.setBit F.FB_STAT_REF_LOST p false)))) ∧
      (∀ c : Core, c.bit F.FB_STAT_FAULT p = false → cause < 16 →
        (c.portFault p cause).bit F.FB_STAT_FAULT p = true ∧ (c.portFault p cause).get F.FB_STAT_CAUSE p = cause ∧ (c.portFault p cause).get F.FB_CNT_FAULTS p = (c.addSat F.FB_CNT_FAULTS p 1).get F.FB_CNT_FAULTS p) ∧
      (∀ c : Core, (c.portOk p).bit F.FB_STAT_FAULT p = false ∧ (c.portOk p).get F.FB_STAT_CAUSE p = 0)) ∧
  (∀ (s : State) (p : Nat) (path : Path) (v : Word), p < 56 →
      (Writes s.core path ⟨R.FB_CPR, p⟩ →
        (s.core.portInUse p = true → s.core.portType p ≤ 2 → exec (.cprWrite path p v) s = .next (s.after (s.core.wrote s.ram path R.FB_CPR p v (fun c => c.setBit F.FB_STAT_CFG_REFUSED p true)))) ∧
        (s.core.portInUse p = false → s.core.portType p ≤ 2 →
          let n := Max.max 2 (Min.min v.toNat (2 ^ 31))
          exec (.cprWrite path p v) s = .next (s.after (s.core.wrote s.ram path R.FB_CPR p v (fun c => (c.setReg R.FB_CPR p (BitVec.ofNat 32 n)).setPort p { c.portAt p with pendN := some n })))) ∧
        (serialType (s.core.portType p) = true ∨ s.core.portType p = 6 → exec (.cprWrite path p v) s = .next (s.after (s.core.wrote s.ram path R.FB_CPR p v id)))) ∧
      (Writes s.core path ⟨R.FB_SER, p⟩ → serialType (s.core.portType p) = true →
        exec (.serWrite path p v) s = .next (s.after (s.core.wrote s.ram path R.FB_SER p v (fun c =>
          let m := c.stores path R.FB_SER p &&& c.portMask R.FB_SER p
          c.writeSer p ((c.reg R.FB_SER p &&& ~~~m) ||| (v &&& m))))) ∧
        (F.FB_SER_ST_BITS.read v = 0 ∨ 31 < F.FB_SER_ST_BITS.read v ∨ 32 < F.FB_SER_MT_BITS.read v ∨ 48 < F.FB_SER_ST_BITS.read v + F.FB_SER_MT_BITS.read v →
          ∀ c : Core, c.portType p = s.core.portType p → c.writeSer p v = c.setBit F.FB_STAT_CFG_REFUSED p true)))

/-- The transaction that runs at a serial port completes: WARN follows nW, a reading without error becomes the port's position and the sample of its poll stamp, or is marked SLOW where it came late; one with an error, or with a jump above FB_JUMP, counts as such; a high data line faults an SSI port; and the frames that waited go on (R225–R234, R241). A poll starts the transaction LATCH before its poll stamp, with its CRC and clock, which only a module that drives shows; a poll that no slot's frame asks for samples the port; none is made of a port that Sleep stops. The sample-cycle stamp samples an unreferenced port; a speed that times out reads 0 until the next edge (R227, R232, R233, R236, R240, R245). A resolver's samples of 1 µs enter its history, from which the angle is demodulated, checked and tracked (R228, R241; what demodulates, and the rounding, is the model's free value, log entry 6); a repeat output of a serial port emits at most 10 counts of what it owes, and keeps the rest as LAG, logged above 1,024 (R237). It states the completion of serialReading, serialPoll, sampleCycleStamp, speedZeroTimeout, resolverTrack and repeatUpdate. -/
def Obligations.PortsReadTheirSensors : Prop :=
  (∀ (s : State) (p : Nat) (r : SerialReading) (run : SerialRun), p < 48 → s.core.runs 0x20 = true →
      let q := s.core.portAt p
      (serialType (s.core.portType p) = true → q.run = some run →
        let new := s.core.extendReading p r
        let jump := (s.core.reg R.FB_JUMP p).toNat
        let cause := if s.core.readingCause p run.crc r = 0 ∧ jump ≠ 0 ∧ q.first = false ∧ jump < (new.2.1 * 2 ^ s.core.get F.FB_SER_ST_BITS p + new.1 - q.goodPos).natAbs then 11 else s.core.readingCause p run.crc r
        let c := s.core.setPort p { q with run := none }
        let c := if s.core.portType p = 5 ∧ r.ack = true ∧ r.start = true ∧ r.nW = false ∧ s.core.bit F.FB_STAT_WARN p = false then (c.setBit F.FB_STAT_WARN p true).logFrom 0x20 0x0502 p 0 else c
        let c := if cause ≠ 0 then c.readingError p cause else c.goodReading p new.1 new.2.1 new.2.2 run.stamp (s.core.pollSlow p run)
        exec (.serialReading p r) s = .next (s.after ((if c.portType p ≠ 5 && !r.dataHigh && !c.suppressed 2 then c.portFault p 2 else c).endWait s.ram p))) ∧
      (serialType (s.core.portType p) = true → s.core.sleepStopped p = false → s.core.isLead = false ∨ s.core.drivesPorts = true →
        let t := s.core.profNs + 10 * s.core.get F.FB_SER_LATCH p
        let c := s.core.setPort p { q with run := some ⟨t, s.core.profNs, s.core.get F.FB_SER_CRC p⟩ }
        let c := if s.core.drivesPorts then c.emit (.serialClock p (s.core.get F.FB_SER_CLKDIV p)) else c
        exec (.serialPoll p) s = .next { s with core := if s.core.portSlots p = [] then c.samplePort p t else c }) ∧
      (s.core.sleepStopped p = true → exec (.serialPoll p) s = .next s) ∧
      (s.core.portSlots p = [] → serialType (s.core.portType p) = false → exec (.sampleCycleStamp p) s = .next { s with core := s.core.samplePort p s.core.profNs }) ∧
      (s.core.portSlots p ≠ [] → exec (.sampleCycleStamp p) s = .next s) ∧
      exec (.speedZeroTimeout p) s = .next { s with core := s.core.setPort p { q with stopped := true } }) ∧
  (∀ (s : State) (p : Nat) (sinS cosS excS : BitVec 16), s.core.runs 0x20 = true →
      (p < 56 → s.core.portType p = 6 → s.core.sleepStopped p = false →
        let q := s.core.portAt p
        let hist := ((sinS, cosS, excS) :: q.hist).take 100
        let rises := ∃ h ∈ q.hist.head?, h.2.2.toInt < 0 ∧ 0 ≤ excS.toInt
        let phase := s.core.get F.FB_RES_PHASE p
        let y := Config.resolverSin hist phase
        let x := Config.resolverCos hist phase
        (rises → exec (.resolverTrack p sinS cosS excS) s = .next { s with core := ((s.core.setPort p { q with hist := hist, excZero := some s.core.profNs }).resolverCheck p (x * x + y * y)).resolverStep p (Config.atan2 (F32.ofInt y) (F32.ofInt x)) }) ∧
        (¬rises → exec (.resolverTrack p sinS cosS excS) s = .next { s with core := ((s.core.setPort p { q with hist := hist }).resolverCheck p (x * x + y * y)).resolverStep p (Config.atan2 (F32.ofInt y) (F32.ofInt x)) })) ∧
      (p < 8 → (s.core.pat.port (56 + p)).type = 7 → serialType (s.core.portType (s.core.pat.port (56 + p)).src) = true →
        let a := s.core.repAt p
        let owed := (s.core.serialAt (s.core.pat.port (56 + p)).src s.core.profNs).1.tdiv (2 ^ s.core.get F.Q_CFG_DIV p) - a.count
        let n := clampInt owed (-10) 10
        let lag := (owed - n).natAbs
        let c := ((s.core.setRep p { a with count := a.count + n, owed := if s.core.lossGap then a.owed + n else a.owed }).set F.Q_STAT_LAG p (Min.min lag 0xFFFF)).setBit F.Q_STAT_MODE p true
        let c := if 1024 < lag ∧ s.core.bit F.Q_STAT_OVERRUN p = false then (c.setBit F.Q_STAT_OVERRUN p true).logFrom 0x20 0x0515 p lag else c
        exec (.repeatUpdate p) s = .next { s with core := if c.isLead then c.emitSteps p a.count n else c })) ∧
  (∀ (c : Core) (p st em : Nat) (mt stamp : Int), 2 ^ c.get F.FB_SER_ST_BITS p < 2 ^ 48 →
      let n := 2 ^ c.get F.FB_SER_ST_BITS p
      let m := (BitVec.ofInt 32 mt).toInt
      let d := c.goodReading p st mt em stamp true
      (d.portAt p).goodPos = m * n + st ∧ (d.portAt p).goodT = stamp ∧ (d.portAt p).good = true ∧ (d.portAt p).errRun = 0 ∧ d.bit F.FB_STAT_SLOW p = true)

/-! ### Network time and gPTP -/

/-- More than 4 steps within 60 s set STEP_STORM, which is logged once per storm, and steps continue; a SET of 1,000,000,000 ns or more is discarded and sets SET_REFUSED (R267). -/
def Obligations.StepStorms : Prop :=
  ∀ (c : Core) (delta : Int),
    let now := c.profNs
    let recent := (now :: c.time.stepTimes).filter (fun x => decide (now - x ≤ 60000000000))
    let d := { c with time := { c.time.setNs (c.netNs + delta) with stepSum := c.time.stepSum + delta, stepTimes := recent.take 8, storm := decide (4 < recent.length) } }
    let d := ((d.addWrap F.NT_STAT_EPOCH 0 1).addSat F.NT_CNT_STEPS 0 1).logFrom 0x22 0x0205 noSrc (BitVec.ofInt 32 delta).toNat
    let d := foldN d.usedSlots d (fun c k => c.setRing k { c.ringAt k with discont := true })
    (recent.length ≤ 4 → c.stepTime delta = d) ∧ (4 < recent.length → c.time.storm = true → c.stepTime delta = d.setBit F.NT_STAT_STEP_STORM 0 true) ∧
    (4 < recent.length → c.time.storm = false → c.stepTime delta = (d.setBit F.NT_STAT_STEP_STORM 0 true).logFrom 0x22 0x0206 noSrc 0) ∧
    (1000000000 ≤ (c.reg R.NT_SET_NS 0).toNat → c.ntSet = c.setBit F.NT_STAT_SET_REFUSED 0 true)

/-- A step of network time leaves profile time continuous: the sum of the steps takes what network time gains (R139, R251). A write of NT_CTRL.SET steps network time to the staged value; the backup copy keeps time in 1/32,768 s; holdover clears SYNCED and is logged, a lost link clears AS_CAPABLE as well, a link that returns is known, and both elect the grandmaster anew (R251, R257, R266, R268). It states the completion of ntSet, backupTimeCopy, timeHoldover, e0LinkLoss and e0LinkUp. Where the manual leaves a point open, the model’s choice is log entries 13, 93 and 96. -/
def Obligations.TimeChanges : Prop :=
  (∀ (c : Core) (delta : Int), 0 ≤ c.netNs + delta → c.netNs + delta < 2 ^ 48 * 1000000000 →
      (c.stepTime delta).profNs = c.profNs ∧ (c.stepTime delta).netNs = c.netNs + delta ∧ (c.ntSet.profNs = c.profNs)) ∧
  (∀ (s : State) (p : Path),
      (Writes s.core p ⟨R.NT_CTRL, 0⟩ → exec (.ntSet p) s = .next (s.after (s.core.wrote s.ram p R.NT_CTRL 0 (fieldWord F.NT_CTRL_SET 1) Core.ntSet))) ∧
      (s.core.runs 0x22 = true →
        let held (c : Core) := { c.setBit F.NT_STAT_SYNCED 0 false with time := { c.time with good := 0 } }.logFrom 0x22 0x0107 noSrc 0
        exec .backupTimeCopy s = .next { s with core := { s.core with backSec := s.core.time.sec, backSub := s.core.time.ns * 32768 / 1000000000, backPhase := 0, backKept := true } } ∧
        exec .timeHoldover s = .next { s with core := held s.core } ∧
        exec .e0LinkLoss s = .next { s with core := held ({ s.core with time := { s.core.time with e0Link := false } }.bmca.setBit F.NT_STAT_AS_CAPABLE 0 false) }) ∧
      exec .e0LinkUp s = .next { s with core := { s.core with time := { s.core.time with e0Link := true } }.bmca })

/-- gPTP on E0: a one-step Sync of the followed master is a sample of the offset, a two-step one waits for its Follow_Up, Announces elect the grandmaster, a Pdelay exchange measures the link, requests are answered, Signaling and frames of another domain are discarded, the latter counted (R253–R256). What the module sends on E0: path-delay requests with a new sequence number and their egress stamp kept, and as grandmaster Sync frames with their egress stamp and Announces; the response of the open request gives the mean link delay, and AS_CAPABLE at 800 ns or less. The neighbour rate ratio it measures is a free value (R253, R255, R256; log entry 7). The servo shows the offset; as grandmaster or disabled it does no more; beyond 1 ms it steps network time, and else it trims by R254's law, and 8 offsets below 1 µs in a row set SYNCED (R254). It states the completion of ptpSync, ptpFollowUp, ptpAnnounce, pdelayReqRx, ptpForeignFrame, ptpSignaling, announceTimeout, pdelayReqTx, gmSyncTx, gmAnnounceTx and pdelayRespRx. -/
def Obligations.Gptp : Prop :=
  (∀ (s : State) (m : PtpSync) (a : PtpAnnounce) (d : PtpPdelay), s.core.ptpOn = true →
      (m.hdr.domain = 0 → s.core.follows m.hdr.clockId = true →
        let offset (c : Core) (at_ : Rat) : Rat := at_ - (((m.sec * 1000000000 + m.ns : Nat) : Rat) + (m.hdr.corr : Rat) / 65536 + c.time.delay * ((1 + (m.rateOffset : Rat) / 2 ^ 41) * c.time.rate))
        (m.hdr.twoStep = false → exec (.ptpSync m) s = .next { s with core := s.core.servo (offset s.core s.core.ingress) (pow2 m.hdr.logInterval) }) ∧
        (m.hdr.twoStep = true → exec (.ptpSync m) s = .next { s with core := { s.core with time := { s.core.time with syncPend := some (m.hdr.seq, ratRne (s.core.ingress * 65536)) } } }) ∧
        (∀ t, s.core.time.syncPend = some (m.hdr.seq, t) →
          exec (.ptpFollowUp m) s = .next { s with core := { s.core with time := { s.core.time with syncPend := none } }.servo (offset s.core ((t : Rat) / 65536)) (pow2 m.hdr.logInterval) })) ∧
      (a.hdr.domain = 0 →
        (s.core.time.master = none ∨ s.core.time.masterClock = a.hdr.clockId →
          exec (.ptpAnnounce a) s = .next { s with core := { s.core with time := { s.core.time with master := some (announceVector a), masterClock := a.hdr.clockId } }.bmca }) ∧
        (∀ w, s.core.time.master = some w → s.core.time.masterClock ≠ a.hdr.clockId → vectorLt (announceVector a) w = false → exec (.ptpAnnounce a) s = .next { s with core := s.core.bmca })) ∧
      (d.hdr.domain = 0 → exec (.pdelayReqRx d) s = .next { s with core := s.core.emit (.ptp 3 d.hdr.seq 0 ((s.core.get F.NT_LAT_RX_LAT 0 + s.core.get F.NT_LAT_TX_LAT 0) * 65536)) }) ∧
      (d.hdr.domain ≠ 0 → exec (.pdelayReqRx d) s = .next { s with core := s.core.addSat F.NT_CNT_FOREIGN 0 1 }) ∧
      exec .ptpForeignFrame s = .next { s with core := s.core.addSat F.NT_CNT_FOREIGN 0 1 } ∧ exec .ptpSignaling s = .next s ∧
      exec .announceTimeout s = .next { s with core := { s.core with time := { s.core.time with master := none } }.bmca }) ∧
  (∀ (s : State) (d : PtpPdelay) (t1 : Int), s.core.ptpOn = true →
      let seq := (s.core.time.pdelaySeq + 1) % 65536
      let n := s.core.netNs + s.core.get F.NT_LAT_TX_LAT 0
      exec .pdelayReqTx s = .next { s with core := { s.core with time := { s.core.time with pdelaySeq := seq, pdelayTx := some (n * 65536 + (s.core.time.frac / 65536 : Nat)) } }.emit (.ptp 2 seq 0 0) } ∧
      (s.core.bit F.NT_STAT_GM 0 = true →
        exec .gmSyncTx s = .next { s with core := { s.core with time := { s.core.time with seqTx := (s.core.time.seqTx + 1) % 65536 } }.emit (.ptp 0 (n.fdiv 1000000000).toNat (n.fmod 1000000000).toNat (s.core.time.frac / 65536)) } ∧
        exec .gmAnnounceTx s = .next { s with core := s.core.emit (.announce [s.core.get F.NT_PTP_CFG_PRIO1 0, 248, 0xFE, Config.ptpFree 0, s.core.get F.NT_PTP_CFG_PRIO2 0, Config.ptpFree 1, 0, Config.ptpFree 1, 1]) }) ∧
      (d.hdr.domain = 0 → s.core.time.pdelayTx = some t1 → d.hdr.seq = s.core.time.pdelaySeq → s.core.bit F.NT_STAT_AS_CAPABLE 0 = false →
        let delay : Rat := ((s.core.ingress - (t1 : Rat) / 65536) * s.core.time.rate - (d.hdr.corr : Rat) / 65536) / 2
        let c := { s.core with time := { s.core.time with delay := delay, pdelayTx := none, rate := Config.neighborRate s.core.freeIdx }, freeIdx := s.core.freeIdx + 1 }
        exec (.pdelayRespRx d) s = .next { s with core := (c.setReg R.NT_PDELAY 0 (BitVec.ofInt 32 (ratRne delay))).setBit F.NT_STAT_AS_CAPABLE 0 (decide (delay ≤ 800)) })) ∧
  (∀ (c : Core) (o t : Rat),
      let d := c.setReg R.NT_OFFSET 0 (BitVec.ofInt 32 (clampInt (ratRne o) (-(2 ^ 31)) (2 ^ 31 - 1)))
      let far := 1000000 < o ∨ o < -1000000
      (c.bit F.NT_PTP_CFG_SERVO_EN 0 = false ∨ c.bit F.NT_STAT_GM 0 = true → c.servo o t = d) ∧
      (c.bit F.NT_PTP_CFG_SERVO_EN 0 = true → c.bit F.NT_STAT_GM 0 = false → far → c.time.setClk ≠ some c.time.clocks →
        (c.servo o t).netNs = (d.stepTime (-(ratRne o))).netNs ∧ (c.servo o t).bit F.NT_STAT_SYNCED 0 = false ∧ (c.servo o t).bit F.NT_STAT_TIME_VALID 0 = true ∧ (c.servo o t).time.integ = 0 ∧ (c.servo o t).time.good = 0) ∧
      (c.bit F.NT_PTP_CFG_SERVO_EN 0 = true → c.bit F.NT_STAT_GM 0 = false → ¬far →
        let integ := c.time.integ + 3 / 10 * o
        let raw := -(7 / 10 * o + integ) / t
        let ppb : Rat := if raw < -200000 then -200000 else if 200000 < raw then 200000 else raw
        (c.servo o t).time.integ = integ ∧ (c.servo o t).reg R.NT_ADJ 0 = BitVec.ofInt 32 (clampInt (ratRne (ppb * (3436 / 100))) (-34359738) 34359738) ∧
        (c.servo o t).time.good = (if -1000 < o ∧ o < 1000 then Min.min (c.time.good + 1) 8 else 0) ∧
        (-1000 < o → o < 1000 → 7 ≤ c.time.good → (c.servo o t).bit F.NT_STAT_SYNCED 0 = true)))

/-! ### Stamps and captures -/

/-- An edge of a direct input that CP_DI_CFG selects, with supply present, is stamped less its filter delay and COMP; a full FIFO drops it and sets OVERRUN; the stamp is offered to the captures that IO_MAP gives the input and may wake the module, and the limits follow the level; with the supply missing the level is held; POP takes the oldest stamp (R261, R263, R315, R318, R323, R402). It states the completion of diEdge and diPop. Where the manual leaves a point open, the model’s choice is log entries 13 and 105. -/
def Obligations.DirectInputsStamp : Prop :=
  ∀ (s : State) (n : Nat) (level : Bool) (p : Path), n < 16 →
    let d := s.core.diAt n
    let lv := level != s.core.bit F.FI_DI_CFG_INV n
    (s.core.runs 0x22 = true → s.core.bit F.FI_SUPPLY_MISSING 0 = true → exec (.diEdge n level) s = .next { s with core := s.core.setDi n { d with raw := level } }) ∧
    (s.core.runs 0x22 = true → s.core.bit F.FI_SUPPLY_MISSING 0 = false → level = d.level → exec (.diEdge n level) s = .next { s with core := s.core.setDi n { d with raw := level } }) ∧
    (s.core.runs 0x22 = true → s.core.bit F.FI_SUPPLY_MISSING 0 = false → level ≠ d.level →
      let st := s.core.stampBefore (diFilter (s.core.get F.FI_DI_CFG_FILT n) + s.core.get F.CP_DI_CFG_COMP n) lv
      let sel := edgeSelected (s.core.get F.CP_DI_CFG_EDGE n) lv
      let c := s.core.setDi n { d with raw := level, level := level, fifo := if sel && decide (d.fifo.length < 4) then d.fifo ++ [st] else d.fifo }
      let c := (if sel && decide (4 ≤ d.fifo.length) then c.setBit F.CP_DI_STAT_OVERRUN n true else c).refreshLimits
      let c := if sel then (c.captureFrom 0 (c.mapped 0 n 1) st).captureFrom 1 (c.mapped 0 n 2) st else c
      exec (.diEdge n level) s = .next { s with core := if sel && (c.get F.PW_WAKE_DI_MASK 0).testBit n then c.wakeBy 8 else c }) ∧
    (Writes s.core p ⟨R.CP_DI_STAT, n⟩ → exec (.diPop p n) s = .next (s.after (s.core.wrote s.ram p R.CP_DI_STAT n (fieldWord F.CP_DI_STAT_POP 1) (fun c => c.setDi n { c.diAt n with fifo := (c.diAt n).fifo.drop 1 }))))

/-- A Z edge of a running ABZ port is stamped in CP_Z and offered to the captures of the slots of the port; a write of CP_ARM arms or disarms a slot's capture and discards one that waits; the profile ring of every virtual and step slot takes an entry at each tick of the rings (R224, R260, R263, R265). A capture whose entry after the stamp exists is done with its reconstruction; one, or the host's query, that waits for 1 s ends with TIMEOUT, or with TOO_OLD where its ring was emptied after the stamp; GO of CP_Q starts the query at the stamp the host wrote, in the epoch in force unless EPOCH_SET gives one, and one too far from the present is TOO_OLD at once (R262–R264, R453). It states the completion of zEdge, captureArm, ringTick, capture, reconTimeout and captureQuery. Where the manual leaves a point open, the model’s choice is log entries 13 and 95. -/
def Obligations.Captures : Prop :=
  (∀ (s : State) (port k : Nat) (p : Path) (v : Word),
      (port < 48 → s.core.portType port = 1 → s.core.runs 0x20 = true → s.core.runs 0x22 = true →
        let c := (s.core.setReg R.CP_Z_NS port (BitVec.ofNat 32 s.core.time.ns)).setReg R.CP_Z_SEC port (BitVec.ofNat 32 s.core.time.sec)
        exec (.zEdge port) s = .next { s with core := c.captureFrom 2 (c.fb1Slots port) (c.stampNow true) }) ∧
      (k < 128 → Writes s.core p ⟨R.CP_ARM, k⟩ →
        let arm := F.CP_ARM_ARM.read v == 1
        exec (.captureArm p k v) s = .next (s.after (s.core.wrote s.ram p R.CP_ARM k v (fun c =>
          let r := c.ringAt k
          let d := if r.cap.isSome then c.setBit F.CP_RES_STAT_DISCARDED k true else c
          let d := ((d.set F.CP_ARM_SRC k (F.CP_ARM_SRC.read v)).set F.CP_ARM_EDGE k (F.CP_ARM_EDGE.read v)).setBit F.CP_ARM_ARM k arm
          let d := if arm then d.set F.CP_RES_STAT_EXTRA k 0 else d
          d.setRing k { r with cap := none, armedAt := d.netNs, caught := r.caught && !arm })))) ∧
      (s.core.runs 0x22 = true → s.core.runs 0x21 = true →
        exec .ringTick s = .next (s.after (foldN (s.core.usedSlots.filter (fun k => (s.core.pat.slot k).kind = 2 || (s.core.pat.slot k).kind = 4)) s.core
          (fun c k => c.ringWrite s.ram k c.netNs (c.get F.NT_STAT_EPOCH 0) (c.profileAt k c.profNs).1 false false false))))) ∧
  (∀ (s : State) (k : Nat) (p : Path) (v : Word), k < 128 →
      let ends (st : Stamp) (r : Recon) : State :=
        let c := ((s.core.setRing k { s.core.ringAt k with cap := none }).setReg R.CP_RES_NS k (BitVec.ofNat 32 st.ns)).setReg R.CP_RES_SEC k (BitVec.ofNat 32 st.sec)
        let c := if r.code = 0 then c.set64 R.CP_RES_POS_LO R.CP_RES_POS_HI k r.pos else c
        s.after ((((c.set F.CP_RES_STAT_RESULT k r.code).setBit F.CP_RES_STAT_APPROX k r.approx).setBit F.CP_RES_STAT_DONE k true).logFrom 0x22 0x050C k r.code)
      let late (j : Nat) (st : Stamp) := if (s.core.ringAt j).fill = 0 ∧ st.toNs < (s.core.ringAt j).emptyT.getD s.core.time.startNet then 1 else 4
      (∀ st r, (s.core.ringAt k).cap = some st → s.core.reconstruct s.ram k st = some r → exec (.capture k) s = .next (ends st r)) ∧
      (∀ st, (s.core.ringAt k).cap = some st → s.core.reconstruct s.ram k st = none → exec (.capture k) s = .next (s.after s.core) ∧ exec (.reconTimeout (some k)) s = .next (ends st { code := late k st })) ∧
      (∀ q, s.core.query = some q → exec (.reconTimeout none) s = .next (s.after (({ s.core with query := none }.setBit F.CP_Q_STAT_BUSY 0 false).set F.CP_Q_STAT_RESULT 0 (late q.slot q.stamp)))) ∧
      (Writes s.core p ⟨R.CP_Q_CTRL, 0⟩ →
        let w := F.CP_Q_CTRL_GO.write v 1
        exec (.captureQuery p v) s = .next (s.after (s.core.wrote s.ram p R.CP_Q_CTRL 0 w (fun c =>
          let c := c.setReg R.CP_Q_CTRL 0 (c.taken p R.CP_Q_CTRL 0 w)
          let st : Stamp := ⟨(c.reg R.CP_Q_SEC 0).toNat, (c.reg R.CP_Q_NS 0).toNat, true, if c.bit F.CP_Q_CTRL_EPOCH_SET 0 then c.get F.CP_Q_CTRL_EPOCH 0 else c.get F.NT_STAT_EPOCH 0, false⟩
          let d := ({ c with query := some ⟨c.get F.CP_Q_SLOT_SLOT 0, st⟩ }.setBit F.CP_Q_STAT_BUSY 0 true).setBit F.CP_Q_STAT_APPROX 0 false
          if d.queryFar st then ({ d with query := none }.setBit F.CP_Q_STAT_BUSY 0 false).set F.CP_Q_STAT_RESULT 0 1 else (d.set F.CP_Q_STAT_RESULT 0 0).tryQuery s.ram)))))

/-! ### CAN FD -/

/-- Frames and objects. A frame that matches no receive object, and a remote frame, is counted as unmatched. One that matches a receive object is counted, and becomes the contents of the object, with LOST where NEW was set; while the object is locked it waits as the shadow copy; a position of a slot is reported to it, and a frame of the objects that feed the watchdog or wake the module does so (R83, R298, R300, R303, R308, R402). A read of word 0 locks the object for its path, which freezes what every reader sees, and a locked object shows the frozen copy; the holder's read of the last word, or 100 µs, releases it (R299–R301). It states the completion of canFrameRx, canObjWord0Read, canObjLastRead and canLockTimeout. Where the manual leaves a point open, the model’s choice is log entry 13. -/
def Obligations.CanFrames : Prop :=
  ∀ (s : State) (p : Path) (ch o : Nat) (f : CanFrame), ch < 4 → o < 512 →
    let i := ch * 512 + o
    let r := s.core.pat.obj ch o
    let b := s.core.canObjAt i
    let st := s.core.get F.CN_STAT_STATE ch
    let hears := s.core.runs 0x23 = true ∧ (st = 1 ∨ st = 2 ∨ st = 4)
    let hit := s.core.pat.canObj.find? (fun e : Nat × CanObjRec => e.1 / 512 == ch && !e.2.tx && e.2.id == f.id && e.2.ide == f.ide && e.2.fdf == f.fdf)
    let last : Loc := if r.lastWord ≤ 3 then ⟨R.CN_OBJ_W3, i⟩ else ⟨R.CN_OBJ_DATA, i * 16 + (r.lastWord - 4)⟩
    (hears → hit = none ∨ f.rtr = true → exec (.canFrameRx ch f) s = .next (s.after (s.core.addSat F.CN_CNT_UNMATCHED_COUNT ch 1))) ∧
    (hears → hit = some (i, r) → f.rtr = false → s.core.time.startNet ≤ s.core.canStamp ch - s.core.time.stepSum → s.core.runs 0x22 = true →
      let bs := fitBytes (dlcLen r.dlc) (f.data.take (dlcLen f.dlc))
      let buf (lost : Bool) : CanBuf := { full := true, frame := bs, dlc := f.dlc, esi := f.esi && f.fdf, mism := decide (dlcLen f.dlc ≠ dlcLen r.dlc), lost := lost, stamp := (s.core.canStamp ch).toNat % 2 ^ 32, sec := (s.core.canStamp ch).toNat / 1000000000 % 65536 }
      let c := (s.core.addSat F.CN_CNT_RX_COUNT ch 1).addWrap F.CN_OBJ_W3_COUNT i 1
      let c := if b.lock.isSome then c.setCanObj i { b with shadow := buf b.shadow.full } else c.putFrame ch o (buf (s.core.bit F.CN_OBJ_W0_NEW i))
      let c := if r.slot < 128 && (r.layout % 128 = 8 || r.layout % 128 = 9) then c.canReport s.ram ch o bs else c
      let c := if c.bit F.EN_HOST_WD_CAN_FEED 0 && c.get F.EN_HOST_WD_CAN_CH 0 = ch && c.get F.EN_HOST_WD_CAN_OBJ 0 = o then c.setBit F.EN_HOST_WD_ARMED 0 true else c
      exec (.canFrameRx ch f) s = .next (s.after (if c.get F.PW_CANWAKE_CH 0 = ch && c.get F.PW_CANWAKE_OBJ 0 = o then c.wakeBy 3 else c))) ∧
    (r.present = true → Reaches s.core p ⟨R.CN_OBJ_W0, i⟩ true → (∀ e ∈ s.core.hold, Prod.fst e ≠ p) →
      let reads (w : Word) (g : Core → Core) := exec (.canObjWord0Read p ch o) s = .next (s.after (s.core.wasRead s.ram p R.CN_OBJ_W0 i w g))
      (b.lock = none → reads (s.core.objWord ch o 0) (fun c => c.setCanObj i { b with lock := some p, frozen := (List.range 20).map (s.core.objWord ch o) })) ∧
      (b.lock.isSome = true → reads (b.frozen.getD 0 0) id)) ∧
    (r.present = true → Reaches s.core p last true → (∀ e ∈ s.core.hold, Prod.fst e ≠ p) →
      let reads (w : Word) (g : Core → Core) := exec (.canObjLastRead p ch o) s = .next (s.after (s.core.wasRead s.ram p last.reg last.inst w g))
      (b.lock = some p → reads (b.frozen.getD r.lastWord 0) (fun c => c.canRelease ch o false)) ∧
      (∀ q, b.lock = some q → q ≠ p → reads (b.frozen.getD r.lastWord 0) id) ∧
      (b.lock = none → reads (s.core.objWord ch o r.lastWord) id)) ∧
    (b.lock.isSome = true → exec (.canLockTimeout ch o) s = .next { s with core := s.core.canRelease ch o true }) ∧
    (∀ (c : Core) (timeout : Bool), ((c.canRelease ch o timeout).canObjAt i).lock = none)

/-- Sending, errors and recovery. TX_REQ queues the staged bytes of a host-only transmit object on the Lead; the waiting frame that arbitration puts first is sent, and is emitted, counted and stamped. The error counters take a channel to error-passive and to bus-off, which a recovery, 128 idle times long, leaves; a channel that has integrated is active on the Lead and monitors on another module; a slot's receive object without a frame for LOSS_T is lost, which is flagged and logged, and holds its slot (R306, R309–R313). It states the completion of canTxReq, canTxDone, canError, canBoffHoldExpiry, canRecover, canRestart, canRecoveryDone, canIntegrated and canRxLost. Where the manual leaves a point open, the model’s choice is log entries 13 and 104. -/
def Obligations.CanChannels : Prop :=
  ∀ (s : State) (p : Path) (ch o tec rec : Nat), ch < 4 → o < 512 →
    let i := ch * 512 + o
    let st := s.core.get F.CN_STAT_STATE ch
    let q := s.core.canChAt ch
    (Writes s.core p ⟨R.CN_OBJ_W3, i⟩ → exec (.canTxReq p ch o) s = .next (s.after (s.core.wrote s.ram p R.CN_OBJ_W3 i (fieldWord F.CN_OBJ_W3_TX_REQ 1) (fun c =>
      if (c.pat.obj ch o).present = false ∨ (c.pat.obj ch o).tx = false ∨ (c.pat.obj ch o).slot < 128 then c
      else if c.isLead = false then c.setBit F.CN_STAT_NOT_LEAD ch true
      else (if (c.canObjAt i).txPend.isSome then c.setBit F.CN_OBJ_W0_TX_LATE i true else c).canQueue ch o ((List.range (dlcLen (c.pat.obj ch o).dlc)).map (fun n => Tab.get 0 (c.canObjAt i).staging n)))))) ∧
    (∀ c : Core, (c.pat.obj ch o).present = true → (c.pat.obj ch o).tx = true → 128 ≤ (c.pat.obj ch o).slot →
      (c.isLead = false → c.canTxWrite ch o = c.setBit F.CN_STAT_NOT_LEAD ch true) ∧
      (c.isLead = true → ((c.canTxWrite ch o).canObjAt i).txPend = some ((List.range (dlcLen (c.pat.obj ch o).dlc)).map (fun n => Tab.get 0 (c.canObjAt i).staging n)) ∧ o ∈ ((c.canTxWrite ch o).canChAt ch).queue)) ∧
    (∀ fr before after, s.core.runs 0x23 = true → st = 1 ∨ st = 2 → q.queue = before ++ o :: after → (∀ x ∈ before, (s.core.pat.obj ch o).order < (s.core.pat.obj ch x).order) →
      (∀ x ∈ after, (s.core.pat.obj ch o).order ≤ (s.core.pat.obj ch x).order) → (s.core.canObjAt i).txPend = some fr →
      let t := s.core.canStamp ch
      let c := (s.core.setCanCh ch { q with queue := q.queue.filter (· ≠ o) }).setCanObj i { s.core.canObjAt i with txPend := none }
      let c := ((c.setBit F.CN_OBJ_W0_TX_PENDING i false).setReg R.CN_OBJ_W1 i (BitVec.ofNat 32 (t.toNat % 2 ^ 32))).set F.CN_OBJ_W0_SEC_IDX i (t.toNat / 1000000000)
      exec (.canTxDone ch) s = .next { s with core := ((c.addSat F.CN_CNT_TX_COUNT ch 1).addWrap F.CN_OBJ_W3_COUNT i 1).emit (.can ch o fr) }) ∧
    (s.core.runs 0x23 = true → st = 1 ∨ st = 2 →
      let c := (s.core.set F.CN_STAT_TEC ch (Min.min tec 255)).set F.CN_STAT_REC ch (Min.min rec 255)
      (255 < tec → exec (.canError ch tec rec) s = .next { s with core := c.busOff ch }) ∧
      (tec ≤ 255 → 127 < tec ∨ 127 < rec → st = 1 → exec (.canError ch tec rec) s = .next { s with core := ((c.set F.CN_STAT_STATE ch 2).logFrom 0x23 0x0503 ch 0).addSat F.CN_CNT_ERR_PASSIVE ch 1 }) ∧
      (tec ≤ 127 → rec ≤ 127 → exec (.canError ch tec rec) s = .next { s with core := c.set F.CN_STAT_STATE ch 1 })) ∧
    (st = 3 → s.core.bit F.CN_CFG_AUTO_RECOVER ch = true → q.storm = false → exec (.canBoffHoldExpiry ch) s = .next { s with core := (s.core.setCanCh ch { q with recovering := true }).canTiming ch }) ∧
    (Writes s.core p ⟨R.CN_CTRL, ch⟩ →
      exec (.canRecover p ch) s = .next (s.after (s.core.wrote s.ram p R.CN_CTRL ch (fieldWord F.CN_CTRL_RECOVER 1) (fun c =>
        if c.get F.CN_STAT_STATE ch = 3 then (c.setCanCh ch { c.canChAt ch with recovering := true, storm := false }).canTiming ch else c.setCanCh ch { c.canChAt ch with storm := false }))) ∧
      exec (.canRestart p ch) s = .next (s.after (s.core.wrote s.ram p R.CN_CTRL ch (fieldWord F.CN_CTRL_RESTART 1) (fun c =>
        if (c.pat.ch ch).mode = 0 ∨ c.bit F.PT_BOOT_NO_PATTERN 0 = true ∨ c.get F.TW_ROLE_ROLE 0 = 0 then c else ((c.setCanCh ch { c.canChAt ch with recovering := false }).canTiming ch).set F.CN_STAT_STATE ch 5)))) ∧
    (st = 3 → q.recovering = true → exec (.canRecoveryDone ch) s =
      .next { s with core := (((s.core.setCanCh ch { q with recovering := false }).set F.CN_STAT_STATE ch (if s.core.isLead then 1 else 4)).set F.CN_STAT_TEC ch 0).set F.CN_STAT_REC ch 0 }) ∧
    (st = 5 → s.core.runs 0x23 = true → exec (.canIntegrated ch) s = .next { s with core := ((s.core.set F.CN_STAT_STATE ch (if s.core.isLead then 1 else 4)).set F.CN_STAT_TEC ch 0).set F.CN_STAT_REC ch 0 }) ∧
    (s.core.runs 0x23 = true → s.core.get F.CN_LOSS_LOSS_T ch ≠ 0 →
      let r := s.core.pat.obj ch o
      let c := (((s.core.setCanObj i { s.core.canObjAt i with lost := true, posFirst := true }).setBit F.CN_OBJ_W0_RX_TIMEOUT i true).setBit F.CN_STAT_RX_LOST ch true).logFrom 0x23 0x0505 r.slot 0
      let pos := if (c.ctxAt r.slot).actKnown then (c.ctxAt r.slot).actPos else (c.profileAt r.slot c.profNs).1
      exec (.canRxLost ch o) s = .next (if r.present && !r.tx && decide (r.slot < 128) && !(s.core.canObjAt i).lost then { s with core := ((c.loseMaster 1 r.slot).clearLoop r.slot).holdSlot r.slot pos } else s)) ∧
    (s.core.get F.CN_LOSS_LOSS_T ch = 0 → exec (.canRxLost ch o) s = .next s)

/-! ### Field inputs and outputs -/

/-- A driven direct output that is overloaded or too hot latches it, logged, and is driven no more; an open load is flagged where it is looked for; CLEAR re-arms the outputs of its mask that have cooled. The field supply is measured, and LOW and MISSING follow Table 13.1 with its hysteresis, the onset of each is logged, with MISSING the levels are STALE, and without it they follow their inputs (R320, R321, R323). It states the completion of doOverload, doOvertemp, doOpenLoad, doClear and fieldSupplyChange. Where the manual leaves a point open, the model’s choice is log entries 13 and 106. -/
def Obligations.DirectOutputs : Prop :=
  ∀ (s : State) (n mv : Nat) (p : Path) (mask cooled : BitVec 8), n < 8 →
    (s.core.doDriven.testBit n = true →
      exec (.doOverload n) s = .next { s with core := (s.core.set F.FI_DO_STAT_OVERLOAD 0 (s.core.get F.FI_DO_STAT_OVERLOAD 0 ||| 2 ^ n)).logFrom 0x22 0x0507 n 1 } ∧
      exec (.doOvertemp n) s = .next { s with core := (s.core.set F.FI_DO_STAT_OVERTEMP 0 (s.core.get F.FI_DO_STAT_OVERTEMP 0 ||| 2 ^ n)).logFrom 0x22 0x0507 n 2 } ∧
      ((s.core.get F.FI_DO_CFG_OLD_EN 0).testBit n = true → exec (.doOpenLoad n) s = .next { s with core := s.core.set F.FI_DO_STAT_OPEN_LOAD 0 (s.core.get F.FI_DO_STAT_OPEN_LOAD 0 ||| 2 ^ n) })) ∧
    (s.core.doDriven.testBit n = false → exec (.doOverload n) s = .next s ∧ exec (.doOvertemp n) s = .next s ∧ exec (.doOpenLoad n) s = .next s) ∧
    ((s.core.get F.FI_DO_STAT_OVERLOAD 0 ||| s.core.get F.FI_DO_STAT_OVERTEMP 0).testBit n = true → s.core.doDriven.testBit n = false) ∧
    (mask ≠ 0 → Writes s.core p ⟨R.FI_DO_CTRL, 0⟩ →
      exec (.doClear p mask cooled) s = .next (s.after (s.core.wrote s.ram p R.FI_DO_CTRL 0 (fieldWord F.FI_DO_CTRL_CLEAR mask.toNat) (fun c =>
        let keep := 0xFF ^^^ (mask.toNat &&& cooled.toNat)
        (c.set F.FI_DO_STAT_OVERLOAD 0 (c.get F.FI_DO_STAT_OVERLOAD 0 &&& keep)).set F.FI_DO_STAT_OVERTEMP 0 (c.get F.FI_DO_STAT_OVERTEMP 0 &&& keep))))) ∧
    (∀ c : Core, ((c.doClear mask.toNat cooled.toNat).get F.FI_DO_STAT_OVERLOAD 0).testBit n = ((c.get F.FI_DO_STAT_OVERLOAD 0).testBit n && !(mask.getLsbD n && cooled.getLsbD n))) ∧
    (s.core.runs 0x22 = true →
      let low := if s.core.bit F.FI_SUPPLY_LOW 0 then decide (mv < 18500) else decide (mv < 18000)
      let miss := if s.core.bit F.FI_SUPPLY_MISSING 0 then decide (mv < 9500) else decide (mv < 9000)
      let c := (((s.core.set F.FI_SUPPLY_FS_MV 0 (Min.min mv 65535)).setBit F.FI_SUPPLY_LOW 0 low).setBit F.FI_SUPPLY_MISSING 0 miss).setBit F.FI_DI_STATE_STALE 0 miss
      let c := if low && !s.core.bit F.FI_SUPPLY_LOW 0 then (c.setBit F.FI_SUPPLY_LOW_SEEN 0 true).logFrom 0x22 0x0509 noSrc 1 else c
      let c := if miss && !s.core.bit F.FI_SUPPLY_MISSING 0 then (c.setBit F.FI_SUPPLY_MISSING_SEEN 0 true).logFrom 0x22 0x0509 noSrc 2 else c
      exec (.fieldSupplyChange mv) s = .next { s with core := (if miss then c else foldN (List.range 16) c (fun c n => c.setDi n { c.diAt n with level := (c.diAt n).raw })).refreshLimits })

/-- A cycle of a field string with an expected block takes the next SEQ and the stamp S_k, and on the Lead the outbound frame leaves. A reply with good CRC, ADDR and SEQ is taken, its changed inputs stamped with S_k and offered to their captures; another, and a missing one, counts as not accepted, and MISS_MAX of them in a row lose the block, which is logged (R325, R326, R329, R330). It states the completion of stringCycle, stringReply and stringReplyMiss. Where the manual leaves a point open, the model’s choice is log entry 107. -/
def Obligations.FieldStrings : Prop :=
  ∀ (s : State) (f b : Nat) (bytes : List Byte) (crcBad : Bool), f < 2 → b < 4 →
    let crc := natOfBytes ((bytes.drop 9).take 2) == (Crypto.crc16 (bytes.take 9)).toNat && bytes.length == 11
    let named := (bytes.getD 0 0).toNat = b ∧ (bytes.getD 1 0).toNat = s.core.get F.FI_FS_STAT_SEQ f
    (s.core.runs 0x22 = true → s.core.get F.FI_FS_CFG_EXPECT f ≠ 0 → s.core.pat.valid = true → s.core.get F.PW_STAT_ACTIVE 0 ≠ 3 → s.core.get F.PW_STAT_ACTIVE 0 ≠ 4 →
      let seq := (s.core.get F.FI_FS_STAT_SEQ f + 1) % 256
      let t := s.core.time.sec * 1000000000 + s.core.time.ns + 2400
      let d := s.core.set F.FI_FS_STAT_SEQ f seq
      let c := d.setStr f { d.strAt f with stampSec := t / 1000000000, stampNs := t % 1000000000, epoch := d.get F.NT_STAT_EPOCH 0 }
      exec (.stringCycle f) s = .next { s with core := if c.isLead then c.emit (.string f (c.fsFrame f seq)) else c }) ∧
    (s.core.fsExpected f b = true →
      let i := f * 4 + b
      let k := s.core.fsBlock f b
      let miss (bad : Bool) : Core :=
        let c := s.core.addSat F.FI_FS_CNT_MISSES f 1
        let c := if bad then c.addSat F.FI_FS_CNT_CRC_ERR f 1 else c
        let k := c.fsBlock f b
        if k.lost then c.setFsBlock f b { k with okRun := 0 }
        else if k.missRun + 1 < c.get F.FI_FS_CFG_MISS_MAX f then c.setFsBlock f b { k with missRun := k.missRun + 1, okRun := 0 }
        else
          let c := c.setFsBlock f b { k with missRun := k.missRun + 1, okRun := 0, lost := true }
          let c := (c.set F.FI_FS_STAT_LOST f (c.get F.FI_FS_STAT_LOST f ||| 2 ^ b)).set F.FI_FS_STAT_LOST_SEEN f (c.get F.FI_FS_STAT_LOST_SEEN f ||| 2 ^ b)
          let c := c.set F.FI_FS_STAT_PRESENT f (c.get F.FI_FS_STAT_PRESENT f &&& (15 - 2 ^ b))
          let c := if c.bit F.FI_FS_CFG_SUBST f then c else c.setReg R.FI_FS_IN i (c.reg R.FI_FS_IN i &&& ~~~(c.fsHostBits f b))
          (c.logFrom 0x22 0x0508 i 0).refreshLimits
      (crc = true → named → k.lost = false →
        let old := s.core.reg R.FI_FS_IN i
        let new := BitVec.ofNat 32 (natOfBytes ((bytes.drop 3).take 4))
        let c := ((s.core.set F.FI_FS_DIAG_BSTAT i (bytes.getD 2 0).toNat).set F.FI_FS_DIAG_OUTF i (natOfBytes ((bytes.drop 7).take 2))).setReg R.FI_FS_IN i new
        let c := c.setFsBlock f b { missRun := 0, okRun := 0, lost := false }
        let c := (c.set F.FI_FS_STAT_LOST f (c.get F.FI_FS_STAT_LOST f &&& (15 - 2 ^ b))).set F.FI_FS_STAT_PRESENT f (c.get F.FI_FS_STAT_PRESENT f ||| 2 ^ b)
        let st := c.strAt f
        let c := if old = new then c else c.setReg R.FI_FS_STAMP i (BitVec.ofNat 32 (st.stampSec * 1000000000 + st.stampNs))
        exec (.stringReply f b bytes) s = .next { s with core := (foldN (bitsOf 32 (old ^^^ new).toNat) c (fun c p =>
          c.captureFrom 1 (c.mapped 2 (f * 128 + b * 32 + p) 2) ⟨st.stampSec, st.stampNs, new.getLsbD p, st.epoch, false⟩)).refreshLimits }) ∧
      (crc = true → named → exec (.stringReply f b bytes) s = .next { s with core := s.core.fsReply f b bytes }) ∧
      (crc = true → ¬named → exec (.stringReply f b bytes) s = .next { s with core := miss false }) ∧
      (crc = false → exec (.stringReply f b bytes) s = .next { s with core := miss true }) ∧
      exec (.stringReplyMiss f b crcBad) s = .next { s with core := miss crcBad }) ∧
    (s.core.fsExpected f b = false → exec (.stringReply f b bytes) s = .next s ∧ exec (.stringReplyMiss f b crcBad) s = .next s) ∧
    ((s.core.fsMiss f b crcBad).fsBlock f b).lost = ((s.core.fsBlock f b).lost || decide (s.core.get F.FI_FS_CFG_MISS_MAX f ≤ (s.core.fsBlock f b).missRun + 1))

/-! ### Bridle -/

/-- The STO_REQ pair takes every group to STO with cause 4; the SS1_REQ pair asks for SS1 of every group with cause 5, and the DOOR pair of the groups it covers with cause 6: SS1 starts at the next frame start of a group in RUN, and of another the cause is recorded. A pair asks for nothing only with channel A energised and channel B energised, or not energised in antivalent mode. A discrepancy latches cause 10 on the groups of its pair: STO_REQ takes them to STO, another pair asks for their SS1. The rising edge after a low period of 100 ms to 2 s of SRST_N clears the latches whose condition is absent (R343, R344, R350, R351, R356, R357). It states the completion of stoReqInput, ss1ReqInput, doorInput, safetyInputReturn, discrepancy and srstN. Where the manual leaves a point open, the model’s choice is log entries 109 and 110. -/
def Obligations.SafetyInputs : Prop :=
  ∀ (s : State) (a b : Bool) (lowMs : Nat),
    let x := s.core.bridle
    let v := showsRequest (sealAntivalent x.sealP) a b
    let c0 := { s.core with bridle := { x with sto := v } }.xb2
    let c1 := { s.core with bridle := { x with ss1 := v } }.xb2
    let c2 := { s.core with bridle := { x with door := v } }.xb2
    let allSto (c : Core) (cause : Nat) := foldN (List.range 16) c (fun c g => c.enterSto g cause false)
    let differ (n : Nat) (gs : List Nat) := (foldN gs { s.core with bridle := { x with discrep := x.discrep ||| BitVec.ofNat 3 n } } (fun c g => c.latch g 10)).xb2
    (v = 0 ↔ a = true ∧ b = !sealAntivalent x.sealP) ∧
    (v ≠ 0 → exec (.stoReqInput a b) s = .next { s with core := allSto c0 4 } ∧
      exec (.ss1ReqInput a b) s = .next { s with core := foldN (List.range 16) c1 (fun c g => c.requestSs1 g 5) } ∧
      exec (.doorInput a b) s = .next { s with core := foldN c2.doorGroups c2 (fun c g => c.requestSs1 g 6) }) ∧
    (v = 0 → x.discrep = 0 → exec (.stoReqInput a b) s = .next { s with core := c0 } ∧ exec (.ss1ReqInput a b) s = .next { s with core := c1 } ∧ exec (.doorInput a b) s = .next { s with core := c2 }) ∧
    (∀ (c : Core) (cause : Nat), cause < 16 → ∀ g < 16, (allSto c cause).inSto g = true ∧ (allSto c cause).get F.SF_GRP_CAUSE g = cause) ∧
    (∀ (c : Core) (g cause : Nat), g < 16 → cause < 16 →
      (c.get F.SF_GRP_STATE g = 0 → (c.bg g).ss1Pend = 0 → ((c.requestSs1 g cause).bg g).ss1Pend = cause) ∧ (c.get F.SF_GRP_STATE g ≠ 0 → (c.requestSs1 g cause).get F.SF_GRP_CAUSE g = cause)) ∧
    exec (.safetyInputReturn .stoReq) s = .next { s with core := { s.core with bridle := { x with sto := 0 } }.xb2 } ∧
    exec (.safetyInputReturn .ss1Req) s = .next { s with core := { s.core with bridle := { x with ss1 := 0 } }.xb2 } ∧
    exec (.safetyInputReturn .door) s = .next { s with core := { s.core with bridle := { x with door := 0 } }.xb2 } ∧
    exec (.discrepancy .stoReq) s = .next { s with core := allSto (differ 1 (List.range 16)) 10 } ∧
    exec (.discrepancy .ss1Req) s = .next { s with core := (differ 2 (List.range 16)).requestSs1s (List.range 16) 10 } ∧
    exec (.discrepancy .door) s = .next { s with core := (differ 4 s.core.doorGroups).requestSs1s s.core.doorGroups 10 } ∧
    (∀ g < 16, ((differ 1 (List.range 16)).latches g).testBit 10 = true) ∧
    (lowMs < 100 ∨ 2000 < lowMs → exec (.srstN lowMs) s = .next s) ∧
    (100 ≤ lowMs → lowMs ≤ 2000 →
      let c := foldN (List.range 16) s.core (fun c g =>
        let c := { c with latchRec := Tab.set 0 c.latchRec g (ofBits ((bitsOf 16 (Tab.get 0 c.latchRec g)).filter (fun k => !c.causeAbsent g k))) }
        c.setBg g { c.bg g with htrip := false })
      let still (n : Nat) (w : BitVec 2) : List Nat := if c.bridle.discrep.getLsbD n && !pairAgrees w then [n] else []
      exec (.srstN lowMs) s = .next { s with core := { c with bridle := { c.bridle with discrep := BitVec.ofNat 3 (ofBits (still 0 c.bridle.sto ++ still 1 c.bridle.ss1 ++ still 2 c.bridle.door)) } }.xb2 } ∧
      ∀ g < 16, (c.bg g).htrip = false ∧ ∀ k < 16, (Tab.get 0 c.latchRec g).testBit k = ((Tab.get 0 s.core.latchRec g).testBit k && !s.core.causeAbsent g k))

/-- The faults that Bridle finds. A change of the seal bank latches SEAL in both channels, asks for SS1 of the claimed groups with cause 13 and is logged; while Bridle-P does not run, only the XB-2 sees and latches it. The loss of the XB-2's link takes every group to STO with cause 12 and XSTO, and a Lead with a READY Standby hands over. A level that reads back wrong in three consecutive checks, or GEN_B or a second brake path active where R339 holds it inactive, latches cause 11 and takes its group to STO; a watch line of a group with a code trips it; the loss of the XB-2's supply removes every GEN_B and second brake path; the bank at power-on becomes the reference; and the XB-2's status is compared (R15, R27, R338, R339, R345–R349, R352, R358, R360). It states the completion of sealFault, xb2LinkLoss, readbackCheck, watchLineTrip, xb2SupplyLoss, xb2SealReference and xb2Status. Where the manual leaves a point open, the model’s choice is log entries 108 and 111. -/
def Obligations.BridleFaults : Prop :=
  ∀ (s : State) (live : BitVec 40) (r : Readback) (g : Nat) (st : Xb2Status), g < 16 →
    let x := s.core.bridle
    let sealed (c : Core) : Core := if c.bridle.sealLatch && c.bridle.xSealLatch then c
      else (({ c with bridle := { c.bridle with sealLatch := true, xSealLatch := true } }.logFrom 0x27 0x0003 noSrc 13).requestSs1s (bitsOf 16 c.bridle.own.toNat) 13).xb2.judge
    let d := { s.core with bridle := { x with sealP := live, xSeal := (if x.supplied then live else x.xSeal) } }
    let lost := foldN (List.range 16) { s.core with bridle := { x with linkLost := true } } (fun c g => ((c.assertXsto g).latch g 12).enterSto g 12 false)
    let trip := ((s.core.setBg g { s.core.bg g with htrip := true }).latch g 8).requestSs1 g 8
    let off := { s.core with bridle := { x with supplied := false } }.xb2
    (s.core.runs 0x27 = true → exec (.sealFault live) s = .next { s with core := sealed d }) ∧
    (s.core.runs 0x27 = false → exec (.sealFault live) s = .next { s with core := { d with bridle := { d.bridle with xSealLatch := x.xSealLatch || x.supplied } }.xb2 }) ∧
    (sealed d).bridle.sealLatch = true ∧ (sealed d).bridle.xSealLatch = true ∧
    exec .xb2LinkLoss s = .next { s with core := (if lost.xb2.isLead && lost.xb2.readyPartner then lost.xb2.assertFail.releaseClaims else lost.xb2).judge } ∧
    (∀ g < 16, lost.inSto g = true ∧ lost.get F.SF_GRP_CAUSE g = 12 ∧ (lost.latches g).testBit 12 = true ∧ (lost.bg g).xsto = true) ∧
    exec (.readbackCheck r) s = .next { s with core := foldN (List.range 16) s.core (fun c g =>
      let b := c.bg g
      let own := c.bridle.own.getLsbD g && !c.bridle.pown.getLsbD g
      let differs := own && (r.genA.getLsbD g != b.genA || r.genB.getLsbD g != b.genB || (g % 2 == 0 && (r.path1.getLsbD (g / 2) != b.path1 || r.path2.getLsbD (g / 2) != b.path2)))
      let wrong := own && !c.genBOk g && (r.genB.getLsbD g || (g % 2 == 0 && r.path2.getLsbD (g / 2)))
      let k := if differs then Min.min (b.rb + 1) 3 else 0
      if k == 3 || wrong then ((c.setBg g { b with rb := k }).latch g 11).stoWithX g 11 else c.setBg g { b with rb := k }) } ∧
    (∀ c : Core, ((c.latch g 11).stoWithX g 11).inSto g = true ∧ (((c.latch g 11).stoWithX g 11).latches g).testBit 11 = true) ∧
    (x.supplied = true → sealCode x.xRef g ≠ 0 → exec (.watchLineTrip g) s = .next { s with core := trip.xb2 }) ∧
    (sealCode x.xRef g = 0 → exec (.watchLineTrip g) s = .next s) ∧ (x.supplied = false → exec (.watchLineTrip g) s = .next s) ∧
    exec .xb2SupplyLoss s = .next { s with core := off.judge } ∧ (off.bg g).genB = false ∧ (off.bg g).path2 = false ∧
    exec .xb2SealReference s = .next { s with core := { s.core with bridle := { x with supplied := true, xSeal := x.sealP, xRef := x.sealP, refStored := true } }.xb2.judge } ∧
    (x.supplied = false → exec (.xb2Status st) s = .next s) ∧
    (x.supplied = true →
      let c := { s.core with bridle := { x with linkSeen := true, xSeal := st.sealLive, xRef := st.sealRef, refStored := true, xSealLatch := x.xSealLatch || st.sealLatch } }
      let c := foldN (bitsOf 16 st.htrip.toNat) c (fun c g => if (c.bg g).htrip then c else (((c.setBg g { c.bg g with htrip := true }).latch g 8).requestSs1 g 8).xb2)
      let c := { c with bridle := { c.bridle with agreed := c.bridle.agreed || (c.pat.valid && c.sealAgrees) } }
      exec (.xb2Status st) s = .next { s with core := if c.sealAgrees && !st.sealLatch then c.xb2 else sealed c })

/-- The host's requests: STO takes the groups of its mask to STO with cause 1 and XSTO; SS1 asks for it with cause 2, and its end or the end of the brake's lead takes the group to STO. A release judges each group in the order of R357: a refused one stays and the first refusal is reported, an accepted one is checked, and GEN_A follows GEN_B's readback at the frame start; 5 ms without it refuse the release (R350, R351, R353, R357). It states the completion of hostSto, hostSs1, lgRelease, ss1TimeEnd, ss1BrakeLeadExpiry, xb2Ss1Timer and releaseGenBCheck. Where the manual leaves a point open, the model’s choice is log entries 13, 112 and 189. -/
def Obligations.StopsAndReleases : Prop :=
  ∀ (s : State) (p : Path) (mask : BitVec 16) (g : Nat), g < 16 →
    let b := s.core.bg g
    let cause := s.core.get F.SF_GRP_CAUSE g
    (mask ≠ 0 →
      (Writes s.core p ⟨R.LG_STO_REQ, 0⟩ → exec (.hostSto p mask) s = .next (s.after (s.core.wrote s.ram p R.LG_STO_REQ 0 (fieldWord F.LG_STO_REQ_MASK mask.toNat) (fun c =>
        foldN (bitsOf 16 mask.toNat) (c.set F.LG_STO_REQ_MASK 0 (c.get F.LG_STO_REQ_MASK 0 ||| mask.toNat)) (fun c g => ((c.assertXsto g).enterSto g 1 false).xb2))))) ∧
      (Writes s.core p ⟨R.LG_SS1_REQ, 0⟩ → exec (.hostSs1 p mask) s = .next (s.after (s.core.wrote s.ram p R.LG_SS1_REQ 0 (fieldWord F.LG_SS1_REQ_MASK mask.toNat) (fun c =>
        foldN (bitsOf 16 mask.toNat) (c.set F.LG_SS1_REQ_MASK 0 (c.get F.LG_SS1_REQ_MASK 0 ||| mask.toNat)) (fun c g => c.requestSs1 g 2))))) ∧
      (Writes s.core p ⟨R.LG_RELEASE, 0⟩ → exec (.lgRelease p mask) s = .next (s.after (s.core.wrote s.ram p R.LG_RELEASE 0 (fieldWord F.LG_RELEASE_MASK mask.toNat) (fun c => c.release mask.toNat))))) ∧
    (∀ c : Core, mask.getLsbD g = true → (c.hostSto mask.toNat).inSto g = true ∧ (c.hostSto mask.toNat).get F.SF_GRP_CAUSE g = 1 ∧ ((c.hostSto mask.toNat).bg g).xsto = true) ∧
    (∀ c : Core,
      (c.relRefusal g ≠ 0 → c.release (2 ^ g) = ((c.setReg R.LG_REL_RESULT 0 0).set F.LG_REL_RESULT_RESULT 0 (c.relRefusal g)).xb2) ∧
      (c.relRefusal g = 0 → ((c.release (2 ^ g)).bg g).relCheck = true ∧ ((c.release (2 ^ g)).bg g).xsto = false ∧ (c.release (2 ^ g)).get F.LG_REL_RESULT_RESULT 0 = 0)) ∧
    (∀ c : Core, (c.enterSto g cause true).inSto g = true ∧ (c.inSto g = false → ((c.enterSto g cause true).bg g).genA = false ∧ ((c.enterSto g cause true).bg g).path1 = false)) ∧
    (s.core.get F.SF_GRP_STATE g = 1 → exec (.ss1TimeEnd g) s = .next { s with core := s.core.enterSto g cause true } ∧
      (b.brakeLead = true → exec (.ss1BrakeLeadExpiry g) s = .next { s with core := s.core.enterSto g cause true })) ∧
    (s.core.get F.SF_GRP_STATE g ≠ 1 → exec (.ss1TimeEnd g) s = .next s ∧ exec (.ss1BrakeLeadExpiry g) s = .next s) ∧
    exec (.xb2Ss1Timer g) s = .next { s with core := (s.core.setBg g { b with xExpired := b.xTimer, xss1Expired := b.xss1Timer }).xb2 } ∧
    (b.relCheck = true → b.genB = true → exec (.releaseGenBCheck g) s = .next { s with core := s.core.setBg g { b with relCheck := false, relPend := true } }) ∧
    (b.relCheck = true → b.genB = false → s.core.get F.LG_REL_RESULT_RESULT 0 = 0 →
      exec (.releaseGenBCheck g) s = .next { s with core := (s.core.setBg g { b with relCheck := false }).set F.LG_REL_RESULT_RESULT 0 6 }) ∧
    (b.relCheck = false → exec (.releaseGenBCheck g) s = .next s)

/-! ### The twin pair -/

/-- The link. A tick takes the next SEQ, and on a trained link a frame leaves: its HEARTBEAT, then the gathered records in their order, TYPE, COUNT, LEN and SEQ before and their CRC-32 after them; else TRAIN leaves during training, and the ordered set of the role every ten ticks. Ordered sets of the partner start the training of a module without a relink timer. A heartbeat of another incarnation loses the link; of the same it is kept, and the role follows it. Training that completes records the partner and decides the role by R25 and R363; the end of the register image starts the resync; a frame in error is asked for once and resent once; the relink timer, the solo wait and a stopped link act as R363, R367 and R379 say. It states the completion of latigoTick, beacon, train, leadPresent, heartbeat, latigoLoss, linkStop, latigoBadFrame, nakRecord, trainingComplete, trainingTimeout, registerImageDone, relinkExpiry and soloWaitExpiry. Where the manual leaves a point open, the model’s choice is log entries 114, 115, 123, 156, 186 and 191. -/
def Obligations.TheLatigoLink : Prop :=
  ∀ (s : State) (r : HeartbeatRec) (pos : Bool) (serial seq : Word),
    let tw := s.core.twin
    let seen : Core := { s.core with twin := { tw with partnerSeen := true, seenAt := some s.core.profNs } }
    let tick := s.core.addWrap F.TW_SEQ_SEQ 0 1
    let sq := (tick.reg R.TW_SEQ 0).toNat
    let role := s.core.get F.TW_ROLE_ROLE 0 + (if tw.handover.isSome then 64 else 0) + (if s.core.get F.RST_STUCK_BUTTON_STUCK 0 + s.core.get F.RST_STUCK_PIN_STUCK 0 ≠ 0 then 128 else 0)
    let beat := [role, (s.core.reg R.TW_INCARN 0).toNat, s.core.get F.MG_IMG_LINK_LINK_VER s.core.runBank, s.core.get F.TW_NOTREADY_CAUSES 0, (s.core.netNs % 2 ^ 32).toNat]
    let wait : Core := (s.core.setBit F.TW_RELINK_RUNNING 0 true).setBit F.TW_ROLE_PARTNER_READY 0 false
    let gone : Core := { wait with twin := { tw with txq := [], txPoison := false, sent := [], relinkAt := s.core.profNs + 2000000000, seen := false, snapshots := false, complete := [], handover := none, seenAt := none } }.setLink 2
    (s.core.runs 0x23 = true →
      (s.core.trained = true → tw.copies = 0 → exec .latigoTick s = .next { s with core := tick.tickRecords.sendFrame beat }) ∧
      (∀ n, s.core.trained = true → tw.copies = n + 1 →
        let first := if n = 3 then sq else tw.firstSeq
        let i := tw.release.getD 0 + s.core.time.stepSum
        let c := tick.tickRecords
        exec .latigoTick s = .next { s with core := ({ c with twin := { c.twin with copies := n, firstSeq := first, txq := c.twin.txq ++ [(8, [0, first, (i.fdiv 1000000000).toNat % 2 ^ 32, (i.fmod 1000000000).toNat])] } } : Core).sendFrame beat }) ∧
      (s.core.link = 3 → exec .latigoTick s = .next { s with core := tick.emit (.ordered 0x30) }) ∧
      (s.core.trained = false → s.core.link ≠ 3 → exec .latigoTick s = .next { s with core := if sq % 10 = 0 then tick.emit (.ordered (if s.core.isLead then 0x22 else 0x21)) else tick }) ∧
      (s.core.link < 3 ∨ 6 < s.core.link → s.core.relinkRuns = false →
        exec .beacon s = .next { s with core := (seen.setLink 3).emit (.ordered 0x30) } ∧ exec .train s = .next { s with core := (seen.setLink 3).emit (.ordered 0x30) }) ∧
      (s.core.relinkRuns = true → exec .beacon s = .next { s with core := seen } ∧ exec .train s = .next { s with core := seen }) ∧
      (s.core.get F.TW_ROLE_ROLE 0 = 0 → exec .leadPresent s = .next { s with core := seen.becomeStandby }) ∧
      (s.core.get F.TW_ROLE_ROLE 0 ≠ 0 → exec .leadPresent s = .next { s with core := seen })) ∧
    (∀ c : Core, c.becomeStandby.get F.TW_ROLE_ROLE 0 = 2 ∧ c.becomeStandby.bridle.own = 0) ∧
    (∀ (c : Core) (h : List Nat), c.twin.txPoison = false →
      let records := c.twin.txq.map (fun x => recordBytes x.1 x.2)
      let n := recordsFit 254 4970 records
      (c.sendFrame h).out = c.out ++ [.latigo (latigoFrame (c.reg R.TW_SEQ 0).toNat (recordBytes 1 h :: records.take n)), .ordered 0x10] ∧ (c.sendFrame h).twin.txq = c.twin.txq.drop n) ∧
    (∀ (n : Nat) (rs : List (List Byte)),
      let b := [1, BitVec.ofNat 8 rs.length] ++ bytesOfNat 2 (rs.flatten.length + 12) ++ bytesOfNat 4 n ++ rs.flatten
      latigoFrame n rs = b ++ bytesOfNat 4 (Crypto.crc32 b).toNat) ∧
    (s.core.trained = false → exec (.heartbeat r) s = .next s ∧ exec .latigoLoss s = .next s ∧ exec .linkStop s = .next s ∧ exec (.latigoBadFrame seq) s = .next s) ∧
    (s.core.trained = true →
      (r.incarn ≠ s.core.reg R.TW_PINCARN 0 → exec (.heartbeat r) s = .next { s with core := ({ s.core with twin := { tw with incarnBad := true } }.judge).linkLost true }) ∧
      (r.incarn = s.core.reg R.TW_PINCARN 0 →
        let c := (if r.stuck && !tw.partnerStuck then s.core.logFrom 0x23 0x0108 noSrc 0 else s.core).setBit F.RST_STAT_PARTNER_STUCK 0 r.stuck
        let ok := match tw.release with | some i => r.handoverSeen && decide (c.profNs + 10000 ≤ i) | none => false
        let c : Core := { c with twin := { tw with seen := true, partnerLinkVer := r.linkVer, partnerStuck := r.stuck, partnerDigest := some r.digest, incarnBad := false, handoverSeen := tw.handoverSeen || ok } }
        let c := if c.isLead then c.setBit F.TW_ROLE_PARTNER_READY 0 r.ready else c
        let c := if r.role = 1 && c.get F.TW_ROLE_ROLE 0 = 0 then c.becomeStandby else c
        let c := if r.role = 1 && c.isLead && c.position = 1 then c.giveWay else c
        let down := r.notReady.testBit 0
        let c := if r.role = 2 && c.isLead then (if c.link = 5 && !down then c.linkUp else if c.link = 6 && down then c.startResync else c) else c
        exec (.heartbeat r) s = .next { s with core := c.judge }) ∧
      exec .latigoLoss s = .next { s with core := if gone.isStandby then gone.claimAfterLoss (s.core.bit F.TW_ROLE_READY 0) else gone } ∧
      exec .linkStop s = .next { s with core := { (s.core.setBit F.TW_RELINK_RUNNING 0 false).setBit F.TW_ROLE_PARTNER_READY 0 false with twin := { tw with seen := false, txq := [], txPoison := false, sent := [] } }.setLink 7 } ∧
      (s.core.isStandby = false → exec (.latigoBadFrame seq) s = .next { s with core := s.core.addSat F.TW_ERR_CRC_ERR 0 1 }) ∧
      (s.core.isStandby = true → tw.nak ≠ some seq → exec (.latigoBadFrame seq) s = .next { s with core := { s.core.addSat F.TW_ERR_CRC_ERR 0 1 with twin := { tw with nak := some seq, txq := tw.txq ++ [(7, [seq.toNat])] } } }) ∧
      (s.core.isStandby = true → tw.nak = some seq → s.core.link = 6 →
        exec (.latigoBadFrame seq) s = .next { s with core := (({ s.core.addSat F.TW_ERR_CRC_ERR 0 1 with twin := { tw with recLost := true, nak := none } }.addSat F.TW_ERR_LOST 0 1).judge).startResync }) ∧
      (∀ f, s.core.isLead = true → tw.sent.find? (fun f => f.1 == seq.toNat) = some f →
        exec (.nakRecord seq) s = .next { s with core := ({ s.core with twin := { tw with sent := tw.sent.filter (fun x => x.1 ≠ seq.toNat) } } : Core).emit (.latigo f.2) })) ∧
    (tw.sent.find? (fun f => f.1 == seq.toNat) = none → exec (.nakRecord seq) s = .next s) ∧
    (s.core.link = 3 →
      (let c : Core := { s.core.setReg R.TW_PINCARN 0 r.incarn with twin := { tw with seen := true, partnerSeen := true, partnerLinkVer := r.linkVer, partnerStuck := r.stuck, partnerDigest := some r.digest, incarnBad := false, complete := [], snapshots := false, nak := none } }
       let c := c.setLink 4
       let pp := if pos then 1 else 0
       let mine := if c.position = pp then (c.reg R.SYS_SERIAL 0).toNat < serial.toNat else c.position = 0
       exec (.trainingComplete r pos serial) s = .next { s with core :=
         (if r.role = 1 then (if c.isLead then (if c.position = 1 then c.giveWay else c) else if c.get F.TW_ROLE_ROLE 0 = 0 then c.becomeStandby else c)
          else if r.role = 0 && c.get F.TW_ROLE_ROLE 0 = 0 && mine then c.leadWhenLoaded else c).sendImage }) ∧
      exec .trainingTimeout s = .next { s with core := s.core.setLink (if s.core.relinkRuns then 2 else 1) }) ∧
    (s.core.link = 4 →
      let ts := s.core.profNs :: tw.resyncTimes.filter (fun t => s.core.profNs - t ≤ 10000000000)
      let c := { s.core with twin := { tw with resyncTimes := ts.take 16, snapshots := false, snapOwed := (if s.core.isLead then List.range 7 else []), complete := [] } }.addSat F.TW_CNT_RESYNCS 0 1
      exec .registerImageDone s = .next { s with core := if c.isStandby && 8 < ts.length then (c.logFrom 0x23 0x0105 noSrc 0).linkLost false else c.setLink 5 }) ∧
    (s.core.relinkRuns = true →
      let c : Core := { s.core with twin := { tw with relinkAt := s.core.profNs + 2000000000 } }
      (tw.seenAt = none → exec .relinkExpiry s = .next { s with core := c }) ∧
      (∀ t, tw.seenAt = some t → exec .relinkExpiry s = .next { s with core := if s.core.profNs - t ≤ 200000 ∧ c.trained = false then (c.setLink 3).emit (.ordered 0x30) else c })) ∧
    (s.core.relinkRuns = false → exec .relinkExpiry s = .next s) ∧
    (s.core.get F.TW_ROLE_ROLE 0 = 0 → tw.partnerSeen = false → s.core.bridle.pown = 0 → s.core.pat.valid = true → s.core.bit F.PT_BOOT_NO_PATTERN 0 = false → s.core.bit F.RST_STAT_INCARN_UNSAVED 0 = false →
      exec .soloWaitExpiry s = .next { s with core := if s.core.loading then { s.core with twin := { tw with won := true } } else s.core.becomeLead }) ∧
    (tw.partnerSeen = true → exec .soloWaitExpiry s = .next s)

/-- The records of a Lead, as a Standby on a trained link takes them; no other module takes any. A SLOT record gives the slot its profile, its integrators and its last outputs, a GRID record its frame start and counters, and complete frames of every grid after the snapshots end a resync; a GROUP record its state and cause, with XSTO and XSS1 as they follow from them, a CHANGE record the written value of a mirrored register or a fault of a lane or port, a SNAPSHOT record what no other carries; a record with a poison mark starts a full resync instead (Table 5.2, R220, R352, R368–R371, R380, R382). It states the completion of slotRecord, gridRecord, groupRecord, changeRecord and snapshotRecord. Where the manual leaves a point open, the model’s choice is log entries 61, 119 to 121, 155, 156 and 186. -/
def Obligations.StandbyRecords : Prop :=
  ∀ (s : State) (r : SlotRec) (g : GridRec) (b : GroupRec) (ch : ChangeRec) (sn : SnapRec), r.slot < 128 → g.period < 6 → b.group < 16 →
    (s.core.isStandby = false ∨ s.core.trained = false →
      exec (.slotRecord r) s = .next s ∧ exec (.gridRecord g) s = .next s ∧ exec (.groupRecord b) s = .next s ∧ exec (.changeRecord ch) s = .next (s.after s.core) ∧ exec (.snapshotRecord sn) s = .next s) ∧
    (s.core.isStandby = true → s.core.trained = true →
      (let marked : Core := if s.core.link = 5 ∨ s.core.link = 6 then { s.core with twin := { s.core.twin with recLost := true } }.judge.startResync else s.core;
        ((s.core.pat.slot r.slot).kind ≠ 0 → exec (.slotRecord { r with poisoned := true }) s = .next { s with core := marked }) ∧
        exec (.gridRecord { g with poisoned := true }) s = .next { s with core := marked } ∧ exec (.groupRecord { b with poisoned := true }) s = .next { s with core := marked } ∧
        exec (.changeRecord .poisoned) s = .next (s.after marked) ∧ exec (.snapshotRecord .poisoned) s = .next { s with core := marked }) ∧
      (r.poisoned = false → (s.core.pat.slot r.slot).kind ≠ 0 →
        let k := r.slot
        let kind := (s.core.pat.slot k).kind
        let n := (s.core.pat.slot k).res
        let t := s.core.recordT k
        let c := (if r.late then s.core.setBit F.AX_STAT_LATE k true else s.core).setBit F.AX_STAT_UNPLACED k r.unplaced
        let c := (((c.set F.AX_SL_STAT_STATE k r.est).set F.AX_SL_STAT_TRIES k r.tries).setBit F.AX_PSTAT_DONE k r.pdone).setBit F.AX_PSTAT_REVERSING k r.reversing
        let shown := c
        let ran := if c.hasContext k then (c.gridAt (c.slotPeriod k)).start else t
        let still := Traj.rest t r.ppos
        let plan : Motion × Traj := match r.pstate with
          | 1 => (.move, match c.moveLimits k with | some (v, a, d) => (planTo t r.ppos r.pvel r.rtarget v a d).1 | none => Traj.uniform t r.ppos r.pvel)
          | 2 => (.jog, Traj.uniform t r.ppos r.pvel)
          | 5 => (.stopping, match (c.stopRate k true).1 with | some d => planStop t r.ppos r.pvel d | none => still)
          | 7 => (.stopping, match (c.stopRate k false).1 with | some d => planStop t r.ppos r.pvel d | none => still)
          | _ => (.rest, still)
        let c := c.adoptProfile k r t
        (r.pstate ≠ 3 → r.pstate ≠ 4 → shown.pathOf k = none →
          c = shown.setProf k { shown.profAt k with engaged := false, traj := plan.2, motion := plan.1, target := r.rtarget, jogVel := r.pvel, limPlan := false, ss1 := r.pstate = 5, held := r.pstate = 6 && !shown.slotSto k }) ∧
        (r.pstate = 3 → shown.pathOf k = none → (shown.profAt k).engaged = true → r.rtarget = r.ppos → (s.core.pat.slot k).gearKind ≠ 1 →
          c = shown.setProf k { shown.profAt k with sup := still, supMotion := .rest, supTarget := r.rtarget }) ∧
        (r.pstate = 4 → ∀ path m, (s.core.pat.slot k).ig < 16 → shown.igAt (s.core.pat.slot k).ig = path → path.moving = true → path.members.find? (fun x => x.1 == k) = some m → path.memberEnd m = r.rtarget → c.igAt (s.core.pat.slot k).ig = path) ∧
        let c := if kind = 2 then ((c.setReg R.SP_COUNT n r.iVel).set F.SP_STAT_LAG n r.iD.toNat).setStep n { c.stepAt n with steps := r.iVel.toInt, owed := r.ppos.fdiv 65536 - (if r.pvel.neg then -(r.iD.toNat : Int) else r.iD.toNat) } else
          let i := if kind = 1 then park (c.laneCurrent n) r.thetaE else (0, 0)
          c.setLoop k { c.loopAt k with iVel := r.iVel, iD := r.iD, iQ := r.iQ, vCmd := r.vcmd, iCmd := r.icmd, vd := r.vd, vq := r.vq, id := i.1, iq := i.2, dutyU := dutyOfWord r.dutyU, dutyV := dutyOfWord r.dutyV, dutyW := dutyOfWord r.dutyW, hasDuty := true, tCur := some ran, tVel := some ran }
        let c := c.set F.AX_COMM_STAT_THETA_E k r.thetaE.toNat
        let e := c.estAt k
        let len := (c.gridAt (c.slotPeriod k)).len
        let fe := if len = 0 then e.fe else F32.div (F32.ofInt (wrapTo e.theta r.thetaE)) (F32.mul 0x47800000 (F32.ofRat (len / 1000000000)))
        let c := if c.isHot then c else c.setEst k { e with theta := r.thetaE, fe := fe, obsTheta := r.thetaE, hfiTheta := r.thetaE, obsFreq := fe, hfiFreq := fe }
        exec (.slotRecord r) s = .next { s with core := c.publishState k c.profNs } ∧
        (kind ≠ 2 → (c.loopAt k).iVel = r.iVel ∧ (c.loopAt k).vCmd = r.vcmd ∧ (c.loopAt k).iCmd = r.icmd ∧ (c.loopAt k).vd = r.vd ∧ (c.loopAt k).vq = r.vq)) ∧
      (g.poisoned = false →
        let q := g.period
        let start := (g.startNs : Int) - s.core.time.stepSum
        let old := s.core.gridAt q
        let c := (((s.core.setReg R.BS_FCNT q g.fcnt).set F.BS_FEPOCH_WRAPS q g.fepoch).setReg R.BS_DEBT q (BitVec.ofNat 32 g.debt)).setReg R.BS_SHIFT q (BitVec.ofNat 32 g.shift)
        let c := c.set F.BS_STAT_LEVEL 0 g.level
        let len := frameLength (periodNs q) g.debt
        let c := c.setGrid q { old with running := true, start := start, nominal := start - g.debt, len := len, prevPlan := (if old.running then old.len else len), prevLen := (if old.running then (start - old.start).toNat else len.floor.toNat), level := g.level }
        (s.core.link = 6 → exec (.gridRecord g) s = .next { s with core := if g.complete then c else c.lostRecord }) ∧
        (s.core.link = 5 → s.core.twin.snapshots = true →
          let c := { c with twin := { c.twin with complete := Tab.set 0 c.twin.complete q (if g.complete then Tab.get 0 c.twin.complete q + 1 else 0) } }
          let all := ((List.range 6).filter c.gridUsed).all (fun x => 2 ≤ Tab.get 0 c.twin.complete x)
          exec (.gridRecord g) s = .next { s with core := if all then c.resynced else c }) ∧
        (s.core.link = 4 ∨ (s.core.link = 5 ∧ s.core.twin.snapshots = false) → exec (.gridRecord g) s = .next { s with core := c }) ∧
        c.reg R.BS_FCNT q = g.fcnt ∧ (c.gridAt q).start = start) ∧
      (b.poisoned = false →
        let n := b.group
        let old := s.core.bg n
        let xss1 := b.state = 1 || (b.state = 2 && old.xss1)
        let c := (s.core.setGrp n b.state).set F.SF_GRP_CAUSE n b.cause
        let c := { c with latchRec := Tab.set 0 c.latchRec n (b.latches.toNat &&& 0x0F80) }
        let t := c.profNs / 4294967296 * 4294967296 + (b.ss1Start : Int)
        let x := { old with xsto := b.state = 2 && (xstoCause b.cause || (s.core.inSto n && old.xsto)), xss1 := xss1, xss1Timer := xss1, xss1Expired := xss1 && old.xss1Expired, v0 := b.v0, brakeOn := b.brakeOn, ss1T := (if b.state = 1 then (if c.profNs < t then t - 4294967296 else t) else old.ss1T), ss1Pend := (if b.state = 0 then old.ss1Pend else 0) }
        let c := c.setBg n x
        exec (.groupRecord b) s = .next { s with core := (if b.state = 2 && !s.core.inSto n then foldN (c.groupSlots n) c Core.stoSlot else c).xb2 } ∧
        (b.state < 4 → b.cause < 16 → c.get F.SF_GRP_STATE n = b.state ∧ c.get F.SF_GRP_CAUSE n = b.cause)) ∧
      (∀ (reg : Reg) (i : Nat) (v : Word), locAt (⟨reg, i⟩ : Loc).addr = some ⟨reg, i⟩ →
        (mirrored reg = false → exec (.changeRecord (.write (⟨reg, i⟩ : Loc).addr v)) s = .next (s.after s.core)) ∧
        (mirrored reg = true → (highOf reg).isSome = true ∨ (lowOf reg).isSome = true → exec (.changeRecord (.write (⟨reg, i⟩ : Loc).addr v)) s = .next (s.after (s.core.setReg reg i v))) ∧
        (mirrored reg = true → highOf reg = none → lowOf reg = none → exec (.changeRecord (.write (⟨reg, i⟩ : Loc).addr v)) s = .next (s.after (s.core.applyWrite s.ram reg i v (s.core.storeMask reg i true) 0)))) ∧
      (∀ lane cause, lane < 96 →
        let bit := 2 ^ (if lane < 32 then lane % 4 else (lane - 32) % 8)
        let m := s.core.get F.LG_STAT_FAULTED (laneGroup lane)
        let shows (cause : Nat) := ((s.core.setBit F.LN_STAT_FAULT lane (cause ≠ 0)).set F.LN_STAT_CAUSE lane cause).set F.LG_STAT_FAULTED (laneGroup lane) (if cause ≠ 0 then m ||| bit else m &&& (0xFF - bit))
        exec (.changeRecord (.laneFault lane cause)) s = .next (s.after (shows cause)) ∧ exec (.changeRecord (.laneClear lane)) s = .next (s.after (shows 0))) ∧
      (∀ port cause, port < 56 →
        let shows (cause : Nat) : Core := { s.core with twin := { s.core.twin with leadPorts := Tab.set 0 s.core.twin.leadPorts port cause } }
        exec (.changeRecord (.portFault port cause)) s = .next (s.after (shows cause)) ∧ exec (.changeRecord (.portClear port)) s = .next (s.after (shows 0))) ∧
      (let c : Core := { s.core with twin := { s.core.twin with snapshots := true } }
       let gives (x : SnapRec) (d : Core) := exec (.snapshotRecord x) s = .next { s with core := if d.link = 5 && !(List.range 6).any d.gridUsed then d.resynced else d }
       (∀ (k : Nat) (x : GearRec), k < 128 → (c.pat.slot k).gearKind ≠ 2 →
         gives (.gear k x) (c.setProf k { c.profAt k with engaged := x.engaged, gearOfs := x.offset, num := x.num, den := x.den, rampLeft := x.left, rampTotal := x.total, rampNum0 := x.num0, rampDen0 := x.den0, rampNum1 := x.num1, rampDen1 := x.den1, portSum := 0, portLast := 0 })) ∧
       (∀ (k : Nat) (x : GearRec), k < 128 → (c.pat.slot k).gearKind = 2 →
         gives (.gear k x) (c.setProf k { c.profAt k with engaged := x.engaged, gearOfs := x.offset, num := x.num, den := x.den, rampLeft := x.left, rampTotal := x.total, rampNum0 := x.num0, rampDen0 := x.den0, rampNum1 := x.num1, rampDen1 := x.den1, portSum := 0, portLast := c.portValue (c.pat.slot k).gearMaster c.profNs })) ∧
       (∀ (n : Nat) (x : PathRec), n < 16 →
         let go := if x.stopping then planStop c.profNs x.s x.v x.dec else (planTo c.profNs x.s x.v x.last x.vmax x.acc x.dec).1
         let c := c.setIg n { c.igAt n with moving := x.moving, stopping := x.stopping, s := go, lenL := x.len, lenEnd := x.last, vmax := x.vmax, acc := x.acc, dec := x.dec, members := x.members, master := x.master, m0 := x.m0, k := if x.back then -1 else 1 }
         gives (.ipath n x) ((c.setBit F.IG_STAT_MOVING n x.moving).set F.IG_STAT_LEAD n x.lead)) ∧
       (∀ (k : Nat) (arm : Word), k < 128 → gives (.capture k arm) (c.captureArm k arm)) ∧
       (∀ l cause, l < 96 → gives (.laneFault l cause) (c.adoptLane l cause)) ∧
       (∀ q cause, q < 56 → gives (.portFault q cause) { c with twin := { c.twin with leadPorts := Tab.set 0 c.twin.leadPorts q cause } }) ∧
       (∀ h o n, h < 4 → o < 512 → (c.pat.obj h o).cyclic = true → gives (.canPhase h o n) (c.setCanObj (objAt h o) { c.canObjAt (objAt h o) with phase := n % Max.max 1 (c.pat.obj h o).cycle })) ∧
       (∀ h o fr, h < 4 → o < 512 → gives (.canTx h o fr) (c.canQueue h o fr)) ∧
       (∀ (f seq : Nat) (outs : List Word), f < 2 → gives (.fieldString f seq outs) (foldN (List.range 4) (c.set F.FI_FS_STAT_SEQ f seq) (fun c n => match outs[n]? with | some w => c.setReg R.FI_FS_OUT (4 * f + n) w | none => c)))))

/-- Claims, handover and takeover. A READY Standby that sees FAIL takes over, another takes over cold, and one that loads does so afterwards; a Lead's request with a READY partner sets the release instant, at the next frame start at or after 50 µs from the link tick of the record's first copy, at which it releases its claims if the Standby has seen it and keeps them otherwise, and the Standby takes over; a takeover ends logged. OWN lines of the partner make a starting module STANDBY, and when the last of them goes after a loss the Standby takes over; 20 µs with one of them left are logged. Both lines of a group take it to STO with cause 15 and XSTO, and the later module, or position B within 5 µs, yields within 10 µs; claims that are not refreshed go (R26, R363, R373–R378). It states the completion of failIn, handoverReq, handoverRecord, handoverRelease, takeoverOwnTimeout, takeoverComplete, ownRefresh, dualClaim and pownLineChange. Where the manual leaves a point open, the model’s choice is log entries 13 and 116 to 118. -/
def Obligations.HandoverAndTakeover : Prop :=
  ∀ (s : State) (p : Path) (g : Nat) (h : HandoverRec), g < 16 →
    let tw := s.core.twin
    let x := s.core.bridle
    let failed : Core := { s.core with twin := { tw with failIn := true } }
    let seeded : Core := if failed.lossGap then failed else failed.seedGaps
    let bit := BitVec.ofNat 16 (2 ^ g)
    let up : Core := { s.core with bridle := { x with pown := x.pown ||| bit, pownT := if x.pown.getLsbD g then x.pownT else Tab.set 0 x.pownT g s.core.profNs } }
    let down : Core := { s.core with bridle := { x with pown := x.pown &&& ~~~bit } }
    (exec .failIn s = .next { s with core :=
      (if seeded.isStandby = false then seeded
      else if s.core.bit F.TW_ROLE_READY 0 then seeded.takeOver 2
      else if seeded.loading || seeded.get F.PT_STAT_PHASE 0 = 4 || seeded.get F.PT_STAT_PHASE 0 = 5 then { seeded with twin := { seeded.twin with coldPend := true } }
      else seeded.takeCold) }) ∧
    (∀ (c : Core) (kind : Nat), kind < 8 → (c.takeOver kind).isLead = true ∧ (c.takeOver kind).bridle.own = BitVec.ofNat 16 c.pat.groupMask ∧ (c.takeOver kind).get F.TW_LAST_KIND 0 = kind) ∧
    (∀ c : Core, c.bit F.PT_BOOT_NO_PATTERN 0 = false → c.pat.valid = true → c.bit F.RST_STAT_INCARN_UNSAVED 0 = false →
      c.takeCold.isLead = true ∧ c.takeCold.get F.TW_LAST_KIND 0 = 4 ∧ ∀ n < 16, c.takeCold.inSto n = true ∧ c.takeCold.get F.SF_GRP_CAUSE n = 0) ∧
    (Writes s.core p ⟨R.TW_CTRL, 0⟩ → exec (.handoverReq p) s = .next (s.after (s.core.wrote s.ram p R.TW_CTRL 0 (fieldWord F.TW_CTRL_REQ 1) (fun c =>
      let refuse (n : Nat) : Core := (c.set F.TW_CTRL_RESULT 0 n).setBit F.TW_CTRL_REQ 0 false
      if c.isLead = false then refuse 1
      else if c.readyPartner = false then refuse 2
      else if c.twin.release.isSome || c.twin.takeover || c.loading || c.get F.PT_STAT_PHASE 0 = 5 then refuse 3
      else
        let tick := (c.netNs / 10000 + 1) * 10000 - c.time.stepSum
        ({ c with twin := { c.twin with release := some (c.releaseInstant (tick + 50000)), handoverSeen := false, copies := 4 } }.setBit F.TW_CTRL_REQ 0 true).set F.TW_CTRL_RESULT 0 0)))) ∧
    (s.core.isStandby = true → s.core.bit F.TW_ROLE_READY 0 = true → tw.handover ≠ some h.firstSeq → exec (.handoverRecord h) s =
      .next { s with core := { s.core with twin := { tw with handover := some h.firstSeq, release := some ((h.relSec.toNat : Int) * 1000000000 + h.relNs.toNat - s.core.time.stepSum) } } }) ∧
    (s.core.isStandby = false ∨ s.core.bit F.TW_ROLE_READY 0 = false ∨ tw.handover = some h.firstSeq → exec (.handoverRecord h) s = .next s) ∧
    (∀ i, tw.release = some i →
      let c : Core := { s.core with twin := { tw with release := none, handoverSeen := false, copies := 0 } }.setBit F.TW_CTRL_REQ 0 false
      (s.core.isLead = true → tw.handoverSeen = false → exec .handoverRelease s = .next { s with core := c.set F.TW_CTRL_RESULT 0 2 }) ∧
      (s.core.isLead = true → tw.handoverSeen = true → exec .handoverRelease s = .next { s with core := ((c.set F.TW_CTRL_RESULT 0 0).becomeStandby.setBit F.TW_ROLE_PARTNER_READY 0 false).setLink 4 }) ∧
      (s.core.isLead = false → s.core.bit F.TW_ROLE_READY 0 = true → exec .handoverRelease s = .next { s with core := ((({ s.core with twin := { tw with release := none } } : Core).takeOver 3).setLink 4).sendImage }) ∧
      (s.core.isLead = false → s.core.bit F.TW_ROLE_READY 0 = false → exec .handoverRelease s = .next { s with core := { s.core with twin := { tw with release := none } } })) ∧
    (tw.release = none → exec .handoverRelease s = .next s) ∧
    (tw.lossPend = true ∨ tw.coldPend = true → x.pown ≠ 0 → exec .takeoverOwnTimeout s =
      .next { s with core := ({ s.core.dropGaps with twin := { tw with lossPend := false, coldPend := false } }.logFrom 0x23 0x0104 noSrc x.pown.toNat).judge }) ∧
    (tw.takeover = true →
      let c := ({ s.core with twin := { tw with takeover := false, handover := none } } : Core).logFrom 0x23 0x0100 noSrc (s.core.get F.TW_LAST_KIND 0)
      exec .takeoverComplete s = .next { s with core := if s.core.rst.warmPend = 0 then c else { c with rst := { c.rst with warmPend := 0 } }.assertReset 1 s.core.rst.warmPend }) ∧
    (s.core.isLead = true → s.core.runs 0x27 = true → s.core.rst.held = false → exec .ownRefresh s = .next s) ∧
    (s.core.isLead = false → x.own ≠ 0 → exec .ownRefresh s = .next { s with core := s.core.releaseClaims.xb2 }) ∧
    (x.own.getLsbD g = true → x.pown.getLsbD g = true →
      let c := ((s.core.logFrom 0x27 0x0004 g 15).stoWithX g 15).set F.SF_GRP_CAUSE g 15
      let d := x.ownT - Tab.get 0 x.pownT g
      (∀ ns ≤ 10000, exec (.dualClaim g ns) s = .next { s with core := if 0 < d ∨ (d.natAbs ≤ 5000 ∧ c.position = 1) then c.giveWay.gapFrom ns else c }) ∧ c.inSto g = true ∧ (c.bg g).xsto = true) ∧
    (x.own.getLsbD g = false ∨ x.pown.getLsbD g = false → ∀ ns ≤ 10000, exec (.dualClaim g ns) s = .next s) ∧
    exec (.pownLineChange g true) s = .next { s with core := ((if up.get F.TW_ROLE_ROLE 0 = 0 then up.becomeStandby else up).xb2).judge } ∧
    (down.bridle.pown ≠ 0 → exec (.pownLineChange g false) s = .next { s with core := down.xb2.judge }) ∧
    (down.bridle.pown = 0 →
      (tw.lossPend = true → exec (.pownLineChange g false) s = .next { s with core := down.xb2.leadGone true 1 }) ∧
      (tw.lossPend = false → tw.coldPend = false → exec (.pownLineChange g false) s = .next { s with core := down.xb2 }))

/-! ### Power states and resets -/

/-- Power requests. A write of a target stores CLEAN and requests the target, one for Deep Sleep or Off that can start after the reply; the checks of R394 refuse in their order, and a refused request is denied, counted and logged; a request waits while a takeover or a load holds it, and starts when nothing does. Sleep rests the virtual slots and stops its islands, Deep Sleep and Off gate the main domain and Saddler and engage the clamps, unless a transfer still runs; the end of a wake reaches Run (R85, R106, R135, R389–R391, R393–R399, R403). It states the completion of powerReqRun, powerReqIdle, powerReqSleep, powerReqDeepSleep, powerReqOff, powerReqBadTarget, powerTransitionStart, powerEntryComplete, appIslandIdle and wakeComplete. Where the manual leaves a point open, the model’s choice is log entries 13, 124 to 126, 128 and 190. -/
def Obligations.PowerTransitions : Prop :=
  ∀ (s : State) (p : Path) (n : Nat),
    let w := s.core.reg R.PW_REQ 0
    let state := s.core.get F.PW_STAT_STATE 0
    let active := s.core.get F.PW_STAT_ACTIVE 0
    let asks (i : Instr) (n : Nat) (f : Core → Core) := exec i s = .next (s.after (s.core.wrote s.ram p R.PW_REQ 0 (F.PW_REQ_TARGET.write w n) (fun c => f (c.set F.PW_REQ_CLEAN 0 (F.PW_REQ_CLEAN.read (c.taken p R.PW_REQ 0 (F.PW_REQ_TARGET.write w n)))))))
    let wants (n : Nat) (c : Core) : Core :=
      let c := c.sendLevel 0x25 0x28 linePower n
      if c.pwActive ≠ 7 then (if n = c.pwActive then c.set F.PW_STAT_RESULT 0 0 else c.pwPend n)
      else if n = c.pwState then c.set F.PW_STAT_RESULT 0 0
      else if c.pwHeld then c.pwPend n
      else c.pwStart n
    let deep (n : Nat) (c : Core) : Core := if c.pwActive = 7 ∧ n ≠ c.pwState ∧ c.pwHeld = false ∧ c.pwRefusal n = 0 then { c with deferred := some (.power n) } else wants n c
    let enters (n : Nat) (c : Core) : Core := ((c.set F.PW_STAT_STATE 0 n).set F.PW_STAT_ACTIVE 0 7).set F.PW_STAT_RESULT 0 0
    let unlocked := (s.core.dropLocks 6).dropLocks 7
    let gated : Core :=
      let c := (((unlocked.logFrom 0x28 0x0400 noSrc active).restVirtual.closeAll 3).keyCommit true).imgAbandon
      let c := foldN mainAndSaddler (c.logFlush (c.sad.qRing.length + c.sad.qPin.length + 2)) (fun c i => c.setIsl i 2)
      let c := { c with twin := { c.twin with failOut := false }, power := { c.power with clamps := true, phy := 3 } }
      if active = 4 then c.bridleOff else c
    let runs (c : Core) : Core :=
      let c := if c.islState 0x25 = 1 then c.setIsl 0x25 0 else c
      let c := (({ c with bridle := { c.bridle with startup := false } }).set F.PW_STAT_STATE 0 0).set F.PW_STAT_ACTIVE 0 7
      let c := if c.isLead then c.claim else c
      (if state = 0 then c else (c.addSat F.PW_CNT_WAKES 0 1).logFrom 0x28 0x0401 noSrc state).xb2.judge
    let canAgain (c : Core) : Core := foldN (List.range 4) c (fun c h => if c.get F.CN_STAT_STATE h = 0 then c else c.canRestartCh h)
    (Writes s.core p ⟨R.PW_REQ, 0⟩ →
      asks (.powerReqRun p) 0 (fun c =>
        let d := c.sendLevel 0x25 0x28 linePower 0
        let a := c.pwActive
        if a = 1 ∨ a = 2 ∨ (a = 7 ∧ c.pwState ≠ 0) then d.wakeBy 10 else if a = 0 then (d.wakeBy 10).set F.PW_STAT_RESULT 0 0 else wants 0 c) ∧
      asks (.powerReqIdle p) 1 (wants 1) ∧ asks (.powerReqSleep p) 2 (wants 2) ∧ asks (.powerReqDeepSleep p) 3 (deep 3) ∧ asks (.powerReqOff p) 4 (deep 4) ∧
      (5 ≤ n → n ≤ 7 → asks (.powerReqBadTarget p n) n (wants n))) ∧
    (∀ c : Core,
      (c.pwRefusal n ≠ 0 → c.pwStart n = ((c.set F.PW_STAT_RESULT 0 (c.pwRefusal n)).addSat F.PW_CNT_DENIED 0 1).logFrom 0x28 0x0402 noSrc (c.pwRefusal n + 256 * n)) ∧
      (2 ≤ n → n ≤ 4 → c.allSto = false → c.pwRefusal n = 1) ∧ (n ≤ 1 → c.islState 0x26 ≠ 5 → c.islState 0x25 ≠ 5 → c.pwRefusal n = 0) ∧
      (n < 7 → (c.pwPend n).get F.PW_STAT_PENDING 0 = n)) ∧
    (s.core.get F.PW_STAT_PENDING 0 = n → n ≠ 7 → active = 7 → s.core.pwHeld = false → s.core.rst.held = false →
      exec .powerTransitionStart s = .next { s with core := if n = state then (s.core.set F.PW_STAT_PENDING 0 7).set F.PW_STAT_RESULT 0 0 else (s.core.set F.PW_STAT_PENDING 0 7).pwStart n }) ∧
    (s.core.get F.PW_STAT_PENDING 0 = 7 → exec .powerTransitionStart s = .next s) ∧
    (active = 1 → exec .powerEntryComplete s = .next { s with core := enters 1 (s.core.logFrom 0x28 0x0400 noSrc 1) }) ∧
    (active = 2 →
      let c := ((s.core.dropLocks 7).logFrom 0x28 0x0400 noSrc 2).restVirtual
      let c := foldN (List.range 56) c (fun c q => if c.bit F.FB_CFG_SLEEP_RUN q then c else c.exciteStop q)
      let c := foldN sleepIslands c (fun c i => if c.islState i = 0 then c.setIsl i 1 else c)
      exec .powerEntryComplete s = .next { s with core := enters 2 c } ∧ ∀ i ∈ sleepIslands, s.core.islState i = 0 → c.islState i = 1) ∧
    (active = 3 ∨ active = 4 →
      ((∀ b < 16, (unlocked.bankAt b).holder = none) → exec .powerEntryComplete s = .next { s with core := enters active gated } ∧ gated.power.clamps = true ∧ ∀ i < 0x29, gated.islState i = 2) ∧
      (∀ b < 16, (unlocked.bankAt b).holder ≠ none → exec .powerEntryComplete s = .next { s with core := unlocked })) ∧
    (active = 0 ∨ 4 < active → exec .powerEntryComplete s = .next s) ∧
    (state = 1 ∨ state = 2 → s.core.runs 0x25 = true → exec .appIslandIdle s = .next { s with core := s.core.setIsl 0x25 1 }) ∧
    (active = 0 →
      (state < 2 → exec .wakeComplete s = .next (s.after ((runs (canAgain s.core)).goOn s.ram))) ∧
      (state = 2 →
        let c := foldN sleepIslands s.core (fun c i => if c.islState i = 1 then c.setIsl i 0 else c)
        let c := { { c with power := { c.power with woke := 0xFFFF } }.allStartup with woken := [] }
        exec .wakeComplete s = .next (s.after ((runs (canAgain (foldN c.usedSlots c (fun c k => c.clearLoop k)))).goOn s.ram))) ∧
      (state = 3 → exec .wakeComplete s = .next (s.after ((runs (s.core.wakeDeep s.ram)).goOn s.ram)))) ∧
    (∀ c : Core, (runs c).pwState = 0 ∧ (runs c).pwActive = 7) ∧
    (active ≠ 0 → exec .wakeComplete s = .next (s.after (s.core.goOn s.ram)))

/-- Wake sources and the supply. An enabled source that wakes the state is recorded, abandons an entry under way with ABORTED, and else starts the wake, which is refused with DENIED_FAULT while the scheduler or application island has failed, and waits while a takeover, a load or a re-lace holds it; another has no effect. A removed cell is absent, logged, and is not charged; a lost backup domain loses its fields, its seconds and its latches; the supply-fail shutdown takes every group to STO, gates the domains, engages the clamps and holds the reset until the supply returns (R394, R396, R398, R402, R404, R405, R407, R467). It states the completion of wakePin, phyWake, canWake, alarm, cellRemoved, cellPresent, chargeDone, backupLoss, supplyFail, supplyOvervolt and supplyRestored. Where the manual leaves a point open, the model’s choice is log entries 126 and 129. -/
def Obligations.WakesAndSupply : Prop :=
  ∀ (s : State) (k : Nat),
    let noCell := { s.core with power := { s.core.power with cell := false } }.setBit F.PW_CELL_CHARGING 0 false
    let woken (src : Nat) : Core :=
      let c := s.core.set F.PW_WAKE_SRC_SRC 0 (s.core.get F.PW_WAKE_SRC_SRC 0 ||| 2 ^ src)
      let a := s.core.get F.PW_STAT_ACTIVE 0
      let starts (c : Core) : Core := (c.set F.PW_STAT_ACTIVE 0 0).set F.PW_WAKE_SRC_FROM 0 (s.core.get F.PW_STAT_STATE 0)
      if 1 ≤ a ∧ a ≤ 4 then starts (c.set F.PW_STAT_RESULT 0 5)
      else if a ≠ 7 then c
      else if c.pwHeld then c.pwPend 0
      else if c.islState 0x26 = 5 ∨ c.islState 0x25 = 5 then c.pwDeny 3 0
      else starts c
    let acts (i : Instr) (src : Nat) :=
      (s.core.wakeEnabled src = true → wakes src s.core.wakeColumn = true → exec i s = .next { s with core := woken src }) ∧
      (s.core.wakeEnabled src = false ∨ wakes src s.core.wakeColumn = false → exec i s = .next s)
    let cut (seen : Fld) : Core :=
      let c := foldN (List.range 16) (s.core.setBit seen 0 true) (fun c g => c.enterSto g 0 false)
      let c := (if c.isLead then c.assertFail else c).releaseClaims.xb2
      let c := ({ c with twin := { c.twin with takeover := false } }.logSupplyFail).timeCopy
      let c := foldN mainAndSaddler (((c.set F.PW_STAT_ACTIVE 0 7).set F.PW_STAT_PENDING 0 7).assertReset 4 3) (fun c i => c.setIsl i 2)
      { c with twin := { c.twin with failOut := false }, power := { c.power with clamps := true, supply := false }, rst := { c.rst with supply := true, kind := 4 } }
    acts .wakePin 0 ∧ (k < 2 → acts (.phyWake k) (1 + k)) ∧ (k < 4 → acts (.canWake k) (4 + k)) ∧
    (s.core.reg R.PW_ALARM_LO 0 ≠ 0 ∨ s.core.reg R.PW_ALARM_HI 0 ≠ 0 → acts .alarm 9) ∧ (s.core.reg R.PW_ALARM_LO 0 = 0 → s.core.reg R.PW_ALARM_HI 0 = 0 → exec .alarm s = .next s) ∧
    (s.core.bit F.PW_CELL_CELL_ABSENT 0 = true → exec .cellRemoved s = .next { s with core := noCell }) ∧
    (s.core.bit F.PW_CELL_CELL_ABSENT 0 = false → exec .cellRemoved s = .next { s with core := ((noCell.setBit F.PW_CELL_CELL_ABSENT 0 true).setBit F.PW_CELL_CELL_ABSENT_SEEN 0 true).logFrom 0x29 0x0404 noSrc 0 }) ∧
    exec .cellPresent s = .next { s with core := (({ s.core with power := { s.core.power with cell := true } } : Core).setBit F.PW_CELL_CELL_ABSENT 0 false).setBit F.PW_CELL_CHARGING 0 s.core.power.supply } ∧
    exec .chargeDone s = .next { s with core := s.core.setBit F.PW_CELL_CHARGING 0 false } ∧
    exec .backupLoss s = .next { s with core := { s.core.loseFields (fun _ _ f => f.cls = .B) with backSec := 0, backSub := 0, backKept := false, latchRec := [], sad := { s.core.sad with lostAtFail := 0 } } } ∧
    (s.core.runs 0x28 = true ∨ s.core.islState 0x28 = 3 →
      exec .supplyFail s = .next { s with core := cut F.PW_SUPPLY_SUPPLY_FAIL_SEEN } ∧ exec .supplyOvervolt s = .next { s with core := cut F.PW_SUPPLY_OVERVOLT_SEEN }) ∧
    (∀ seen : Fld, (cut seen).power.clamps = true ∧ (cut seen).rst.held = true ∧ (cut seen).rst.supply = true ∧ (∀ j < 0x29, (cut seen).islState j = 2)) ∧
    exec .supplyRestored s = .next { s with core := { s.core with power := { s.core.power with supply := true }, rst := { s.core.rst with supply := false } } }

/-- A request for a reset with KEY 0x5A is carried out after the reply, and one with another key sets KEY_REFUSED. An asserted reset is held, with the first source kept, the claims released and its islands in reset; a button, the pin, a lost presence and the supply hold it until they go; one stuck for 10 s is masked, logged, and the mask lifts when it is inactive again; a rail that does not come up is retried, and three failures end the start; when nothing holds the reset any more, the module starts from an image that its boot code chose (R85, R373, R411–R418, R422, R423, R444, R478). It states the completion of warmResetReq, moduleResetReq, cleanResetReq, resetInputAssert, resetInputRelease, stuckReset, resetMaskLift, presenceLoss, unseatRelease, powerOn, startRetry, phyResetRelease and moduleResetRelease. Where the manual leaves a point open, the model’s choice is log entries 13, 130 to 132 and 187. -/
def Obligations.Resets : Prop :=
  ∀ (s : State) (p : Path) (key : Byte) (i : ResetInput) (heldMs : Nat) (pos0 pos1 frec : Bool),
    let r := s.core.rst
    let active (b : Bool) := s.core.setBit (inputFields i).1 0 b
    let asks (c : Instr) (n src : Nat) := exec c s = .next (s.after (s.core.wrote s.ram p R.RST_CTRL 0 (F.RST_CTRL_KEY.write (fieldWord F.RST_CTRL_REQ n) key.toNat) (fun c =>
      if key = 0x5A then { c with deferred := some (.reset (if n = 1 then 1 else 2) src (decide (n = 3))) } else c.setBit F.RST_STAT_KEY_REFUSED 0 true)))
    let hold (c : Core) (kind : Nat) := foldN (List.range (if kind = 1 then 0x28 else 0x29)) c (fun c i => c.setIsl i 3)
    let resets (c : Core) (kind source : Nat) : Core :=
      let r := c.rst
      if r.held then hold { c with rst := { r with kind := (if r.kind = 1 then kind else r.kind), sources := r.sources ++ [source] } } (if r.kind = 1 then kind else r.kind)
      else
        let c := (if c.isLead then c.assertFail else c).releaseClaims
        let c := (foldN (List.range 16) c (fun c g => c.setBg g { c.bg g with genA := false, path1 := false, relCheck := false, relPend := false })).xb2
        hold { c with rst := { c.rst with held := true, kind := kind, source := source, sources := [source], clean := false } } kind
    let held := resets (active true) 2 (inputSource i)
    let unseated := resets s.core 3 8
    let powered := resets s.core 4 1
    (Writes s.core p ⟨R.RST_CTRL, 0⟩ → let src := if p = .awl then 7 else 6
      asks (.warmResetReq p key) 1 src ∧ asks (.moduleResetReq p key) 2 src ∧ asks (.cleanResetReq p key) 3 src) ∧
    (∀ (c : Core) (kind source : Nat), (resets c kind source).rst.held = true ∧ (c.rst.held = false → (resets c kind source).rst.kind = kind ∧ (resets c kind source).rst.source = source) ∧
      (c.rst.held = true → (resets c kind source).rst.source = c.rst.source) ∧ ∀ j < 0x28, (resets c kind source).islState j = 3) ∧
    (s.core.bit (inputFields i).2.1 0 = true → exec (.resetInputAssert i) s = .next { s with core := active true }) ∧
    (s.core.bit (inputFields i).2.1 0 = false → exec (.resetInputAssert i) s = .next { s with core := { held with rst := held.rst.setHold i true } }) ∧
    (r.holds i = true → 50 ≤ heldMs → exec (.resetInputRelease i heldMs) s =
      .next { s with core := { active false with rst := { r.setHold i false with clean := r.clean || (decide (4000 ≤ heldMs) && decide (heldMs < 10000)) } } }) ∧
    (r.holds i = false → exec (.resetInputRelease i heldMs) s = .next { s with core := active false } ∧ exec (.stuckReset i) s = .next s) ∧
    (r.holds i = true → exec (.stuckReset i) s =
      .next { s with core := { (s.core.setBit (inputFields i).2.1 0 true).setBit (inputFields i).2.2 0 true with rst := r.setHold i false }.logFrom 0x28 0x0406 noSrc (inputSource i) }) ∧
    (s.core.bit (inputFields i).1 0 = false → exec (.resetMaskLift i) s = .next { s with core := s.core.setBit (inputFields i).2.1 0 false }) ∧
    (s.core.bit (inputFields i).1 0 = true → exec (.resetMaskLift i) s = .next s) ∧
    exec .presenceLoss s = .next { s with core := { unseated with rst := { unseated.rst with unseat := true } } } ∧
    exec .unseatRelease s = .next { s with core := { s.core with rst := { r with unseat := false } } } ∧
    exec .powerOn s = .next { s with core := { powered with power := { powered.power with supply := true }, rst := { powered.rst with supply := false, kind := 4, retries := 0, startFail := false } }.bridleOff } ∧
    (∀ c : Core, c.bridleOff.bridle.refStored = false ∧ ∀ g < 16, (c.bridleOff.bg g).genB = false) ∧
    (r.held = true → r.startFail = false →
      exec (.startRetry true) s = .next { s with core := { s.core with rst := { r with retries := 0, kind := 4, source := 0x0B, sources := r.sources ++ [0x0B] } } } ∧
      exec (.startRetry false) s = .next { s with core := { s.core with rst := { r with retries := r.retries + 1, startFail := decide (2 ≤ r.retries) } } }) ∧
    (r.held = false ∨ r.startFail = true → ∀ ok, exec (.startRetry ok) s = .next s) ∧
    (r.held = false → exec .phyResetRelease s = .next { s with core := { s.core with power := { s.core.power with phy := 3 } } }) ∧ (r.held = true → exec .phyResetRelease s = .next s) ∧
    (r.held = true → r.buttonHold = false → r.pinHold = false → r.unseat = false → r.supply = false → r.startFail = false → r.retries = 0 →
      (r.kind = 1 → exec (.moduleResetRelease pos0 pos1 frec) s = .next (s.after (s.core.start s.ram 1 r.source pos0 pos1 frec))) ∧
      (r.kind ≠ 1 → exec (.moduleResetRelease pos0 pos1 frec) s = .next (s.after
        (if s.core.imageBoot.2 then s.core.imageBoot.1.start s.ram r.kind r.source pos0 pos1 frec else { s.core.imageBoot.1 with rst := { s.core.imageBoot.1.rst with startFail := true } })))) ∧
    (r.held = false ∨ r.holds i = true ∨ r.unseat = true ∨ r.supply = true → exec (.moduleResetRelease pos0 pos1 frec) s = .next (s.after s.core))

/-! ### Saddler -/

/-- RH above 85 % for 10 minutes sets MG_HEALTH.HUMIDITY_HIGH and logs HUMIDITY_HIGH, and nothing else is done; a valid reading of RH below 80 % clears the flag, and one of 80 % or more leaves it (R429). It states the completion of humidityHigh. -/
def Obligations.HumidityIsFlagged : Prop :=
  ∀ (s : State) (rh : Nat), s.core.runs 0x28 = true →
    (s.core.bit F.MG_HEALTH_HUMIDITY_HIGH 0 = false → exec (.humidityHigh rh) s = .next { s with core := (s.core.setBit F.MG_HEALTH_HUMIDITY_HIGH 0 true).logFrom 0x28 0x0704 noSrc rh }) ∧
    (s.core.bit F.MG_HEALTH_HUMIDITY_HIGH 0 = true → exec (.humidityHigh rh) s = .next s) ∧
    (∀ (c : Core) (v : Int), 0 ≤ v → v ≤ 100 → (c.get F.MG_HEALTH_ISOLATED 0).testBit 3 = false →
      (c.pointRead 14 (some v)).get F.MG_RH_RH 0 = v.toNat ∧ (c.pointRead 14 (some v)).bit F.MG_HEALTH_HUMIDITY_HIGH 0 = (c.bit F.MG_HEALTH_HUMIDITY_HIGH 0 && decide (80 ≤ v)))

/-- Sensors and their bus. A scheduled read of a point shows a valid value, and one that fails for the third time, or is not valid, makes it STALE; a rail or the input current is shown; a rail out of its range is flagged and logged at entry; a segment whose clock is stuck, or whose data line three attempts do not free, is isolated, with its points STALE, a recovery that succeeds is counted, and a retry, the host's or the scheduled one, takes back the segments that pass (R426–R428, R430–R432). It states the completion of sensorRead, railFault, i2cSclStuck, segmentRetry and i2cRetry. Where the manual leaves a point open, the model’s choice is log entries 13, 140, 141 and 183. -/
def Obligations.SensorsAndTheirBus : Prop :=
  ∀ (s : State) (p : Path) (point rail mv seg : Nat) (v : Int) (r : Option Int) (pass recovered : BitVec 4), rail < 10 → seg < 4 →
    let isolated := s.core.get F.MG_HEALTH_ISOLATED 0
    let anyStale (c : Core) : Core := c.setBit F.MG_HEALTH_STALE_ANY 0 ((List.range 15).any (fun p => c.bit (staleFld p).1 (staleFld p).2))
    let summed (c : Core) : Core := { c with sched := { c.sched with pinSum := c.sched.pinSum + c.pinNow, pinN := c.sched.pinN + 1 } }
    let gives (point : Nat) (bus : BusCheck) (r : Option Int) (c : Core) := exec (.sensorRead point bus r) s = .next { s with core := anyStale c }
    let stuck (c : Core) (seg : Nat) : Core :=
      let c := c.set F.MG_HEALTH_ISOLATED 0 (c.get F.MG_HEALTH_ISOLATED 0 ||| 2 ^ seg)
      let c := foldN ((List.range 15).filter (fun p => segmentOf p == seg)) c Core.goStale
      let c := (c.setBit F.MG_HEALTH_STALE_ANY 0 true).logFrom 0x28 0x0701 seg 0
      c.setBit F.MG_HEALTH_I2C_TRUNK 0 (c.get F.MG_HEALTH_ISOLATED 0 = 15)
    let back (c : Core) : Core := foldN (bitsOf 4 (c.get F.MG_HEALTH_ISOLATED 0)) c (fun c n =>
      if pass.getLsbD n = false then c
      else (((if recovered.getLsbD n then c.addSat F.MG_I2C_RECOVERIES 0 1 else c).set F.MG_HEALTH_ISOLATED 0 (c.get F.MG_HEALTH_ISOLATED 0 &&& (15 - 2 ^ n))).setBit F.MG_HEALTH_I2C_TRUNK 0 false).logFrom 0x28 0x0702 n 0)
    (s.core.runs 0x28 = true →
      (point < 15 → isolated.testBit (segmentOf point) = false →
        gives point .free r (s.core.pointRead point r) ∧ gives point .recovered r ((s.core.addSat F.MG_I2C_RECOVERIES 0 1).pointRead point r) ∧
        gives point .held r ((s.core.pointRead point none).isolate (segmentOf point))) ∧
      (point < 15 → isolated.testBit (segmentOf point) = true → ∀ bus, gives point bus r s.core) ∧
      (∀ bus, 15 ≤ point → point < 26 → gives point bus none s.core) ∧
      (∀ bus, let c := s.core.railRead rail v.toNat; gives (15 + rail) bus (some v) (if rail = 0 then summed c else c)) ∧
      (∀ bus, gives 25 bus (some v) (summed (s.core.set F.MG_IIN_MA 0 (Min.min 0xFFFF v.toNat)))) ∧
      (railOk rail mv = false →
        let c := (((s.core.set F.MG_RAIL_MV rail (Min.min 0xFFFF mv)).setBit F.MG_RAIL_FAULT rail true).setBit F.MG_RAIL_FAULT_SEEN rail true).setBit F.MG_HEALTH_RAIL_FAULT 0 true
        exec (.railFault rail mv) s = .next { s with core := if s.core.bit F.MG_RAIL_FAULT rail then c else c.logFrom 0x28 0x0703 rail mv }) ∧
      (railOk rail mv = true → exec (.railFault rail mv) s = .next s) ∧
      (isolated.testBit seg = false → exec (.i2cSclStuck seg) s = .next { s with core := stuck s.core seg }) ∧ (isolated.testBit seg = true → exec (.i2cSclStuck seg) s = .next s) ∧
      exec (.segmentRetry pass recovered) s = .next { s with core := back s.core }) ∧
    (Writes s.core p ⟨R.MG_I2C, 0⟩ → exec (.i2cRetry p pass recovered) s = .next (s.after (s.core.wrote s.ram p R.MG_I2C 0 (fieldWord F.MG_I2C_RETRY 1) back))) ∧
    (∀ c : Core, ((back c).get F.MG_HEALTH_ISOLATED 0).testBit seg = ((c.get F.MG_HEALTH_ISOLATED 0).testBit seg && !pass.getLsbD seg)) ∧
    (∀ c : Core, (c.railRead rail mv).get F.MG_RAIL_MV rail = Min.min 0xFFFF mv ∧ (c.railRead rail mv).bit F.MG_RAIL_FAULT rail = (c.bit F.MG_RAIL_FAULT rail && !railOk rail mv)) ∧
    (∀ c : Core, point < 14 → (c.get F.MG_HEALTH_ISOLATED 0).testBit (segmentOf point) = false →
      (pointValid point v = true → (c.pointRead point (some v)).get F.MG_TEMP_TEMP point = (BitVec.ofInt 16 v).toNat) ∧
      (pointValid point v = false → (c.pointRead point (some v)).bit F.MG_TEMP_STALE point = true) ∧
      (2 ≤ (c.pointAt point).fails → (c.pointRead point none).bit F.MG_TEMP_STALE point = true))

/-- The log. The older of the heads of the two queues goes to flash, to the pinned region while it has room and is not being erased, else to the ring, and what the registers show follows it; a sector that fails is retired. A read of the log is requested, and its end shows the selected entry, as stored, with CRC_BAD where its CRC fails, or 0 with NOT_FOUND; PIN_CLEAR with its key erases the pinned region, which is then empty; LOCATE blinks until its end (R435–R437, R439, R450, R473). It states the completion of logFlashWrite, logRead, logReadPin, logReadDone, pinClear, pinCleared, locate and locateEnd. Where the manual leaves a point open, the model’s choice is log entries 13 and 137 to 139. -/
def Obligations.TheLog : Prop :=
  ∀ (s : State) (p : Path) (key : Byte) (seq : Nat) (failed pin : Bool) (stored : Option (List Byte)),
    let d := s.core.sad
    let pinned (e : LogEntry) : Saddler := if d.pins.length < 2048 then { d with pins := d.pins ++ [e], qPin := d.qPin.drop 1 } else { d.toRing { e with overflow := true } with qPin := d.qPin.drop 1 }
    let ringed (e : LogEntry) : Saddler := { d.toRing e with qRing := d.qRing.drop 1 }
    let writes (x : Saddler) := d.dropped = 0 → s.core.runs 0x28 = true → let c := ({ s.core with sad := x } : Core).logShow
      exec (.logFlashWrite failed) s = .next { s with core := if failed then c.setBit F.MG_HEALTH_FLASH_RETIRED 0 true else c }
    let shows (c : Core) (b : Bool) (n : Nat) : Core := { c with sad := { c.sad with readReq := some (b, n) } }.setBit F.MG_LOG_STAT_BUSY 0 true
    (∀ e, d.qPin = [] ∨ d.pinErasing = true → d.qRing.head? = some e → writes (ringed e)) ∧
    (∀ e, d.pinErasing = false → d.qPin.head? = some e → d.qRing = [] → writes (pinned e)) ∧
    (∀ e f, d.pinErasing = false → d.qPin.head? = some e → d.qRing.head? = some f → writes (if olderLseq e.lseq f.lseq then pinned e else ringed f)) ∧
    (d.qPin = [] → d.qRing = [] → writes d) ∧
    (Reaches s.core p ⟨R.MG_LOG_CTRL, 0⟩ false → s.core.reg R.MG_LOG_CTRL 0 = 0 →
      exec (.logRead p) s = .next (s.after (s.core.wrote s.ram p R.MG_LOG_CTRL 0 (fieldWord F.MG_LOG_CTRL_READ 1) (fun c => shows c false (c.get F.MG_LOG_SEL_SEL 0)))) ∧
      exec (.logReadPin p) s = .next (s.after (s.core.wrote s.ram p R.MG_LOG_CTRL 0 (fieldWord F.MG_LOG_CTRL_READ_PIN 1) (fun c => shows c true (c.get F.MG_LOG_SEL_SEL 0 % 2048))))) ∧
    (Writes s.core p ⟨R.MG_LOG_CTRL, 0⟩ → exec (.pinClear p key) s = .next (s.after (s.core.wrote s.ram p R.MG_LOG_CTRL 0 (F.MG_LOG_CTRL_KEY.write (fieldWord F.MG_LOG_CTRL_PIN_CLEAR 1) key.toNat) (fun c => if key = 0x5A then { c with sad := { c.sad with pinErasing := true } } else c)))) ∧
    (d.readReq = some (pin, seq) →
      let e := if pin then d.pins[seq]? else (d.ring.drop (d.ring.length - 32768)).find? (fun e => e.lseq == seq)
      let bytes := match e with | some e => stored.getD e.toBytes | none => []
      let c := foldN (List.range 8) ({ s.core with sad := { d with readReq := none } } : Core) (fun c i => c.setReg R.MG_LOG_DATA i (BitVec.ofNat 32 (uN 4 bytes (4 * i))))
      exec (.logReadDone stored) s = .next { s with core := ((c.setBit F.MG_LOG_STAT_BUSY 0 false).setBit F.MG_LOG_STAT_NOT_FOUND 0 e.isNone).setBit F.MG_LOG_STAT_CRC_BAD 0 (e.isSome && stored.any entryDamaged) } ∧
      ∀ i < 8, c.reg R.MG_LOG_DATA i = BitVec.ofNat 32 (uN 4 bytes (4 * i))) ∧
    (d.readReq = none → exec (.logReadDone stored) s = .next s) ∧
    (d.pinErasing = true → exec .pinCleared s = .next { s with core :=
      (({ s.core with sad := { d with pins := [], pinErasing := false } } : Core).logFrom 0x28 0x070A noSrc (match d.pins.getLast? with | some e => e.lseq | none => 0)).logShow }) ∧
    (d.pinErasing = false → exec .pinCleared s = .next s) ∧
    (Writes s.core p ⟨R.SYS_LED, 0⟩ → exec (.locate p) s =
      .next (s.after (s.core.wrote s.ram p R.SYS_LED 0 (fieldWord F.SYS_LED_LOCATE 1) (fun c => if c.rst.held then c else { c with sad := { c.sad with locate := true } })))) ∧
    exec .locateEnd s = .next { s with core := { s.core with sad := { d with locate := false } } }

/-- Keys. An access to MG_KEY_DATA reaches the window word at IDX, which advances, and a read answers 0; a LOAD or CLEAR is judged by R441 and R442 in their order, a refused one is logged with its RESULT, and an accepted one is BUSY, and is in the store when its commit is done, logged with the key's identifier. It states the completion of keyDataAccess, keyLoad, keyClear and keyCommitDone. Where the manual leaves a point open, the model’s choice is log entries 13 and 142. -/
def Obligations.KeysChange : Prop :=
  ∀ (s : State) (p : Path) (v : Word) (slot : Nat) (k : KeySlot) (clear : Bool),
    let next (c : Core) : Core := c.set F.MG_KEY_IDX_IDX 0 ((c.get F.MG_KEY_IDX_IDX 0 + 1) % 32)
    let asks (i : Instr) (x : Word) (clear : Bool) := exec i s = .next (s.after (s.core.wrote s.ram p R.MG_KEY_CTRL 0 x (fun c =>
      let y := c.taken p R.MG_KEY_CTRL 0 x
      let n := F.MG_KEY_CTRL_SLOT.read y
      let c := (c.set F.MG_KEY_CTRL_SLOT 0 n).set F.MG_KEY_CTRL_EXPERT 0 (F.MG_KEY_CTRL_EXPERT.read y)
      let k := c.keyCheck p n (F.MG_KEY_CTRL_EXPERT.read y = 1) clear
      let c := c.set F.MG_KEY_STAT_RESULT 0 k.1
      if k.1 ≠ 0 then c.logFrom 0x28 0x0606 n k.1 else { c with sad := { c.sad with keyPend := some (n, k.2, clear) } }.setBit F.MG_KEY_STAT_BUSY 0 true)))
    (Writes s.core p ⟨R.MG_KEY_DATA, 0⟩ → exec (.keyDataAccess p (some v)) s = .next (s.after (s.core.wrote s.ram p R.MG_KEY_DATA 0 v (fun c =>
      next { c with sad := { c.sad with keyWindow := Tab.set 0 c.sad.keyWindow (c.get F.MG_KEY_IDX_IDX 0) v } })))) ∧
    (Reaches s.core p ⟨R.MG_KEY_DATA, 0⟩ true → (∀ e ∈ s.core.hold, Prod.fst e ≠ p) → exec (.keyDataAccess p none) s = .next (s.after (s.core.wasRead s.ram p R.MG_KEY_DATA 0 0 next))) ∧
    (Writes s.core p ⟨R.MG_KEY_CTRL, 0⟩ →
      asks (.keyLoad p v) (F.MG_KEY_CTRL_CLEAR.write (F.MG_KEY_CTRL_LOAD.write v 1) 0) false ∧ asks (.keyClear p v) (F.MG_KEY_CTRL_LOAD.write (F.MG_KEY_CTRL_CLEAR.write v 1) 0) true) ∧
    (∀ (c : Core) (ex : Bool), (c.sad.keyPend.isSome = true → (c.keyCheck p slot ex clear).1 = 7) ∧ (c.sad.keyPend = none → 8 < slot → (c.keyCheck p slot ex clear).1 = 1) ∧
      (c.sad.keyPend = none → slot = 8 → (c.keyAt 8).present = false → c.allSto = false → (c.keyCheck p slot ex clear).1 = 3)) ∧
    (s.core.sad.keyPend = some (slot, k, clear) →
      let c := ({ s.core with sad := { s.core.sad with keyPend := none } } : Core).setBit F.MG_KEY_STAT_BUSY 0 false
      exec (.keyCommitDone true) s = .next { s with core := (c.setKey slot k).logFrom 0x28 0x0605 slot (if clear then 0 else keyId k.key) } ∧
      exec (.keyCommitDone false) s = .next { s with core := (c.set F.MG_KEY_STAT_RESULT 0 6).logFrom 0x28 0x0606 slot 6 } ∧ (c.setKey slot k).keyAt slot = k) ∧
    (s.core.sad.keyPend = none → exec (.keyCommitDone true) s = .next s)

/-- Firmware images. The commands of MG_IMG_CTRL run for the path that owns the sequence, and are refused with BUSY for another, or while one runs; a word written in the write phase reaches the spare bank and the address advances; an erase and a verification end, the latter with the first failed check or with the image verified; an activation starts a trial; a confirmed Lead confirms its image, and a trial that does not reach Run falls back. What the header, the digests and the signature of an image say is a free value (R444–R447). It states the completion of imgOpen, imgVerify, imgActivate, imgConfirm, imgClose, imgDataWrite, imgEraseDone, imgVerifyDone, imgLeadConfirm and imgTrialTimeout. Where the manual leaves a point open, the model’s choice is log entries 13, 25, 143 and 144. -/
def Obligations.ImagesUpdate : Prop :=
  ∀ (s : State) (p : Path) (v : Word),
    let b := s.core.spareBank
    let img := Tab.get [] s.core.imgFlash b
    let free (c : Core) : Bool := !c.sad.imgOwner.any (· ≠ p) && c.get F.MG_IMG_CTRL_CMD 0 = 0
    let refuse (n : Nat) (c : Core) : Core := (c.set F.MG_IMG_STAT_RESULT 0 n).logFrom 0x28 0x0708 noSrc n
    let own (c : Core) : Core := { c with sad := { c.sad with imgOwner := some p } }.set F.MG_IMG_STAT_RESULT 0 0
    let runs (i : Instr) (n : Nat) (f : Core → Core) := exec i s = .next (s.after (s.core.wrote s.ram p R.MG_IMG_CTRL 0 (fieldWord F.MG_IMG_CTRL_CMD n) (fun c => if free c then f c else refuse 7 c)))
    (Writes s.core p ⟨R.MG_IMG_CTRL, 0⟩ →
      runs (.imgOpen p) 1 (fun c =>
        let d : Core := { own c with imgFlash := Tab.set [] c.imgFlash c.spareBank [] }
        ((({ d with sad := { d.sad with imgVerified := false } }.setReg R.MG_IMG_LINK c.spareBank 0).setReg R.MG_IMG_SECVER c.spareBank 0).set F.MG_IMG_STAT_PHASE 0 1).set F.MG_IMG_CTRL_CMD 0 1) ∧
      runs (.imgVerify p) 2 (fun c => ((own c).set F.MG_IMG_STAT_PHASE 0 2).set F.MG_IMG_CTRL_CMD 0 2) ∧
      runs (.imgActivate p) 3 (fun c =>
        if c.twin.takeover || c.loading || c.get F.PT_STAT_PHASE 0 = 4 then refuse 7 c
        else if !c.sad.imgVerified || c.get F.MG_IMG_LINK_STATE c.spareBank ≠ 2 then refuse 8 c
        else if c.isLead && !c.readyPartner && !c.allSto then refuse 9 c
        else
          let d := ((own c).set F.MG_IMG_LINK_STATE c.spareBank 3).logFrom 0x28 0x0705 noSrc c.spareBank
          { d with sad := { d.sad with imgTrial := true, imgTrialBank := c.spareBank = 1, imgTrialBoots := 0, imgOwner := none }, deferred := some (.reset 2 0x0A false) }) ∧
      runs (.imgConfirm p) 4 (fun c => (own c).imgConfirm) ∧
      runs (.imgClose p) 5 (fun c => { c with sad := { c.sad with imgOwner := none } }.set F.MG_IMG_STAT_PHASE 0 0)) ∧
    (Writes s.core p ⟨R.MG_IMG_DATA, 0⟩ → exec (.imgDataWrite p v) s = .next (s.after (s.core.wrote s.ram p R.MG_IMG_DATA 0 v (fun c =>
      if c.sad.imgOwner = some p ∧ c.get F.MG_IMG_STAT_PHASE 0 = 1 ∧ c.get F.MG_IMG_CTRL_CMD 0 = 0 then
        let o := c.get F.MG_IMG_ADDR_OFFSET 0
        let d := { c with imgFlash := Tab.set [] c.imgFlash c.spareBank (putWord (Tab.get [] c.imgFlash c.spareBank) (4 * o) v), sad := { c.sad with imgVerified := false } }.set F.MG_IMG_LINK_STATE c.spareBank 1
        (d.setReg R.MG_IMG_DATA 0 v).set F.MG_IMG_ADDR_OFFSET 0 (o + 1)
      else c)))) ∧
    (s.core.get F.MG_IMG_CTRL_CMD 0 = 1 → exec .imgEraseDone s = .next { s with core := s.core.set F.MG_IMG_CTRL_CMD 0 0 }) ∧ (s.core.get F.MG_IMG_CTRL_CMD 0 ≠ 1 → exec .imgEraseDone s = .next s) ∧
    (s.core.get F.MG_IMG_CTRL_CMD 0 = 2 →
      let c := s.core.set F.MG_IMG_CTRL_CMD 0 0
      let r := if Config.imageCheck img % 5 ≠ 0 then Config.imageCheck img % 5 else if Config.imageSecVer img < c.reg R.MG_IMG_FLOOR 0 then 5 else 0
      exec .imgVerifyDone s = .next { s with core :=
        (if r ≠ 0 then refuse r (({ c with sad := { c.sad with imgVerified := false } }.set F.MG_IMG_STAT_PHASE 0 1).set F.MG_IMG_LINK_STATE b 1)
        else
          let d := ({ c with sad := { c.sad with imgVerified := true } }.set F.MG_IMG_STAT_PHASE 0 3).setReg R.MG_IMG_SECVER b (Config.imageSecVer img)
          ((d.set F.MG_IMG_LINK_LINK_VER b (Config.imageLinkVer img).toNat).set F.MG_IMG_LINK_STATE b 2).set F.MG_IMG_STAT_RESULT 0 0) }) ∧
    (s.core.get F.MG_IMG_CTRL_CMD 0 ≠ 2 → exec .imgVerifyDone s = .next s) ∧
    (s.core.isLead = true → s.core.get F.PW_STAT_STATE 0 = 0 → s.core.sad.imgTrial = true → s.core.sad.imgTrialBoots = 1 →
      let n := if s.core.sad.imgTrialBank then 1 else 0
      let c := ({ s.core with sad := { s.core.sad with imgTrial := false } }.setBit F.MG_IMG_STAT_TRIAL 0 false).setBit F.MG_HEALTH_IMG_TRIAL 0 false
      let c := (c.set F.MG_IMG_STAT_BOOT 0 n).set F.MG_IMG_LINK_STATE n 2
      exec .imgLeadConfirm s = .next { s with core := (c.setReg R.MG_IMG_FLOOR 0 (c.reg R.MG_IMG_SECVER n)).logFrom 0x28 0x0706 noSrc n }) ∧
    (s.core.sad.imgTrial = false → exec .imgLeadConfirm s = .next s) ∧
    (s.core.isLead = false ∨ s.core.get F.PW_STAT_STATE 0 ≠ 0 → exec .imgLeadConfirm s = .next s) ∧
    (s.core.sad.imgTrial = true → exec .imgTrialTimeout s = .next { s with core := { s.core with sad := { s.core.sad with imgTrialBoots := 2 } } }) ∧
    (s.core.sad.imgTrial = false → exec .imgTrialTimeout s = .next s)
end

