-- ==== Sys2Proof/Laws/Outcome.lean ====
section
/-! SUPPORT. The shapes of a command's outcome: each answers a next state with the queue as it was, or a fault that names what the part does not have. -/
namespace Sys2Proof.Machine

@[simp] theorem onCore_eq (s : State) (f : Core → Core) : onCore s f = .next { s with core := f s.core } := rfl
@[simp] theorem onMem_eq (s : State) (f : Ram → Core → Core) : onMem s f = .next (s.after (f s.ram s.core)) := rfl
@[simp] theorem inRange_of_lt (what : String) {i n : Nat} (o : Host.Outcome State Fault Refusal) (h : i < n) : inRange what i n o = o := if_pos h
@[simp] theorem inRange_of_ge (what : String) {i n : Nat} (o : Host.Outcome State Fault Refusal) (h : ¬i < n) : inRange what i n o = .fault (.noSuch what i) := if_neg h

/-- A command within its range answers a next state exactly where its meaning does. -/
theorem inRange_next (what : String) (i n : Nat) (o : Host.Outcome State Fault Refusal) (t : State) : inRange what i n o = .next t ↔ i < n ∧ o = .next t := by
  unfold inRange; split <;> simp_all <;> omega

@[simp] theorem after_pending (s : State) (c : Core) : (s.after c).pending = s.pending := rfl
@[simp] theorem after_core (s : State) (c : Core) : (s.after c).core = { c with memq := [] } := rfl
@[simp] theorem after_ram (s : State) (c : Core) : (s.after c).ram = s.ram.apply c.memq := rfl

/-- A register write is one access of its address. -/
theorem regWrite_eq (s : State) (p : Path) (r : Reg) (i : Nat) (v : Word) : regWrite s p r i v = .next (s.after (s.core.request s.ram p (⟨r, i⟩ : Loc).addr (some v) none)) := rfl
/-- A register read is one access of its address. -/
theorem regRead_eq (s : State) (p : Path) (r : Reg) (i : Nat) : regRead s p r i = .next (s.after (s.core.request s.ram p (⟨r, i⟩ : Loc).addr none none)) := rfl
/-- A register write with a given outcome is one access of its address. -/
theorem regHook_eq (s : State) (p : Path) (r : Reg) (i : Nat) (v : Word) (f : Core → Core) : regHook s p r i v f = .next (s.after (s.core.request s.ram p (⟨r, i⟩ : Loc).addr (some v) (some f))) := rfl

end Sys2Proof.Machine
end

