-- ==== Sys2Proof/Laws/Tab.lean ====
section
/-! SUPPORT. Sparse tables: a value read after it is stored, other keys unchanged, and the canonical form kept. -/
namespace Sys2Proof.Machine

variable {α : Type}

/-- A key removed reads the default. -/
theorem Tab.get_erase_self (d : α) (t : List (Nat × α)) (n : Nat) : Tab.get d (Tab.erase n t) n = d := by
  induction t with
  | nil => rfl
  | cons e t ih => obtain ⟨k, v⟩ := e; by_cases h : k = n <;> simp [Tab.erase, Tab.get, h, ih]

/-- Removing a key leaves the others. -/
theorem Tab.get_erase_ne (d : α) (t : List (Nat × α)) {n m : Nat} (hne : n ≠ m) : Tab.get d (Tab.erase n t) m = Tab.get d t m := by
  induction t with
  | nil => rfl
  | cons e t ih =>
    obtain ⟨k, v⟩ := e
    by_cases h : k = n
    · subst h; simp [Tab.erase, Tab.get, hne, ih]
    · simp only [Tab.erase, if_neg h, Tab.get, ih]

/-- A value inserted is read back. -/
theorem Tab.get_insert_self (d : α) (t : List (Nat × α)) (n : Nat) (v : α) : Tab.get d (Tab.insert n v t) n = v := by
  induction t with
  | nil => simp [Tab.insert, Tab.get]
  | cons e t ih =>
    obtain ⟨k, w⟩ := e
    by_cases h : k < n
    · simp [Tab.insert, Tab.get, h, ih, Nat.ne_of_lt h]
    · simp [Tab.insert, Tab.get, h]

/-- Inserting at a key leaves the others. -/
theorem Tab.get_insert_ne (d : α) (t : List (Nat × α)) {n m : Nat} (v : α) (hne : n ≠ m) : Tab.get d (Tab.insert n v t) m = Tab.get d t m := by
  induction t with
  | nil => simp [Tab.insert, Tab.get, hne]
  | cons e t ih =>
    obtain ⟨k, w⟩ := e
    by_cases h : k < n
    · simp only [Tab.insert, if_pos h, Tab.get, ih]
    · simp [Tab.insert, Tab.get, h, hne]

variable [DecidableEq α]

/-- A value stored is read back. -/
@[simp] theorem Tab.get_set_self (d : α) (t : List (Nat × α)) (n : Nat) (v : α) : Tab.get d (Tab.set d t n v) n = v := by
  unfold Tab.set
  split
  · next h => rw [Tab.get_erase_self, h]
  · exact Tab.get_insert_self ..

/-- Storing at a key leaves the others. -/
theorem Tab.get_set_ne (d : α) (t : List (Nat × α)) {n m : Nat} (v : α) (hne : n ≠ m) : Tab.get d (Tab.set d t n v) m = Tab.get d t m := by
  unfold Tab.set
  split
  · exact Tab.get_erase_ne d t hne
  · rw [Tab.get_insert_ne _ _ _ hne, Tab.get_erase_ne d t hne]

/-- Storing with one default leaves every other key's value under any default. -/
theorem Tab.get_set_ne' (d e : α) (t : List (Nat × α)) {n m : Nat} (v : α) (hne : n ≠ m) : Tab.get e (Tab.set d t n v) m = Tab.get e t m := by
  unfold Tab.set
  split
  · exact Tab.get_erase_ne e t hne
  · rw [Tab.get_insert_ne _ _ _ hne, Tab.get_erase_ne e t hne]

/-- Every key of a list lies above a bound. -/
def Tab.above (n : Nat) (t : List (Nat × α)) : Prop := ∀ e ∈ t, n < e.1

/-- The canonical form of a list with a first entry: its value is not the default, its key lies below the rest, and the rest is canonical. -/
theorem Tab.wf_cons (d : α) (k : Nat) (v : α) (t : List (Nat × α)) : Tab.wf d ((k, v) :: t) = true ↔ v ≠ d ∧ Tab.above k t ∧ Tab.wf d t = true := by
  induction t generalizing k v with
  | nil => simp [Tab.wf, Tab.above]
  | cons e t ih =>
    obtain ⟨k', v'⟩ := e
    constructor
    · intro h
      simp only [Tab.wf, Bool.and_eq_true, decide_eq_true_eq] at h
      obtain ⟨⟨hv, hk⟩, hr⟩ := h
      have hr' : Tab.wf d ((k', v') :: t) = true := by simpa [Tab.wf] using hr
      obtain ⟨_, ha, _⟩ := (ih k' v').1 hr'
      refine ⟨hv, ?_, hr'⟩
      intro e he
      rcases List.mem_cons.1 he with rfl | he
      · exact hk
      · exact Nat.lt_trans hk (ha e he)
    · rintro ⟨hv, ha, hr⟩
      have hk := ha (k', v') (List.mem_cons_self ..)
      have : Tab.wf d ((k, v) :: (k', v') :: t) = (decide (v ≠ d) && decide (k < k') && Tab.wf d ((k', v') :: t)) := rfl
      rw [this, hr]; simp [hv, hk]

/-- Removing a key keeps what lies above a bound. -/
theorem Tab.above_erase {n m : Nat} {t : List (Nat × α)} (h : Tab.above n t) : Tab.above n (Tab.erase m t) := by
  induction t with
  | nil => exact h
  | cons e t ih =>
    obtain ⟨k, v⟩ := e
    have ht : Tab.above n t := fun e he => h e (List.mem_cons_of_mem _ he)
    by_cases hk : k = m
    · simp [Tab.erase, hk]; exact ih ht
    · simp [Tab.erase, hk]
      intro e he
      rcases List.mem_cons.1 he with rfl | he
      · exact h _ (List.mem_cons_self ..)
      · exact ih ht e he

/-- Removing a key keeps the canonical form. -/
theorem Tab.wf_erase (d : α) {t : List (Nat × α)} (n : Nat) (h : Tab.wf d t = true) : Tab.wf d (Tab.erase n t) = true := by
  induction t with
  | nil => exact h
  | cons e t ih =>
    obtain ⟨k, v⟩ := e
    obtain ⟨hv, ha, ht⟩ := (Tab.wf_cons d k v t).1 h
    by_cases hk : k = n
    · simp [Tab.erase, hk]; exact ih ht
    · simp only [Tab.erase, if_neg hk]; exact (Tab.wf_cons ..).2 ⟨hv, Tab.above_erase ha, ih ht⟩

/-- Inserting above a bound stays above it. -/
theorem Tab.above_insert {n m : Nat} {t : List (Nat × α)} {v : α} (hm : n < m) (h : Tab.above n t) : Tab.above n (Tab.insert m v t) := by
  induction t with
  | nil => intro e he; simp [Tab.insert] at he; subst he; exact hm
  | cons e t ih =>
    obtain ⟨k, w⟩ := e
    have ht : Tab.above n t := fun e he => h e (List.mem_cons_of_mem _ he)
    have hk := h (k, w) (List.mem_cons_self ..)
    simp only [Tab.insert]
    split
    · intro e he
      rcases List.mem_cons.1 he with rfl | he
      · exact hk
      · exact ih ht e he
    · intro e he
      rcases List.mem_cons.1 he with rfl | he
      · exact hm
      · exact h e he

/-- Inserting a value that is not the default at a key that the list lacks keeps the canonical form. -/
theorem Tab.wf_insert (d : α) {t : List (Nat × α)} {n : Nat} {v : α} (hv : v ≠ d) (hn : ∀ e ∈ t, e.1 ≠ n) (h : Tab.wf d t = true) :
    Tab.wf d (Tab.insert n v t) = true := by
  induction t with
  | nil => simpa [Tab.insert, Tab.wf] using hv
  | cons e t ih =>
    obtain ⟨k, w⟩ := e
    obtain ⟨hw, ha, ht⟩ := (Tab.wf_cons d k w t).1 h
    have hk : k ≠ n := hn (k, w) (List.mem_cons_self ..)
    simp only [Tab.insert]
    split
    · next hlt => exact (Tab.wf_cons ..).2 ⟨hw, Tab.above_insert hlt ha, ih (fun e he => hn e (List.mem_cons_of_mem _ he)) ht⟩
    · next hge =>
      refine (Tab.wf_cons ..).2 ⟨hv, ?_, h⟩
      intro e he
      rcases List.mem_cons.1 he with rfl | he
      · show n < k; omega
      · have := ha e he; omega

/-- No entry of a removed key is left. -/
theorem Tab.erase_ne (t : List (Nat × α)) (n : Nat) : ∀ e ∈ Tab.erase n t, e.1 ≠ n := by
  induction t with
  | nil => simp [Tab.erase]
  | cons e t ih =>
    obtain ⟨k, v⟩ := e
    by_cases hk : k = n
    · simp only [Tab.erase, if_pos hk]; exact ih
    · simp only [Tab.erase, if_neg hk]
      intro e he
      rcases List.mem_cons.1 he with rfl | he
      · exact hk
      · exact ih e he

/-- Storing keeps the canonical form. -/
theorem Tab.wf_set (d : α) {t : List (Nat × α)} (n : Nat) (v : α) (h : Tab.wf d t = true) : Tab.wf d (Tab.set d t n v) = true := by
  unfold Tab.set
  split
  · exact Tab.wf_erase d n h
  · next hv => exact Tab.wf_insert d hv (Tab.erase_ne t n) (Tab.wf_erase d n h)

end Sys2Proof.Machine
end

