-- ==== Sys2Proof/Laws/Registers.lean ====
section
/-! SUPPORT. The register file: a word or a field read after it is written, and everything else as it was. -/
namespace Sys2Proof.Machine

/-- Two register instances have one place only where register number and instance agree. -/
theorem Reg.key_inj {r q : Reg} {i j : Nat} (hr : r.id < 512) (hq : q.id < 512) (h : r.key i = q.key j) : r.id = q.id ∧ i = j := by
  unfold Reg.key at h; omega

/-- A word stored is read back. -/
@[simp] theorem Core.reg_setReg_self (c : Core) (r : Reg) (i : Nat) (w : Word) : (c.setReg r i w).reg r i = w := Tab.get_set_self ..

/-- Storing a register instance leaves the others. -/
theorem Core.reg_setReg_ne (c : Core) {r q : Reg} {i j : Nat} (w : Word) (h : r.key i ≠ q.key j) : (c.setReg r i w).reg q j = c.reg q j := by
  unfold Core.reg Core.setReg
  exact Tab.get_set_ne' _ _ _ _ h

/-- Storing a register leaves every register of another number. -/
theorem Core.reg_setReg_of_id (c : Core) {r q : Reg} {i j : Nat} (w : Word) (hr : r.id < 512) (hq : q.id < 512) (h : r.id ≠ q.id) : (c.setReg r i w).reg q j = c.reg q j :=
  Core.reg_setReg_ne c w (fun e => h (Reg.key_inj hr hq e).1)

/-- Storing an instance leaves the other instances of the register. -/
theorem Core.reg_setReg_of_inst (c : Core) {r : Reg} {i j : Nat} (w : Word) (hr : r.id < 512) (h : i ≠ j) : (c.setReg r i w).reg r j = c.reg r j :=
  Core.reg_setReg_ne c w (fun e => h (Reg.key_inj hr hr e).2)

@[simp] theorem Core.setReg_pat (c : Core) (r : Reg) (i : Nat) (w : Word) : (c.setReg r i w).pat = c.pat := rfl
@[simp] theorem Core.setReg_isl (c : Core) (r : Reg) (i : Nat) (w : Word) : (c.setReg r i w).isl = c.isl := rfl
@[simp] theorem Core.setReg_memq (c : Core) (r : Reg) (i : Nat) (w : Word) : (c.setReg r i w).memq = c.memq := rfl
@[simp] theorem Core.set_pat (c : Core) (f : Fld) (i v : Nat) : (c.set f i v).pat = c.pat := rfl
@[simp] theorem Core.set_isl (c : Core) (f : Fld) (i v : Nat) : (c.set f i v).isl = c.isl := rfl
@[simp] theorem Core.set_memq (c : Core) (f : Fld) (i v : Nat) : (c.set f i v).memq = c.memq := rfl
@[simp] theorem Core.setBit_pat (c : Core) (f : Fld) (i : Nat) (b : Bool) : (c.setBit f i b).pat = c.pat := rfl
@[simp] theorem Core.setBit_isl (c : Core) (f : Fld) (i : Nat) (b : Bool) : (c.setBit f i b).isl = c.isl := rfl
@[simp] theorem Core.setBit_memq (c : Core) (f : Fld) (i : Nat) (b : Bool) : (c.setBit f i b).memq = c.memq := rfl

/-! ### Fields (R2) -/

/-- A bit of a field's mask. -/
theorem getLsbD_maskAt (lsb width j : Nat) : (maskAt lsb width).getLsbD j = (decide (j < 32) && decide (lsb ≤ j) && decide (j < lsb + width)) := by
  unfold maskAt
  rw [BitVec.getLsbD_ofNat, Nat.mul_comm, Nat.testBit_two_pow_mul, Nat.testBit_two_pow_sub_one]
  by_cases h1 : lsb ≤ j <;> by_cases h2 : j < lsb + width <;> by_cases h3 : j < 32 <;> simp [h1, h2, h3] <;> omega
/-- A bit of a word with a field replaced. -/
theorem Fld.getLsbD_write (f : Fld) (w : Word) (v j : Nat) (hj : j < 32) :
    (f.write w v).getLsbD j = if f.lsb ≤ j ∧ j < f.lsb + f.width then v.testBit (j - f.lsb) else w.getLsbD j := by
  unfold Fld.write
  rw [BitVec.getLsbD_or, BitVec.getLsbD_and, BitVec.getLsbD_not, getLsbD_maskAt, BitVec.getLsbD_ofNat, Nat.mul_comm, Nat.testBit_two_pow_mul, Nat.testBit_mod_two_pow]
  by_cases h1 : f.lsb ≤ j
  · by_cases h2 : j < f.lsb + f.width
    · have h3 : j - f.lsb < f.width := by omega
      simp [hj, h1, h2, h3]
    · have h3 : ¬ j - f.lsb < f.width := by omega
      simp [hj, h1, h2, h3]
  · simp [hj, h1]
/-- A bit of a field's value. -/
theorem Fld.testBit_read (f : Fld) (w : Word) (k : Nat) : (f.read w).testBit k = (decide (k < f.width) && w.getLsbD (f.lsb + k)) := by
  unfold Fld.read
  rw [Nat.testBit_mod_two_pow, Nat.testBit_div_two_pow, Nat.add_comm]
  rfl
/-- A field reads the low bits of what was written to it. -/
theorem Fld.read_write (f : Fld) (w : Word) (v : Nat) (h : f.lsb + f.width ≤ 32) : f.read (f.write w v) = v % 2 ^ f.width := by
  apply Nat.eq_of_testBit_eq
  intro k
  rw [Fld.testBit_read, Nat.testBit_mod_two_pow]
  by_cases hk : k < f.width
  · rw [Fld.getLsbD_write _ _ _ _ (by omega), if_pos (by omega), Nat.add_sub_cancel_left]
  · simp [hk]
/-- A field that does not overlap the written one reads as before. -/
theorem Fld.read_write_ne (f g : Fld) (w : Word) (v : Nat) (hg : g.lsb + g.width ≤ 32) (h : f.lsb + f.width ≤ g.lsb ∨ g.lsb + g.width ≤ f.lsb) : g.read (f.write w v) = g.read w := by
  apply Nat.eq_of_testBit_eq
  intro k
  rw [Fld.testBit_read, Fld.testBit_read]
  by_cases hk : k < g.width
  · rw [Fld.getLsbD_write _ _ _ _ (by omega), if_neg (by omega)]
  · simp [hk]
/-- A field of a register reads the low bits of what was set. -/
theorem Core.get_set (c : Core) (f : Fld) (i v : Nat) (h : f.lsb + f.width ≤ 32) : (c.set f i v).get f i = v % 2 ^ f.width := by
  unfold Core.get Core.set
  rw [Core.reg_setReg_self, Fld.read_write f _ v h]
/-- Setting a field leaves a field of the same register that it does not overlap. -/
theorem Core.get_set_apart (c : Core) (f g : Fld) (i v : Nat) (hr : g.reg = f.reg) (hg : g.lsb + g.width ≤ 32) (h : f.lsb + f.width ≤ g.lsb ∨ g.lsb + g.width ≤ f.lsb) : (c.set f i v).get g i = c.get g i := by
  unfold Core.get Core.set
  rw [hr, Core.reg_setReg_self, Fld.read_write_ne f g _ v hg h]
/-- Setting a field leaves every other register. -/
theorem Core.get_set_reg (c : Core) (f g : Fld) (i j v : Nat) (hf : f.reg.id < 512) (hg : g.reg.id < 512) (h : f.reg.id ≠ g.reg.id) : (c.set f i v).get g j = c.get g j := by
  unfold Core.get Core.set
  rw [Core.reg_setReg_of_id c _ hf hg h]
/-- Setting a field of an instance leaves the other instances of the register. -/
theorem Core.get_set_inst (c : Core) (f g : Fld) {i j : Nat} (v : Nat) (hr : g.reg = f.reg) (hf : f.reg.id < 512) (h : i ≠ j) : (c.set f i v).get g j = c.get g j := by
  unfold Core.get Core.set
  rw [hr, Core.reg_setReg_of_inst c _ hf h]
/-- A flag reads as it was set. -/
theorem Core.bit_setBit (c : Core) (f : Fld) (i : Nat) (b : Bool) (h : f.lsb + f.width ≤ 32) (hw : f.width = 1) : (c.setBit f i b).bit f i = b := by
  unfold Core.bit Core.setBit
  rw [Core.get_set c f i _ h, hw]
  cases b <;> rfl

end Sys2Proof.Machine
end

