-- ==== Sys2Proof/Laws/Access.lean ====
section
/-! SUPPORT. A served access of a register: what the command does, said once, so that no later proof unfolds the path's checks. -/
namespace Sys2Proof.Machine

/-- Sending a state or an event over a crossing changes no register. -/
@[simp] theorem Core.reg_sendPulse (c : Core) (a b l : Nat) (r : Reg) (i : Nat) : (c.sendPulse a b l).reg r i = c.reg r i := rfl
@[simp] theorem Core.reg_sendWords (c : Core) (a b : Nat) (ws : List Word) (r : Reg) (i : Nat) : (c.sendWords a b ws).reg r i = c.reg r i := by
  unfold Core.sendWords; split <;> rfl
@[simp] theorem Core.reg_pokeApp (c : Core) (r : Reg) (i : Nat) : c.pokeApp.reg r i = c.reg r i := by
  unfold Core.pokeApp Core.setIsl; split <;> rfl
@[simp] theorem Core.sessions_sendWords (c : Core) (a b : Nat) (ws : List Word) : (c.sendWords a b ws).sessions = c.sessions := by
  unfold Core.sendWords; split <;> rfl

/-- An accepted request changes no register but EN_HOST_WD (R83). -/
theorem Core.reg_accepted (c : Core) (p : Path) {r : Reg} {i : Nat} (hr : r.id < 512) (hne : r.id ≠ R.EN_HOST_WD.id) : (c.accepted p).reg r i = c.reg r i := by
  unfold Core.accepted
  cases p with
  | strap sid =>
    dsimp only
    split
    · unfold Core.feedWd Core.setBit Core.set
      refine (Core.reg_setReg_of_id _ _ (by decide) hr (fun h => hne h.symm)).trans ?_
      simp
    · simp
  | awl => rfl
  | tansy => rfl

/-- A request as its register finds it has changed no register but EN_HOST_WD. -/
theorem Core.reg_sent (c : Core) (p : Path) (a : Nat) (ws : List Word) {r : Reg} {i : Nat} (hr : r.id < 512) (hne : r.id ≠ R.EN_HOST_WD.id) : (c.sent p a ws).reg r i = c.reg r i := by
  show ((c.accepted p).sendWords _ _ _).reg r i = _
  rw [Core.reg_sendWords, Core.reg_accepted c p hr hne]

/-- The module's role does not change as a request is accepted. -/
theorem Core.isStandby_sent (c : Core) (p : Path) (a : Nat) (ws : List Word) : (c.sent p a ws).isStandby = c.isStandby := by
  unfold Core.isStandby Core.get
  rw [Core.reg_sent c p a ws (by decide) (by decide)]

/-- A path's rights do not change as its request is accepted. -/
theorem Core.expert_sent (c : Core) (p q : Path) (a : Nat) (ws : List Word) : (c.sent p a ws).expert q = c.expert q := by
  have hs : (c.sent p a ws).sessions = c.sessions := by
    show ((c.accepted p).sendWords _ _ _).sessions = _
    rw [Core.sessions_sendWords]
    unfold Core.accepted Core.pokeApp Core.setIsl
    cases p with
    | strap k => dsimp only; split <;> split <;> rfl
    | awl => rfl
    | tansy => rfl
  cases q with
  | strap sid => simp only [Core.expert, Core.sessAt, hs]
  | awl => rfl
  | tansy => rfl

/-- The address check of a mapped register instance passes (R64). -/
theorem opCheck_loc {l : Loc} (hl : locAt l.addr = some l) (hb : (blockOf l.addr).isSome = true) : opCheck l.addr 1 = 0 := by
  have h4 : l.addr % 4 = 0 := by
    rcases Nat.decEq (l.addr % 4) 0 with h | h
    · simp [locAt, h] at hl
    · exact h
  have hn : (blockOf l.addr).isNone = false := by cases h : blockOf l.addr <;> simp_all
  simp [opCheck, h4, hn, mapped, hl]

/-- A write that its path may make is not refused (R7, R74). -/
theorem Core.writeReg_entitled {c : Core} {p : Path} {r : Reg} {i : Nat} (he : (c.dropHold p).expert p = true ∨ r.accMask (fun f => f.acc = .rwx) = 0)
    (hm : (mirrored r && (c.dropHold p).isStandby && p ≠ .tansy) = false) (hw : r.writable = true) (ram : Ram) (v : Word) (hook : Option (Core → Core)) :
    c.writeReg ram p ⟨r, i⟩ v hook =
      (0, ((match hook with
        | some f => if v &&& ((c.dropHold p).stores p r i ||| r.actMask) = 0 then c.dropHold p else f (c.dropHold p)
        | none => (c.dropHold p).effect ram p r i v ((c.dropHold p).stores p r i) r.actMask).sendChange r i ((c.dropHold p).taken p r i v ||| (v &&& r.actMask)))) := by
  unfold Core.writeReg
  simp only [hm, hw, Bool.true_or, Bool.not_true, Bool.or_false, Bool.false_eq_true, if_false]
  refine Prod.ext ?_ (by cases hook <;> rfl)
  rcases he with he | he
  · simp only [he, Bool.true_or, if_true]
  · simp only [he]; simp

/-- A served write of a register is its effect, the CHANGE record, the reply, and what that lets go on (R5, R64, R103, R113, R369). -/
theorem Core.request_write {c : Core} {p : Path} {r : Reg} {i : Nat} (h : Writes c p ⟨r, i⟩) (hl : locAt (⟨r, i⟩ : Loc).addr = some ⟨r, i⟩) (hs : ¬(⟨r, i⟩ : Loc).addr < 0x4000000)
    (hb : (blockOf (⟨r, i⟩ : Loc).addr).isSome = true) (hsf : blockOf (⟨r, i⟩ : Loc).addr ≠ some 16) (hw : r.writable = true) (ram : Ram) (v : Word) (hook : Option (Core → Core)) :
    c.request ram p (⟨r, i⟩ : Loc).addr (some v) hook =
      c.wrote ram p r i v (fun d => match hook with
        | some f => if v &&& (d.stores p r i ||| r.actMask) = 0 then d else f d
        | none => d.effect ram p r i v (d.stores p r i) r.actMask) := by
  have hmir : (mirrored r && (c.sent p (⟨r, i⟩ : Loc).addr [v]).isStandby && p ≠ .tansy) = false := by rw [Core.isStandby_sent]; exact h.notMirrored
  have hchk : opCheck (⟨r, i⟩ : Loc).addr 1 = 0 := opCheck_loc hl hb
  have hall : c.pathRefusal p (⟨r, i⟩ : Loc).addr false = 0 := h.allowed
  have hent : (c.sent p (⟨r, i⟩ : Loc).addr [v]).expert p = true ∨ r.accMask (fun f => f.acc = .rwx) = 0 := by rw [Core.expert_sent]; exact h.entitled
  have hsil : (c.accepted p).silent.contains (⟨r, i⟩ : Loc).addr = false := by
    have : (c.accepted p).silent = c.silent := by
      unfold Core.accepted Core.pokeApp Core.setIsl
      cases p with
      | strap k => dsimp only; split <;> split <;> rfl
      | awl => rfl
      | tansy => rfl
    rw [this]; exact h.acks
  unfold Core.request Core.command
  simp only [h.heard, Bool.not_true, Bool.false_eq_true, if_false, Option.isNone_some, hall, ne_eq, not_true_eq_false, hchk, h.free, h.awake, Bool.or_self]
  unfold Core.access Core.writeAt
  simp only [if_neg hsf, h.runs, hsil, Bool.not_true, Bool.false_eq_true, if_false, hl, if_neg hs]
  rw [Core.writeReg_entitled hent hmir hw]
  rfl

/-- A served read of a register is its word and its effect (R4, R5, R64, R103). -/
theorem Core.request_read {c : Core} {p : Path} {r : Reg} {i : Nat} (h : Reaches c p ⟨r, i⟩ true) (hl : locAt (⟨r, i⟩ : Loc).addr = some ⟨r, i⟩) (hs : ¬(⟨r, i⟩ : Loc).addr < 0x4000000)
    (hb : (blockOf (⟨r, i⟩ : Loc).addr).isSome = true) (ram : Ram) (hook : Option (Core → Core)) :
    c.request ram p (⟨r, i⟩ : Loc).addr none hook =
      (let b := (c.accepted p).sendWords 0x25 ((c.accepted p).islandOf (⟨r, i⟩ : Loc).addr) [BitVec.ofNat 32 (⟨r, i⟩ : Loc).addr]
       let e := b.readReg p ⟨r, i⟩
       (((e.2.sendWords ((c.accepted p).islandOf (⟨r, i⟩ : Loc).addr) 0x25 [e.1]).answer 0 [e.1]).runDeferred).goOn ram) := by
  have hchk : opCheck (⟨r, i⟩ : Loc).addr 1 = 0 := opCheck_loc hl hb
  have hall : c.pathRefusal p (⟨r, i⟩ : Loc).addr true = 0 := h.allowed
  have hsil : (c.accepted p).silent.contains (⟨r, i⟩ : Loc).addr = false := by
    have : (c.accepted p).silent = c.silent := by
      unfold Core.accepted Core.pokeApp Core.setIsl
      cases p with
      | strap k => dsimp only; split <;> split <;> rfl
      | awl => rfl
      | tansy => rfl
    rw [this]; exact h.acks
  unfold Core.request Core.command
  simp only [h.heard, Bool.not_true, Bool.false_eq_true, if_false, Option.isNone_none, hall, ne_eq, not_true_eq_false, hchk, h.free, h.awake, Bool.or_self]
  unfold Core.access Core.readAt
  simp only [h.runs, hsil, Bool.not_true, Bool.false_eq_true, if_false, hl, if_neg hs]

end Sys2Proof.Machine
end

