-- ==== Sys2Proof/Laws/Address.lean ====
section
/-! SUPPORT. The address map: when two registers share no address, and that an instance's address names it. -/
namespace Sys2Proof.Machine

/-- An upper bound of a register's addresses. -/
def Reg.last (r : Reg) : Nat :=
  match r.place with
  | .lin s => r.base + (r.count - 1) * s
  | .canWord _ => r.base + 0x3A000
  | .canData => r.base + 0x3A000
  | .fieldString => r.base + 0xB0
/-- Two registers share no address: their ranges are apart, they interleave with one stride at different offsets, or no instance of the first is one of the second. -/
def Reg.apart (r q : Reg) : Bool :=
  decide (r.last < q.base) || decide (q.last < r.base) ||
    (match r.place, q.place with | .lin s, .lin s' => s == s' && s != 0 && r.base % s != q.base % s | _, _ => false) ||
    (match r.place with | .lin _ | .fieldString => (List.range r.count).all (fun i => (q.instAt (⟨r, i⟩ : Loc).addr).isNone) | _ => false)

/-- An address that names an instance lies in the register's range. -/
theorem Reg.instAt_bounds {q : Reg} {a j : Nat} (h : q.instAt a = some j) : q.base ≤ a ∧ a ≤ q.last := by
  unfold Reg.instAt at h
  split at h
  · simp at h
  · next hlt =>
    refine ⟨by omega, ?_⟩
    unfold Reg.last
    dsimp only at h
    split at h <;> rename_i hp <;> simp only [hp]
    · split at h
      · next h0 => simp_all; omega
      · simp at h
    · next s _ =>
      split at h
      · next h0 =>
        simp only [Bool.and_eq_true, decide_eq_true_eq] at h0
        have h1 : (a - q.base) = s * ((a - q.base) / s) := by have := Nat.div_add_mod (a - q.base) s; omega
        have h2 : (a - q.base) / s * s ≤ (q.count - 1) * s := Nat.mul_le_mul_right s (by omega)
        rw [Nat.mul_comm] at h1
        omega
      · simp at h
    · split at h
      · next h0 => simp only [Bool.and_eq_true, decide_eq_true_eq] at h0; omega
      · simp at h
    · split at h
      · next h0 => simp only [Bool.and_eq_true, decide_eq_true_eq] at h0; omega
      · simp at h
    · split at h
      · next h0 => simp only [Bool.and_eq_true, decide_eq_true_eq] at h0; omega
      · simp at h

/-- An address that names an instance of a register with a stride is that instance's. -/
theorem Reg.instAt_lin {q : Reg} {a j s : Nat} (hs : q.place = .lin s) (h0 : s ≠ 0) (h : q.instAt a = some j) : a = q.base + j * s := by
  have hb := (Reg.instAt_bounds h).1
  cases s with
  | zero => exact absurd rfl h0
  | succ n =>
    unfold Reg.instAt at h
    rw [if_neg (by omega)] at h
    simp only [hs] at h
    split at h
    · next hd =>
      simp only [Bool.and_eq_true, decide_eq_true_eq] at hd
      simp only [Option.some.injEq] at h
      have := Nat.div_add_mod (a - q.base) (n + 1)
      rw [h, hd.1, Nat.mul_comm] at this
      omega
    · simp at h

/-- An instance's address lies in the register's range. -/
theorem Loc.addr_bounds {r : Reg} {i : Nat} (hp : (∃ s, r.place = .lin s) ∨ (r.place = .fieldString ∧ r.count = 8)) (hi : i < r.count) :
    r.base ≤ (⟨r, i⟩ : Loc).addr ∧ (⟨r, i⟩ : Loc).addr ≤ r.last := by
  rcases hp with ⟨s, hp⟩ | ⟨hp, hc⟩
  · simp only [Loc.addr, Reg.last, hp]
    have : i * s ≤ (r.count - 1) * s := Nat.mul_le_mul_right s (by omega)
    omega
  · simp only [Loc.addr, Reg.last, hp]; omega

/-- Where two registers are apart, no instance's address of the first names one of the second. -/
theorem Reg.apart_instAt {r q : Reg} {i : Nat} (hp : (∃ s, r.place = .lin s) ∨ (r.place = .fieldString ∧ r.count = 8)) (hi : i < r.count) (h : r.apart q = true) :
    q.instAt (⟨r, i⟩ : Loc).addr = none := by
  have hb := Loc.addr_bounds hp hi
  cases hq : q.instAt (⟨r, i⟩ : Loc).addr with
  | none => rfl
  | some j =>
    exfalso
    have hb' := Reg.instAt_bounds hq
    unfold Reg.apart at h
    simp only [Bool.or_eq_true, decide_eq_true_eq] at h
    rcases h with ((h | h) | h) | h
    · omega
    · omega
    · split at h
      · next s s' hr hs =>
        simp only [Bool.and_eq_true, beq_iff_eq, bne_iff_ne] at h
        obtain ⟨⟨rfl, h0⟩, hne⟩ := h
        have ha : (⟨r, i⟩ : Loc).addr = r.base + i * s := by simp only [Loc.addr, hr]
        have hm : (⟨r, i⟩ : Loc).addr % s = r.base % s := by rw [ha]; exact Nat.add_mul_mod_self_right ..
        rw [Reg.instAt_lin hs h0 hq, Nat.add_mul_mod_self_right] at hm
        exact hne hm.symm
      · simp at h
    · have : ((List.range r.count).all fun i => (q.instAt (⟨r, i⟩ : Loc).addr).isNone) = true := by
        split at h <;> first | exact h | simp at h
      have := List.all_eq_true.1 this i (List.mem_range.2 hi)
      simp [hq] at this

/-- The address of an instance of a register that no earlier one shares names it. -/
theorem locAt_addr {r : Reg} {i : Nat} (hp : (∃ s, r.place = .lin s) ∨ (r.place = .fieldString ∧ r.count = 8)) (hi : i < r.count)
    (hat : allRegs[r.id]? = some r) (hap : (allRegs.take r.id).all (r.apart ·) = true) (h4 : (⟨r, i⟩ : Loc).addr % 4 = 0) (hself : r.instAt (⟨r, i⟩ : Loc).addr = some i) :
    locAt (⟨r, i⟩ : Loc).addr = some ⟨r, i⟩ := by
  have hlt : r.id < allRegs.length := by
    rcases Nat.lt_or_ge r.id allRegs.length with h | h
    · exact h
    · rw [List.getElem?_eq_none h] at hat; simp at hat
  have hall : allRegs = allRegs.take r.id ++ r :: allRegs.drop (r.id + 1) := by
    rw [List.getElem?_eq_getElem hlt, Option.some.injEq] at hat
    conv => lhs; rw [← List.take_append_drop r.id allRegs, List.drop_eq_getElem_cons hlt, hat]
  unfold locAt
  simp only [h4, ne_eq, not_true_eq_false, if_false]
  rw [hall]
  simp only [List.findSome?_append, List.findSome?_cons]
  have : (allRegs.take r.id).findSome? (fun q => (q.instAt (⟨r, i⟩ : Loc).addr).map (fun j => (⟨q, j⟩ : Loc))) = none := by
    rw [List.findSome?_eq_none_iff]
    intro q hq
    rw [Reg.apart_instAt hp hi (List.all_eq_true.1 hap q hq)]; rfl
  rw [this, hself]; rfl

/-- A register of plain addresses outside the SF_ block, each naming its instance; decided for one register at a time. -/
def Reg.plain (r : Reg) : Bool :=
  (match r.place with | .lin _ => true | .fieldString => r.count == 8 | _ => false) && allRegs[r.id]? == some r && (allRegs.take r.id).all (r.apart ·) &&
    (List.range r.count).all (fun i => (⟨r, i⟩ : Loc).addr % 4 == 0 && r.instAt (⟨r, i⟩ : Loc).addr == some i && decide (0x4000000 ≤ (⟨r, i⟩ : Loc).addr) &&
      (blockOf (⟨r, i⟩ : Loc).addr).isSome && blockOf (⟨r, i⟩ : Loc).addr != some 16)
/-- What an access of a plain register's instance needs of its address. -/
theorem Reg.plain_loc {r : Reg} {i : Nat} (h : r.plain = true) (hi : i < r.count) :
    locAt (⟨r, i⟩ : Loc).addr = some ⟨r, i⟩ ∧ ¬(⟨r, i⟩ : Loc).addr < 0x4000000 ∧ (blockOf (⟨r, i⟩ : Loc).addr).isSome = true ∧ blockOf (⟨r, i⟩ : Loc).addr ≠ some 16 := by
  unfold Reg.plain at h
  simp only [Bool.and_eq_true, beq_iff_eq] at h
  obtain ⟨⟨⟨hp, hat⟩, hap⟩, hall⟩ := h
  have hi' := List.all_eq_true.1 hall i (List.mem_range.2 hi)
  simp only [Bool.and_eq_true, beq_iff_eq, bne_iff_ne, decide_eq_true_eq] at hi'
  obtain ⟨⟨⟨⟨h4, hself⟩, hge⟩, hb⟩, hsf⟩ := hi'
  refine ⟨locAt_addr ?_ hi hat hap h4 hself, by omega, hb, hsf⟩
  split at hp
  · next s hs => exact .inl ⟨s, hs⟩
  · next hs => exact .inr ⟨hs, by simpa using hp⟩
  · simp at hp
/-- A served write of a plain register (R5). -/
theorem Core.wrote_write {c : Core} {p : Path} {r : Reg} {i : Nat} (h : Writes c p ⟨r, i⟩) (hp : r.plain = true) (hi : i < r.count) (hw : r.writable = true) (ram : Ram) (v : Word) :
    c.request ram p (⟨r, i⟩ : Loc).addr (some v) none = c.wrote ram p r i v (fun d => d.effect ram p r i v (d.stores p r i) r.actMask) := by
  obtain ⟨h1, h2, h3, h4⟩ := Reg.plain_loc hp hi
  exact Core.request_write h h1 h2 h3 h4 hw ram v none
/-- A served write of a plain register whose effect the environment gives (R5). -/
theorem Core.wrote_hook {c : Core} {p : Path} {r : Reg} {i : Nat} (h : Writes c p ⟨r, i⟩) (hp : r.plain = true) (hi : i < r.count) (hw : r.writable = true) (ram : Ram) (v : Word) (f : Core → Core) :
    c.request ram p (⟨r, i⟩ : Loc).addr (some v) (some f) = c.wrote ram p r i v (fun d => if v &&& (d.stores p r i ||| r.actMask) = 0 then d else f d) := by
  obtain ⟨h1, h2, h3, h4⟩ := Reg.plain_loc hp hi
  exact Core.request_write h h1 h2 h3 h4 hw ram v (some f)
/-- A served read of a plain register by a path that holds no high word: the word that the register shows, and what reading it does (R4, R5). -/
theorem Core.wasRead_read {c : Core} {p : Path} {r : Reg} {i : Nat} (h : Reaches c p ⟨r, i⟩ true) (hp : r.plain = true) (hi : i < r.count) (ram : Ram)
    (hh : (c.sent p (⟨r, i⟩ : Loc).addr []).heldBy p r i = []) (hold : ((c.accepted p).sendWords 0x25 ((c.accepted p).islandOf (⟨r, i⟩ : Loc).addr) [BitVec.ofNat 32 (⟨r, i⟩ : Loc).addr]).hold.find? (fun e => e.1 = p) = none) :
    c.request ram p (⟨r, i⟩ : Loc).addr none none = c.wasRead ram p r i ((c.sent p (⟨r, i⟩ : Loc).addr []).value p r i) (fun d => d.readEffect p r i) := by
  obtain ⟨h1, h2, h3, _⟩ := Reg.plain_loc hp hi
  rw [Core.request_read h h1 h2 h3 ram none]
  unfold Core.wasRead
  have : ((c.accepted p).sendWords 0x25 ((c.accepted p).islandOf (⟨r, i⟩ : Loc).addr) [BitVec.ofNat 32 (⟨r, i⟩ : Loc).addr]).readReg p ⟨r, i⟩ =
      ((c.sent p (⟨r, i⟩ : Loc).addr []).value p r i, (c.sent p (⟨r, i⟩ : Loc).addr []).readEffect p r i) := by
    unfold Core.readReg
    simp only [hold, Option.map_none]
    unfold Core.readReg.fresh
    simp only [Core.sent] at hh
    simp only [hh, List.isEmpty_nil, if_true]
    rfl
  simp only [this]

end Sys2Proof.Machine
end

