-- ==== Sys2Proof/Laws/State.lean ====
section
/-! SUPPORT. What each named update of the state leaves, field by field, and that a table of instances reads what was stored; every one holds by definition, so that no later proof unfolds a record update. -/
namespace Sys2Proof.Machine

/-! ### Registers -/

@[simp] theorem Core.setReg_prof (c : Core) (r₀ : Reg) (i : Nat) (w : Word) : (c.setReg r₀ i w).prof = c.prof := rfl
@[simp] theorem Core.setReg_igs (c : Core) (r₀ : Reg) (i : Nat) (w : Word) : (c.setReg r₀ i w).igs = c.igs := rfl
@[simp] theorem Core.setReg_steps (c : Core) (r₀ : Reg) (i : Nat) (w : Word) : (c.setReg r₀ i w).steps = c.steps := rfl
@[simp] theorem Core.setReg_loops (c : Core) (r₀ : Reg) (i : Nat) (w : Word) : (c.setReg r₀ i w).loops = c.loops := rfl
@[simp] theorem Core.setReg_snaps (c : Core) (r₀ : Reg) (i : Nat) (w : Word) : (c.setReg r₀ i w).snaps = c.snaps := rfl
@[simp] theorem Core.setReg_ctxs (c : Core) (r₀ : Reg) (i : Nat) (w : Word) : (c.setReg r₀ i w).ctxs = c.ctxs := rfl
@[simp] theorem Core.setReg_ests (c : Core) (r₀ : Reg) (i : Nat) (w : Word) : (c.setReg r₀ i w).ests = c.ests := rfl
@[simp] theorem Core.setReg_lanes (c : Core) (r₀ : Reg) (i : Nat) (w : Word) : (c.setReg r₀ i w).lanes = c.lanes := rfl
@[simp] theorem Core.setReg_ports (c : Core) (r₀ : Reg) (i : Nat) (w : Word) : (c.setReg r₀ i w).ports = c.ports := rfl
@[simp] theorem Core.setReg_reps (c : Core) (r₀ : Reg) (i : Nat) (w : Word) : (c.setReg r₀ i w).reps = c.reps := rfl
@[simp] theorem Core.setReg_time (c : Core) (r₀ : Reg) (i : Nat) (w : Word) : (c.setReg r₀ i w).time = c.time := rfl
@[simp] theorem Core.setReg_backSec (c : Core) (r₀ : Reg) (i : Nat) (w : Word) : (c.setReg r₀ i w).backSec = c.backSec := rfl
@[simp] theorem Core.setReg_backSub (c : Core) (r₀ : Reg) (i : Nat) (w : Word) : (c.setReg r₀ i w).backSub = c.backSub := rfl
@[simp] theorem Core.setReg_backPhase (c : Core) (r₀ : Reg) (i : Nat) (w : Word) : (c.setReg r₀ i w).backPhase = c.backPhase := rfl
@[simp] theorem Core.setReg_backKept (c : Core) (r₀ : Reg) (i : Nat) (w : Word) : (c.setReg r₀ i w).backKept = c.backKept := rfl
@[simp] theorem Core.setReg_dirIn (c : Core) (r₀ : Reg) (i : Nat) (w : Word) : (c.setReg r₀ i w).dirIn = c.dirIn := rfl
@[simp] theorem Core.setReg_rings (c : Core) (r₀ : Reg) (i : Nat) (w : Word) : (c.setReg r₀ i w).rings = c.rings := rfl
@[simp] theorem Core.setReg_query (c : Core) (r₀ : Reg) (i : Nat) (w : Word) : (c.setReg r₀ i w).query = c.query := rfl
@[simp] theorem Core.setReg_grids (c : Core) (r₀ : Reg) (i : Nat) (w : Word) : (c.setReg r₀ i w).grids = c.grids := rfl
@[simp] theorem Core.setReg_engines (c : Core) (r₀ : Reg) (i : Nat) (w : Word) : (c.setReg r₀ i w).engines = c.engines := rfl
@[simp] theorem Core.setReg_sched (c : Core) (r₀ : Reg) (i : Nat) (w : Word) : (c.setReg r₀ i w).sched = c.sched := rfl
@[simp] theorem Core.setReg_bridle (c : Core) (r₀ : Reg) (i : Nat) (w : Word) : (c.setReg r₀ i w).bridle = c.bridle := rfl
@[simp] theorem Core.setReg_latchRec (c : Core) (r₀ : Reg) (i : Nat) (w : Word) : (c.setReg r₀ i w).latchRec = c.latchRec := rfl
@[simp] theorem Core.setReg_frecIncarn (c : Core) (r₀ : Reg) (i : Nat) (w : Word) : (c.setReg r₀ i w).frecIncarn = c.frecIncarn := rfl
@[simp] theorem Core.setReg_canObjs (c : Core) (r₀ : Reg) (i : Nat) (w : Word) : (c.setReg r₀ i w).canObjs = c.canObjs := rfl
@[simp] theorem Core.setReg_canChs (c : Core) (r₀ : Reg) (i : Nat) (w : Word) : (c.setReg r₀ i w).canChs = c.canChs := rfl
@[simp] theorem Core.setReg_strings (c : Core) (r₀ : Reg) (i : Nat) (w : Word) : (c.setReg r₀ i w).strings = c.strings := rfl
@[simp] theorem Core.setReg_woken (c : Core) (r₀ : Reg) (i : Nat) (w : Word) : (c.setReg r₀ i w).woken = c.woken := rfl
@[simp] theorem Core.setReg_crossings (c : Core) (r₀ : Reg) (i : Nat) (w : Word) : (c.setReg r₀ i w).crossings = c.crossings := rfl
@[simp] theorem Core.setReg_banks (c : Core) (r₀ : Reg) (i : Nat) (w : Word) : (c.setReg r₀ i w).banks = c.banks := rfl
@[simp] theorem Core.setReg_loader (c : Core) (r₀ : Reg) (i : Nat) (w : Word) : (c.setReg r₀ i w).loader = c.loader := rfl
@[simp] theorem Core.setReg_twin (c : Core) (r₀ : Reg) (i : Nat) (w : Word) : (c.setReg r₀ i w).twin = c.twin := rfl
@[simp] theorem Core.setReg_power (c : Core) (r₀ : Reg) (i : Nat) (w : Word) : (c.setReg r₀ i w).power = c.power := rfl
@[simp] theorem Core.setReg_rst (c : Core) (r₀ : Reg) (i : Nat) (w : Word) : (c.setReg r₀ i w).rst = c.rst := rfl
@[simp] theorem Core.setReg_sad (c : Core) (r₀ : Reg) (i : Nat) (w : Word) : (c.setReg r₀ i w).sad = c.sad := rfl
@[simp] theorem Core.setReg_sessions (c : Core) (r₀ : Reg) (i : Nat) (w : Word) : (c.setReg r₀ i w).sessions = c.sessions := rfl
@[simp] theorem Core.setReg_sessAge (c : Core) (r₀ : Reg) (i : Nat) (w : Word) : (c.setReg r₀ i w).sessAge = c.sessAge := rfl
@[simp] theorem Core.setReg_pendLow (c : Core) (r₀ : Reg) (i : Nat) (w : Word) : (c.setReg r₀ i w).pendLow = c.pendLow := rfl
@[simp] theorem Core.setReg_hold (c : Core) (r₀ : Reg) (i : Nat) (w : Word) : (c.setReg r₀ i w).hold = c.hold := rfl
@[simp] theorem Core.setReg_stalls (c : Core) (r₀ : Reg) (i : Nat) (w : Word) : (c.setReg r₀ i w).stalls = c.stalls := rfl
@[simp] theorem Core.setReg_strapWait (c : Core) (r₀ : Reg) (i : Nat) (w : Word) : (c.setReg r₀ i w).strapWait = c.strapWait := rfl
@[simp] theorem Core.setReg_strapQ (c : Core) (r₀ : Reg) (i : Nat) (w : Word) : (c.setReg r₀ i w).strapQ = c.strapQ := rfl
@[simp] theorem Core.setReg_wdHeld (c : Core) (r₀ : Reg) (i : Nat) (w : Word) : (c.setReg r₀ i w).wdHeld = c.wdHeld := rfl
@[simp] theorem Core.setReg_patFlash (c : Core) (r₀ : Reg) (i : Nat) (w : Word) : (c.setReg r₀ i w).patFlash = c.patFlash := rfl
@[simp] theorem Core.setReg_imgFlash (c : Core) (r₀ : Reg) (i : Nat) (w : Word) : (c.setReg r₀ i w).imgFlash = c.imgFlash := rfl
@[simp] theorem Core.setReg_keys (c : Core) (r₀ : Reg) (i : Nat) (w : Word) : (c.setReg r₀ i w).keys = c.keys := rfl
@[simp] theorem Core.setReg_pos0 (c : Core) (r₀ : Reg) (i : Nat) (w : Word) : (c.setReg r₀ i w).pos0 = c.pos0 := rfl
@[simp] theorem Core.setReg_pos1 (c : Core) (r₀ : Reg) (i : Nat) (w : Word) : (c.setReg r₀ i w).pos1 = c.pos1 := rfl
@[simp] theorem Core.setReg_ipSet (c : Core) (r₀ : Reg) (i : Nat) (w : Word) : (c.setReg r₀ i w).ipSet = c.ipSet := rfl
@[simp] theorem Core.setReg_livePorts (c : Core) (r₀ : Reg) (i : Nat) (w : Word) : (c.setReg r₀ i w).livePorts = c.livePorts := rfl
@[simp] theorem Core.setReg_liveVlan (c : Core) (r₀ : Reg) (i : Nat) (w : Word) : (c.setReg r₀ i w).liveVlan = c.liveVlan := rfl
@[simp] theorem Core.setReg_ipLive (c : Core) (r₀ : Reg) (i : Nat) (w : Word) : (c.setReg r₀ i w).ipLive = c.ipLive := rfl
@[simp] theorem Core.setReg_silent (c : Core) (r₀ : Reg) (i : Nat) (w : Word) : (c.setReg r₀ i w).silent = c.silent := rfl
@[simp] theorem Core.setReg_lockAns (c : Core) (r₀ : Reg) (i : Nat) (w : Word) : (c.setReg r₀ i w).lockAns = c.lockAns := rfl
@[simp] theorem Core.setReg_deferred (c : Core) (r₀ : Reg) (i : Nat) (w : Word) : (c.setReg r₀ i w).deferred = c.deferred := rfl
@[simp] theorem Core.setReg_freeIdx (c : Core) (r₀ : Reg) (i : Nat) (w : Word) : (c.setReg r₀ i w).freeIdx = c.freeIdx := rfl
@[simp] theorem Core.setReg_acc (c : Core) (r₀ : Reg) (i : Nat) (w : Word) : (c.setReg r₀ i w).acc = c.acc := rfl
@[simp] theorem Core.setReg_out (c : Core) (r₀ : Reg) (i : Nat) (w : Word) : (c.setReg r₀ i w).out = c.out := rfl
@[simp] theorem Core.set_prof (c : Core) (f₀ : Fld) (i v : Nat) : (c.set f₀ i v).prof = c.prof := rfl
@[simp] theorem Core.set_igs (c : Core) (f₀ : Fld) (i v : Nat) : (c.set f₀ i v).igs = c.igs := rfl
@[simp] theorem Core.set_steps (c : Core) (f₀ : Fld) (i v : Nat) : (c.set f₀ i v).steps = c.steps := rfl
@[simp] theorem Core.set_loops (c : Core) (f₀ : Fld) (i v : Nat) : (c.set f₀ i v).loops = c.loops := rfl
@[simp] theorem Core.set_snaps (c : Core) (f₀ : Fld) (i v : Nat) : (c.set f₀ i v).snaps = c.snaps := rfl
@[simp] theorem Core.set_ctxs (c : Core) (f₀ : Fld) (i v : Nat) : (c.set f₀ i v).ctxs = c.ctxs := rfl
@[simp] theorem Core.set_ests (c : Core) (f₀ : Fld) (i v : Nat) : (c.set f₀ i v).ests = c.ests := rfl
@[simp] theorem Core.set_lanes (c : Core) (f₀ : Fld) (i v : Nat) : (c.set f₀ i v).lanes = c.lanes := rfl
@[simp] theorem Core.set_ports (c : Core) (f₀ : Fld) (i v : Nat) : (c.set f₀ i v).ports = c.ports := rfl
@[simp] theorem Core.set_reps (c : Core) (f₀ : Fld) (i v : Nat) : (c.set f₀ i v).reps = c.reps := rfl
@[simp] theorem Core.set_time (c : Core) (f₀ : Fld) (i v : Nat) : (c.set f₀ i v).time = c.time := rfl
@[simp] theorem Core.set_backSec (c : Core) (f₀ : Fld) (i v : Nat) : (c.set f₀ i v).backSec = c.backSec := rfl
@[simp] theorem Core.set_backSub (c : Core) (f₀ : Fld) (i v : Nat) : (c.set f₀ i v).backSub = c.backSub := rfl
@[simp] theorem Core.set_backPhase (c : Core) (f₀ : Fld) (i v : Nat) : (c.set f₀ i v).backPhase = c.backPhase := rfl
@[simp] theorem Core.set_backKept (c : Core) (f₀ : Fld) (i v : Nat) : (c.set f₀ i v).backKept = c.backKept := rfl
@[simp] theorem Core.set_dirIn (c : Core) (f₀ : Fld) (i v : Nat) : (c.set f₀ i v).dirIn = c.dirIn := rfl
@[simp] theorem Core.set_rings (c : Core) (f₀ : Fld) (i v : Nat) : (c.set f₀ i v).rings = c.rings := rfl
@[simp] theorem Core.set_query (c : Core) (f₀ : Fld) (i v : Nat) : (c.set f₀ i v).query = c.query := rfl
@[simp] theorem Core.set_grids (c : Core) (f₀ : Fld) (i v : Nat) : (c.set f₀ i v).grids = c.grids := rfl
@[simp] theorem Core.set_engines (c : Core) (f₀ : Fld) (i v : Nat) : (c.set f₀ i v).engines = c.engines := rfl
@[simp] theorem Core.set_sched (c : Core) (f₀ : Fld) (i v : Nat) : (c.set f₀ i v).sched = c.sched := rfl
@[simp] theorem Core.set_bridle (c : Core) (f₀ : Fld) (i v : Nat) : (c.set f₀ i v).bridle = c.bridle := rfl
@[simp] theorem Core.set_latchRec (c : Core) (f₀ : Fld) (i v : Nat) : (c.set f₀ i v).latchRec = c.latchRec := rfl
@[simp] theorem Core.set_frecIncarn (c : Core) (f₀ : Fld) (i v : Nat) : (c.set f₀ i v).frecIncarn = c.frecIncarn := rfl
@[simp] theorem Core.set_canObjs (c : Core) (f₀ : Fld) (i v : Nat) : (c.set f₀ i v).canObjs = c.canObjs := rfl
@[simp] theorem Core.set_canChs (c : Core) (f₀ : Fld) (i v : Nat) : (c.set f₀ i v).canChs = c.canChs := rfl
@[simp] theorem Core.set_strings (c : Core) (f₀ : Fld) (i v : Nat) : (c.set f₀ i v).strings = c.strings := rfl
@[simp] theorem Core.set_woken (c : Core) (f₀ : Fld) (i v : Nat) : (c.set f₀ i v).woken = c.woken := rfl
@[simp] theorem Core.set_crossings (c : Core) (f₀ : Fld) (i v : Nat) : (c.set f₀ i v).crossings = c.crossings := rfl
@[simp] theorem Core.set_banks (c : Core) (f₀ : Fld) (i v : Nat) : (c.set f₀ i v).banks = c.banks := rfl
@[simp] theorem Core.set_loader (c : Core) (f₀ : Fld) (i v : Nat) : (c.set f₀ i v).loader = c.loader := rfl
@[simp] theorem Core.set_twin (c : Core) (f₀ : Fld) (i v : Nat) : (c.set f₀ i v).twin = c.twin := rfl
@[simp] theorem Core.set_power (c : Core) (f₀ : Fld) (i v : Nat) : (c.set f₀ i v).power = c.power := rfl
@[simp] theorem Core.set_rst (c : Core) (f₀ : Fld) (i v : Nat) : (c.set f₀ i v).rst = c.rst := rfl
@[simp] theorem Core.set_sad (c : Core) (f₀ : Fld) (i v : Nat) : (c.set f₀ i v).sad = c.sad := rfl
@[simp] theorem Core.set_sessions (c : Core) (f₀ : Fld) (i v : Nat) : (c.set f₀ i v).sessions = c.sessions := rfl
@[simp] theorem Core.set_sessAge (c : Core) (f₀ : Fld) (i v : Nat) : (c.set f₀ i v).sessAge = c.sessAge := rfl
@[simp] theorem Core.set_pendLow (c : Core) (f₀ : Fld) (i v : Nat) : (c.set f₀ i v).pendLow = c.pendLow := rfl
@[simp] theorem Core.set_hold (c : Core) (f₀ : Fld) (i v : Nat) : (c.set f₀ i v).hold = c.hold := rfl
@[simp] theorem Core.set_stalls (c : Core) (f₀ : Fld) (i v : Nat) : (c.set f₀ i v).stalls = c.stalls := rfl
@[simp] theorem Core.set_strapWait (c : Core) (f₀ : Fld) (i v : Nat) : (c.set f₀ i v).strapWait = c.strapWait := rfl
@[simp] theorem Core.set_strapQ (c : Core) (f₀ : Fld) (i v : Nat) : (c.set f₀ i v).strapQ = c.strapQ := rfl
@[simp] theorem Core.set_wdHeld (c : Core) (f₀ : Fld) (i v : Nat) : (c.set f₀ i v).wdHeld = c.wdHeld := rfl
@[simp] theorem Core.set_patFlash (c : Core) (f₀ : Fld) (i v : Nat) : (c.set f₀ i v).patFlash = c.patFlash := rfl
@[simp] theorem Core.set_imgFlash (c : Core) (f₀ : Fld) (i v : Nat) : (c.set f₀ i v).imgFlash = c.imgFlash := rfl
@[simp] theorem Core.set_keys (c : Core) (f₀ : Fld) (i v : Nat) : (c.set f₀ i v).keys = c.keys := rfl
@[simp] theorem Core.set_pos0 (c : Core) (f₀ : Fld) (i v : Nat) : (c.set f₀ i v).pos0 = c.pos0 := rfl
@[simp] theorem Core.set_pos1 (c : Core) (f₀ : Fld) (i v : Nat) : (c.set f₀ i v).pos1 = c.pos1 := rfl
@[simp] theorem Core.set_ipSet (c : Core) (f₀ : Fld) (i v : Nat) : (c.set f₀ i v).ipSet = c.ipSet := rfl
@[simp] theorem Core.set_livePorts (c : Core) (f₀ : Fld) (i v : Nat) : (c.set f₀ i v).livePorts = c.livePorts := rfl
@[simp] theorem Core.set_liveVlan (c : Core) (f₀ : Fld) (i v : Nat) : (c.set f₀ i v).liveVlan = c.liveVlan := rfl
@[simp] theorem Core.set_ipLive (c : Core) (f₀ : Fld) (i v : Nat) : (c.set f₀ i v).ipLive = c.ipLive := rfl
@[simp] theorem Core.set_silent (c : Core) (f₀ : Fld) (i v : Nat) : (c.set f₀ i v).silent = c.silent := rfl
@[simp] theorem Core.set_lockAns (c : Core) (f₀ : Fld) (i v : Nat) : (c.set f₀ i v).lockAns = c.lockAns := rfl
@[simp] theorem Core.set_deferred (c : Core) (f₀ : Fld) (i v : Nat) : (c.set f₀ i v).deferred = c.deferred := rfl
@[simp] theorem Core.set_freeIdx (c : Core) (f₀ : Fld) (i v : Nat) : (c.set f₀ i v).freeIdx = c.freeIdx := rfl
@[simp] theorem Core.set_acc (c : Core) (f₀ : Fld) (i v : Nat) : (c.set f₀ i v).acc = c.acc := rfl
@[simp] theorem Core.set_out (c : Core) (f₀ : Fld) (i v : Nat) : (c.set f₀ i v).out = c.out := rfl
@[simp] theorem Core.setBit_prof (c : Core) (f₀ : Fld) (i : Nat) (b : Bool) : (c.setBit f₀ i b).prof = c.prof := rfl
@[simp] theorem Core.setBit_igs (c : Core) (f₀ : Fld) (i : Nat) (b : Bool) : (c.setBit f₀ i b).igs = c.igs := rfl
@[simp] theorem Core.setBit_steps (c : Core) (f₀ : Fld) (i : Nat) (b : Bool) : (c.setBit f₀ i b).steps = c.steps := rfl
@[simp] theorem Core.setBit_loops (c : Core) (f₀ : Fld) (i : Nat) (b : Bool) : (c.setBit f₀ i b).loops = c.loops := rfl
@[simp] theorem Core.setBit_snaps (c : Core) (f₀ : Fld) (i : Nat) (b : Bool) : (c.setBit f₀ i b).snaps = c.snaps := rfl
@[simp] theorem Core.setBit_ctxs (c : Core) (f₀ : Fld) (i : Nat) (b : Bool) : (c.setBit f₀ i b).ctxs = c.ctxs := rfl
@[simp] theorem Core.setBit_ests (c : Core) (f₀ : Fld) (i : Nat) (b : Bool) : (c.setBit f₀ i b).ests = c.ests := rfl
@[simp] theorem Core.setBit_lanes (c : Core) (f₀ : Fld) (i : Nat) (b : Bool) : (c.setBit f₀ i b).lanes = c.lanes := rfl
@[simp] theorem Core.setBit_ports (c : Core) (f₀ : Fld) (i : Nat) (b : Bool) : (c.setBit f₀ i b).ports = c.ports := rfl
@[simp] theorem Core.setBit_reps (c : Core) (f₀ : Fld) (i : Nat) (b : Bool) : (c.setBit f₀ i b).reps = c.reps := rfl
@[simp] theorem Core.setBit_time (c : Core) (f₀ : Fld) (i : Nat) (b : Bool) : (c.setBit f₀ i b).time = c.time := rfl
@[simp] theorem Core.setBit_backSec (c : Core) (f₀ : Fld) (i : Nat) (b : Bool) : (c.setBit f₀ i b).backSec = c.backSec := rfl
@[simp] theorem Core.setBit_backSub (c : Core) (f₀ : Fld) (i : Nat) (b : Bool) : (c.setBit f₀ i b).backSub = c.backSub := rfl
@[simp] theorem Core.setBit_backPhase (c : Core) (f₀ : Fld) (i : Nat) (b : Bool) : (c.setBit f₀ i b).backPhase = c.backPhase := rfl
@[simp] theorem Core.setBit_backKept (c : Core) (f₀ : Fld) (i : Nat) (b : Bool) : (c.setBit f₀ i b).backKept = c.backKept := rfl
@[simp] theorem Core.setBit_dirIn (c : Core) (f₀ : Fld) (i : Nat) (b : Bool) : (c.setBit f₀ i b).dirIn = c.dirIn := rfl
@[simp] theorem Core.setBit_rings (c : Core) (f₀ : Fld) (i : Nat) (b : Bool) : (c.setBit f₀ i b).rings = c.rings := rfl
@[simp] theorem Core.setBit_query (c : Core) (f₀ : Fld) (i : Nat) (b : Bool) : (c.setBit f₀ i b).query = c.query := rfl
@[simp] theorem Core.setBit_grids (c : Core) (f₀ : Fld) (i : Nat) (b : Bool) : (c.setBit f₀ i b).grids = c.grids := rfl
@[simp] theorem Core.setBit_engines (c : Core) (f₀ : Fld) (i : Nat) (b : Bool) : (c.setBit f₀ i b).engines = c.engines := rfl
@[simp] theorem Core.setBit_sched (c : Core) (f₀ : Fld) (i : Nat) (b : Bool) : (c.setBit f₀ i b).sched = c.sched := rfl
@[simp] theorem Core.setBit_bridle (c : Core) (f₀ : Fld) (i : Nat) (b : Bool) : (c.setBit f₀ i b).bridle = c.bridle := rfl
@[simp] theorem Core.setBit_latchRec (c : Core) (f₀ : Fld) (i : Nat) (b : Bool) : (c.setBit f₀ i b).latchRec = c.latchRec := rfl
@[simp] theorem Core.setBit_frecIncarn (c : Core) (f₀ : Fld) (i : Nat) (b : Bool) : (c.setBit f₀ i b).frecIncarn = c.frecIncarn := rfl
@[simp] theorem Core.setBit_canObjs (c : Core) (f₀ : Fld) (i : Nat) (b : Bool) : (c.setBit f₀ i b).canObjs = c.canObjs := rfl
@[simp] theorem Core.setBit_canChs (c : Core) (f₀ : Fld) (i : Nat) (b : Bool) : (c.setBit f₀ i b).canChs = c.canChs := rfl
@[simp] theorem Core.setBit_strings (c : Core) (f₀ : Fld) (i : Nat) (b : Bool) : (c.setBit f₀ i b).strings = c.strings := rfl
@[simp] theorem Core.setBit_woken (c : Core) (f₀ : Fld) (i : Nat) (b : Bool) : (c.setBit f₀ i b).woken = c.woken := rfl
@[simp] theorem Core.setBit_crossings (c : Core) (f₀ : Fld) (i : Nat) (b : Bool) : (c.setBit f₀ i b).crossings = c.crossings := rfl
@[simp] theorem Core.setBit_banks (c : Core) (f₀ : Fld) (i : Nat) (b : Bool) : (c.setBit f₀ i b).banks = c.banks := rfl
@[simp] theorem Core.setBit_loader (c : Core) (f₀ : Fld) (i : Nat) (b : Bool) : (c.setBit f₀ i b).loader = c.loader := rfl
@[simp] theorem Core.setBit_twin (c : Core) (f₀ : Fld) (i : Nat) (b : Bool) : (c.setBit f₀ i b).twin = c.twin := rfl
@[simp] theorem Core.setBit_power (c : Core) (f₀ : Fld) (i : Nat) (b : Bool) : (c.setBit f₀ i b).power = c.power := rfl
@[simp] theorem Core.setBit_rst (c : Core) (f₀ : Fld) (i : Nat) (b : Bool) : (c.setBit f₀ i b).rst = c.rst := rfl
@[simp] theorem Core.setBit_sad (c : Core) (f₀ : Fld) (i : Nat) (b : Bool) : (c.setBit f₀ i b).sad = c.sad := rfl
@[simp] theorem Core.setBit_sessions (c : Core) (f₀ : Fld) (i : Nat) (b : Bool) : (c.setBit f₀ i b).sessions = c.sessions := rfl
@[simp] theorem Core.setBit_sessAge (c : Core) (f₀ : Fld) (i : Nat) (b : Bool) : (c.setBit f₀ i b).sessAge = c.sessAge := rfl
@[simp] theorem Core.setBit_pendLow (c : Core) (f₀ : Fld) (i : Nat) (b : Bool) : (c.setBit f₀ i b).pendLow = c.pendLow := rfl
@[simp] theorem Core.setBit_hold (c : Core) (f₀ : Fld) (i : Nat) (b : Bool) : (c.setBit f₀ i b).hold = c.hold := rfl
@[simp] theorem Core.setBit_stalls (c : Core) (f₀ : Fld) (i : Nat) (b : Bool) : (c.setBit f₀ i b).stalls = c.stalls := rfl
@[simp] theorem Core.setBit_strapWait (c : Core) (f₀ : Fld) (i : Nat) (b : Bool) : (c.setBit f₀ i b).strapWait = c.strapWait := rfl
@[simp] theorem Core.setBit_strapQ (c : Core) (f₀ : Fld) (i : Nat) (b : Bool) : (c.setBit f₀ i b).strapQ = c.strapQ := rfl
@[simp] theorem Core.setBit_wdHeld (c : Core) (f₀ : Fld) (i : Nat) (b : Bool) : (c.setBit f₀ i b).wdHeld = c.wdHeld := rfl
@[simp] theorem Core.setBit_patFlash (c : Core) (f₀ : Fld) (i : Nat) (b : Bool) : (c.setBit f₀ i b).patFlash = c.patFlash := rfl
@[simp] theorem Core.setBit_imgFlash (c : Core) (f₀ : Fld) (i : Nat) (b : Bool) : (c.setBit f₀ i b).imgFlash = c.imgFlash := rfl
@[simp] theorem Core.setBit_keys (c : Core) (f₀ : Fld) (i : Nat) (b : Bool) : (c.setBit f₀ i b).keys = c.keys := rfl
@[simp] theorem Core.setBit_pos0 (c : Core) (f₀ : Fld) (i : Nat) (b : Bool) : (c.setBit f₀ i b).pos0 = c.pos0 := rfl
@[simp] theorem Core.setBit_pos1 (c : Core) (f₀ : Fld) (i : Nat) (b : Bool) : (c.setBit f₀ i b).pos1 = c.pos1 := rfl
@[simp] theorem Core.setBit_ipSet (c : Core) (f₀ : Fld) (i : Nat) (b : Bool) : (c.setBit f₀ i b).ipSet = c.ipSet := rfl
@[simp] theorem Core.setBit_livePorts (c : Core) (f₀ : Fld) (i : Nat) (b : Bool) : (c.setBit f₀ i b).livePorts = c.livePorts := rfl
@[simp] theorem Core.setBit_liveVlan (c : Core) (f₀ : Fld) (i : Nat) (b : Bool) : (c.setBit f₀ i b).liveVlan = c.liveVlan := rfl
@[simp] theorem Core.setBit_ipLive (c : Core) (f₀ : Fld) (i : Nat) (b : Bool) : (c.setBit f₀ i b).ipLive = c.ipLive := rfl
@[simp] theorem Core.setBit_silent (c : Core) (f₀ : Fld) (i : Nat) (b : Bool) : (c.setBit f₀ i b).silent = c.silent := rfl
@[simp] theorem Core.setBit_lockAns (c : Core) (f₀ : Fld) (i : Nat) (b : Bool) : (c.setBit f₀ i b).lockAns = c.lockAns := rfl
@[simp] theorem Core.setBit_deferred (c : Core) (f₀ : Fld) (i : Nat) (b : Bool) : (c.setBit f₀ i b).deferred = c.deferred := rfl
@[simp] theorem Core.setBit_freeIdx (c : Core) (f₀ : Fld) (i : Nat) (b : Bool) : (c.setBit f₀ i b).freeIdx = c.freeIdx := rfl
@[simp] theorem Core.setBit_acc (c : Core) (f₀ : Fld) (i : Nat) (b : Bool) : (c.setBit f₀ i b).acc = c.acc := rfl
@[simp] theorem Core.setBit_out (c : Core) (f₀ : Fld) (i : Nat) (b : Bool) : (c.setBit f₀ i b).out = c.out := rfl
@[simp] theorem Core.addSat_pat (c : Core) (f₀ : Fld) (i n : Nat) : (c.addSat f₀ i n).pat = c.pat := rfl
@[simp] theorem Core.addSat_prof (c : Core) (f₀ : Fld) (i n : Nat) : (c.addSat f₀ i n).prof = c.prof := rfl
@[simp] theorem Core.addSat_igs (c : Core) (f₀ : Fld) (i n : Nat) : (c.addSat f₀ i n).igs = c.igs := rfl
@[simp] theorem Core.addSat_steps (c : Core) (f₀ : Fld) (i n : Nat) : (c.addSat f₀ i n).steps = c.steps := rfl
@[simp] theorem Core.addSat_loops (c : Core) (f₀ : Fld) (i n : Nat) : (c.addSat f₀ i n).loops = c.loops := rfl
@[simp] theorem Core.addSat_snaps (c : Core) (f₀ : Fld) (i n : Nat) : (c.addSat f₀ i n).snaps = c.snaps := rfl
@[simp] theorem Core.addSat_ctxs (c : Core) (f₀ : Fld) (i n : Nat) : (c.addSat f₀ i n).ctxs = c.ctxs := rfl
@[simp] theorem Core.addSat_ests (c : Core) (f₀ : Fld) (i n : Nat) : (c.addSat f₀ i n).ests = c.ests := rfl
@[simp] theorem Core.addSat_lanes (c : Core) (f₀ : Fld) (i n : Nat) : (c.addSat f₀ i n).lanes = c.lanes := rfl
@[simp] theorem Core.addSat_ports (c : Core) (f₀ : Fld) (i n : Nat) : (c.addSat f₀ i n).ports = c.ports := rfl
@[simp] theorem Core.addSat_reps (c : Core) (f₀ : Fld) (i n : Nat) : (c.addSat f₀ i n).reps = c.reps := rfl
@[simp] theorem Core.addSat_time (c : Core) (f₀ : Fld) (i n : Nat) : (c.addSat f₀ i n).time = c.time := rfl
@[simp] theorem Core.addSat_backSec (c : Core) (f₀ : Fld) (i n : Nat) : (c.addSat f₀ i n).backSec = c.backSec := rfl
@[simp] theorem Core.addSat_backSub (c : Core) (f₀ : Fld) (i n : Nat) : (c.addSat f₀ i n).backSub = c.backSub := rfl
@[simp] theorem Core.addSat_backPhase (c : Core) (f₀ : Fld) (i n : Nat) : (c.addSat f₀ i n).backPhase = c.backPhase := rfl
@[simp] theorem Core.addSat_backKept (c : Core) (f₀ : Fld) (i n : Nat) : (c.addSat f₀ i n).backKept = c.backKept := rfl
@[simp] theorem Core.addSat_dirIn (c : Core) (f₀ : Fld) (i n : Nat) : (c.addSat f₀ i n).dirIn = c.dirIn := rfl
@[simp] theorem Core.addSat_rings (c : Core) (f₀ : Fld) (i n : Nat) : (c.addSat f₀ i n).rings = c.rings := rfl
@[simp] theorem Core.addSat_query (c : Core) (f₀ : Fld) (i n : Nat) : (c.addSat f₀ i n).query = c.query := rfl
@[simp] theorem Core.addSat_grids (c : Core) (f₀ : Fld) (i n : Nat) : (c.addSat f₀ i n).grids = c.grids := rfl
@[simp] theorem Core.addSat_engines (c : Core) (f₀ : Fld) (i n : Nat) : (c.addSat f₀ i n).engines = c.engines := rfl
@[simp] theorem Core.addSat_sched (c : Core) (f₀ : Fld) (i n : Nat) : (c.addSat f₀ i n).sched = c.sched := rfl
@[simp] theorem Core.addSat_bridle (c : Core) (f₀ : Fld) (i n : Nat) : (c.addSat f₀ i n).bridle = c.bridle := rfl
@[simp] theorem Core.addSat_latchRec (c : Core) (f₀ : Fld) (i n : Nat) : (c.addSat f₀ i n).latchRec = c.latchRec := rfl
@[simp] theorem Core.addSat_frecIncarn (c : Core) (f₀ : Fld) (i n : Nat) : (c.addSat f₀ i n).frecIncarn = c.frecIncarn := rfl
@[simp] theorem Core.addSat_canObjs (c : Core) (f₀ : Fld) (i n : Nat) : (c.addSat f₀ i n).canObjs = c.canObjs := rfl
@[simp] theorem Core.addSat_canChs (c : Core) (f₀ : Fld) (i n : Nat) : (c.addSat f₀ i n).canChs = c.canChs := rfl
@[simp] theorem Core.addSat_strings (c : Core) (f₀ : Fld) (i n : Nat) : (c.addSat f₀ i n).strings = c.strings := rfl
@[simp] theorem Core.addSat_isl (c : Core) (f₀ : Fld) (i n : Nat) : (c.addSat f₀ i n).isl = c.isl := rfl
@[simp] theorem Core.addSat_woken (c : Core) (f₀ : Fld) (i n : Nat) : (c.addSat f₀ i n).woken = c.woken := rfl
@[simp] theorem Core.addSat_crossings (c : Core) (f₀ : Fld) (i n : Nat) : (c.addSat f₀ i n).crossings = c.crossings := rfl
@[simp] theorem Core.addSat_banks (c : Core) (f₀ : Fld) (i n : Nat) : (c.addSat f₀ i n).banks = c.banks := rfl
@[simp] theorem Core.addSat_loader (c : Core) (f₀ : Fld) (i n : Nat) : (c.addSat f₀ i n).loader = c.loader := rfl
@[simp] theorem Core.addSat_twin (c : Core) (f₀ : Fld) (i n : Nat) : (c.addSat f₀ i n).twin = c.twin := rfl
@[simp] theorem Core.addSat_power (c : Core) (f₀ : Fld) (i n : Nat) : (c.addSat f₀ i n).power = c.power := rfl
@[simp] theorem Core.addSat_rst (c : Core) (f₀ : Fld) (i n : Nat) : (c.addSat f₀ i n).rst = c.rst := rfl
@[simp] theorem Core.addSat_sad (c : Core) (f₀ : Fld) (i n : Nat) : (c.addSat f₀ i n).sad = c.sad := rfl
@[simp] theorem Core.addSat_sessions (c : Core) (f₀ : Fld) (i n : Nat) : (c.addSat f₀ i n).sessions = c.sessions := rfl
@[simp] theorem Core.addSat_sessAge (c : Core) (f₀ : Fld) (i n : Nat) : (c.addSat f₀ i n).sessAge = c.sessAge := rfl
@[simp] theorem Core.addSat_pendLow (c : Core) (f₀ : Fld) (i n : Nat) : (c.addSat f₀ i n).pendLow = c.pendLow := rfl
@[simp] theorem Core.addSat_hold (c : Core) (f₀ : Fld) (i n : Nat) : (c.addSat f₀ i n).hold = c.hold := rfl
@[simp] theorem Core.addSat_stalls (c : Core) (f₀ : Fld) (i n : Nat) : (c.addSat f₀ i n).stalls = c.stalls := rfl
@[simp] theorem Core.addSat_strapWait (c : Core) (f₀ : Fld) (i n : Nat) : (c.addSat f₀ i n).strapWait = c.strapWait := rfl
@[simp] theorem Core.addSat_strapQ (c : Core) (f₀ : Fld) (i n : Nat) : (c.addSat f₀ i n).strapQ = c.strapQ := rfl
@[simp] theorem Core.addSat_wdHeld (c : Core) (f₀ : Fld) (i n : Nat) : (c.addSat f₀ i n).wdHeld = c.wdHeld := rfl
@[simp] theorem Core.addSat_patFlash (c : Core) (f₀ : Fld) (i n : Nat) : (c.addSat f₀ i n).patFlash = c.patFlash := rfl
@[simp] theorem Core.addSat_imgFlash (c : Core) (f₀ : Fld) (i n : Nat) : (c.addSat f₀ i n).imgFlash = c.imgFlash := rfl
@[simp] theorem Core.addSat_keys (c : Core) (f₀ : Fld) (i n : Nat) : (c.addSat f₀ i n).keys = c.keys := rfl
@[simp] theorem Core.addSat_pos0 (c : Core) (f₀ : Fld) (i n : Nat) : (c.addSat f₀ i n).pos0 = c.pos0 := rfl
@[simp] theorem Core.addSat_pos1 (c : Core) (f₀ : Fld) (i n : Nat) : (c.addSat f₀ i n).pos1 = c.pos1 := rfl
@[simp] theorem Core.addSat_ipSet (c : Core) (f₀ : Fld) (i n : Nat) : (c.addSat f₀ i n).ipSet = c.ipSet := rfl
@[simp] theorem Core.addSat_livePorts (c : Core) (f₀ : Fld) (i n : Nat) : (c.addSat f₀ i n).livePorts = c.livePorts := rfl
@[simp] theorem Core.addSat_liveVlan (c : Core) (f₀ : Fld) (i n : Nat) : (c.addSat f₀ i n).liveVlan = c.liveVlan := rfl
@[simp] theorem Core.addSat_ipLive (c : Core) (f₀ : Fld) (i n : Nat) : (c.addSat f₀ i n).ipLive = c.ipLive := rfl
@[simp] theorem Core.addSat_silent (c : Core) (f₀ : Fld) (i n : Nat) : (c.addSat f₀ i n).silent = c.silent := rfl
@[simp] theorem Core.addSat_lockAns (c : Core) (f₀ : Fld) (i n : Nat) : (c.addSat f₀ i n).lockAns = c.lockAns := rfl
@[simp] theorem Core.addSat_deferred (c : Core) (f₀ : Fld) (i n : Nat) : (c.addSat f₀ i n).deferred = c.deferred := rfl
@[simp] theorem Core.addSat_memq (c : Core) (f₀ : Fld) (i n : Nat) : (c.addSat f₀ i n).memq = c.memq := rfl
@[simp] theorem Core.addSat_freeIdx (c : Core) (f₀ : Fld) (i n : Nat) : (c.addSat f₀ i n).freeIdx = c.freeIdx := rfl
@[simp] theorem Core.addSat_acc (c : Core) (f₀ : Fld) (i n : Nat) : (c.addSat f₀ i n).acc = c.acc := rfl
@[simp] theorem Core.addSat_out (c : Core) (f₀ : Fld) (i n : Nat) : (c.addSat f₀ i n).out = c.out := rfl
@[simp] theorem Core.addWrap_pat (c : Core) (f₀ : Fld) (i n : Nat) : (c.addWrap f₀ i n).pat = c.pat := rfl
@[simp] theorem Core.addWrap_prof (c : Core) (f₀ : Fld) (i n : Nat) : (c.addWrap f₀ i n).prof = c.prof := rfl
@[simp] theorem Core.addWrap_igs (c : Core) (f₀ : Fld) (i n : Nat) : (c.addWrap f₀ i n).igs = c.igs := rfl
@[simp] theorem Core.addWrap_steps (c : Core) (f₀ : Fld) (i n : Nat) : (c.addWrap f₀ i n).steps = c.steps := rfl
@[simp] theorem Core.addWrap_loops (c : Core) (f₀ : Fld) (i n : Nat) : (c.addWrap f₀ i n).loops = c.loops := rfl
@[simp] theorem Core.addWrap_snaps (c : Core) (f₀ : Fld) (i n : Nat) : (c.addWrap f₀ i n).snaps = c.snaps := rfl
@[simp] theorem Core.addWrap_ctxs (c : Core) (f₀ : Fld) (i n : Nat) : (c.addWrap f₀ i n).ctxs = c.ctxs := rfl
@[simp] theorem Core.addWrap_ests (c : Core) (f₀ : Fld) (i n : Nat) : (c.addWrap f₀ i n).ests = c.ests := rfl
@[simp] theorem Core.addWrap_lanes (c : Core) (f₀ : Fld) (i n : Nat) : (c.addWrap f₀ i n).lanes = c.lanes := rfl
@[simp] theorem Core.addWrap_ports (c : Core) (f₀ : Fld) (i n : Nat) : (c.addWrap f₀ i n).ports = c.ports := rfl
@[simp] theorem Core.addWrap_reps (c : Core) (f₀ : Fld) (i n : Nat) : (c.addWrap f₀ i n).reps = c.reps := rfl
@[simp] theorem Core.addWrap_time (c : Core) (f₀ : Fld) (i n : Nat) : (c.addWrap f₀ i n).time = c.time := rfl
@[simp] theorem Core.addWrap_backSec (c : Core) (f₀ : Fld) (i n : Nat) : (c.addWrap f₀ i n).backSec = c.backSec := rfl
@[simp] theorem Core.addWrap_backSub (c : Core) (f₀ : Fld) (i n : Nat) : (c.addWrap f₀ i n).backSub = c.backSub := rfl
@[simp] theorem Core.addWrap_backPhase (c : Core) (f₀ : Fld) (i n : Nat) : (c.addWrap f₀ i n).backPhase = c.backPhase := rfl
@[simp] theorem Core.addWrap_backKept (c : Core) (f₀ : Fld) (i n : Nat) : (c.addWrap f₀ i n).backKept = c.backKept := rfl
@[simp] theorem Core.addWrap_dirIn (c : Core) (f₀ : Fld) (i n : Nat) : (c.addWrap f₀ i n).dirIn = c.dirIn := rfl
@[simp] theorem Core.addWrap_rings (c : Core) (f₀ : Fld) (i n : Nat) : (c.addWrap f₀ i n).rings = c.rings := rfl
@[simp] theorem Core.addWrap_query (c : Core) (f₀ : Fld) (i n : Nat) : (c.addWrap f₀ i n).query = c.query := rfl
@[simp] theorem Core.addWrap_grids (c : Core) (f₀ : Fld) (i n : Nat) : (c.addWrap f₀ i n).grids = c.grids := rfl
@[simp] theorem Core.addWrap_engines (c : Core) (f₀ : Fld) (i n : Nat) : (c.addWrap f₀ i n).engines = c.engines := rfl
@[simp] theorem Core.addWrap_sched (c : Core) (f₀ : Fld) (i n : Nat) : (c.addWrap f₀ i n).sched = c.sched := rfl
@[simp] theorem Core.addWrap_bridle (c : Core) (f₀ : Fld) (i n : Nat) : (c.addWrap f₀ i n).bridle = c.bridle := rfl
@[simp] theorem Core.addWrap_latchRec (c : Core) (f₀ : Fld) (i n : Nat) : (c.addWrap f₀ i n).latchRec = c.latchRec := rfl
@[simp] theorem Core.addWrap_frecIncarn (c : Core) (f₀ : Fld) (i n : Nat) : (c.addWrap f₀ i n).frecIncarn = c.frecIncarn := rfl
@[simp] theorem Core.addWrap_canObjs (c : Core) (f₀ : Fld) (i n : Nat) : (c.addWrap f₀ i n).canObjs = c.canObjs := rfl
@[simp] theorem Core.addWrap_canChs (c : Core) (f₀ : Fld) (i n : Nat) : (c.addWrap f₀ i n).canChs = c.canChs := rfl
@[simp] theorem Core.addWrap_strings (c : Core) (f₀ : Fld) (i n : Nat) : (c.addWrap f₀ i n).strings = c.strings := rfl
@[simp] theorem Core.addWrap_isl (c : Core) (f₀ : Fld) (i n : Nat) : (c.addWrap f₀ i n).isl = c.isl := rfl
@[simp] theorem Core.addWrap_woken (c : Core) (f₀ : Fld) (i n : Nat) : (c.addWrap f₀ i n).woken = c.woken := rfl
@[simp] theorem Core.addWrap_crossings (c : Core) (f₀ : Fld) (i n : Nat) : (c.addWrap f₀ i n).crossings = c.crossings := rfl
@[simp] theorem Core.addWrap_banks (c : Core) (f₀ : Fld) (i n : Nat) : (c.addWrap f₀ i n).banks = c.banks := rfl
@[simp] theorem Core.addWrap_loader (c : Core) (f₀ : Fld) (i n : Nat) : (c.addWrap f₀ i n).loader = c.loader := rfl
@[simp] theorem Core.addWrap_twin (c : Core) (f₀ : Fld) (i n : Nat) : (c.addWrap f₀ i n).twin = c.twin := rfl
@[simp] theorem Core.addWrap_power (c : Core) (f₀ : Fld) (i n : Nat) : (c.addWrap f₀ i n).power = c.power := rfl
@[simp] theorem Core.addWrap_rst (c : Core) (f₀ : Fld) (i n : Nat) : (c.addWrap f₀ i n).rst = c.rst := rfl
@[simp] theorem Core.addWrap_sad (c : Core) (f₀ : Fld) (i n : Nat) : (c.addWrap f₀ i n).sad = c.sad := rfl
@[simp] theorem Core.addWrap_sessions (c : Core) (f₀ : Fld) (i n : Nat) : (c.addWrap f₀ i n).sessions = c.sessions := rfl
@[simp] theorem Core.addWrap_sessAge (c : Core) (f₀ : Fld) (i n : Nat) : (c.addWrap f₀ i n).sessAge = c.sessAge := rfl
@[simp] theorem Core.addWrap_pendLow (c : Core) (f₀ : Fld) (i n : Nat) : (c.addWrap f₀ i n).pendLow = c.pendLow := rfl
@[simp] theorem Core.addWrap_hold (c : Core) (f₀ : Fld) (i n : Nat) : (c.addWrap f₀ i n).hold = c.hold := rfl
@[simp] theorem Core.addWrap_stalls (c : Core) (f₀ : Fld) (i n : Nat) : (c.addWrap f₀ i n).stalls = c.stalls := rfl
@[simp] theorem Core.addWrap_strapWait (c : Core) (f₀ : Fld) (i n : Nat) : (c.addWrap f₀ i n).strapWait = c.strapWait := rfl
@[simp] theorem Core.addWrap_strapQ (c : Core) (f₀ : Fld) (i n : Nat) : (c.addWrap f₀ i n).strapQ = c.strapQ := rfl
@[simp] theorem Core.addWrap_wdHeld (c : Core) (f₀ : Fld) (i n : Nat) : (c.addWrap f₀ i n).wdHeld = c.wdHeld := rfl
@[simp] theorem Core.addWrap_patFlash (c : Core) (f₀ : Fld) (i n : Nat) : (c.addWrap f₀ i n).patFlash = c.patFlash := rfl
@[simp] theorem Core.addWrap_imgFlash (c : Core) (f₀ : Fld) (i n : Nat) : (c.addWrap f₀ i n).imgFlash = c.imgFlash := rfl
@[simp] theorem Core.addWrap_keys (c : Core) (f₀ : Fld) (i n : Nat) : (c.addWrap f₀ i n).keys = c.keys := rfl
@[simp] theorem Core.addWrap_pos0 (c : Core) (f₀ : Fld) (i n : Nat) : (c.addWrap f₀ i n).pos0 = c.pos0 := rfl
@[simp] theorem Core.addWrap_pos1 (c : Core) (f₀ : Fld) (i n : Nat) : (c.addWrap f₀ i n).pos1 = c.pos1 := rfl
@[simp] theorem Core.addWrap_ipSet (c : Core) (f₀ : Fld) (i n : Nat) : (c.addWrap f₀ i n).ipSet = c.ipSet := rfl
@[simp] theorem Core.addWrap_livePorts (c : Core) (f₀ : Fld) (i n : Nat) : (c.addWrap f₀ i n).livePorts = c.livePorts := rfl
@[simp] theorem Core.addWrap_liveVlan (c : Core) (f₀ : Fld) (i n : Nat) : (c.addWrap f₀ i n).liveVlan = c.liveVlan := rfl
@[simp] theorem Core.addWrap_ipLive (c : Core) (f₀ : Fld) (i n : Nat) : (c.addWrap f₀ i n).ipLive = c.ipLive := rfl
@[simp] theorem Core.addWrap_silent (c : Core) (f₀ : Fld) (i n : Nat) : (c.addWrap f₀ i n).silent = c.silent := rfl
@[simp] theorem Core.addWrap_lockAns (c : Core) (f₀ : Fld) (i n : Nat) : (c.addWrap f₀ i n).lockAns = c.lockAns := rfl
@[simp] theorem Core.addWrap_deferred (c : Core) (f₀ : Fld) (i n : Nat) : (c.addWrap f₀ i n).deferred = c.deferred := rfl
@[simp] theorem Core.addWrap_memq (c : Core) (f₀ : Fld) (i n : Nat) : (c.addWrap f₀ i n).memq = c.memq := rfl
@[simp] theorem Core.addWrap_freeIdx (c : Core) (f₀ : Fld) (i n : Nat) : (c.addWrap f₀ i n).freeIdx = c.freeIdx := rfl
@[simp] theorem Core.addWrap_acc (c : Core) (f₀ : Fld) (i n : Nat) : (c.addWrap f₀ i n).acc = c.acc := rfl
@[simp] theorem Core.addWrap_out (c : Core) (f₀ : Fld) (i n : Nat) : (c.addWrap f₀ i n).out = c.out := rfl

/-! ### Tables of instances -/

@[simp] theorem Core.profAt_setProf (c : Core) (i : Nat) (v : Profile) : (c.setProf i v).profAt i = v := Tab.get_set_self ..
theorem Core.profAt_setProf_ne (c : Core) {i j : Nat} (v : Profile) (h : i ≠ j) : (c.setProf i v).profAt j = c.profAt j := Tab.get_set_ne _ _ v h
@[simp] theorem Core.setProf_regs (c : Core) (i : Nat) (v : Profile) : (c.setProf i v).regs = c.regs := rfl
@[simp] theorem Core.setProf_pat (c : Core) (i : Nat) (v : Profile) : (c.setProf i v).pat = c.pat := rfl
@[simp] theorem Core.setProf_igs (c : Core) (i : Nat) (v : Profile) : (c.setProf i v).igs = c.igs := rfl
@[simp] theorem Core.setProf_steps (c : Core) (i : Nat) (v : Profile) : (c.setProf i v).steps = c.steps := rfl
@[simp] theorem Core.setProf_loops (c : Core) (i : Nat) (v : Profile) : (c.setProf i v).loops = c.loops := rfl
@[simp] theorem Core.setProf_snaps (c : Core) (i : Nat) (v : Profile) : (c.setProf i v).snaps = c.snaps := rfl
@[simp] theorem Core.setProf_ctxs (c : Core) (i : Nat) (v : Profile) : (c.setProf i v).ctxs = c.ctxs := rfl
@[simp] theorem Core.setProf_ests (c : Core) (i : Nat) (v : Profile) : (c.setProf i v).ests = c.ests := rfl
@[simp] theorem Core.setProf_lanes (c : Core) (i : Nat) (v : Profile) : (c.setProf i v).lanes = c.lanes := rfl
@[simp] theorem Core.setProf_ports (c : Core) (i : Nat) (v : Profile) : (c.setProf i v).ports = c.ports := rfl
@[simp] theorem Core.setProf_reps (c : Core) (i : Nat) (v : Profile) : (c.setProf i v).reps = c.reps := rfl
@[simp] theorem Core.setProf_time (c : Core) (i : Nat) (v : Profile) : (c.setProf i v).time = c.time := rfl
@[simp] theorem Core.setProf_backSec (c : Core) (i : Nat) (v : Profile) : (c.setProf i v).backSec = c.backSec := rfl
@[simp] theorem Core.setProf_backSub (c : Core) (i : Nat) (v : Profile) : (c.setProf i v).backSub = c.backSub := rfl
@[simp] theorem Core.setProf_backPhase (c : Core) (i : Nat) (v : Profile) : (c.setProf i v).backPhase = c.backPhase := rfl
@[simp] theorem Core.setProf_backKept (c : Core) (i : Nat) (v : Profile) : (c.setProf i v).backKept = c.backKept := rfl
@[simp] theorem Core.setProf_dirIn (c : Core) (i : Nat) (v : Profile) : (c.setProf i v).dirIn = c.dirIn := rfl
@[simp] theorem Core.setProf_rings (c : Core) (i : Nat) (v : Profile) : (c.setProf i v).rings = c.rings := rfl
@[simp] theorem Core.setProf_query (c : Core) (i : Nat) (v : Profile) : (c.setProf i v).query = c.query := rfl
@[simp] theorem Core.setProf_grids (c : Core) (i : Nat) (v : Profile) : (c.setProf i v).grids = c.grids := rfl
@[simp] theorem Core.setProf_engines (c : Core) (i : Nat) (v : Profile) : (c.setProf i v).engines = c.engines := rfl
@[simp] theorem Core.setProf_sched (c : Core) (i : Nat) (v : Profile) : (c.setProf i v).sched = c.sched := rfl
@[simp] theorem Core.setProf_bridle (c : Core) (i : Nat) (v : Profile) : (c.setProf i v).bridle = c.bridle := rfl
@[simp] theorem Core.setProf_latchRec (c : Core) (i : Nat) (v : Profile) : (c.setProf i v).latchRec = c.latchRec := rfl
@[simp] theorem Core.setProf_frecIncarn (c : Core) (i : Nat) (v : Profile) : (c.setProf i v).frecIncarn = c.frecIncarn := rfl
@[simp] theorem Core.setProf_canObjs (c : Core) (i : Nat) (v : Profile) : (c.setProf i v).canObjs = c.canObjs := rfl
@[simp] theorem Core.setProf_canChs (c : Core) (i : Nat) (v : Profile) : (c.setProf i v).canChs = c.canChs := rfl
@[simp] theorem Core.setProf_strings (c : Core) (i : Nat) (v : Profile) : (c.setProf i v).strings = c.strings := rfl
@[simp] theorem Core.setProf_isl (c : Core) (i : Nat) (v : Profile) : (c.setProf i v).isl = c.isl := rfl
@[simp] theorem Core.setProf_woken (c : Core) (i : Nat) (v : Profile) : (c.setProf i v).woken = c.woken := rfl
@[simp] theorem Core.setProf_crossings (c : Core) (i : Nat) (v : Profile) : (c.setProf i v).crossings = c.crossings := rfl
@[simp] theorem Core.setProf_banks (c : Core) (i : Nat) (v : Profile) : (c.setProf i v).banks = c.banks := rfl
@[simp] theorem Core.setProf_loader (c : Core) (i : Nat) (v : Profile) : (c.setProf i v).loader = c.loader := rfl
@[simp] theorem Core.setProf_twin (c : Core) (i : Nat) (v : Profile) : (c.setProf i v).twin = c.twin := rfl
@[simp] theorem Core.setProf_power (c : Core) (i : Nat) (v : Profile) : (c.setProf i v).power = c.power := rfl
@[simp] theorem Core.setProf_rst (c : Core) (i : Nat) (v : Profile) : (c.setProf i v).rst = c.rst := rfl
@[simp] theorem Core.setProf_sad (c : Core) (i : Nat) (v : Profile) : (c.setProf i v).sad = c.sad := rfl
@[simp] theorem Core.setProf_sessions (c : Core) (i : Nat) (v : Profile) : (c.setProf i v).sessions = c.sessions := rfl
@[simp] theorem Core.setProf_sessAge (c : Core) (i : Nat) (v : Profile) : (c.setProf i v).sessAge = c.sessAge := rfl
@[simp] theorem Core.setProf_pendLow (c : Core) (i : Nat) (v : Profile) : (c.setProf i v).pendLow = c.pendLow := rfl
@[simp] theorem Core.setProf_hold (c : Core) (i : Nat) (v : Profile) : (c.setProf i v).hold = c.hold := rfl
@[simp] theorem Core.setProf_stalls (c : Core) (i : Nat) (v : Profile) : (c.setProf i v).stalls = c.stalls := rfl
@[simp] theorem Core.setProf_strapWait (c : Core) (i : Nat) (v : Profile) : (c.setProf i v).strapWait = c.strapWait := rfl
@[simp] theorem Core.setProf_strapQ (c : Core) (i : Nat) (v : Profile) : (c.setProf i v).strapQ = c.strapQ := rfl
@[simp] theorem Core.setProf_wdHeld (c : Core) (i : Nat) (v : Profile) : (c.setProf i v).wdHeld = c.wdHeld := rfl
@[simp] theorem Core.setProf_patFlash (c : Core) (i : Nat) (v : Profile) : (c.setProf i v).patFlash = c.patFlash := rfl
@[simp] theorem Core.setProf_imgFlash (c : Core) (i : Nat) (v : Profile) : (c.setProf i v).imgFlash = c.imgFlash := rfl
@[simp] theorem Core.setProf_keys (c : Core) (i : Nat) (v : Profile) : (c.setProf i v).keys = c.keys := rfl
@[simp] theorem Core.setProf_pos0 (c : Core) (i : Nat) (v : Profile) : (c.setProf i v).pos0 = c.pos0 := rfl
@[simp] theorem Core.setProf_pos1 (c : Core) (i : Nat) (v : Profile) : (c.setProf i v).pos1 = c.pos1 := rfl
@[simp] theorem Core.setProf_ipSet (c : Core) (i : Nat) (v : Profile) : (c.setProf i v).ipSet = c.ipSet := rfl
@[simp] theorem Core.setProf_livePorts (c : Core) (i : Nat) (v : Profile) : (c.setProf i v).livePorts = c.livePorts := rfl
@[simp] theorem Core.setProf_liveVlan (c : Core) (i : Nat) (v : Profile) : (c.setProf i v).liveVlan = c.liveVlan := rfl
@[simp] theorem Core.setProf_ipLive (c : Core) (i : Nat) (v : Profile) : (c.setProf i v).ipLive = c.ipLive := rfl
@[simp] theorem Core.setProf_silent (c : Core) (i : Nat) (v : Profile) : (c.setProf i v).silent = c.silent := rfl
@[simp] theorem Core.setProf_lockAns (c : Core) (i : Nat) (v : Profile) : (c.setProf i v).lockAns = c.lockAns := rfl
@[simp] theorem Core.setProf_deferred (c : Core) (i : Nat) (v : Profile) : (c.setProf i v).deferred = c.deferred := rfl
@[simp] theorem Core.setProf_memq (c : Core) (i : Nat) (v : Profile) : (c.setProf i v).memq = c.memq := rfl
@[simp] theorem Core.setProf_freeIdx (c : Core) (i : Nat) (v : Profile) : (c.setProf i v).freeIdx = c.freeIdx := rfl
@[simp] theorem Core.setProf_acc (c : Core) (i : Nat) (v : Profile) : (c.setProf i v).acc = c.acc := rfl
@[simp] theorem Core.setProf_out (c : Core) (i : Nat) (v : Profile) : (c.setProf i v).out = c.out := rfl
@[simp] theorem Core.setProf_reg (c : Core) (i : Nat) (v : Profile) (r : Reg) (j : Nat) : (c.setProf i v).reg r j = c.reg r j := rfl
@[simp] theorem Core.setProf_get (c : Core) (i : Nat) (v : Profile) (f : Fld) (j : Nat) : (c.setProf i v).get f j = c.get f j := rfl
@[simp] theorem Core.setProf_bit (c : Core) (i : Nat) (v : Profile) (f : Fld) (j : Nat) : (c.setProf i v).bit f j = c.bit f j := rfl
@[simp] theorem Core.igAt_setIg (c : Core) (i : Nat) (v : IgPath) : (c.setIg i v).igAt i = v := Tab.get_set_self ..
theorem Core.igAt_setIg_ne (c : Core) {i j : Nat} (v : IgPath) (h : i ≠ j) : (c.setIg i v).igAt j = c.igAt j := Tab.get_set_ne _ _ v h
@[simp] theorem Core.setIg_regs (c : Core) (i : Nat) (v : IgPath) : (c.setIg i v).regs = c.regs := rfl
@[simp] theorem Core.setIg_pat (c : Core) (i : Nat) (v : IgPath) : (c.setIg i v).pat = c.pat := rfl
@[simp] theorem Core.setIg_prof (c : Core) (i : Nat) (v : IgPath) : (c.setIg i v).prof = c.prof := rfl
@[simp] theorem Core.setIg_steps (c : Core) (i : Nat) (v : IgPath) : (c.setIg i v).steps = c.steps := rfl
@[simp] theorem Core.setIg_loops (c : Core) (i : Nat) (v : IgPath) : (c.setIg i v).loops = c.loops := rfl
@[simp] theorem Core.setIg_snaps (c : Core) (i : Nat) (v : IgPath) : (c.setIg i v).snaps = c.snaps := rfl
@[simp] theorem Core.setIg_ctxs (c : Core) (i : Nat) (v : IgPath) : (c.setIg i v).ctxs = c.ctxs := rfl
@[simp] theorem Core.setIg_ests (c : Core) (i : Nat) (v : IgPath) : (c.setIg i v).ests = c.ests := rfl
@[simp] theorem Core.setIg_lanes (c : Core) (i : Nat) (v : IgPath) : (c.setIg i v).lanes = c.lanes := rfl
@[simp] theorem Core.setIg_ports (c : Core) (i : Nat) (v : IgPath) : (c.setIg i v).ports = c.ports := rfl
@[simp] theorem Core.setIg_reps (c : Core) (i : Nat) (v : IgPath) : (c.setIg i v).reps = c.reps := rfl
@[simp] theorem Core.setIg_time (c : Core) (i : Nat) (v : IgPath) : (c.setIg i v).time = c.time := rfl
@[simp] theorem Core.setIg_backSec (c : Core) (i : Nat) (v : IgPath) : (c.setIg i v).backSec = c.backSec := rfl
@[simp] theorem Core.setIg_backSub (c : Core) (i : Nat) (v : IgPath) : (c.setIg i v).backSub = c.backSub := rfl
@[simp] theorem Core.setIg_backPhase (c : Core) (i : Nat) (v : IgPath) : (c.setIg i v).backPhase = c.backPhase := rfl
@[simp] theorem Core.setIg_backKept (c : Core) (i : Nat) (v : IgPath) : (c.setIg i v).backKept = c.backKept := rfl
@[simp] theorem Core.setIg_dirIn (c : Core) (i : Nat) (v : IgPath) : (c.setIg i v).dirIn = c.dirIn := rfl
@[simp] theorem Core.setIg_rings (c : Core) (i : Nat) (v : IgPath) : (c.setIg i v).rings = c.rings := rfl
@[simp] theorem Core.setIg_query (c : Core) (i : Nat) (v : IgPath) : (c.setIg i v).query = c.query := rfl
@[simp] theorem Core.setIg_grids (c : Core) (i : Nat) (v : IgPath) : (c.setIg i v).grids = c.grids := rfl
@[simp] theorem Core.setIg_engines (c : Core) (i : Nat) (v : IgPath) : (c.setIg i v).engines = c.engines := rfl
@[simp] theorem Core.setIg_sched (c : Core) (i : Nat) (v : IgPath) : (c.setIg i v).sched = c.sched := rfl
@[simp] theorem Core.setIg_bridle (c : Core) (i : Nat) (v : IgPath) : (c.setIg i v).bridle = c.bridle := rfl
@[simp] theorem Core.setIg_latchRec (c : Core) (i : Nat) (v : IgPath) : (c.setIg i v).latchRec = c.latchRec := rfl
@[simp] theorem Core.setIg_frecIncarn (c : Core) (i : Nat) (v : IgPath) : (c.setIg i v).frecIncarn = c.frecIncarn := rfl
@[simp] theorem Core.setIg_canObjs (c : Core) (i : Nat) (v : IgPath) : (c.setIg i v).canObjs = c.canObjs := rfl
@[simp] theorem Core.setIg_canChs (c : Core) (i : Nat) (v : IgPath) : (c.setIg i v).canChs = c.canChs := rfl
@[simp] theorem Core.setIg_strings (c : Core) (i : Nat) (v : IgPath) : (c.setIg i v).strings = c.strings := rfl
@[simp] theorem Core.setIg_isl (c : Core) (i : Nat) (v : IgPath) : (c.setIg i v).isl = c.isl := rfl
@[simp] theorem Core.setIg_woken (c : Core) (i : Nat) (v : IgPath) : (c.setIg i v).woken = c.woken := rfl
@[simp] theorem Core.setIg_crossings (c : Core) (i : Nat) (v : IgPath) : (c.setIg i v).crossings = c.crossings := rfl
@[simp] theorem Core.setIg_banks (c : Core) (i : Nat) (v : IgPath) : (c.setIg i v).banks = c.banks := rfl
@[simp] theorem Core.setIg_loader (c : Core) (i : Nat) (v : IgPath) : (c.setIg i v).loader = c.loader := rfl
@[simp] theorem Core.setIg_twin (c : Core) (i : Nat) (v : IgPath) : (c.setIg i v).twin = c.twin := rfl
@[simp] theorem Core.setIg_power (c : Core) (i : Nat) (v : IgPath) : (c.setIg i v).power = c.power := rfl
@[simp] theorem Core.setIg_rst (c : Core) (i : Nat) (v : IgPath) : (c.setIg i v).rst = c.rst := rfl
@[simp] theorem Core.setIg_sad (c : Core) (i : Nat) (v : IgPath) : (c.setIg i v).sad = c.sad := rfl
@[simp] theorem Core.setIg_sessions (c : Core) (i : Nat) (v : IgPath) : (c.setIg i v).sessions = c.sessions := rfl
@[simp] theorem Core.setIg_sessAge (c : Core) (i : Nat) (v : IgPath) : (c.setIg i v).sessAge = c.sessAge := rfl
@[simp] theorem Core.setIg_pendLow (c : Core) (i : Nat) (v : IgPath) : (c.setIg i v).pendLow = c.pendLow := rfl
@[simp] theorem Core.setIg_hold (c : Core) (i : Nat) (v : IgPath) : (c.setIg i v).hold = c.hold := rfl
@[simp] theorem Core.setIg_stalls (c : Core) (i : Nat) (v : IgPath) : (c.setIg i v).stalls = c.stalls := rfl
@[simp] theorem Core.setIg_strapWait (c : Core) (i : Nat) (v : IgPath) : (c.setIg i v).strapWait = c.strapWait := rfl
@[simp] theorem Core.setIg_strapQ (c : Core) (i : Nat) (v : IgPath) : (c.setIg i v).strapQ = c.strapQ := rfl
@[simp] theorem Core.setIg_wdHeld (c : Core) (i : Nat) (v : IgPath) : (c.setIg i v).wdHeld = c.wdHeld := rfl
@[simp] theorem Core.setIg_patFlash (c : Core) (i : Nat) (v : IgPath) : (c.setIg i v).patFlash = c.patFlash := rfl
@[simp] theorem Core.setIg_imgFlash (c : Core) (i : Nat) (v : IgPath) : (c.setIg i v).imgFlash = c.imgFlash := rfl
@[simp] theorem Core.setIg_keys (c : Core) (i : Nat) (v : IgPath) : (c.setIg i v).keys = c.keys := rfl
@[simp] theorem Core.setIg_pos0 (c : Core) (i : Nat) (v : IgPath) : (c.setIg i v).pos0 = c.pos0 := rfl
@[simp] theorem Core.setIg_pos1 (c : Core) (i : Nat) (v : IgPath) : (c.setIg i v).pos1 = c.pos1 := rfl
@[simp] theorem Core.setIg_ipSet (c : Core) (i : Nat) (v : IgPath) : (c.setIg i v).ipSet = c.ipSet := rfl
@[simp] theorem Core.setIg_livePorts (c : Core) (i : Nat) (v : IgPath) : (c.setIg i v).livePorts = c.livePorts := rfl
@[simp] theorem Core.setIg_liveVlan (c : Core) (i : Nat) (v : IgPath) : (c.setIg i v).liveVlan = c.liveVlan := rfl
@[simp] theorem Core.setIg_ipLive (c : Core) (i : Nat) (v : IgPath) : (c.setIg i v).ipLive = c.ipLive := rfl
@[simp] theorem Core.setIg_silent (c : Core) (i : Nat) (v : IgPath) : (c.setIg i v).silent = c.silent := rfl
@[simp] theorem Core.setIg_lockAns (c : Core) (i : Nat) (v : IgPath) : (c.setIg i v).lockAns = c.lockAns := rfl
@[simp] theorem Core.setIg_deferred (c : Core) (i : Nat) (v : IgPath) : (c.setIg i v).deferred = c.deferred := rfl
@[simp] theorem Core.setIg_memq (c : Core) (i : Nat) (v : IgPath) : (c.setIg i v).memq = c.memq := rfl
@[simp] theorem Core.setIg_freeIdx (c : Core) (i : Nat) (v : IgPath) : (c.setIg i v).freeIdx = c.freeIdx := rfl
@[simp] theorem Core.setIg_acc (c : Core) (i : Nat) (v : IgPath) : (c.setIg i v).acc = c.acc := rfl
@[simp] theorem Core.setIg_out (c : Core) (i : Nat) (v : IgPath) : (c.setIg i v).out = c.out := rfl
@[simp] theorem Core.setIg_reg (c : Core) (i : Nat) (v : IgPath) (r : Reg) (j : Nat) : (c.setIg i v).reg r j = c.reg r j := rfl
@[simp] theorem Core.setIg_get (c : Core) (i : Nat) (v : IgPath) (f : Fld) (j : Nat) : (c.setIg i v).get f j = c.get f j := rfl
@[simp] theorem Core.setIg_bit (c : Core) (i : Nat) (v : IgPath) (f : Fld) (j : Nat) : (c.setIg i v).bit f j = c.bit f j := rfl
@[simp] theorem Core.stepAt_setStep (c : Core) (i : Nat) (v : StepGen) : (c.setStep i v).stepAt i = v := Tab.get_set_self ..
theorem Core.stepAt_setStep_ne (c : Core) {i j : Nat} (v : StepGen) (h : i ≠ j) : (c.setStep i v).stepAt j = c.stepAt j := Tab.get_set_ne _ _ v h
@[simp] theorem Core.setStep_regs (c : Core) (i : Nat) (v : StepGen) : (c.setStep i v).regs = c.regs := rfl
@[simp] theorem Core.setStep_pat (c : Core) (i : Nat) (v : StepGen) : (c.setStep i v).pat = c.pat := rfl
@[simp] theorem Core.setStep_prof (c : Core) (i : Nat) (v : StepGen) : (c.setStep i v).prof = c.prof := rfl
@[simp] theorem Core.setStep_igs (c : Core) (i : Nat) (v : StepGen) : (c.setStep i v).igs = c.igs := rfl
@[simp] theorem Core.setStep_loops (c : Core) (i : Nat) (v : StepGen) : (c.setStep i v).loops = c.loops := rfl
@[simp] theorem Core.setStep_snaps (c : Core) (i : Nat) (v : StepGen) : (c.setStep i v).snaps = c.snaps := rfl
@[simp] theorem Core.setStep_ctxs (c : Core) (i : Nat) (v : StepGen) : (c.setStep i v).ctxs = c.ctxs := rfl
@[simp] theorem Core.setStep_ests (c : Core) (i : Nat) (v : StepGen) : (c.setStep i v).ests = c.ests := rfl
@[simp] theorem Core.setStep_lanes (c : Core) (i : Nat) (v : StepGen) : (c.setStep i v).lanes = c.lanes := rfl
@[simp] theorem Core.setStep_ports (c : Core) (i : Nat) (v : StepGen) : (c.setStep i v).ports = c.ports := rfl
@[simp] theorem Core.setStep_reps (c : Core) (i : Nat) (v : StepGen) : (c.setStep i v).reps = c.reps := rfl
@[simp] theorem Core.setStep_time (c : Core) (i : Nat) (v : StepGen) : (c.setStep i v).time = c.time := rfl
@[simp] theorem Core.setStep_backSec (c : Core) (i : Nat) (v : StepGen) : (c.setStep i v).backSec = c.backSec := rfl
@[simp] theorem Core.setStep_backSub (c : Core) (i : Nat) (v : StepGen) : (c.setStep i v).backSub = c.backSub := rfl
@[simp] theorem Core.setStep_backPhase (c : Core) (i : Nat) (v : StepGen) : (c.setStep i v).backPhase = c.backPhase := rfl
@[simp] theorem Core.setStep_backKept (c : Core) (i : Nat) (v : StepGen) : (c.setStep i v).backKept = c.backKept := rfl
@[simp] theorem Core.setStep_dirIn (c : Core) (i : Nat) (v : StepGen) : (c.setStep i v).dirIn = c.dirIn := rfl
@[simp] theorem Core.setStep_rings (c : Core) (i : Nat) (v : StepGen) : (c.setStep i v).rings = c.rings := rfl
@[simp] theorem Core.setStep_query (c : Core) (i : Nat) (v : StepGen) : (c.setStep i v).query = c.query := rfl
@[simp] theorem Core.setStep_grids (c : Core) (i : Nat) (v : StepGen) : (c.setStep i v).grids = c.grids := rfl
@[simp] theorem Core.setStep_engines (c : Core) (i : Nat) (v : StepGen) : (c.setStep i v).engines = c.engines := rfl
@[simp] theorem Core.setStep_sched (c : Core) (i : Nat) (v : StepGen) : (c.setStep i v).sched = c.sched := rfl
@[simp] theorem Core.setStep_bridle (c : Core) (i : Nat) (v : StepGen) : (c.setStep i v).bridle = c.bridle := rfl
@[simp] theorem Core.setStep_latchRec (c : Core) (i : Nat) (v : StepGen) : (c.setStep i v).latchRec = c.latchRec := rfl
@[simp] theorem Core.setStep_frecIncarn (c : Core) (i : Nat) (v : StepGen) : (c.setStep i v).frecIncarn = c.frecIncarn := rfl
@[simp] theorem Core.setStep_canObjs (c : Core) (i : Nat) (v : StepGen) : (c.setStep i v).canObjs = c.canObjs := rfl
@[simp] theorem Core.setStep_canChs (c : Core) (i : Nat) (v : StepGen) : (c.setStep i v).canChs = c.canChs := rfl
@[simp] theorem Core.setStep_strings (c : Core) (i : Nat) (v : StepGen) : (c.setStep i v).strings = c.strings := rfl
@[simp] theorem Core.setStep_isl (c : Core) (i : Nat) (v : StepGen) : (c.setStep i v).isl = c.isl := rfl
@[simp] theorem Core.setStep_woken (c : Core) (i : Nat) (v : StepGen) : (c.setStep i v).woken = c.woken := rfl
@[simp] theorem Core.setStep_crossings (c : Core) (i : Nat) (v : StepGen) : (c.setStep i v).crossings = c.crossings := rfl
@[simp] theorem Core.setStep_banks (c : Core) (i : Nat) (v : StepGen) : (c.setStep i v).banks = c.banks := rfl
@[simp] theorem Core.setStep_loader (c : Core) (i : Nat) (v : StepGen) : (c.setStep i v).loader = c.loader := rfl
@[simp] theorem Core.setStep_twin (c : Core) (i : Nat) (v : StepGen) : (c.setStep i v).twin = c.twin := rfl
@[simp] theorem Core.setStep_power (c : Core) (i : Nat) (v : StepGen) : (c.setStep i v).power = c.power := rfl
@[simp] theorem Core.setStep_rst (c : Core) (i : Nat) (v : StepGen) : (c.setStep i v).rst = c.rst := rfl
@[simp] theorem Core.setStep_sad (c : Core) (i : Nat) (v : StepGen) : (c.setStep i v).sad = c.sad := rfl
@[simp] theorem Core.setStep_sessions (c : Core) (i : Nat) (v : StepGen) : (c.setStep i v).sessions = c.sessions := rfl
@[simp] theorem Core.setStep_sessAge (c : Core) (i : Nat) (v : StepGen) : (c.setStep i v).sessAge = c.sessAge := rfl
@[simp] theorem Core.setStep_pendLow (c : Core) (i : Nat) (v : StepGen) : (c.setStep i v).pendLow = c.pendLow := rfl
@[simp] theorem Core.setStep_hold (c : Core) (i : Nat) (v : StepGen) : (c.setStep i v).hold = c.hold := rfl
@[simp] theorem Core.setStep_stalls (c : Core) (i : Nat) (v : StepGen) : (c.setStep i v).stalls = c.stalls := rfl
@[simp] theorem Core.setStep_strapWait (c : Core) (i : Nat) (v : StepGen) : (c.setStep i v).strapWait = c.strapWait := rfl
@[simp] theorem Core.setStep_strapQ (c : Core) (i : Nat) (v : StepGen) : (c.setStep i v).strapQ = c.strapQ := rfl
@[simp] theorem Core.setStep_wdHeld (c : Core) (i : Nat) (v : StepGen) : (c.setStep i v).wdHeld = c.wdHeld := rfl
@[simp] theorem Core.setStep_patFlash (c : Core) (i : Nat) (v : StepGen) : (c.setStep i v).patFlash = c.patFlash := rfl
@[simp] theorem Core.setStep_imgFlash (c : Core) (i : Nat) (v : StepGen) : (c.setStep i v).imgFlash = c.imgFlash := rfl
@[simp] theorem Core.setStep_keys (c : Core) (i : Nat) (v : StepGen) : (c.setStep i v).keys = c.keys := rfl
@[simp] theorem Core.setStep_pos0 (c : Core) (i : Nat) (v : StepGen) : (c.setStep i v).pos0 = c.pos0 := rfl
@[simp] theorem Core.setStep_pos1 (c : Core) (i : Nat) (v : StepGen) : (c.setStep i v).pos1 = c.pos1 := rfl
@[simp] theorem Core.setStep_ipSet (c : Core) (i : Nat) (v : StepGen) : (c.setStep i v).ipSet = c.ipSet := rfl
@[simp] theorem Core.setStep_livePorts (c : Core) (i : Nat) (v : StepGen) : (c.setStep i v).livePorts = c.livePorts := rfl
@[simp] theorem Core.setStep_liveVlan (c : Core) (i : Nat) (v : StepGen) : (c.setStep i v).liveVlan = c.liveVlan := rfl
@[simp] theorem Core.setStep_ipLive (c : Core) (i : Nat) (v : StepGen) : (c.setStep i v).ipLive = c.ipLive := rfl
@[simp] theorem Core.setStep_silent (c : Core) (i : Nat) (v : StepGen) : (c.setStep i v).silent = c.silent := rfl
@[simp] theorem Core.setStep_lockAns (c : Core) (i : Nat) (v : StepGen) : (c.setStep i v).lockAns = c.lockAns := rfl
@[simp] theorem Core.setStep_deferred (c : Core) (i : Nat) (v : StepGen) : (c.setStep i v).deferred = c.deferred := rfl
@[simp] theorem Core.setStep_memq (c : Core) (i : Nat) (v : StepGen) : (c.setStep i v).memq = c.memq := rfl
@[simp] theorem Core.setStep_freeIdx (c : Core) (i : Nat) (v : StepGen) : (c.setStep i v).freeIdx = c.freeIdx := rfl
@[simp] theorem Core.setStep_acc (c : Core) (i : Nat) (v : StepGen) : (c.setStep i v).acc = c.acc := rfl
@[simp] theorem Core.setStep_out (c : Core) (i : Nat) (v : StepGen) : (c.setStep i v).out = c.out := rfl
@[simp] theorem Core.setStep_reg (c : Core) (i : Nat) (v : StepGen) (r : Reg) (j : Nat) : (c.setStep i v).reg r j = c.reg r j := rfl
@[simp] theorem Core.setStep_get (c : Core) (i : Nat) (v : StepGen) (f : Fld) (j : Nat) : (c.setStep i v).get f j = c.get f j := rfl
@[simp] theorem Core.setStep_bit (c : Core) (i : Nat) (v : StepGen) (f : Fld) (j : Nat) : (c.setStep i v).bit f j = c.bit f j := rfl
@[simp] theorem Core.loopAt_setLoop (c : Core) (i : Nat) (v : Loop) : (c.setLoop i v).loopAt i = v := Tab.get_set_self ..
theorem Core.loopAt_setLoop_ne (c : Core) {i j : Nat} (v : Loop) (h : i ≠ j) : (c.setLoop i v).loopAt j = c.loopAt j := Tab.get_set_ne _ _ v h
@[simp] theorem Core.setLoop_regs (c : Core) (i : Nat) (v : Loop) : (c.setLoop i v).regs = c.regs := rfl
@[simp] theorem Core.setLoop_pat (c : Core) (i : Nat) (v : Loop) : (c.setLoop i v).pat = c.pat := rfl
@[simp] theorem Core.setLoop_prof (c : Core) (i : Nat) (v : Loop) : (c.setLoop i v).prof = c.prof := rfl
@[simp] theorem Core.setLoop_igs (c : Core) (i : Nat) (v : Loop) : (c.setLoop i v).igs = c.igs := rfl
@[simp] theorem Core.setLoop_steps (c : Core) (i : Nat) (v : Loop) : (c.setLoop i v).steps = c.steps := rfl
@[simp] theorem Core.setLoop_snaps (c : Core) (i : Nat) (v : Loop) : (c.setLoop i v).snaps = c.snaps := rfl
@[simp] theorem Core.setLoop_ctxs (c : Core) (i : Nat) (v : Loop) : (c.setLoop i v).ctxs = c.ctxs := rfl
@[simp] theorem Core.setLoop_ests (c : Core) (i : Nat) (v : Loop) : (c.setLoop i v).ests = c.ests := rfl
@[simp] theorem Core.setLoop_lanes (c : Core) (i : Nat) (v : Loop) : (c.setLoop i v).lanes = c.lanes := rfl
@[simp] theorem Core.setLoop_ports (c : Core) (i : Nat) (v : Loop) : (c.setLoop i v).ports = c.ports := rfl
@[simp] theorem Core.setLoop_reps (c : Core) (i : Nat) (v : Loop) : (c.setLoop i v).reps = c.reps := rfl
@[simp] theorem Core.setLoop_time (c : Core) (i : Nat) (v : Loop) : (c.setLoop i v).time = c.time := rfl
@[simp] theorem Core.setLoop_backSec (c : Core) (i : Nat) (v : Loop) : (c.setLoop i v).backSec = c.backSec := rfl
@[simp] theorem Core.setLoop_backSub (c : Core) (i : Nat) (v : Loop) : (c.setLoop i v).backSub = c.backSub := rfl
@[simp] theorem Core.setLoop_backPhase (c : Core) (i : Nat) (v : Loop) : (c.setLoop i v).backPhase = c.backPhase := rfl
@[simp] theorem Core.setLoop_backKept (c : Core) (i : Nat) (v : Loop) : (c.setLoop i v).backKept = c.backKept := rfl
@[simp] theorem Core.setLoop_dirIn (c : Core) (i : Nat) (v : Loop) : (c.setLoop i v).dirIn = c.dirIn := rfl
@[simp] theorem Core.setLoop_rings (c : Core) (i : Nat) (v : Loop) : (c.setLoop i v).rings = c.rings := rfl
@[simp] theorem Core.setLoop_query (c : Core) (i : Nat) (v : Loop) : (c.setLoop i v).query = c.query := rfl
@[simp] theorem Core.setLoop_grids (c : Core) (i : Nat) (v : Loop) : (c.setLoop i v).grids = c.grids := rfl
@[simp] theorem Core.setLoop_engines (c : Core) (i : Nat) (v : Loop) : (c.setLoop i v).engines = c.engines := rfl
@[simp] theorem Core.setLoop_sched (c : Core) (i : Nat) (v : Loop) : (c.setLoop i v).sched = c.sched := rfl
@[simp] theorem Core.setLoop_bridle (c : Core) (i : Nat) (v : Loop) : (c.setLoop i v).bridle = c.bridle := rfl
@[simp] theorem Core.setLoop_latchRec (c : Core) (i : Nat) (v : Loop) : (c.setLoop i v).latchRec = c.latchRec := rfl
@[simp] theorem Core.setLoop_frecIncarn (c : Core) (i : Nat) (v : Loop) : (c.setLoop i v).frecIncarn = c.frecIncarn := rfl
@[simp] theorem Core.setLoop_canObjs (c : Core) (i : Nat) (v : Loop) : (c.setLoop i v).canObjs = c.canObjs := rfl
@[simp] theorem Core.setLoop_canChs (c : Core) (i : Nat) (v : Loop) : (c.setLoop i v).canChs = c.canChs := rfl
@[simp] theorem Core.setLoop_strings (c : Core) (i : Nat) (v : Loop) : (c.setLoop i v).strings = c.strings := rfl
@[simp] theorem Core.setLoop_isl (c : Core) (i : Nat) (v : Loop) : (c.setLoop i v).isl = c.isl := rfl
@[simp] theorem Core.setLoop_woken (c : Core) (i : Nat) (v : Loop) : (c.setLoop i v).woken = c.woken := rfl
@[simp] theorem Core.setLoop_crossings (c : Core) (i : Nat) (v : Loop) : (c.setLoop i v).crossings = c.crossings := rfl
@[simp] theorem Core.setLoop_banks (c : Core) (i : Nat) (v : Loop) : (c.setLoop i v).banks = c.banks := rfl
@[simp] theorem Core.setLoop_loader (c : Core) (i : Nat) (v : Loop) : (c.setLoop i v).loader = c.loader := rfl
@[simp] theorem Core.setLoop_twin (c : Core) (i : Nat) (v : Loop) : (c.setLoop i v).twin = c.twin := rfl
@[simp] theorem Core.setLoop_power (c : Core) (i : Nat) (v : Loop) : (c.setLoop i v).power = c.power := rfl
@[simp] theorem Core.setLoop_rst (c : Core) (i : Nat) (v : Loop) : (c.setLoop i v).rst = c.rst := rfl
@[simp] theorem Core.setLoop_sad (c : Core) (i : Nat) (v : Loop) : (c.setLoop i v).sad = c.sad := rfl
@[simp] theorem Core.setLoop_sessions (c : Core) (i : Nat) (v : Loop) : (c.setLoop i v).sessions = c.sessions := rfl
@[simp] theorem Core.setLoop_sessAge (c : Core) (i : Nat) (v : Loop) : (c.setLoop i v).sessAge = c.sessAge := rfl
@[simp] theorem Core.setLoop_pendLow (c : Core) (i : Nat) (v : Loop) : (c.setLoop i v).pendLow = c.pendLow := rfl
@[simp] theorem Core.setLoop_hold (c : Core) (i : Nat) (v : Loop) : (c.setLoop i v).hold = c.hold := rfl
@[simp] theorem Core.setLoop_stalls (c : Core) (i : Nat) (v : Loop) : (c.setLoop i v).stalls = c.stalls := rfl
@[simp] theorem Core.setLoop_strapWait (c : Core) (i : Nat) (v : Loop) : (c.setLoop i v).strapWait = c.strapWait := rfl
@[simp] theorem Core.setLoop_strapQ (c : Core) (i : Nat) (v : Loop) : (c.setLoop i v).strapQ = c.strapQ := rfl
@[simp] theorem Core.setLoop_wdHeld (c : Core) (i : Nat) (v : Loop) : (c.setLoop i v).wdHeld = c.wdHeld := rfl
@[simp] theorem Core.setLoop_patFlash (c : Core) (i : Nat) (v : Loop) : (c.setLoop i v).patFlash = c.patFlash := rfl
@[simp] theorem Core.setLoop_imgFlash (c : Core) (i : Nat) (v : Loop) : (c.setLoop i v).imgFlash = c.imgFlash := rfl
@[simp] theorem Core.setLoop_keys (c : Core) (i : Nat) (v : Loop) : (c.setLoop i v).keys = c.keys := rfl
@[simp] theorem Core.setLoop_pos0 (c : Core) (i : Nat) (v : Loop) : (c.setLoop i v).pos0 = c.pos0 := rfl
@[simp] theorem Core.setLoop_pos1 (c : Core) (i : Nat) (v : Loop) : (c.setLoop i v).pos1 = c.pos1 := rfl
@[simp] theorem Core.setLoop_ipSet (c : Core) (i : Nat) (v : Loop) : (c.setLoop i v).ipSet = c.ipSet := rfl
@[simp] theorem Core.setLoop_livePorts (c : Core) (i : Nat) (v : Loop) : (c.setLoop i v).livePorts = c.livePorts := rfl
@[simp] theorem Core.setLoop_liveVlan (c : Core) (i : Nat) (v : Loop) : (c.setLoop i v).liveVlan = c.liveVlan := rfl
@[simp] theorem Core.setLoop_ipLive (c : Core) (i : Nat) (v : Loop) : (c.setLoop i v).ipLive = c.ipLive := rfl
@[simp] theorem Core.setLoop_silent (c : Core) (i : Nat) (v : Loop) : (c.setLoop i v).silent = c.silent := rfl
@[simp] theorem Core.setLoop_lockAns (c : Core) (i : Nat) (v : Loop) : (c.setLoop i v).lockAns = c.lockAns := rfl
@[simp] theorem Core.setLoop_deferred (c : Core) (i : Nat) (v : Loop) : (c.setLoop i v).deferred = c.deferred := rfl
@[simp] theorem Core.setLoop_memq (c : Core) (i : Nat) (v : Loop) : (c.setLoop i v).memq = c.memq := rfl
@[simp] theorem Core.setLoop_freeIdx (c : Core) (i : Nat) (v : Loop) : (c.setLoop i v).freeIdx = c.freeIdx := rfl
@[simp] theorem Core.setLoop_acc (c : Core) (i : Nat) (v : Loop) : (c.setLoop i v).acc = c.acc := rfl
@[simp] theorem Core.setLoop_out (c : Core) (i : Nat) (v : Loop) : (c.setLoop i v).out = c.out := rfl
@[simp] theorem Core.setLoop_reg (c : Core) (i : Nat) (v : Loop) (r : Reg) (j : Nat) : (c.setLoop i v).reg r j = c.reg r j := rfl
@[simp] theorem Core.setLoop_get (c : Core) (i : Nat) (v : Loop) (f : Fld) (j : Nat) : (c.setLoop i v).get f j = c.get f j := rfl
@[simp] theorem Core.setLoop_bit (c : Core) (i : Nat) (v : Loop) (f : Fld) (j : Nat) : (c.setLoop i v).bit f j = c.bit f j := rfl
@[simp] theorem Core.snapAt_setSnap (c : Core) (i : Nat) (v : Snap) : (c.setSnap i v).snapAt i = v := Tab.get_set_self ..
theorem Core.snapAt_setSnap_ne (c : Core) {i j : Nat} (v : Snap) (h : i ≠ j) : (c.setSnap i v).snapAt j = c.snapAt j := Tab.get_set_ne _ _ v h
@[simp] theorem Core.setSnap_regs (c : Core) (i : Nat) (v : Snap) : (c.setSnap i v).regs = c.regs := rfl
@[simp] theorem Core.setSnap_pat (c : Core) (i : Nat) (v : Snap) : (c.setSnap i v).pat = c.pat := rfl
@[simp] theorem Core.setSnap_prof (c : Core) (i : Nat) (v : Snap) : (c.setSnap i v).prof = c.prof := rfl
@[simp] theorem Core.setSnap_igs (c : Core) (i : Nat) (v : Snap) : (c.setSnap i v).igs = c.igs := rfl
@[simp] theorem Core.setSnap_steps (c : Core) (i : Nat) (v : Snap) : (c.setSnap i v).steps = c.steps := rfl
@[simp] theorem Core.setSnap_loops (c : Core) (i : Nat) (v : Snap) : (c.setSnap i v).loops = c.loops := rfl
@[simp] theorem Core.setSnap_ctxs (c : Core) (i : Nat) (v : Snap) : (c.setSnap i v).ctxs = c.ctxs := rfl
@[simp] theorem Core.setSnap_ests (c : Core) (i : Nat) (v : Snap) : (c.setSnap i v).ests = c.ests := rfl
@[simp] theorem Core.setSnap_lanes (c : Core) (i : Nat) (v : Snap) : (c.setSnap i v).lanes = c.lanes := rfl
@[simp] theorem Core.setSnap_ports (c : Core) (i : Nat) (v : Snap) : (c.setSnap i v).ports = c.ports := rfl
@[simp] theorem Core.setSnap_reps (c : Core) (i : Nat) (v : Snap) : (c.setSnap i v).reps = c.reps := rfl
@[simp] theorem Core.setSnap_time (c : Core) (i : Nat) (v : Snap) : (c.setSnap i v).time = c.time := rfl
@[simp] theorem Core.setSnap_backSec (c : Core) (i : Nat) (v : Snap) : (c.setSnap i v).backSec = c.backSec := rfl
@[simp] theorem Core.setSnap_backSub (c : Core) (i : Nat) (v : Snap) : (c.setSnap i v).backSub = c.backSub := rfl
@[simp] theorem Core.setSnap_backPhase (c : Core) (i : Nat) (v : Snap) : (c.setSnap i v).backPhase = c.backPhase := rfl
@[simp] theorem Core.setSnap_backKept (c : Core) (i : Nat) (v : Snap) : (c.setSnap i v).backKept = c.backKept := rfl
@[simp] theorem Core.setSnap_dirIn (c : Core) (i : Nat) (v : Snap) : (c.setSnap i v).dirIn = c.dirIn := rfl
@[simp] theorem Core.setSnap_rings (c : Core) (i : Nat) (v : Snap) : (c.setSnap i v).rings = c.rings := rfl
@[simp] theorem Core.setSnap_query (c : Core) (i : Nat) (v : Snap) : (c.setSnap i v).query = c.query := rfl
@[simp] theorem Core.setSnap_grids (c : Core) (i : Nat) (v : Snap) : (c.setSnap i v).grids = c.grids := rfl
@[simp] theorem Core.setSnap_engines (c : Core) (i : Nat) (v : Snap) : (c.setSnap i v).engines = c.engines := rfl
@[simp] theorem Core.setSnap_sched (c : Core) (i : Nat) (v : Snap) : (c.setSnap i v).sched = c.sched := rfl
@[simp] theorem Core.setSnap_bridle (c : Core) (i : Nat) (v : Snap) : (c.setSnap i v).bridle = c.bridle := rfl
@[simp] theorem Core.setSnap_latchRec (c : Core) (i : Nat) (v : Snap) : (c.setSnap i v).latchRec = c.latchRec := rfl
@[simp] theorem Core.setSnap_frecIncarn (c : Core) (i : Nat) (v : Snap) : (c.setSnap i v).frecIncarn = c.frecIncarn := rfl
@[simp] theorem Core.setSnap_canObjs (c : Core) (i : Nat) (v : Snap) : (c.setSnap i v).canObjs = c.canObjs := rfl
@[simp] theorem Core.setSnap_canChs (c : Core) (i : Nat) (v : Snap) : (c.setSnap i v).canChs = c.canChs := rfl
@[simp] theorem Core.setSnap_strings (c : Core) (i : Nat) (v : Snap) : (c.setSnap i v).strings = c.strings := rfl
@[simp] theorem Core.setSnap_isl (c : Core) (i : Nat) (v : Snap) : (c.setSnap i v).isl = c.isl := rfl
@[simp] theorem Core.setSnap_woken (c : Core) (i : Nat) (v : Snap) : (c.setSnap i v).woken = c.woken := rfl
@[simp] theorem Core.setSnap_crossings (c : Core) (i : Nat) (v : Snap) : (c.setSnap i v).crossings = c.crossings := rfl
@[simp] theorem Core.setSnap_banks (c : Core) (i : Nat) (v : Snap) : (c.setSnap i v).banks = c.banks := rfl
@[simp] theorem Core.setSnap_loader (c : Core) (i : Nat) (v : Snap) : (c.setSnap i v).loader = c.loader := rfl
@[simp] theorem Core.setSnap_twin (c : Core) (i : Nat) (v : Snap) : (c.setSnap i v).twin = c.twin := rfl
@[simp] theorem Core.setSnap_power (c : Core) (i : Nat) (v : Snap) : (c.setSnap i v).power = c.power := rfl
@[simp] theorem Core.setSnap_rst (c : Core) (i : Nat) (v : Snap) : (c.setSnap i v).rst = c.rst := rfl
@[simp] theorem Core.setSnap_sad (c : Core) (i : Nat) (v : Snap) : (c.setSnap i v).sad = c.sad := rfl
@[simp] theorem Core.setSnap_sessions (c : Core) (i : Nat) (v : Snap) : (c.setSnap i v).sessions = c.sessions := rfl
@[simp] theorem Core.setSnap_sessAge (c : Core) (i : Nat) (v : Snap) : (c.setSnap i v).sessAge = c.sessAge := rfl
@[simp] theorem Core.setSnap_pendLow (c : Core) (i : Nat) (v : Snap) : (c.setSnap i v).pendLow = c.pendLow := rfl
@[simp] theorem Core.setSnap_hold (c : Core) (i : Nat) (v : Snap) : (c.setSnap i v).hold = c.hold := rfl
@[simp] theorem Core.setSnap_stalls (c : Core) (i : Nat) (v : Snap) : (c.setSnap i v).stalls = c.stalls := rfl
@[simp] theorem Core.setSnap_strapWait (c : Core) (i : Nat) (v : Snap) : (c.setSnap i v).strapWait = c.strapWait := rfl
@[simp] theorem Core.setSnap_strapQ (c : Core) (i : Nat) (v : Snap) : (c.setSnap i v).strapQ = c.strapQ := rfl
@[simp] theorem Core.setSnap_wdHeld (c : Core) (i : Nat) (v : Snap) : (c.setSnap i v).wdHeld = c.wdHeld := rfl
@[simp] theorem Core.setSnap_patFlash (c : Core) (i : Nat) (v : Snap) : (c.setSnap i v).patFlash = c.patFlash := rfl
@[simp] theorem Core.setSnap_imgFlash (c : Core) (i : Nat) (v : Snap) : (c.setSnap i v).imgFlash = c.imgFlash := rfl
@[simp] theorem Core.setSnap_keys (c : Core) (i : Nat) (v : Snap) : (c.setSnap i v).keys = c.keys := rfl
@[simp] theorem Core.setSnap_pos0 (c : Core) (i : Nat) (v : Snap) : (c.setSnap i v).pos0 = c.pos0 := rfl
@[simp] theorem Core.setSnap_pos1 (c : Core) (i : Nat) (v : Snap) : (c.setSnap i v).pos1 = c.pos1 := rfl
@[simp] theorem Core.setSnap_ipSet (c : Core) (i : Nat) (v : Snap) : (c.setSnap i v).ipSet = c.ipSet := rfl
@[simp] theorem Core.setSnap_livePorts (c : Core) (i : Nat) (v : Snap) : (c.setSnap i v).livePorts = c.livePorts := rfl
@[simp] theorem Core.setSnap_liveVlan (c : Core) (i : Nat) (v : Snap) : (c.setSnap i v).liveVlan = c.liveVlan := rfl
@[simp] theorem Core.setSnap_ipLive (c : Core) (i : Nat) (v : Snap) : (c.setSnap i v).ipLive = c.ipLive := rfl
@[simp] theorem Core.setSnap_silent (c : Core) (i : Nat) (v : Snap) : (c.setSnap i v).silent = c.silent := rfl
@[simp] theorem Core.setSnap_lockAns (c : Core) (i : Nat) (v : Snap) : (c.setSnap i v).lockAns = c.lockAns := rfl
@[simp] theorem Core.setSnap_deferred (c : Core) (i : Nat) (v : Snap) : (c.setSnap i v).deferred = c.deferred := rfl
@[simp] theorem Core.setSnap_memq (c : Core) (i : Nat) (v : Snap) : (c.setSnap i v).memq = c.memq := rfl
@[simp] theorem Core.setSnap_freeIdx (c : Core) (i : Nat) (v : Snap) : (c.setSnap i v).freeIdx = c.freeIdx := rfl
@[simp] theorem Core.setSnap_acc (c : Core) (i : Nat) (v : Snap) : (c.setSnap i v).acc = c.acc := rfl
@[simp] theorem Core.setSnap_out (c : Core) (i : Nat) (v : Snap) : (c.setSnap i v).out = c.out := rfl
@[simp] theorem Core.setSnap_reg (c : Core) (i : Nat) (v : Snap) (r : Reg) (j : Nat) : (c.setSnap i v).reg r j = c.reg r j := rfl
@[simp] theorem Core.setSnap_get (c : Core) (i : Nat) (v : Snap) (f : Fld) (j : Nat) : (c.setSnap i v).get f j = c.get f j := rfl
@[simp] theorem Core.setSnap_bit (c : Core) (i : Nat) (v : Snap) (f : Fld) (j : Nat) : (c.setSnap i v).bit f j = c.bit f j := rfl
@[simp] theorem Core.ctxAt_setCtx (c : Core) (i : Nat) (v : Context) : (c.setCtx i v).ctxAt i = v := Tab.get_set_self ..
theorem Core.ctxAt_setCtx_ne (c : Core) {i j : Nat} (v : Context) (h : i ≠ j) : (c.setCtx i v).ctxAt j = c.ctxAt j := Tab.get_set_ne _ _ v h
@[simp] theorem Core.setCtx_regs (c : Core) (i : Nat) (v : Context) : (c.setCtx i v).regs = c.regs := rfl
@[simp] theorem Core.setCtx_pat (c : Core) (i : Nat) (v : Context) : (c.setCtx i v).pat = c.pat := rfl
@[simp] theorem Core.setCtx_prof (c : Core) (i : Nat) (v : Context) : (c.setCtx i v).prof = c.prof := rfl
@[simp] theorem Core.setCtx_igs (c : Core) (i : Nat) (v : Context) : (c.setCtx i v).igs = c.igs := rfl
@[simp] theorem Core.setCtx_steps (c : Core) (i : Nat) (v : Context) : (c.setCtx i v).steps = c.steps := rfl
@[simp] theorem Core.setCtx_loops (c : Core) (i : Nat) (v : Context) : (c.setCtx i v).loops = c.loops := rfl
@[simp] theorem Core.setCtx_snaps (c : Core) (i : Nat) (v : Context) : (c.setCtx i v).snaps = c.snaps := rfl
@[simp] theorem Core.setCtx_ests (c : Core) (i : Nat) (v : Context) : (c.setCtx i v).ests = c.ests := rfl
@[simp] theorem Core.setCtx_lanes (c : Core) (i : Nat) (v : Context) : (c.setCtx i v).lanes = c.lanes := rfl
@[simp] theorem Core.setCtx_ports (c : Core) (i : Nat) (v : Context) : (c.setCtx i v).ports = c.ports := rfl
@[simp] theorem Core.setCtx_reps (c : Core) (i : Nat) (v : Context) : (c.setCtx i v).reps = c.reps := rfl
@[simp] theorem Core.setCtx_time (c : Core) (i : Nat) (v : Context) : (c.setCtx i v).time = c.time := rfl
@[simp] theorem Core.setCtx_backSec (c : Core) (i : Nat) (v : Context) : (c.setCtx i v).backSec = c.backSec := rfl
@[simp] theorem Core.setCtx_backSub (c : Core) (i : Nat) (v : Context) : (c.setCtx i v).backSub = c.backSub := rfl
@[simp] theorem Core.setCtx_backPhase (c : Core) (i : Nat) (v : Context) : (c.setCtx i v).backPhase = c.backPhase := rfl
@[simp] theorem Core.setCtx_backKept (c : Core) (i : Nat) (v : Context) : (c.setCtx i v).backKept = c.backKept := rfl
@[simp] theorem Core.setCtx_dirIn (c : Core) (i : Nat) (v : Context) : (c.setCtx i v).dirIn = c.dirIn := rfl
@[simp] theorem Core.setCtx_rings (c : Core) (i : Nat) (v : Context) : (c.setCtx i v).rings = c.rings := rfl
@[simp] theorem Core.setCtx_query (c : Core) (i : Nat) (v : Context) : (c.setCtx i v).query = c.query := rfl
@[simp] theorem Core.setCtx_grids (c : Core) (i : Nat) (v : Context) : (c.setCtx i v).grids = c.grids := rfl
@[simp] theorem Core.setCtx_engines (c : Core) (i : Nat) (v : Context) : (c.setCtx i v).engines = c.engines := rfl
@[simp] theorem Core.setCtx_sched (c : Core) (i : Nat) (v : Context) : (c.setCtx i v).sched = c.sched := rfl
@[simp] theorem Core.setCtx_bridle (c : Core) (i : Nat) (v : Context) : (c.setCtx i v).bridle = c.bridle := rfl
@[simp] theorem Core.setCtx_latchRec (c : Core) (i : Nat) (v : Context) : (c.setCtx i v).latchRec = c.latchRec := rfl
@[simp] theorem Core.setCtx_frecIncarn (c : Core) (i : Nat) (v : Context) : (c.setCtx i v).frecIncarn = c.frecIncarn := rfl
@[simp] theorem Core.setCtx_canObjs (c : Core) (i : Nat) (v : Context) : (c.setCtx i v).canObjs = c.canObjs := rfl
@[simp] theorem Core.setCtx_canChs (c : Core) (i : Nat) (v : Context) : (c.setCtx i v).canChs = c.canChs := rfl
@[simp] theorem Core.setCtx_strings (c : Core) (i : Nat) (v : Context) : (c.setCtx i v).strings = c.strings := rfl
@[simp] theorem Core.setCtx_isl (c : Core) (i : Nat) (v : Context) : (c.setCtx i v).isl = c.isl := rfl
@[simp] theorem Core.setCtx_woken (c : Core) (i : Nat) (v : Context) : (c.setCtx i v).woken = c.woken := rfl
@[simp] theorem Core.setCtx_crossings (c : Core) (i : Nat) (v : Context) : (c.setCtx i v).crossings = c.crossings := rfl
@[simp] theorem Core.setCtx_banks (c : Core) (i : Nat) (v : Context) : (c.setCtx i v).banks = c.banks := rfl
@[simp] theorem Core.setCtx_loader (c : Core) (i : Nat) (v : Context) : (c.setCtx i v).loader = c.loader := rfl
@[simp] theorem Core.setCtx_twin (c : Core) (i : Nat) (v : Context) : (c.setCtx i v).twin = c.twin := rfl
@[simp] theorem Core.setCtx_power (c : Core) (i : Nat) (v : Context) : (c.setCtx i v).power = c.power := rfl
@[simp] theorem Core.setCtx_rst (c : Core) (i : Nat) (v : Context) : (c.setCtx i v).rst = c.rst := rfl
@[simp] theorem Core.setCtx_sad (c : Core) (i : Nat) (v : Context) : (c.setCtx i v).sad = c.sad := rfl
@[simp] theorem Core.setCtx_sessions (c : Core) (i : Nat) (v : Context) : (c.setCtx i v).sessions = c.sessions := rfl
@[simp] theorem Core.setCtx_sessAge (c : Core) (i : Nat) (v : Context) : (c.setCtx i v).sessAge = c.sessAge := rfl
@[simp] theorem Core.setCtx_pendLow (c : Core) (i : Nat) (v : Context) : (c.setCtx i v).pendLow = c.pendLow := rfl
@[simp] theorem Core.setCtx_hold (c : Core) (i : Nat) (v : Context) : (c.setCtx i v).hold = c.hold := rfl
@[simp] theorem Core.setCtx_stalls (c : Core) (i : Nat) (v : Context) : (c.setCtx i v).stalls = c.stalls := rfl
@[simp] theorem Core.setCtx_strapWait (c : Core) (i : Nat) (v : Context) : (c.setCtx i v).strapWait = c.strapWait := rfl
@[simp] theorem Core.setCtx_strapQ (c : Core) (i : Nat) (v : Context) : (c.setCtx i v).strapQ = c.strapQ := rfl
@[simp] theorem Core.setCtx_wdHeld (c : Core) (i : Nat) (v : Context) : (c.setCtx i v).wdHeld = c.wdHeld := rfl
@[simp] theorem Core.setCtx_patFlash (c : Core) (i : Nat) (v : Context) : (c.setCtx i v).patFlash = c.patFlash := rfl
@[simp] theorem Core.setCtx_imgFlash (c : Core) (i : Nat) (v : Context) : (c.setCtx i v).imgFlash = c.imgFlash := rfl
@[simp] theorem Core.setCtx_keys (c : Core) (i : Nat) (v : Context) : (c.setCtx i v).keys = c.keys := rfl
@[simp] theorem Core.setCtx_pos0 (c : Core) (i : Nat) (v : Context) : (c.setCtx i v).pos0 = c.pos0 := rfl
@[simp] theorem Core.setCtx_pos1 (c : Core) (i : Nat) (v : Context) : (c.setCtx i v).pos1 = c.pos1 := rfl
@[simp] theorem Core.setCtx_ipSet (c : Core) (i : Nat) (v : Context) : (c.setCtx i v).ipSet = c.ipSet := rfl
@[simp] theorem Core.setCtx_livePorts (c : Core) (i : Nat) (v : Context) : (c.setCtx i v).livePorts = c.livePorts := rfl
@[simp] theorem Core.setCtx_liveVlan (c : Core) (i : Nat) (v : Context) : (c.setCtx i v).liveVlan = c.liveVlan := rfl
@[simp] theorem Core.setCtx_ipLive (c : Core) (i : Nat) (v : Context) : (c.setCtx i v).ipLive = c.ipLive := rfl
@[simp] theorem Core.setCtx_silent (c : Core) (i : Nat) (v : Context) : (c.setCtx i v).silent = c.silent := rfl
@[simp] theorem Core.setCtx_lockAns (c : Core) (i : Nat) (v : Context) : (c.setCtx i v).lockAns = c.lockAns := rfl
@[simp] theorem Core.setCtx_deferred (c : Core) (i : Nat) (v : Context) : (c.setCtx i v).deferred = c.deferred := rfl
@[simp] theorem Core.setCtx_memq (c : Core) (i : Nat) (v : Context) : (c.setCtx i v).memq = c.memq := rfl
@[simp] theorem Core.setCtx_freeIdx (c : Core) (i : Nat) (v : Context) : (c.setCtx i v).freeIdx = c.freeIdx := rfl
@[simp] theorem Core.setCtx_acc (c : Core) (i : Nat) (v : Context) : (c.setCtx i v).acc = c.acc := rfl
@[simp] theorem Core.setCtx_out (c : Core) (i : Nat) (v : Context) : (c.setCtx i v).out = c.out := rfl
@[simp] theorem Core.setCtx_reg (c : Core) (i : Nat) (v : Context) (r : Reg) (j : Nat) : (c.setCtx i v).reg r j = c.reg r j := rfl
@[simp] theorem Core.setCtx_get (c : Core) (i : Nat) (v : Context) (f : Fld) (j : Nat) : (c.setCtx i v).get f j = c.get f j := rfl
@[simp] theorem Core.setCtx_bit (c : Core) (i : Nat) (v : Context) (f : Fld) (j : Nat) : (c.setCtx i v).bit f j = c.bit f j := rfl
@[simp] theorem Core.estAt_setEst (c : Core) (i : Nat) (v : Estim) : (c.setEst i v).estAt i = v := Tab.get_set_self ..
theorem Core.estAt_setEst_ne (c : Core) {i j : Nat} (v : Estim) (h : i ≠ j) : (c.setEst i v).estAt j = c.estAt j := Tab.get_set_ne _ _ v h
@[simp] theorem Core.setEst_regs (c : Core) (i : Nat) (v : Estim) : (c.setEst i v).regs = c.regs := rfl
@[simp] theorem Core.setEst_pat (c : Core) (i : Nat) (v : Estim) : (c.setEst i v).pat = c.pat := rfl
@[simp] theorem Core.setEst_prof (c : Core) (i : Nat) (v : Estim) : (c.setEst i v).prof = c.prof := rfl
@[simp] theorem Core.setEst_igs (c : Core) (i : Nat) (v : Estim) : (c.setEst i v).igs = c.igs := rfl
@[simp] theorem Core.setEst_steps (c : Core) (i : Nat) (v : Estim) : (c.setEst i v).steps = c.steps := rfl
@[simp] theorem Core.setEst_loops (c : Core) (i : Nat) (v : Estim) : (c.setEst i v).loops = c.loops := rfl
@[simp] theorem Core.setEst_snaps (c : Core) (i : Nat) (v : Estim) : (c.setEst i v).snaps = c.snaps := rfl
@[simp] theorem Core.setEst_ctxs (c : Core) (i : Nat) (v : Estim) : (c.setEst i v).ctxs = c.ctxs := rfl
@[simp] theorem Core.setEst_lanes (c : Core) (i : Nat) (v : Estim) : (c.setEst i v).lanes = c.lanes := rfl
@[simp] theorem Core.setEst_ports (c : Core) (i : Nat) (v : Estim) : (c.setEst i v).ports = c.ports := rfl
@[simp] theorem Core.setEst_reps (c : Core) (i : Nat) (v : Estim) : (c.setEst i v).reps = c.reps := rfl
@[simp] theorem Core.setEst_time (c : Core) (i : Nat) (v : Estim) : (c.setEst i v).time = c.time := rfl
@[simp] theorem Core.setEst_backSec (c : Core) (i : Nat) (v : Estim) : (c.setEst i v).backSec = c.backSec := rfl
@[simp] theorem Core.setEst_backSub (c : Core) (i : Nat) (v : Estim) : (c.setEst i v).backSub = c.backSub := rfl
@[simp] theorem Core.setEst_backPhase (c : Core) (i : Nat) (v : Estim) : (c.setEst i v).backPhase = c.backPhase := rfl
@[simp] theorem Core.setEst_backKept (c : Core) (i : Nat) (v : Estim) : (c.setEst i v).backKept = c.backKept := rfl
@[simp] theorem Core.setEst_dirIn (c : Core) (i : Nat) (v : Estim) : (c.setEst i v).dirIn = c.dirIn := rfl
@[simp] theorem Core.setEst_rings (c : Core) (i : Nat) (v : Estim) : (c.setEst i v).rings = c.rings := rfl
@[simp] theorem Core.setEst_query (c : Core) (i : Nat) (v : Estim) : (c.setEst i v).query = c.query := rfl
@[simp] theorem Core.setEst_grids (c : Core) (i : Nat) (v : Estim) : (c.setEst i v).grids = c.grids := rfl
@[simp] theorem Core.setEst_engines (c : Core) (i : Nat) (v : Estim) : (c.setEst i v).engines = c.engines := rfl
@[simp] theorem Core.setEst_sched (c : Core) (i : Nat) (v : Estim) : (c.setEst i v).sched = c.sched := rfl
@[simp] theorem Core.setEst_bridle (c : Core) (i : Nat) (v : Estim) : (c.setEst i v).bridle = c.bridle := rfl
@[simp] theorem Core.setEst_latchRec (c : Core) (i : Nat) (v : Estim) : (c.setEst i v).latchRec = c.latchRec := rfl
@[simp] theorem Core.setEst_frecIncarn (c : Core) (i : Nat) (v : Estim) : (c.setEst i v).frecIncarn = c.frecIncarn := rfl
@[simp] theorem Core.setEst_canObjs (c : Core) (i : Nat) (v : Estim) : (c.setEst i v).canObjs = c.canObjs := rfl
@[simp] theorem Core.setEst_canChs (c : Core) (i : Nat) (v : Estim) : (c.setEst i v).canChs = c.canChs := rfl
@[simp] theorem Core.setEst_strings (c : Core) (i : Nat) (v : Estim) : (c.setEst i v).strings = c.strings := rfl
@[simp] theorem Core.setEst_isl (c : Core) (i : Nat) (v : Estim) : (c.setEst i v).isl = c.isl := rfl
@[simp] theorem Core.setEst_woken (c : Core) (i : Nat) (v : Estim) : (c.setEst i v).woken = c.woken := rfl
@[simp] theorem Core.setEst_crossings (c : Core) (i : Nat) (v : Estim) : (c.setEst i v).crossings = c.crossings := rfl
@[simp] theorem Core.setEst_banks (c : Core) (i : Nat) (v : Estim) : (c.setEst i v).banks = c.banks := rfl
@[simp] theorem Core.setEst_loader (c : Core) (i : Nat) (v : Estim) : (c.setEst i v).loader = c.loader := rfl
@[simp] theorem Core.setEst_twin (c : Core) (i : Nat) (v : Estim) : (c.setEst i v).twin = c.twin := rfl
@[simp] theorem Core.setEst_power (c : Core) (i : Nat) (v : Estim) : (c.setEst i v).power = c.power := rfl
@[simp] theorem Core.setEst_rst (c : Core) (i : Nat) (v : Estim) : (c.setEst i v).rst = c.rst := rfl
@[simp] theorem Core.setEst_sad (c : Core) (i : Nat) (v : Estim) : (c.setEst i v).sad = c.sad := rfl
@[simp] theorem Core.setEst_sessions (c : Core) (i : Nat) (v : Estim) : (c.setEst i v).sessions = c.sessions := rfl
@[simp] theorem Core.setEst_sessAge (c : Core) (i : Nat) (v : Estim) : (c.setEst i v).sessAge = c.sessAge := rfl
@[simp] theorem Core.setEst_pendLow (c : Core) (i : Nat) (v : Estim) : (c.setEst i v).pendLow = c.pendLow := rfl
@[simp] theorem Core.setEst_hold (c : Core) (i : Nat) (v : Estim) : (c.setEst i v).hold = c.hold := rfl
@[simp] theorem Core.setEst_stalls (c : Core) (i : Nat) (v : Estim) : (c.setEst i v).stalls = c.stalls := rfl
@[simp] theorem Core.setEst_strapWait (c : Core) (i : Nat) (v : Estim) : (c.setEst i v).strapWait = c.strapWait := rfl
@[simp] theorem Core.setEst_strapQ (c : Core) (i : Nat) (v : Estim) : (c.setEst i v).strapQ = c.strapQ := rfl
@[simp] theorem Core.setEst_wdHeld (c : Core) (i : Nat) (v : Estim) : (c.setEst i v).wdHeld = c.wdHeld := rfl
@[simp] theorem Core.setEst_patFlash (c : Core) (i : Nat) (v : Estim) : (c.setEst i v).patFlash = c.patFlash := rfl
@[simp] theorem Core.setEst_imgFlash (c : Core) (i : Nat) (v : Estim) : (c.setEst i v).imgFlash = c.imgFlash := rfl
@[simp] theorem Core.setEst_keys (c : Core) (i : Nat) (v : Estim) : (c.setEst i v).keys = c.keys := rfl
@[simp] theorem Core.setEst_pos0 (c : Core) (i : Nat) (v : Estim) : (c.setEst i v).pos0 = c.pos0 := rfl
@[simp] theorem Core.setEst_pos1 (c : Core) (i : Nat) (v : Estim) : (c.setEst i v).pos1 = c.pos1 := rfl
@[simp] theorem Core.setEst_ipSet (c : Core) (i : Nat) (v : Estim) : (c.setEst i v).ipSet = c.ipSet := rfl
@[simp] theorem Core.setEst_livePorts (c : Core) (i : Nat) (v : Estim) : (c.setEst i v).livePorts = c.livePorts := rfl
@[simp] theorem Core.setEst_liveVlan (c : Core) (i : Nat) (v : Estim) : (c.setEst i v).liveVlan = c.liveVlan := rfl
@[simp] theorem Core.setEst_ipLive (c : Core) (i : Nat) (v : Estim) : (c.setEst i v).ipLive = c.ipLive := rfl
@[simp] theorem Core.setEst_silent (c : Core) (i : Nat) (v : Estim) : (c.setEst i v).silent = c.silent := rfl
@[simp] theorem Core.setEst_lockAns (c : Core) (i : Nat) (v : Estim) : (c.setEst i v).lockAns = c.lockAns := rfl
@[simp] theorem Core.setEst_deferred (c : Core) (i : Nat) (v : Estim) : (c.setEst i v).deferred = c.deferred := rfl
@[simp] theorem Core.setEst_memq (c : Core) (i : Nat) (v : Estim) : (c.setEst i v).memq = c.memq := rfl
@[simp] theorem Core.setEst_freeIdx (c : Core) (i : Nat) (v : Estim) : (c.setEst i v).freeIdx = c.freeIdx := rfl
@[simp] theorem Core.setEst_acc (c : Core) (i : Nat) (v : Estim) : (c.setEst i v).acc = c.acc := rfl
@[simp] theorem Core.setEst_out (c : Core) (i : Nat) (v : Estim) : (c.setEst i v).out = c.out := rfl
@[simp] theorem Core.setEst_reg (c : Core) (i : Nat) (v : Estim) (r : Reg) (j : Nat) : (c.setEst i v).reg r j = c.reg r j := rfl
@[simp] theorem Core.setEst_get (c : Core) (i : Nat) (v : Estim) (f : Fld) (j : Nat) : (c.setEst i v).get f j = c.get f j := rfl
@[simp] theorem Core.setEst_bit (c : Core) (i : Nat) (v : Estim) (f : Fld) (j : Nat) : (c.setEst i v).bit f j = c.bit f j := rfl
@[simp] theorem Core.laneAt_setLane (c : Core) (i : Nat) (v : Lane) : (c.setLane i v).laneAt i = v := Tab.get_set_self ..
theorem Core.laneAt_setLane_ne (c : Core) {i j : Nat} (v : Lane) (h : i ≠ j) : (c.setLane i v).laneAt j = c.laneAt j := Tab.get_set_ne _ _ v h
@[simp] theorem Core.setLane_regs (c : Core) (i : Nat) (v : Lane) : (c.setLane i v).regs = c.regs := rfl
@[simp] theorem Core.setLane_pat (c : Core) (i : Nat) (v : Lane) : (c.setLane i v).pat = c.pat := rfl
@[simp] theorem Core.setLane_prof (c : Core) (i : Nat) (v : Lane) : (c.setLane i v).prof = c.prof := rfl
@[simp] theorem Core.setLane_igs (c : Core) (i : Nat) (v : Lane) : (c.setLane i v).igs = c.igs := rfl
@[simp] theorem Core.setLane_steps (c : Core) (i : Nat) (v : Lane) : (c.setLane i v).steps = c.steps := rfl
@[simp] theorem Core.setLane_loops (c : Core) (i : Nat) (v : Lane) : (c.setLane i v).loops = c.loops := rfl
@[simp] theorem Core.setLane_snaps (c : Core) (i : Nat) (v : Lane) : (c.setLane i v).snaps = c.snaps := rfl
@[simp] theorem Core.setLane_ctxs (c : Core) (i : Nat) (v : Lane) : (c.setLane i v).ctxs = c.ctxs := rfl
@[simp] theorem Core.setLane_ests (c : Core) (i : Nat) (v : Lane) : (c.setLane i v).ests = c.ests := rfl
@[simp] theorem Core.setLane_ports (c : Core) (i : Nat) (v : Lane) : (c.setLane i v).ports = c.ports := rfl
@[simp] theorem Core.setLane_reps (c : Core) (i : Nat) (v : Lane) : (c.setLane i v).reps = c.reps := rfl
@[simp] theorem Core.setLane_time (c : Core) (i : Nat) (v : Lane) : (c.setLane i v).time = c.time := rfl
@[simp] theorem Core.setLane_backSec (c : Core) (i : Nat) (v : Lane) : (c.setLane i v).backSec = c.backSec := rfl
@[simp] theorem Core.setLane_backSub (c : Core) (i : Nat) (v : Lane) : (c.setLane i v).backSub = c.backSub := rfl
@[simp] theorem Core.setLane_backPhase (c : Core) (i : Nat) (v : Lane) : (c.setLane i v).backPhase = c.backPhase := rfl
@[simp] theorem Core.setLane_backKept (c : Core) (i : Nat) (v : Lane) : (c.setLane i v).backKept = c.backKept := rfl
@[simp] theorem Core.setLane_dirIn (c : Core) (i : Nat) (v : Lane) : (c.setLane i v).dirIn = c.dirIn := rfl
@[simp] theorem Core.setLane_rings (c : Core) (i : Nat) (v : Lane) : (c.setLane i v).rings = c.rings := rfl
@[simp] theorem Core.setLane_query (c : Core) (i : Nat) (v : Lane) : (c.setLane i v).query = c.query := rfl
@[simp] theorem Core.setLane_grids (c : Core) (i : Nat) (v : Lane) : (c.setLane i v).grids = c.grids := rfl
@[simp] theorem Core.setLane_engines (c : Core) (i : Nat) (v : Lane) : (c.setLane i v).engines = c.engines := rfl
@[simp] theorem Core.setLane_sched (c : Core) (i : Nat) (v : Lane) : (c.setLane i v).sched = c.sched := rfl
@[simp] theorem Core.setLane_bridle (c : Core) (i : Nat) (v : Lane) : (c.setLane i v).bridle = c.bridle := rfl
@[simp] theorem Core.setLane_latchRec (c : Core) (i : Nat) (v : Lane) : (c.setLane i v).latchRec = c.latchRec := rfl
@[simp] theorem Core.setLane_frecIncarn (c : Core) (i : Nat) (v : Lane) : (c.setLane i v).frecIncarn = c.frecIncarn := rfl
@[simp] theorem Core.setLane_canObjs (c : Core) (i : Nat) (v : Lane) : (c.setLane i v).canObjs = c.canObjs := rfl
@[simp] theorem Core.setLane_canChs (c : Core) (i : Nat) (v : Lane) : (c.setLane i v).canChs = c.canChs := rfl
@[simp] theorem Core.setLane_strings (c : Core) (i : Nat) (v : Lane) : (c.setLane i v).strings = c.strings := rfl
@[simp] theorem Core.setLane_isl (c : Core) (i : Nat) (v : Lane) : (c.setLane i v).isl = c.isl := rfl
@[simp] theorem Core.setLane_woken (c : Core) (i : Nat) (v : Lane) : (c.setLane i v).woken = c.woken := rfl
@[simp] theorem Core.setLane_crossings (c : Core) (i : Nat) (v : Lane) : (c.setLane i v).crossings = c.crossings := rfl
@[simp] theorem Core.setLane_banks (c : Core) (i : Nat) (v : Lane) : (c.setLane i v).banks = c.banks := rfl
@[simp] theorem Core.setLane_loader (c : Core) (i : Nat) (v : Lane) : (c.setLane i v).loader = c.loader := rfl
@[simp] theorem Core.setLane_twin (c : Core) (i : Nat) (v : Lane) : (c.setLane i v).twin = c.twin := rfl
@[simp] theorem Core.setLane_power (c : Core) (i : Nat) (v : Lane) : (c.setLane i v).power = c.power := rfl
@[simp] theorem Core.setLane_rst (c : Core) (i : Nat) (v : Lane) : (c.setLane i v).rst = c.rst := rfl
@[simp] theorem Core.setLane_sad (c : Core) (i : Nat) (v : Lane) : (c.setLane i v).sad = c.sad := rfl
@[simp] theorem Core.setLane_sessions (c : Core) (i : Nat) (v : Lane) : (c.setLane i v).sessions = c.sessions := rfl
@[simp] theorem Core.setLane_sessAge (c : Core) (i : Nat) (v : Lane) : (c.setLane i v).sessAge = c.sessAge := rfl
@[simp] theorem Core.setLane_pendLow (c : Core) (i : Nat) (v : Lane) : (c.setLane i v).pendLow = c.pendLow := rfl
@[simp] theorem Core.setLane_hold (c : Core) (i : Nat) (v : Lane) : (c.setLane i v).hold = c.hold := rfl
@[simp] theorem Core.setLane_stalls (c : Core) (i : Nat) (v : Lane) : (c.setLane i v).stalls = c.stalls := rfl
@[simp] theorem Core.setLane_strapWait (c : Core) (i : Nat) (v : Lane) : (c.setLane i v).strapWait = c.strapWait := rfl
@[simp] theorem Core.setLane_strapQ (c : Core) (i : Nat) (v : Lane) : (c.setLane i v).strapQ = c.strapQ := rfl
@[simp] theorem Core.setLane_wdHeld (c : Core) (i : Nat) (v : Lane) : (c.setLane i v).wdHeld = c.wdHeld := rfl
@[simp] theorem Core.setLane_patFlash (c : Core) (i : Nat) (v : Lane) : (c.setLane i v).patFlash = c.patFlash := rfl
@[simp] theorem Core.setLane_imgFlash (c : Core) (i : Nat) (v : Lane) : (c.setLane i v).imgFlash = c.imgFlash := rfl
@[simp] theorem Core.setLane_keys (c : Core) (i : Nat) (v : Lane) : (c.setLane i v).keys = c.keys := rfl
@[simp] theorem Core.setLane_pos0 (c : Core) (i : Nat) (v : Lane) : (c.setLane i v).pos0 = c.pos0 := rfl
@[simp] theorem Core.setLane_pos1 (c : Core) (i : Nat) (v : Lane) : (c.setLane i v).pos1 = c.pos1 := rfl
@[simp] theorem Core.setLane_ipSet (c : Core) (i : Nat) (v : Lane) : (c.setLane i v).ipSet = c.ipSet := rfl
@[simp] theorem Core.setLane_livePorts (c : Core) (i : Nat) (v : Lane) : (c.setLane i v).livePorts = c.livePorts := rfl
@[simp] theorem Core.setLane_liveVlan (c : Core) (i : Nat) (v : Lane) : (c.setLane i v).liveVlan = c.liveVlan := rfl
@[simp] theorem Core.setLane_ipLive (c : Core) (i : Nat) (v : Lane) : (c.setLane i v).ipLive = c.ipLive := rfl
@[simp] theorem Core.setLane_silent (c : Core) (i : Nat) (v : Lane) : (c.setLane i v).silent = c.silent := rfl
@[simp] theorem Core.setLane_lockAns (c : Core) (i : Nat) (v : Lane) : (c.setLane i v).lockAns = c.lockAns := rfl
@[simp] theorem Core.setLane_deferred (c : Core) (i : Nat) (v : Lane) : (c.setLane i v).deferred = c.deferred := rfl
@[simp] theorem Core.setLane_memq (c : Core) (i : Nat) (v : Lane) : (c.setLane i v).memq = c.memq := rfl
@[simp] theorem Core.setLane_freeIdx (c : Core) (i : Nat) (v : Lane) : (c.setLane i v).freeIdx = c.freeIdx := rfl
@[simp] theorem Core.setLane_acc (c : Core) (i : Nat) (v : Lane) : (c.setLane i v).acc = c.acc := rfl
@[simp] theorem Core.setLane_out (c : Core) (i : Nat) (v : Lane) : (c.setLane i v).out = c.out := rfl
@[simp] theorem Core.setLane_reg (c : Core) (i : Nat) (v : Lane) (r : Reg) (j : Nat) : (c.setLane i v).reg r j = c.reg r j := rfl
@[simp] theorem Core.setLane_get (c : Core) (i : Nat) (v : Lane) (f : Fld) (j : Nat) : (c.setLane i v).get f j = c.get f j := rfl
@[simp] theorem Core.setLane_bit (c : Core) (i : Nat) (v : Lane) (f : Fld) (j : Nat) : (c.setLane i v).bit f j = c.bit f j := rfl
@[simp] theorem Core.portAt_setPort (c : Core) (i : Nat) (v : Port) : (c.setPort i v).portAt i = v := Tab.get_set_self ..
theorem Core.portAt_setPort_ne (c : Core) {i j : Nat} (v : Port) (h : i ≠ j) : (c.setPort i v).portAt j = c.portAt j := Tab.get_set_ne _ _ v h
@[simp] theorem Core.setPort_regs (c : Core) (i : Nat) (v : Port) : (c.setPort i v).regs = c.regs := rfl
@[simp] theorem Core.setPort_pat (c : Core) (i : Nat) (v : Port) : (c.setPort i v).pat = c.pat := rfl
@[simp] theorem Core.setPort_prof (c : Core) (i : Nat) (v : Port) : (c.setPort i v).prof = c.prof := rfl
@[simp] theorem Core.setPort_igs (c : Core) (i : Nat) (v : Port) : (c.setPort i v).igs = c.igs := rfl
@[simp] theorem Core.setPort_steps (c : Core) (i : Nat) (v : Port) : (c.setPort i v).steps = c.steps := rfl
@[simp] theorem Core.setPort_loops (c : Core) (i : Nat) (v : Port) : (c.setPort i v).loops = c.loops := rfl
@[simp] theorem Core.setPort_snaps (c : Core) (i : Nat) (v : Port) : (c.setPort i v).snaps = c.snaps := rfl
@[simp] theorem Core.setPort_ctxs (c : Core) (i : Nat) (v : Port) : (c.setPort i v).ctxs = c.ctxs := rfl
@[simp] theorem Core.setPort_ests (c : Core) (i : Nat) (v : Port) : (c.setPort i v).ests = c.ests := rfl
@[simp] theorem Core.setPort_lanes (c : Core) (i : Nat) (v : Port) : (c.setPort i v).lanes = c.lanes := rfl
@[simp] theorem Core.setPort_reps (c : Core) (i : Nat) (v : Port) : (c.setPort i v).reps = c.reps := rfl
@[simp] theorem Core.setPort_time (c : Core) (i : Nat) (v : Port) : (c.setPort i v).time = c.time := rfl
@[simp] theorem Core.setPort_backSec (c : Core) (i : Nat) (v : Port) : (c.setPort i v).backSec = c.backSec := rfl
@[simp] theorem Core.setPort_backSub (c : Core) (i : Nat) (v : Port) : (c.setPort i v).backSub = c.backSub := rfl
@[simp] theorem Core.setPort_backPhase (c : Core) (i : Nat) (v : Port) : (c.setPort i v).backPhase = c.backPhase := rfl
@[simp] theorem Core.setPort_backKept (c : Core) (i : Nat) (v : Port) : (c.setPort i v).backKept = c.backKept := rfl
@[simp] theorem Core.setPort_dirIn (c : Core) (i : Nat) (v : Port) : (c.setPort i v).dirIn = c.dirIn := rfl
@[simp] theorem Core.setPort_rings (c : Core) (i : Nat) (v : Port) : (c.setPort i v).rings = c.rings := rfl
@[simp] theorem Core.setPort_query (c : Core) (i : Nat) (v : Port) : (c.setPort i v).query = c.query := rfl
@[simp] theorem Core.setPort_grids (c : Core) (i : Nat) (v : Port) : (c.setPort i v).grids = c.grids := rfl
@[simp] theorem Core.setPort_engines (c : Core) (i : Nat) (v : Port) : (c.setPort i v).engines = c.engines := rfl
@[simp] theorem Core.setPort_sched (c : Core) (i : Nat) (v : Port) : (c.setPort i v).sched = c.sched := rfl
@[simp] theorem Core.setPort_bridle (c : Core) (i : Nat) (v : Port) : (c.setPort i v).bridle = c.bridle := rfl
@[simp] theorem Core.setPort_latchRec (c : Core) (i : Nat) (v : Port) : (c.setPort i v).latchRec = c.latchRec := rfl
@[simp] theorem Core.setPort_frecIncarn (c : Core) (i : Nat) (v : Port) : (c.setPort i v).frecIncarn = c.frecIncarn := rfl
@[simp] theorem Core.setPort_canObjs (c : Core) (i : Nat) (v : Port) : (c.setPort i v).canObjs = c.canObjs := rfl
@[simp] theorem Core.setPort_canChs (c : Core) (i : Nat) (v : Port) : (c.setPort i v).canChs = c.canChs := rfl
@[simp] theorem Core.setPort_strings (c : Core) (i : Nat) (v : Port) : (c.setPort i v).strings = c.strings := rfl
@[simp] theorem Core.setPort_isl (c : Core) (i : Nat) (v : Port) : (c.setPort i v).isl = c.isl := rfl
@[simp] theorem Core.setPort_woken (c : Core) (i : Nat) (v : Port) : (c.setPort i v).woken = c.woken := rfl
@[simp] theorem Core.setPort_crossings (c : Core) (i : Nat) (v : Port) : (c.setPort i v).crossings = c.crossings := rfl
@[simp] theorem Core.setPort_banks (c : Core) (i : Nat) (v : Port) : (c.setPort i v).banks = c.banks := rfl
@[simp] theorem Core.setPort_loader (c : Core) (i : Nat) (v : Port) : (c.setPort i v).loader = c.loader := rfl
@[simp] theorem Core.setPort_twin (c : Core) (i : Nat) (v : Port) : (c.setPort i v).twin = c.twin := rfl
@[simp] theorem Core.setPort_power (c : Core) (i : Nat) (v : Port) : (c.setPort i v).power = c.power := rfl
@[simp] theorem Core.setPort_rst (c : Core) (i : Nat) (v : Port) : (c.setPort i v).rst = c.rst := rfl
@[simp] theorem Core.setPort_sad (c : Core) (i : Nat) (v : Port) : (c.setPort i v).sad = c.sad := rfl
@[simp] theorem Core.setPort_sessions (c : Core) (i : Nat) (v : Port) : (c.setPort i v).sessions = c.sessions := rfl
@[simp] theorem Core.setPort_sessAge (c : Core) (i : Nat) (v : Port) : (c.setPort i v).sessAge = c.sessAge := rfl
@[simp] theorem Core.setPort_pendLow (c : Core) (i : Nat) (v : Port) : (c.setPort i v).pendLow = c.pendLow := rfl
@[simp] theorem Core.setPort_hold (c : Core) (i : Nat) (v : Port) : (c.setPort i v).hold = c.hold := rfl
@[simp] theorem Core.setPort_stalls (c : Core) (i : Nat) (v : Port) : (c.setPort i v).stalls = c.stalls := rfl
@[simp] theorem Core.setPort_strapWait (c : Core) (i : Nat) (v : Port) : (c.setPort i v).strapWait = c.strapWait := rfl
@[simp] theorem Core.setPort_strapQ (c : Core) (i : Nat) (v : Port) : (c.setPort i v).strapQ = c.strapQ := rfl
@[simp] theorem Core.setPort_wdHeld (c : Core) (i : Nat) (v : Port) : (c.setPort i v).wdHeld = c.wdHeld := rfl
@[simp] theorem Core.setPort_patFlash (c : Core) (i : Nat) (v : Port) : (c.setPort i v).patFlash = c.patFlash := rfl
@[simp] theorem Core.setPort_imgFlash (c : Core) (i : Nat) (v : Port) : (c.setPort i v).imgFlash = c.imgFlash := rfl
@[simp] theorem Core.setPort_keys (c : Core) (i : Nat) (v : Port) : (c.setPort i v).keys = c.keys := rfl
@[simp] theorem Core.setPort_pos0 (c : Core) (i : Nat) (v : Port) : (c.setPort i v).pos0 = c.pos0 := rfl
@[simp] theorem Core.setPort_pos1 (c : Core) (i : Nat) (v : Port) : (c.setPort i v).pos1 = c.pos1 := rfl
@[simp] theorem Core.setPort_ipSet (c : Core) (i : Nat) (v : Port) : (c.setPort i v).ipSet = c.ipSet := rfl
@[simp] theorem Core.setPort_livePorts (c : Core) (i : Nat) (v : Port) : (c.setPort i v).livePorts = c.livePorts := rfl
@[simp] theorem Core.setPort_liveVlan (c : Core) (i : Nat) (v : Port) : (c.setPort i v).liveVlan = c.liveVlan := rfl
@[simp] theorem Core.setPort_ipLive (c : Core) (i : Nat) (v : Port) : (c.setPort i v).ipLive = c.ipLive := rfl
@[simp] theorem Core.setPort_silent (c : Core) (i : Nat) (v : Port) : (c.setPort i v).silent = c.silent := rfl
@[simp] theorem Core.setPort_lockAns (c : Core) (i : Nat) (v : Port) : (c.setPort i v).lockAns = c.lockAns := rfl
@[simp] theorem Core.setPort_deferred (c : Core) (i : Nat) (v : Port) : (c.setPort i v).deferred = c.deferred := rfl
@[simp] theorem Core.setPort_memq (c : Core) (i : Nat) (v : Port) : (c.setPort i v).memq = c.memq := rfl
@[simp] theorem Core.setPort_freeIdx (c : Core) (i : Nat) (v : Port) : (c.setPort i v).freeIdx = c.freeIdx := rfl
@[simp] theorem Core.setPort_acc (c : Core) (i : Nat) (v : Port) : (c.setPort i v).acc = c.acc := rfl
@[simp] theorem Core.setPort_out (c : Core) (i : Nat) (v : Port) : (c.setPort i v).out = c.out := rfl
@[simp] theorem Core.setPort_reg (c : Core) (i : Nat) (v : Port) (r : Reg) (j : Nat) : (c.setPort i v).reg r j = c.reg r j := rfl
@[simp] theorem Core.setPort_get (c : Core) (i : Nat) (v : Port) (f : Fld) (j : Nat) : (c.setPort i v).get f j = c.get f j := rfl
@[simp] theorem Core.setPort_bit (c : Core) (i : Nat) (v : Port) (f : Fld) (j : Nat) : (c.setPort i v).bit f j = c.bit f j := rfl
@[simp] theorem Core.repAt_setRep (c : Core) (i : Nat) (v : Repeat) : (c.setRep i v).repAt i = v := Tab.get_set_self ..
theorem Core.repAt_setRep_ne (c : Core) {i j : Nat} (v : Repeat) (h : i ≠ j) : (c.setRep i v).repAt j = c.repAt j := Tab.get_set_ne _ _ v h
@[simp] theorem Core.setRep_regs (c : Core) (i : Nat) (v : Repeat) : (c.setRep i v).regs = c.regs := rfl
@[simp] theorem Core.setRep_pat (c : Core) (i : Nat) (v : Repeat) : (c.setRep i v).pat = c.pat := rfl
@[simp] theorem Core.setRep_prof (c : Core) (i : Nat) (v : Repeat) : (c.setRep i v).prof = c.prof := rfl
@[simp] theorem Core.setRep_igs (c : Core) (i : Nat) (v : Repeat) : (c.setRep i v).igs = c.igs := rfl
@[simp] theorem Core.setRep_steps (c : Core) (i : Nat) (v : Repeat) : (c.setRep i v).steps = c.steps := rfl
@[simp] theorem Core.setRep_loops (c : Core) (i : Nat) (v : Repeat) : (c.setRep i v).loops = c.loops := rfl
@[simp] theorem Core.setRep_snaps (c : Core) (i : Nat) (v : Repeat) : (c.setRep i v).snaps = c.snaps := rfl
@[simp] theorem Core.setRep_ctxs (c : Core) (i : Nat) (v : Repeat) : (c.setRep i v).ctxs = c.ctxs := rfl
@[simp] theorem Core.setRep_ests (c : Core) (i : Nat) (v : Repeat) : (c.setRep i v).ests = c.ests := rfl
@[simp] theorem Core.setRep_lanes (c : Core) (i : Nat) (v : Repeat) : (c.setRep i v).lanes = c.lanes := rfl
@[simp] theorem Core.setRep_ports (c : Core) (i : Nat) (v : Repeat) : (c.setRep i v).ports = c.ports := rfl
@[simp] theorem Core.setRep_time (c : Core) (i : Nat) (v : Repeat) : (c.setRep i v).time = c.time := rfl
@[simp] theorem Core.setRep_backSec (c : Core) (i : Nat) (v : Repeat) : (c.setRep i v).backSec = c.backSec := rfl
@[simp] theorem Core.setRep_backSub (c : Core) (i : Nat) (v : Repeat) : (c.setRep i v).backSub = c.backSub := rfl
@[simp] theorem Core.setRep_backPhase (c : Core) (i : Nat) (v : Repeat) : (c.setRep i v).backPhase = c.backPhase := rfl
@[simp] theorem Core.setRep_backKept (c : Core) (i : Nat) (v : Repeat) : (c.setRep i v).backKept = c.backKept := rfl
@[simp] theorem Core.setRep_dirIn (c : Core) (i : Nat) (v : Repeat) : (c.setRep i v).dirIn = c.dirIn := rfl
@[simp] theorem Core.setRep_rings (c : Core) (i : Nat) (v : Repeat) : (c.setRep i v).rings = c.rings := rfl
@[simp] theorem Core.setRep_query (c : Core) (i : Nat) (v : Repeat) : (c.setRep i v).query = c.query := rfl
@[simp] theorem Core.setRep_grids (c : Core) (i : Nat) (v : Repeat) : (c.setRep i v).grids = c.grids := rfl
@[simp] theorem Core.setRep_engines (c : Core) (i : Nat) (v : Repeat) : (c.setRep i v).engines = c.engines := rfl
@[simp] theorem Core.setRep_sched (c : Core) (i : Nat) (v : Repeat) : (c.setRep i v).sched = c.sched := rfl
@[simp] theorem Core.setRep_bridle (c : Core) (i : Nat) (v : Repeat) : (c.setRep i v).bridle = c.bridle := rfl
@[simp] theorem Core.setRep_latchRec (c : Core) (i : Nat) (v : Repeat) : (c.setRep i v).latchRec = c.latchRec := rfl
@[simp] theorem Core.setRep_frecIncarn (c : Core) (i : Nat) (v : Repeat) : (c.setRep i v).frecIncarn = c.frecIncarn := rfl
@[simp] theorem Core.setRep_canObjs (c : Core) (i : Nat) (v : Repeat) : (c.setRep i v).canObjs = c.canObjs := rfl
@[simp] theorem Core.setRep_canChs (c : Core) (i : Nat) (v : Repeat) : (c.setRep i v).canChs = c.canChs := rfl
@[simp] theorem Core.setRep_strings (c : Core) (i : Nat) (v : Repeat) : (c.setRep i v).strings = c.strings := rfl
@[simp] theorem Core.setRep_isl (c : Core) (i : Nat) (v : Repeat) : (c.setRep i v).isl = c.isl := rfl
@[simp] theorem Core.setRep_woken (c : Core) (i : Nat) (v : Repeat) : (c.setRep i v).woken = c.woken := rfl
@[simp] theorem Core.setRep_crossings (c : Core) (i : Nat) (v : Repeat) : (c.setRep i v).crossings = c.crossings := rfl
@[simp] theorem Core.setRep_banks (c : Core) (i : Nat) (v : Repeat) : (c.setRep i v).banks = c.banks := rfl
@[simp] theorem Core.setRep_loader (c : Core) (i : Nat) (v : Repeat) : (c.setRep i v).loader = c.loader := rfl
@[simp] theorem Core.setRep_twin (c : Core) (i : Nat) (v : Repeat) : (c.setRep i v).twin = c.twin := rfl
@[simp] theorem Core.setRep_power (c : Core) (i : Nat) (v : Repeat) : (c.setRep i v).power = c.power := rfl
@[simp] theorem Core.setRep_rst (c : Core) (i : Nat) (v : Repeat) : (c.setRep i v).rst = c.rst := rfl
@[simp] theorem Core.setRep_sad (c : Core) (i : Nat) (v : Repeat) : (c.setRep i v).sad = c.sad := rfl
@[simp] theorem Core.setRep_sessions (c : Core) (i : Nat) (v : Repeat) : (c.setRep i v).sessions = c.sessions := rfl
@[simp] theorem Core.setRep_sessAge (c : Core) (i : Nat) (v : Repeat) : (c.setRep i v).sessAge = c.sessAge := rfl
@[simp] theorem Core.setRep_pendLow (c : Core) (i : Nat) (v : Repeat) : (c.setRep i v).pendLow = c.pendLow := rfl
@[simp] theorem Core.setRep_hold (c : Core) (i : Nat) (v : Repeat) : (c.setRep i v).hold = c.hold := rfl
@[simp] theorem Core.setRep_stalls (c : Core) (i : Nat) (v : Repeat) : (c.setRep i v).stalls = c.stalls := rfl
@[simp] theorem Core.setRep_strapWait (c : Core) (i : Nat) (v : Repeat) : (c.setRep i v).strapWait = c.strapWait := rfl
@[simp] theorem Core.setRep_strapQ (c : Core) (i : Nat) (v : Repeat) : (c.setRep i v).strapQ = c.strapQ := rfl
@[simp] theorem Core.setRep_wdHeld (c : Core) (i : Nat) (v : Repeat) : (c.setRep i v).wdHeld = c.wdHeld := rfl
@[simp] theorem Core.setRep_patFlash (c : Core) (i : Nat) (v : Repeat) : (c.setRep i v).patFlash = c.patFlash := rfl
@[simp] theorem Core.setRep_imgFlash (c : Core) (i : Nat) (v : Repeat) : (c.setRep i v).imgFlash = c.imgFlash := rfl
@[simp] theorem Core.setRep_keys (c : Core) (i : Nat) (v : Repeat) : (c.setRep i v).keys = c.keys := rfl
@[simp] theorem Core.setRep_pos0 (c : Core) (i : Nat) (v : Repeat) : (c.setRep i v).pos0 = c.pos0 := rfl
@[simp] theorem Core.setRep_pos1 (c : Core) (i : Nat) (v : Repeat) : (c.setRep i v).pos1 = c.pos1 := rfl
@[simp] theorem Core.setRep_ipSet (c : Core) (i : Nat) (v : Repeat) : (c.setRep i v).ipSet = c.ipSet := rfl
@[simp] theorem Core.setRep_livePorts (c : Core) (i : Nat) (v : Repeat) : (c.setRep i v).livePorts = c.livePorts := rfl
@[simp] theorem Core.setRep_liveVlan (c : Core) (i : Nat) (v : Repeat) : (c.setRep i v).liveVlan = c.liveVlan := rfl
@[simp] theorem Core.setRep_ipLive (c : Core) (i : Nat) (v : Repeat) : (c.setRep i v).ipLive = c.ipLive := rfl
@[simp] theorem Core.setRep_silent (c : Core) (i : Nat) (v : Repeat) : (c.setRep i v).silent = c.silent := rfl
@[simp] theorem Core.setRep_lockAns (c : Core) (i : Nat) (v : Repeat) : (c.setRep i v).lockAns = c.lockAns := rfl
@[simp] theorem Core.setRep_deferred (c : Core) (i : Nat) (v : Repeat) : (c.setRep i v).deferred = c.deferred := rfl
@[simp] theorem Core.setRep_memq (c : Core) (i : Nat) (v : Repeat) : (c.setRep i v).memq = c.memq := rfl
@[simp] theorem Core.setRep_freeIdx (c : Core) (i : Nat) (v : Repeat) : (c.setRep i v).freeIdx = c.freeIdx := rfl
@[simp] theorem Core.setRep_acc (c : Core) (i : Nat) (v : Repeat) : (c.setRep i v).acc = c.acc := rfl
@[simp] theorem Core.setRep_out (c : Core) (i : Nat) (v : Repeat) : (c.setRep i v).out = c.out := rfl
@[simp] theorem Core.setRep_reg (c : Core) (i : Nat) (v : Repeat) (r : Reg) (j : Nat) : (c.setRep i v).reg r j = c.reg r j := rfl
@[simp] theorem Core.setRep_get (c : Core) (i : Nat) (v : Repeat) (f : Fld) (j : Nat) : (c.setRep i v).get f j = c.get f j := rfl
@[simp] theorem Core.setRep_bit (c : Core) (i : Nat) (v : Repeat) (f : Fld) (j : Nat) : (c.setRep i v).bit f j = c.bit f j := rfl
@[simp] theorem Core.diAt_setDi (c : Core) (i : Nat) (v : DirIn) : (c.setDi i v).diAt i = v := Tab.get_set_self ..
theorem Core.diAt_setDi_ne (c : Core) {i j : Nat} (v : DirIn) (h : i ≠ j) : (c.setDi i v).diAt j = c.diAt j := Tab.get_set_ne _ _ v h
@[simp] theorem Core.setDi_regs (c : Core) (i : Nat) (v : DirIn) : (c.setDi i v).regs = c.regs := rfl
@[simp] theorem Core.setDi_pat (c : Core) (i : Nat) (v : DirIn) : (c.setDi i v).pat = c.pat := rfl
@[simp] theorem Core.setDi_prof (c : Core) (i : Nat) (v : DirIn) : (c.setDi i v).prof = c.prof := rfl
@[simp] theorem Core.setDi_igs (c : Core) (i : Nat) (v : DirIn) : (c.setDi i v).igs = c.igs := rfl
@[simp] theorem Core.setDi_steps (c : Core) (i : Nat) (v : DirIn) : (c.setDi i v).steps = c.steps := rfl
@[simp] theorem Core.setDi_loops (c : Core) (i : Nat) (v : DirIn) : (c.setDi i v).loops = c.loops := rfl
@[simp] theorem Core.setDi_snaps (c : Core) (i : Nat) (v : DirIn) : (c.setDi i v).snaps = c.snaps := rfl
@[simp] theorem Core.setDi_ctxs (c : Core) (i : Nat) (v : DirIn) : (c.setDi i v).ctxs = c.ctxs := rfl
@[simp] theorem Core.setDi_ests (c : Core) (i : Nat) (v : DirIn) : (c.setDi i v).ests = c.ests := rfl
@[simp] theorem Core.setDi_lanes (c : Core) (i : Nat) (v : DirIn) : (c.setDi i v).lanes = c.lanes := rfl
@[simp] theorem Core.setDi_ports (c : Core) (i : Nat) (v : DirIn) : (c.setDi i v).ports = c.ports := rfl
@[simp] theorem Core.setDi_reps (c : Core) (i : Nat) (v : DirIn) : (c.setDi i v).reps = c.reps := rfl
@[simp] theorem Core.setDi_time (c : Core) (i : Nat) (v : DirIn) : (c.setDi i v).time = c.time := rfl
@[simp] theorem Core.setDi_backSec (c : Core) (i : Nat) (v : DirIn) : (c.setDi i v).backSec = c.backSec := rfl
@[simp] theorem Core.setDi_backSub (c : Core) (i : Nat) (v : DirIn) : (c.setDi i v).backSub = c.backSub := rfl
@[simp] theorem Core.setDi_backPhase (c : Core) (i : Nat) (v : DirIn) : (c.setDi i v).backPhase = c.backPhase := rfl
@[simp] theorem Core.setDi_backKept (c : Core) (i : Nat) (v : DirIn) : (c.setDi i v).backKept = c.backKept := rfl
@[simp] theorem Core.setDi_rings (c : Core) (i : Nat) (v : DirIn) : (c.setDi i v).rings = c.rings := rfl
@[simp] theorem Core.setDi_query (c : Core) (i : Nat) (v : DirIn) : (c.setDi i v).query = c.query := rfl
@[simp] theorem Core.setDi_grids (c : Core) (i : Nat) (v : DirIn) : (c.setDi i v).grids = c.grids := rfl
@[simp] theorem Core.setDi_engines (c : Core) (i : Nat) (v : DirIn) : (c.setDi i v).engines = c.engines := rfl
@[simp] theorem Core.setDi_sched (c : Core) (i : Nat) (v : DirIn) : (c.setDi i v).sched = c.sched := rfl
@[simp] theorem Core.setDi_bridle (c : Core) (i : Nat) (v : DirIn) : (c.setDi i v).bridle = c.bridle := rfl
@[simp] theorem Core.setDi_latchRec (c : Core) (i : Nat) (v : DirIn) : (c.setDi i v).latchRec = c.latchRec := rfl
@[simp] theorem Core.setDi_frecIncarn (c : Core) (i : Nat) (v : DirIn) : (c.setDi i v).frecIncarn = c.frecIncarn := rfl
@[simp] theorem Core.setDi_canObjs (c : Core) (i : Nat) (v : DirIn) : (c.setDi i v).canObjs = c.canObjs := rfl
@[simp] theorem Core.setDi_canChs (c : Core) (i : Nat) (v : DirIn) : (c.setDi i v).canChs = c.canChs := rfl
@[simp] theorem Core.setDi_strings (c : Core) (i : Nat) (v : DirIn) : (c.setDi i v).strings = c.strings := rfl
@[simp] theorem Core.setDi_isl (c : Core) (i : Nat) (v : DirIn) : (c.setDi i v).isl = c.isl := rfl
@[simp] theorem Core.setDi_woken (c : Core) (i : Nat) (v : DirIn) : (c.setDi i v).woken = c.woken := rfl
@[simp] theorem Core.setDi_crossings (c : Core) (i : Nat) (v : DirIn) : (c.setDi i v).crossings = c.crossings := rfl
@[simp] theorem Core.setDi_banks (c : Core) (i : Nat) (v : DirIn) : (c.setDi i v).banks = c.banks := rfl
@[simp] theorem Core.setDi_loader (c : Core) (i : Nat) (v : DirIn) : (c.setDi i v).loader = c.loader := rfl
@[simp] theorem Core.setDi_twin (c : Core) (i : Nat) (v : DirIn) : (c.setDi i v).twin = c.twin := rfl
@[simp] theorem Core.setDi_power (c : Core) (i : Nat) (v : DirIn) : (c.setDi i v).power = c.power := rfl
@[simp] theorem Core.setDi_rst (c : Core) (i : Nat) (v : DirIn) : (c.setDi i v).rst = c.rst := rfl
@[simp] theorem Core.setDi_sad (c : Core) (i : Nat) (v : DirIn) : (c.setDi i v).sad = c.sad := rfl
@[simp] theorem Core.setDi_sessions (c : Core) (i : Nat) (v : DirIn) : (c.setDi i v).sessions = c.sessions := rfl
@[simp] theorem Core.setDi_sessAge (c : Core) (i : Nat) (v : DirIn) : (c.setDi i v).sessAge = c.sessAge := rfl
@[simp] theorem Core.setDi_pendLow (c : Core) (i : Nat) (v : DirIn) : (c.setDi i v).pendLow = c.pendLow := rfl
@[simp] theorem Core.setDi_hold (c : Core) (i : Nat) (v : DirIn) : (c.setDi i v).hold = c.hold := rfl
@[simp] theorem Core.setDi_stalls (c : Core) (i : Nat) (v : DirIn) : (c.setDi i v).stalls = c.stalls := rfl
@[simp] theorem Core.setDi_strapWait (c : Core) (i : Nat) (v : DirIn) : (c.setDi i v).strapWait = c.strapWait := rfl
@[simp] theorem Core.setDi_strapQ (c : Core) (i : Nat) (v : DirIn) : (c.setDi i v).strapQ = c.strapQ := rfl
@[simp] theorem Core.setDi_wdHeld (c : Core) (i : Nat) (v : DirIn) : (c.setDi i v).wdHeld = c.wdHeld := rfl
@[simp] theorem Core.setDi_patFlash (c : Core) (i : Nat) (v : DirIn) : (c.setDi i v).patFlash = c.patFlash := rfl
@[simp] theorem Core.setDi_imgFlash (c : Core) (i : Nat) (v : DirIn) : (c.setDi i v).imgFlash = c.imgFlash := rfl
@[simp] theorem Core.setDi_keys (c : Core) (i : Nat) (v : DirIn) : (c.setDi i v).keys = c.keys := rfl
@[simp] theorem Core.setDi_pos0 (c : Core) (i : Nat) (v : DirIn) : (c.setDi i v).pos0 = c.pos0 := rfl
@[simp] theorem Core.setDi_pos1 (c : Core) (i : Nat) (v : DirIn) : (c.setDi i v).pos1 = c.pos1 := rfl
@[simp] theorem Core.setDi_ipSet (c : Core) (i : Nat) (v : DirIn) : (c.setDi i v).ipSet = c.ipSet := rfl
@[simp] theorem Core.setDi_livePorts (c : Core) (i : Nat) (v : DirIn) : (c.setDi i v).livePorts = c.livePorts := rfl
@[simp] theorem Core.setDi_liveVlan (c : Core) (i : Nat) (v : DirIn) : (c.setDi i v).liveVlan = c.liveVlan := rfl
@[simp] theorem Core.setDi_ipLive (c : Core) (i : Nat) (v : DirIn) : (c.setDi i v).ipLive = c.ipLive := rfl
@[simp] theorem Core.setDi_silent (c : Core) (i : Nat) (v : DirIn) : (c.setDi i v).silent = c.silent := rfl
@[simp] theorem Core.setDi_lockAns (c : Core) (i : Nat) (v : DirIn) : (c.setDi i v).lockAns = c.lockAns := rfl
@[simp] theorem Core.setDi_deferred (c : Core) (i : Nat) (v : DirIn) : (c.setDi i v).deferred = c.deferred := rfl
@[simp] theorem Core.setDi_memq (c : Core) (i : Nat) (v : DirIn) : (c.setDi i v).memq = c.memq := rfl
@[simp] theorem Core.setDi_freeIdx (c : Core) (i : Nat) (v : DirIn) : (c.setDi i v).freeIdx = c.freeIdx := rfl
@[simp] theorem Core.setDi_acc (c : Core) (i : Nat) (v : DirIn) : (c.setDi i v).acc = c.acc := rfl
@[simp] theorem Core.setDi_out (c : Core) (i : Nat) (v : DirIn) : (c.setDi i v).out = c.out := rfl
@[simp] theorem Core.setDi_reg (c : Core) (i : Nat) (v : DirIn) (r : Reg) (j : Nat) : (c.setDi i v).reg r j = c.reg r j := rfl
@[simp] theorem Core.setDi_get (c : Core) (i : Nat) (v : DirIn) (f : Fld) (j : Nat) : (c.setDi i v).get f j = c.get f j := rfl
@[simp] theorem Core.setDi_bit (c : Core) (i : Nat) (v : DirIn) (f : Fld) (j : Nat) : (c.setDi i v).bit f j = c.bit f j := rfl
@[simp] theorem Core.ringAt_setRing (c : Core) (i : Nat) (v : Ring) : (c.setRing i v).ringAt i = v := Tab.get_set_self ..
theorem Core.ringAt_setRing_ne (c : Core) {i j : Nat} (v : Ring) (h : i ≠ j) : (c.setRing i v).ringAt j = c.ringAt j := Tab.get_set_ne _ _ v h
@[simp] theorem Core.setRing_regs (c : Core) (i : Nat) (v : Ring) : (c.setRing i v).regs = c.regs := rfl
@[simp] theorem Core.setRing_pat (c : Core) (i : Nat) (v : Ring) : (c.setRing i v).pat = c.pat := rfl
@[simp] theorem Core.setRing_prof (c : Core) (i : Nat) (v : Ring) : (c.setRing i v).prof = c.prof := rfl
@[simp] theorem Core.setRing_igs (c : Core) (i : Nat) (v : Ring) : (c.setRing i v).igs = c.igs := rfl
@[simp] theorem Core.setRing_steps (c : Core) (i : Nat) (v : Ring) : (c.setRing i v).steps = c.steps := rfl
@[simp] theorem Core.setRing_loops (c : Core) (i : Nat) (v : Ring) : (c.setRing i v).loops = c.loops := rfl
@[simp] theorem Core.setRing_snaps (c : Core) (i : Nat) (v : Ring) : (c.setRing i v).snaps = c.snaps := rfl
@[simp] theorem Core.setRing_ctxs (c : Core) (i : Nat) (v : Ring) : (c.setRing i v).ctxs = c.ctxs := rfl
@[simp] theorem Core.setRing_ests (c : Core) (i : Nat) (v : Ring) : (c.setRing i v).ests = c.ests := rfl
@[simp] theorem Core.setRing_lanes (c : Core) (i : Nat) (v : Ring) : (c.setRing i v).lanes = c.lanes := rfl
@[simp] theorem Core.setRing_ports (c : Core) (i : Nat) (v : Ring) : (c.setRing i v).ports = c.ports := rfl
@[simp] theorem Core.setRing_reps (c : Core) (i : Nat) (v : Ring) : (c.setRing i v).reps = c.reps := rfl
@[simp] theorem Core.setRing_time (c : Core) (i : Nat) (v : Ring) : (c.setRing i v).time = c.time := rfl
@[simp] theorem Core.setRing_backSec (c : Core) (i : Nat) (v : Ring) : (c.setRing i v).backSec = c.backSec := rfl
@[simp] theorem Core.setRing_backSub (c : Core) (i : Nat) (v : Ring) : (c.setRing i v).backSub = c.backSub := rfl
@[simp] theorem Core.setRing_backPhase (c : Core) (i : Nat) (v : Ring) : (c.setRing i v).backPhase = c.backPhase := rfl
@[simp] theorem Core.setRing_backKept (c : Core) (i : Nat) (v : Ring) : (c.setRing i v).backKept = c.backKept := rfl
@[simp] theorem Core.setRing_dirIn (c : Core) (i : Nat) (v : Ring) : (c.setRing i v).dirIn = c.dirIn := rfl
@[simp] theorem Core.setRing_query (c : Core) (i : Nat) (v : Ring) : (c.setRing i v).query = c.query := rfl
@[simp] theorem Core.setRing_grids (c : Core) (i : Nat) (v : Ring) : (c.setRing i v).grids = c.grids := rfl
@[simp] theorem Core.setRing_engines (c : Core) (i : Nat) (v : Ring) : (c.setRing i v).engines = c.engines := rfl
@[simp] theorem Core.setRing_sched (c : Core) (i : Nat) (v : Ring) : (c.setRing i v).sched = c.sched := rfl
@[simp] theorem Core.setRing_bridle (c : Core) (i : Nat) (v : Ring) : (c.setRing i v).bridle = c.bridle := rfl
@[simp] theorem Core.setRing_latchRec (c : Core) (i : Nat) (v : Ring) : (c.setRing i v).latchRec = c.latchRec := rfl
@[simp] theorem Core.setRing_frecIncarn (c : Core) (i : Nat) (v : Ring) : (c.setRing i v).frecIncarn = c.frecIncarn := rfl
@[simp] theorem Core.setRing_canObjs (c : Core) (i : Nat) (v : Ring) : (c.setRing i v).canObjs = c.canObjs := rfl
@[simp] theorem Core.setRing_canChs (c : Core) (i : Nat) (v : Ring) : (c.setRing i v).canChs = c.canChs := rfl
@[simp] theorem Core.setRing_strings (c : Core) (i : Nat) (v : Ring) : (c.setRing i v).strings = c.strings := rfl
@[simp] theorem Core.setRing_isl (c : Core) (i : Nat) (v : Ring) : (c.setRing i v).isl = c.isl := rfl
@[simp] theorem Core.setRing_woken (c : Core) (i : Nat) (v : Ring) : (c.setRing i v).woken = c.woken := rfl
@[simp] theorem Core.setRing_crossings (c : Core) (i : Nat) (v : Ring) : (c.setRing i v).crossings = c.crossings := rfl
@[simp] theorem Core.setRing_banks (c : Core) (i : Nat) (v : Ring) : (c.setRing i v).banks = c.banks := rfl
@[simp] theorem Core.setRing_loader (c : Core) (i : Nat) (v : Ring) : (c.setRing i v).loader = c.loader := rfl
@[simp] theorem Core.setRing_twin (c : Core) (i : Nat) (v : Ring) : (c.setRing i v).twin = c.twin := rfl
@[simp] theorem Core.setRing_power (c : Core) (i : Nat) (v : Ring) : (c.setRing i v).power = c.power := rfl
@[simp] theorem Core.setRing_rst (c : Core) (i : Nat) (v : Ring) : (c.setRing i v).rst = c.rst := rfl
@[simp] theorem Core.setRing_sad (c : Core) (i : Nat) (v : Ring) : (c.setRing i v).sad = c.sad := rfl
@[simp] theorem Core.setRing_sessions (c : Core) (i : Nat) (v : Ring) : (c.setRing i v).sessions = c.sessions := rfl
@[simp] theorem Core.setRing_sessAge (c : Core) (i : Nat) (v : Ring) : (c.setRing i v).sessAge = c.sessAge := rfl
@[simp] theorem Core.setRing_pendLow (c : Core) (i : Nat) (v : Ring) : (c.setRing i v).pendLow = c.pendLow := rfl
@[simp] theorem Core.setRing_hold (c : Core) (i : Nat) (v : Ring) : (c.setRing i v).hold = c.hold := rfl
@[simp] theorem Core.setRing_stalls (c : Core) (i : Nat) (v : Ring) : (c.setRing i v).stalls = c.stalls := rfl
@[simp] theorem Core.setRing_strapWait (c : Core) (i : Nat) (v : Ring) : (c.setRing i v).strapWait = c.strapWait := rfl
@[simp] theorem Core.setRing_strapQ (c : Core) (i : Nat) (v : Ring) : (c.setRing i v).strapQ = c.strapQ := rfl
@[simp] theorem Core.setRing_wdHeld (c : Core) (i : Nat) (v : Ring) : (c.setRing i v).wdHeld = c.wdHeld := rfl
@[simp] theorem Core.setRing_patFlash (c : Core) (i : Nat) (v : Ring) : (c.setRing i v).patFlash = c.patFlash := rfl
@[simp] theorem Core.setRing_imgFlash (c : Core) (i : Nat) (v : Ring) : (c.setRing i v).imgFlash = c.imgFlash := rfl
@[simp] theorem Core.setRing_keys (c : Core) (i : Nat) (v : Ring) : (c.setRing i v).keys = c.keys := rfl
@[simp] theorem Core.setRing_pos0 (c : Core) (i : Nat) (v : Ring) : (c.setRing i v).pos0 = c.pos0 := rfl
@[simp] theorem Core.setRing_pos1 (c : Core) (i : Nat) (v : Ring) : (c.setRing i v).pos1 = c.pos1 := rfl
@[simp] theorem Core.setRing_ipSet (c : Core) (i : Nat) (v : Ring) : (c.setRing i v).ipSet = c.ipSet := rfl
@[simp] theorem Core.setRing_livePorts (c : Core) (i : Nat) (v : Ring) : (c.setRing i v).livePorts = c.livePorts := rfl
@[simp] theorem Core.setRing_liveVlan (c : Core) (i : Nat) (v : Ring) : (c.setRing i v).liveVlan = c.liveVlan := rfl
@[simp] theorem Core.setRing_ipLive (c : Core) (i : Nat) (v : Ring) : (c.setRing i v).ipLive = c.ipLive := rfl
@[simp] theorem Core.setRing_silent (c : Core) (i : Nat) (v : Ring) : (c.setRing i v).silent = c.silent := rfl
@[simp] theorem Core.setRing_lockAns (c : Core) (i : Nat) (v : Ring) : (c.setRing i v).lockAns = c.lockAns := rfl
@[simp] theorem Core.setRing_deferred (c : Core) (i : Nat) (v : Ring) : (c.setRing i v).deferred = c.deferred := rfl
@[simp] theorem Core.setRing_memq (c : Core) (i : Nat) (v : Ring) : (c.setRing i v).memq = c.memq := rfl
@[simp] theorem Core.setRing_freeIdx (c : Core) (i : Nat) (v : Ring) : (c.setRing i v).freeIdx = c.freeIdx := rfl
@[simp] theorem Core.setRing_acc (c : Core) (i : Nat) (v : Ring) : (c.setRing i v).acc = c.acc := rfl
@[simp] theorem Core.setRing_out (c : Core) (i : Nat) (v : Ring) : (c.setRing i v).out = c.out := rfl
@[simp] theorem Core.setRing_reg (c : Core) (i : Nat) (v : Ring) (r : Reg) (j : Nat) : (c.setRing i v).reg r j = c.reg r j := rfl
@[simp] theorem Core.setRing_get (c : Core) (i : Nat) (v : Ring) (f : Fld) (j : Nat) : (c.setRing i v).get f j = c.get f j := rfl
@[simp] theorem Core.setRing_bit (c : Core) (i : Nat) (v : Ring) (f : Fld) (j : Nat) : (c.setRing i v).bit f j = c.bit f j := rfl
@[simp] theorem Core.gridAt_setGrid (c : Core) (i : Nat) (v : Grid) : (c.setGrid i v).gridAt i = v := Tab.get_set_self ..
theorem Core.gridAt_setGrid_ne (c : Core) {i j : Nat} (v : Grid) (h : i ≠ j) : (c.setGrid i v).gridAt j = c.gridAt j := Tab.get_set_ne _ _ v h
@[simp] theorem Core.setGrid_regs (c : Core) (i : Nat) (v : Grid) : (c.setGrid i v).regs = c.regs := rfl
@[simp] theorem Core.setGrid_pat (c : Core) (i : Nat) (v : Grid) : (c.setGrid i v).pat = c.pat := rfl
@[simp] theorem Core.setGrid_prof (c : Core) (i : Nat) (v : Grid) : (c.setGrid i v).prof = c.prof := rfl
@[simp] theorem Core.setGrid_igs (c : Core) (i : Nat) (v : Grid) : (c.setGrid i v).igs = c.igs := rfl
@[simp] theorem Core.setGrid_steps (c : Core) (i : Nat) (v : Grid) : (c.setGrid i v).steps = c.steps := rfl
@[simp] theorem Core.setGrid_loops (c : Core) (i : Nat) (v : Grid) : (c.setGrid i v).loops = c.loops := rfl
@[simp] theorem Core.setGrid_snaps (c : Core) (i : Nat) (v : Grid) : (c.setGrid i v).snaps = c.snaps := rfl
@[simp] theorem Core.setGrid_ctxs (c : Core) (i : Nat) (v : Grid) : (c.setGrid i v).ctxs = c.ctxs := rfl
@[simp] theorem Core.setGrid_ests (c : Core) (i : Nat) (v : Grid) : (c.setGrid i v).ests = c.ests := rfl
@[simp] theorem Core.setGrid_lanes (c : Core) (i : Nat) (v : Grid) : (c.setGrid i v).lanes = c.lanes := rfl
@[simp] theorem Core.setGrid_ports (c : Core) (i : Nat) (v : Grid) : (c.setGrid i v).ports = c.ports := rfl
@[simp] theorem Core.setGrid_reps (c : Core) (i : Nat) (v : Grid) : (c.setGrid i v).reps = c.reps := rfl
@[simp] theorem Core.setGrid_time (c : Core) (i : Nat) (v : Grid) : (c.setGrid i v).time = c.time := rfl
@[simp] theorem Core.setGrid_backSec (c : Core) (i : Nat) (v : Grid) : (c.setGrid i v).backSec = c.backSec := rfl
@[simp] theorem Core.setGrid_backSub (c : Core) (i : Nat) (v : Grid) : (c.setGrid i v).backSub = c.backSub := rfl
@[simp] theorem Core.setGrid_backPhase (c : Core) (i : Nat) (v : Grid) : (c.setGrid i v).backPhase = c.backPhase := rfl
@[simp] theorem Core.setGrid_backKept (c : Core) (i : Nat) (v : Grid) : (c.setGrid i v).backKept = c.backKept := rfl
@[simp] theorem Core.setGrid_dirIn (c : Core) (i : Nat) (v : Grid) : (c.setGrid i v).dirIn = c.dirIn := rfl
@[simp] theorem Core.setGrid_rings (c : Core) (i : Nat) (v : Grid) : (c.setGrid i v).rings = c.rings := rfl
@[simp] theorem Core.setGrid_query (c : Core) (i : Nat) (v : Grid) : (c.setGrid i v).query = c.query := rfl
@[simp] theorem Core.setGrid_engines (c : Core) (i : Nat) (v : Grid) : (c.setGrid i v).engines = c.engines := rfl
@[simp] theorem Core.setGrid_sched (c : Core) (i : Nat) (v : Grid) : (c.setGrid i v).sched = c.sched := rfl
@[simp] theorem Core.setGrid_bridle (c : Core) (i : Nat) (v : Grid) : (c.setGrid i v).bridle = c.bridle := rfl
@[simp] theorem Core.setGrid_latchRec (c : Core) (i : Nat) (v : Grid) : (c.setGrid i v).latchRec = c.latchRec := rfl
@[simp] theorem Core.setGrid_frecIncarn (c : Core) (i : Nat) (v : Grid) : (c.setGrid i v).frecIncarn = c.frecIncarn := rfl
@[simp] theorem Core.setGrid_canObjs (c : Core) (i : Nat) (v : Grid) : (c.setGrid i v).canObjs = c.canObjs := rfl
@[simp] theorem Core.setGrid_canChs (c : Core) (i : Nat) (v : Grid) : (c.setGrid i v).canChs = c.canChs := rfl
@[simp] theorem Core.setGrid_strings (c : Core) (i : Nat) (v : Grid) : (c.setGrid i v).strings = c.strings := rfl
@[simp] theorem Core.setGrid_isl (c : Core) (i : Nat) (v : Grid) : (c.setGrid i v).isl = c.isl := rfl
@[simp] theorem Core.setGrid_woken (c : Core) (i : Nat) (v : Grid) : (c.setGrid i v).woken = c.woken := rfl
@[simp] theorem Core.setGrid_crossings (c : Core) (i : Nat) (v : Grid) : (c.setGrid i v).crossings = c.crossings := rfl
@[simp] theorem Core.setGrid_banks (c : Core) (i : Nat) (v : Grid) : (c.setGrid i v).banks = c.banks := rfl
@[simp] theorem Core.setGrid_loader (c : Core) (i : Nat) (v : Grid) : (c.setGrid i v).loader = c.loader := rfl
@[simp] theorem Core.setGrid_twin (c : Core) (i : Nat) (v : Grid) : (c.setGrid i v).twin = c.twin := rfl
@[simp] theorem Core.setGrid_power (c : Core) (i : Nat) (v : Grid) : (c.setGrid i v).power = c.power := rfl
@[simp] theorem Core.setGrid_rst (c : Core) (i : Nat) (v : Grid) : (c.setGrid i v).rst = c.rst := rfl
@[simp] theorem Core.setGrid_sad (c : Core) (i : Nat) (v : Grid) : (c.setGrid i v).sad = c.sad := rfl
@[simp] theorem Core.setGrid_sessions (c : Core) (i : Nat) (v : Grid) : (c.setGrid i v).sessions = c.sessions := rfl
@[simp] theorem Core.setGrid_sessAge (c : Core) (i : Nat) (v : Grid) : (c.setGrid i v).sessAge = c.sessAge := rfl
@[simp] theorem Core.setGrid_pendLow (c : Core) (i : Nat) (v : Grid) : (c.setGrid i v).pendLow = c.pendLow := rfl
@[simp] theorem Core.setGrid_hold (c : Core) (i : Nat) (v : Grid) : (c.setGrid i v).hold = c.hold := rfl
@[simp] theorem Core.setGrid_stalls (c : Core) (i : Nat) (v : Grid) : (c.setGrid i v).stalls = c.stalls := rfl
@[simp] theorem Core.setGrid_strapWait (c : Core) (i : Nat) (v : Grid) : (c.setGrid i v).strapWait = c.strapWait := rfl
@[simp] theorem Core.setGrid_strapQ (c : Core) (i : Nat) (v : Grid) : (c.setGrid i v).strapQ = c.strapQ := rfl
@[simp] theorem Core.setGrid_wdHeld (c : Core) (i : Nat) (v : Grid) : (c.setGrid i v).wdHeld = c.wdHeld := rfl
@[simp] theorem Core.setGrid_patFlash (c : Core) (i : Nat) (v : Grid) : (c.setGrid i v).patFlash = c.patFlash := rfl
@[simp] theorem Core.setGrid_imgFlash (c : Core) (i : Nat) (v : Grid) : (c.setGrid i v).imgFlash = c.imgFlash := rfl
@[simp] theorem Core.setGrid_keys (c : Core) (i : Nat) (v : Grid) : (c.setGrid i v).keys = c.keys := rfl
@[simp] theorem Core.setGrid_pos0 (c : Core) (i : Nat) (v : Grid) : (c.setGrid i v).pos0 = c.pos0 := rfl
@[simp] theorem Core.setGrid_pos1 (c : Core) (i : Nat) (v : Grid) : (c.setGrid i v).pos1 = c.pos1 := rfl
@[simp] theorem Core.setGrid_ipSet (c : Core) (i : Nat) (v : Grid) : (c.setGrid i v).ipSet = c.ipSet := rfl
@[simp] theorem Core.setGrid_livePorts (c : Core) (i : Nat) (v : Grid) : (c.setGrid i v).livePorts = c.livePorts := rfl
@[simp] theorem Core.setGrid_liveVlan (c : Core) (i : Nat) (v : Grid) : (c.setGrid i v).liveVlan = c.liveVlan := rfl
@[simp] theorem Core.setGrid_ipLive (c : Core) (i : Nat) (v : Grid) : (c.setGrid i v).ipLive = c.ipLive := rfl
@[simp] theorem Core.setGrid_silent (c : Core) (i : Nat) (v : Grid) : (c.setGrid i v).silent = c.silent := rfl
@[simp] theorem Core.setGrid_lockAns (c : Core) (i : Nat) (v : Grid) : (c.setGrid i v).lockAns = c.lockAns := rfl
@[simp] theorem Core.setGrid_deferred (c : Core) (i : Nat) (v : Grid) : (c.setGrid i v).deferred = c.deferred := rfl
@[simp] theorem Core.setGrid_memq (c : Core) (i : Nat) (v : Grid) : (c.setGrid i v).memq = c.memq := rfl
@[simp] theorem Core.setGrid_freeIdx (c : Core) (i : Nat) (v : Grid) : (c.setGrid i v).freeIdx = c.freeIdx := rfl
@[simp] theorem Core.setGrid_acc (c : Core) (i : Nat) (v : Grid) : (c.setGrid i v).acc = c.acc := rfl
@[simp] theorem Core.setGrid_out (c : Core) (i : Nat) (v : Grid) : (c.setGrid i v).out = c.out := rfl
@[simp] theorem Core.setGrid_reg (c : Core) (i : Nat) (v : Grid) (r : Reg) (j : Nat) : (c.setGrid i v).reg r j = c.reg r j := rfl
@[simp] theorem Core.setGrid_get (c : Core) (i : Nat) (v : Grid) (f : Fld) (j : Nat) : (c.setGrid i v).get f j = c.get f j := rfl
@[simp] theorem Core.setGrid_bit (c : Core) (i : Nat) (v : Grid) (f : Fld) (j : Nat) : (c.setGrid i v).bit f j = c.bit f j := rfl
@[simp] theorem Core.engAt_setEng (c : Core) (i : Nat) (v : Engine) : (c.setEng i v).engAt i = v := Tab.get_set_self ..
theorem Core.engAt_setEng_ne (c : Core) {i j : Nat} (v : Engine) (h : i ≠ j) : (c.setEng i v).engAt j = c.engAt j := Tab.get_set_ne _ _ v h
@[simp] theorem Core.setEng_regs (c : Core) (i : Nat) (v : Engine) : (c.setEng i v).regs = c.regs := rfl
@[simp] theorem Core.setEng_pat (c : Core) (i : Nat) (v : Engine) : (c.setEng i v).pat = c.pat := rfl
@[simp] theorem Core.setEng_prof (c : Core) (i : Nat) (v : Engine) : (c.setEng i v).prof = c.prof := rfl
@[simp] theorem Core.setEng_igs (c : Core) (i : Nat) (v : Engine) : (c.setEng i v).igs = c.igs := rfl
@[simp] theorem Core.setEng_steps (c : Core) (i : Nat) (v : Engine) : (c.setEng i v).steps = c.steps := rfl
@[simp] theorem Core.setEng_loops (c : Core) (i : Nat) (v : Engine) : (c.setEng i v).loops = c.loops := rfl
@[simp] theorem Core.setEng_snaps (c : Core) (i : Nat) (v : Engine) : (c.setEng i v).snaps = c.snaps := rfl
@[simp] theorem Core.setEng_ctxs (c : Core) (i : Nat) (v : Engine) : (c.setEng i v).ctxs = c.ctxs := rfl
@[simp] theorem Core.setEng_ests (c : Core) (i : Nat) (v : Engine) : (c.setEng i v).ests = c.ests := rfl
@[simp] theorem Core.setEng_lanes (c : Core) (i : Nat) (v : Engine) : (c.setEng i v).lanes = c.lanes := rfl
@[simp] theorem Core.setEng_ports (c : Core) (i : Nat) (v : Engine) : (c.setEng i v).ports = c.ports := rfl
@[simp] theorem Core.setEng_reps (c : Core) (i : Nat) (v : Engine) : (c.setEng i v).reps = c.reps := rfl
@[simp] theorem Core.setEng_time (c : Core) (i : Nat) (v : Engine) : (c.setEng i v).time = c.time := rfl
@[simp] theorem Core.setEng_backSec (c : Core) (i : Nat) (v : Engine) : (c.setEng i v).backSec = c.backSec := rfl
@[simp] theorem Core.setEng_backSub (c : Core) (i : Nat) (v : Engine) : (c.setEng i v).backSub = c.backSub := rfl
@[simp] theorem Core.setEng_backPhase (c : Core) (i : Nat) (v : Engine) : (c.setEng i v).backPhase = c.backPhase := rfl
@[simp] theorem Core.setEng_backKept (c : Core) (i : Nat) (v : Engine) : (c.setEng i v).backKept = c.backKept := rfl
@[simp] theorem Core.setEng_dirIn (c : Core) (i : Nat) (v : Engine) : (c.setEng i v).dirIn = c.dirIn := rfl
@[simp] theorem Core.setEng_rings (c : Core) (i : Nat) (v : Engine) : (c.setEng i v).rings = c.rings := rfl
@[simp] theorem Core.setEng_query (c : Core) (i : Nat) (v : Engine) : (c.setEng i v).query = c.query := rfl
@[simp] theorem Core.setEng_grids (c : Core) (i : Nat) (v : Engine) : (c.setEng i v).grids = c.grids := rfl
@[simp] theorem Core.setEng_sched (c : Core) (i : Nat) (v : Engine) : (c.setEng i v).sched = c.sched := rfl
@[simp] theorem Core.setEng_bridle (c : Core) (i : Nat) (v : Engine) : (c.setEng i v).bridle = c.bridle := rfl
@[simp] theorem Core.setEng_latchRec (c : Core) (i : Nat) (v : Engine) : (c.setEng i v).latchRec = c.latchRec := rfl
@[simp] theorem Core.setEng_frecIncarn (c : Core) (i : Nat) (v : Engine) : (c.setEng i v).frecIncarn = c.frecIncarn := rfl
@[simp] theorem Core.setEng_canObjs (c : Core) (i : Nat) (v : Engine) : (c.setEng i v).canObjs = c.canObjs := rfl
@[simp] theorem Core.setEng_canChs (c : Core) (i : Nat) (v : Engine) : (c.setEng i v).canChs = c.canChs := rfl
@[simp] theorem Core.setEng_strings (c : Core) (i : Nat) (v : Engine) : (c.setEng i v).strings = c.strings := rfl
@[simp] theorem Core.setEng_isl (c : Core) (i : Nat) (v : Engine) : (c.setEng i v).isl = c.isl := rfl
@[simp] theorem Core.setEng_woken (c : Core) (i : Nat) (v : Engine) : (c.setEng i v).woken = c.woken := rfl
@[simp] theorem Core.setEng_crossings (c : Core) (i : Nat) (v : Engine) : (c.setEng i v).crossings = c.crossings := rfl
@[simp] theorem Core.setEng_banks (c : Core) (i : Nat) (v : Engine) : (c.setEng i v).banks = c.banks := rfl
@[simp] theorem Core.setEng_loader (c : Core) (i : Nat) (v : Engine) : (c.setEng i v).loader = c.loader := rfl
@[simp] theorem Core.setEng_twin (c : Core) (i : Nat) (v : Engine) : (c.setEng i v).twin = c.twin := rfl
@[simp] theorem Core.setEng_power (c : Core) (i : Nat) (v : Engine) : (c.setEng i v).power = c.power := rfl
@[simp] theorem Core.setEng_rst (c : Core) (i : Nat) (v : Engine) : (c.setEng i v).rst = c.rst := rfl
@[simp] theorem Core.setEng_sad (c : Core) (i : Nat) (v : Engine) : (c.setEng i v).sad = c.sad := rfl
@[simp] theorem Core.setEng_sessions (c : Core) (i : Nat) (v : Engine) : (c.setEng i v).sessions = c.sessions := rfl
@[simp] theorem Core.setEng_sessAge (c : Core) (i : Nat) (v : Engine) : (c.setEng i v).sessAge = c.sessAge := rfl
@[simp] theorem Core.setEng_pendLow (c : Core) (i : Nat) (v : Engine) : (c.setEng i v).pendLow = c.pendLow := rfl
@[simp] theorem Core.setEng_hold (c : Core) (i : Nat) (v : Engine) : (c.setEng i v).hold = c.hold := rfl
@[simp] theorem Core.setEng_stalls (c : Core) (i : Nat) (v : Engine) : (c.setEng i v).stalls = c.stalls := rfl
@[simp] theorem Core.setEng_strapWait (c : Core) (i : Nat) (v : Engine) : (c.setEng i v).strapWait = c.strapWait := rfl
@[simp] theorem Core.setEng_strapQ (c : Core) (i : Nat) (v : Engine) : (c.setEng i v).strapQ = c.strapQ := rfl
@[simp] theorem Core.setEng_wdHeld (c : Core) (i : Nat) (v : Engine) : (c.setEng i v).wdHeld = c.wdHeld := rfl
@[simp] theorem Core.setEng_patFlash (c : Core) (i : Nat) (v : Engine) : (c.setEng i v).patFlash = c.patFlash := rfl
@[simp] theorem Core.setEng_imgFlash (c : Core) (i : Nat) (v : Engine) : (c.setEng i v).imgFlash = c.imgFlash := rfl
@[simp] theorem Core.setEng_keys (c : Core) (i : Nat) (v : Engine) : (c.setEng i v).keys = c.keys := rfl
@[simp] theorem Core.setEng_pos0 (c : Core) (i : Nat) (v : Engine) : (c.setEng i v).pos0 = c.pos0 := rfl
@[simp] theorem Core.setEng_pos1 (c : Core) (i : Nat) (v : Engine) : (c.setEng i v).pos1 = c.pos1 := rfl
@[simp] theorem Core.setEng_ipSet (c : Core) (i : Nat) (v : Engine) : (c.setEng i v).ipSet = c.ipSet := rfl
@[simp] theorem Core.setEng_livePorts (c : Core) (i : Nat) (v : Engine) : (c.setEng i v).livePorts = c.livePorts := rfl
@[simp] theorem Core.setEng_liveVlan (c : Core) (i : Nat) (v : Engine) : (c.setEng i v).liveVlan = c.liveVlan := rfl
@[simp] theorem Core.setEng_ipLive (c : Core) (i : Nat) (v : Engine) : (c.setEng i v).ipLive = c.ipLive := rfl
@[simp] theorem Core.setEng_silent (c : Core) (i : Nat) (v : Engine) : (c.setEng i v).silent = c.silent := rfl
@[simp] theorem Core.setEng_lockAns (c : Core) (i : Nat) (v : Engine) : (c.setEng i v).lockAns = c.lockAns := rfl
@[simp] theorem Core.setEng_deferred (c : Core) (i : Nat) (v : Engine) : (c.setEng i v).deferred = c.deferred := rfl
@[simp] theorem Core.setEng_memq (c : Core) (i : Nat) (v : Engine) : (c.setEng i v).memq = c.memq := rfl
@[simp] theorem Core.setEng_freeIdx (c : Core) (i : Nat) (v : Engine) : (c.setEng i v).freeIdx = c.freeIdx := rfl
@[simp] theorem Core.setEng_acc (c : Core) (i : Nat) (v : Engine) : (c.setEng i v).acc = c.acc := rfl
@[simp] theorem Core.setEng_out (c : Core) (i : Nat) (v : Engine) : (c.setEng i v).out = c.out := rfl
@[simp] theorem Core.setEng_reg (c : Core) (i : Nat) (v : Engine) (r : Reg) (j : Nat) : (c.setEng i v).reg r j = c.reg r j := rfl
@[simp] theorem Core.setEng_get (c : Core) (i : Nat) (v : Engine) (f : Fld) (j : Nat) : (c.setEng i v).get f j = c.get f j := rfl
@[simp] theorem Core.setEng_bit (c : Core) (i : Nat) (v : Engine) (f : Fld) (j : Nat) : (c.setEng i v).bit f j = c.bit f j := rfl
@[simp] theorem Core.canObjAt_setCanObj (c : Core) (i : Nat) (v : CanObj) : (c.setCanObj i v).canObjAt i = v := Tab.get_set_self ..
theorem Core.canObjAt_setCanObj_ne (c : Core) {i j : Nat} (v : CanObj) (h : i ≠ j) : (c.setCanObj i v).canObjAt j = c.canObjAt j := Tab.get_set_ne _ _ v h
@[simp] theorem Core.setCanObj_regs (c : Core) (i : Nat) (v : CanObj) : (c.setCanObj i v).regs = c.regs := rfl
@[simp] theorem Core.setCanObj_pat (c : Core) (i : Nat) (v : CanObj) : (c.setCanObj i v).pat = c.pat := rfl
@[simp] theorem Core.setCanObj_prof (c : Core) (i : Nat) (v : CanObj) : (c.setCanObj i v).prof = c.prof := rfl
@[simp] theorem Core.setCanObj_igs (c : Core) (i : Nat) (v : CanObj) : (c.setCanObj i v).igs = c.igs := rfl
@[simp] theorem Core.setCanObj_steps (c : Core) (i : Nat) (v : CanObj) : (c.setCanObj i v).steps = c.steps := rfl
@[simp] theorem Core.setCanObj_loops (c : Core) (i : Nat) (v : CanObj) : (c.setCanObj i v).loops = c.loops := rfl
@[simp] theorem Core.setCanObj_snaps (c : Core) (i : Nat) (v : CanObj) : (c.setCanObj i v).snaps = c.snaps := rfl
@[simp] theorem Core.setCanObj_ctxs (c : Core) (i : Nat) (v : CanObj) : (c.setCanObj i v).ctxs = c.ctxs := rfl
@[simp] theorem Core.setCanObj_ests (c : Core) (i : Nat) (v : CanObj) : (c.setCanObj i v).ests = c.ests := rfl
@[simp] theorem Core.setCanObj_lanes (c : Core) (i : Nat) (v : CanObj) : (c.setCanObj i v).lanes = c.lanes := rfl
@[simp] theorem Core.setCanObj_ports (c : Core) (i : Nat) (v : CanObj) : (c.setCanObj i v).ports = c.ports := rfl
@[simp] theorem Core.setCanObj_reps (c : Core) (i : Nat) (v : CanObj) : (c.setCanObj i v).reps = c.reps := rfl
@[simp] theorem Core.setCanObj_time (c : Core) (i : Nat) (v : CanObj) : (c.setCanObj i v).time = c.time := rfl
@[simp] theorem Core.setCanObj_backSec (c : Core) (i : Nat) (v : CanObj) : (c.setCanObj i v).backSec = c.backSec := rfl
@[simp] theorem Core.setCanObj_backSub (c : Core) (i : Nat) (v : CanObj) : (c.setCanObj i v).backSub = c.backSub := rfl
@[simp] theorem Core.setCanObj_backPhase (c : Core) (i : Nat) (v : CanObj) : (c.setCanObj i v).backPhase = c.backPhase := rfl
@[simp] theorem Core.setCanObj_backKept (c : Core) (i : Nat) (v : CanObj) : (c.setCanObj i v).backKept = c.backKept := rfl
@[simp] theorem Core.setCanObj_dirIn (c : Core) (i : Nat) (v : CanObj) : (c.setCanObj i v).dirIn = c.dirIn := rfl
@[simp] theorem Core.setCanObj_rings (c : Core) (i : Nat) (v : CanObj) : (c.setCanObj i v).rings = c.rings := rfl
@[simp] theorem Core.setCanObj_query (c : Core) (i : Nat) (v : CanObj) : (c.setCanObj i v).query = c.query := rfl
@[simp] theorem Core.setCanObj_grids (c : Core) (i : Nat) (v : CanObj) : (c.setCanObj i v).grids = c.grids := rfl
@[simp] theorem Core.setCanObj_engines (c : Core) (i : Nat) (v : CanObj) : (c.setCanObj i v).engines = c.engines := rfl
@[simp] theorem Core.setCanObj_sched (c : Core) (i : Nat) (v : CanObj) : (c.setCanObj i v).sched = c.sched := rfl
@[simp] theorem Core.setCanObj_bridle (c : Core) (i : Nat) (v : CanObj) : (c.setCanObj i v).bridle = c.bridle := rfl
@[simp] theorem Core.setCanObj_latchRec (c : Core) (i : Nat) (v : CanObj) : (c.setCanObj i v).latchRec = c.latchRec := rfl
@[simp] theorem Core.setCanObj_frecIncarn (c : Core) (i : Nat) (v : CanObj) : (c.setCanObj i v).frecIncarn = c.frecIncarn := rfl
@[simp] theorem Core.setCanObj_canChs (c : Core) (i : Nat) (v : CanObj) : (c.setCanObj i v).canChs = c.canChs := rfl
@[simp] theorem Core.setCanObj_strings (c : Core) (i : Nat) (v : CanObj) : (c.setCanObj i v).strings = c.strings := rfl
@[simp] theorem Core.setCanObj_isl (c : Core) (i : Nat) (v : CanObj) : (c.setCanObj i v).isl = c.isl := rfl
@[simp] theorem Core.setCanObj_woken (c : Core) (i : Nat) (v : CanObj) : (c.setCanObj i v).woken = c.woken := rfl
@[simp] theorem Core.setCanObj_crossings (c : Core) (i : Nat) (v : CanObj) : (c.setCanObj i v).crossings = c.crossings := rfl
@[simp] theorem Core.setCanObj_banks (c : Core) (i : Nat) (v : CanObj) : (c.setCanObj i v).banks = c.banks := rfl
@[simp] theorem Core.setCanObj_loader (c : Core) (i : Nat) (v : CanObj) : (c.setCanObj i v).loader = c.loader := rfl
@[simp] theorem Core.setCanObj_twin (c : Core) (i : Nat) (v : CanObj) : (c.setCanObj i v).twin = c.twin := rfl
@[simp] theorem Core.setCanObj_power (c : Core) (i : Nat) (v : CanObj) : (c.setCanObj i v).power = c.power := rfl
@[simp] theorem Core.setCanObj_rst (c : Core) (i : Nat) (v : CanObj) : (c.setCanObj i v).rst = c.rst := rfl
@[simp] theorem Core.setCanObj_sad (c : Core) (i : Nat) (v : CanObj) : (c.setCanObj i v).sad = c.sad := rfl
@[simp] theorem Core.setCanObj_sessions (c : Core) (i : Nat) (v : CanObj) : (c.setCanObj i v).sessions = c.sessions := rfl
@[simp] theorem Core.setCanObj_sessAge (c : Core) (i : Nat) (v : CanObj) : (c.setCanObj i v).sessAge = c.sessAge := rfl
@[simp] theorem Core.setCanObj_pendLow (c : Core) (i : Nat) (v : CanObj) : (c.setCanObj i v).pendLow = c.pendLow := rfl
@[simp] theorem Core.setCanObj_hold (c : Core) (i : Nat) (v : CanObj) : (c.setCanObj i v).hold = c.hold := rfl
@[simp] theorem Core.setCanObj_stalls (c : Core) (i : Nat) (v : CanObj) : (c.setCanObj i v).stalls = c.stalls := rfl
@[simp] theorem Core.setCanObj_strapWait (c : Core) (i : Nat) (v : CanObj) : (c.setCanObj i v).strapWait = c.strapWait := rfl
@[simp] theorem Core.setCanObj_strapQ (c : Core) (i : Nat) (v : CanObj) : (c.setCanObj i v).strapQ = c.strapQ := rfl
@[simp] theorem Core.setCanObj_wdHeld (c : Core) (i : Nat) (v : CanObj) : (c.setCanObj i v).wdHeld = c.wdHeld := rfl
@[simp] theorem Core.setCanObj_patFlash (c : Core) (i : Nat) (v : CanObj) : (c.setCanObj i v).patFlash = c.patFlash := rfl
@[simp] theorem Core.setCanObj_imgFlash (c : Core) (i : Nat) (v : CanObj) : (c.setCanObj i v).imgFlash = c.imgFlash := rfl
@[simp] theorem Core.setCanObj_keys (c : Core) (i : Nat) (v : CanObj) : (c.setCanObj i v).keys = c.keys := rfl
@[simp] theorem Core.setCanObj_pos0 (c : Core) (i : Nat) (v : CanObj) : (c.setCanObj i v).pos0 = c.pos0 := rfl
@[simp] theorem Core.setCanObj_pos1 (c : Core) (i : Nat) (v : CanObj) : (c.setCanObj i v).pos1 = c.pos1 := rfl
@[simp] theorem Core.setCanObj_ipSet (c : Core) (i : Nat) (v : CanObj) : (c.setCanObj i v).ipSet = c.ipSet := rfl
@[simp] theorem Core.setCanObj_livePorts (c : Core) (i : Nat) (v : CanObj) : (c.setCanObj i v).livePorts = c.livePorts := rfl
@[simp] theorem Core.setCanObj_liveVlan (c : Core) (i : Nat) (v : CanObj) : (c.setCanObj i v).liveVlan = c.liveVlan := rfl
@[simp] theorem Core.setCanObj_ipLive (c : Core) (i : Nat) (v : CanObj) : (c.setCanObj i v).ipLive = c.ipLive := rfl
@[simp] theorem Core.setCanObj_silent (c : Core) (i : Nat) (v : CanObj) : (c.setCanObj i v).silent = c.silent := rfl
@[simp] theorem Core.setCanObj_lockAns (c : Core) (i : Nat) (v : CanObj) : (c.setCanObj i v).lockAns = c.lockAns := rfl
@[simp] theorem Core.setCanObj_deferred (c : Core) (i : Nat) (v : CanObj) : (c.setCanObj i v).deferred = c.deferred := rfl
@[simp] theorem Core.setCanObj_memq (c : Core) (i : Nat) (v : CanObj) : (c.setCanObj i v).memq = c.memq := rfl
@[simp] theorem Core.setCanObj_freeIdx (c : Core) (i : Nat) (v : CanObj) : (c.setCanObj i v).freeIdx = c.freeIdx := rfl
@[simp] theorem Core.setCanObj_acc (c : Core) (i : Nat) (v : CanObj) : (c.setCanObj i v).acc = c.acc := rfl
@[simp] theorem Core.setCanObj_out (c : Core) (i : Nat) (v : CanObj) : (c.setCanObj i v).out = c.out := rfl
@[simp] theorem Core.setCanObj_reg (c : Core) (i : Nat) (v : CanObj) (r : Reg) (j : Nat) : (c.setCanObj i v).reg r j = c.reg r j := rfl
@[simp] theorem Core.setCanObj_get (c : Core) (i : Nat) (v : CanObj) (f : Fld) (j : Nat) : (c.setCanObj i v).get f j = c.get f j := rfl
@[simp] theorem Core.setCanObj_bit (c : Core) (i : Nat) (v : CanObj) (f : Fld) (j : Nat) : (c.setCanObj i v).bit f j = c.bit f j := rfl
@[simp] theorem Core.canChAt_setCanCh (c : Core) (i : Nat) (v : CanCh) : (c.setCanCh i v).canChAt i = v := Tab.get_set_self ..
theorem Core.canChAt_setCanCh_ne (c : Core) {i j : Nat} (v : CanCh) (h : i ≠ j) : (c.setCanCh i v).canChAt j = c.canChAt j := Tab.get_set_ne _ _ v h
@[simp] theorem Core.setCanCh_regs (c : Core) (i : Nat) (v : CanCh) : (c.setCanCh i v).regs = c.regs := rfl
@[simp] theorem Core.setCanCh_pat (c : Core) (i : Nat) (v : CanCh) : (c.setCanCh i v).pat = c.pat := rfl
@[simp] theorem Core.setCanCh_prof (c : Core) (i : Nat) (v : CanCh) : (c.setCanCh i v).prof = c.prof := rfl
@[simp] theorem Core.setCanCh_igs (c : Core) (i : Nat) (v : CanCh) : (c.setCanCh i v).igs = c.igs := rfl
@[simp] theorem Core.setCanCh_steps (c : Core) (i : Nat) (v : CanCh) : (c.setCanCh i v).steps = c.steps := rfl
@[simp] theorem Core.setCanCh_loops (c : Core) (i : Nat) (v : CanCh) : (c.setCanCh i v).loops = c.loops := rfl
@[simp] theorem Core.setCanCh_snaps (c : Core) (i : Nat) (v : CanCh) : (c.setCanCh i v).snaps = c.snaps := rfl
@[simp] theorem Core.setCanCh_ctxs (c : Core) (i : Nat) (v : CanCh) : (c.setCanCh i v).ctxs = c.ctxs := rfl
@[simp] theorem Core.setCanCh_ests (c : Core) (i : Nat) (v : CanCh) : (c.setCanCh i v).ests = c.ests := rfl
@[simp] theorem Core.setCanCh_lanes (c : Core) (i : Nat) (v : CanCh) : (c.setCanCh i v).lanes = c.lanes := rfl
@[simp] theorem Core.setCanCh_ports (c : Core) (i : Nat) (v : CanCh) : (c.setCanCh i v).ports = c.ports := rfl
@[simp] theorem Core.setCanCh_reps (c : Core) (i : Nat) (v : CanCh) : (c.setCanCh i v).reps = c.reps := rfl
@[simp] theorem Core.setCanCh_time (c : Core) (i : Nat) (v : CanCh) : (c.setCanCh i v).time = c.time := rfl
@[simp] theorem Core.setCanCh_backSec (c : Core) (i : Nat) (v : CanCh) : (c.setCanCh i v).backSec = c.backSec := rfl
@[simp] theorem Core.setCanCh_backSub (c : Core) (i : Nat) (v : CanCh) : (c.setCanCh i v).backSub = c.backSub := rfl
@[simp] theorem Core.setCanCh_backPhase (c : Core) (i : Nat) (v : CanCh) : (c.setCanCh i v).backPhase = c.backPhase := rfl
@[simp] theorem Core.setCanCh_backKept (c : Core) (i : Nat) (v : CanCh) : (c.setCanCh i v).backKept = c.backKept := rfl
@[simp] theorem Core.setCanCh_dirIn (c : Core) (i : Nat) (v : CanCh) : (c.setCanCh i v).dirIn = c.dirIn := rfl
@[simp] theorem Core.setCanCh_rings (c : Core) (i : Nat) (v : CanCh) : (c.setCanCh i v).rings = c.rings := rfl
@[simp] theorem Core.setCanCh_query (c : Core) (i : Nat) (v : CanCh) : (c.setCanCh i v).query = c.query := rfl
@[simp] theorem Core.setCanCh_grids (c : Core) (i : Nat) (v : CanCh) : (c.setCanCh i v).grids = c.grids := rfl
@[simp] theorem Core.setCanCh_engines (c : Core) (i : Nat) (v : CanCh) : (c.setCanCh i v).engines = c.engines := rfl
@[simp] theorem Core.setCanCh_sched (c : Core) (i : Nat) (v : CanCh) : (c.setCanCh i v).sched = c.sched := rfl
@[simp] theorem Core.setCanCh_bridle (c : Core) (i : Nat) (v : CanCh) : (c.setCanCh i v).bridle = c.bridle := rfl
@[simp] theorem Core.setCanCh_latchRec (c : Core) (i : Nat) (v : CanCh) : (c.setCanCh i v).latchRec = c.latchRec := rfl
@[simp] theorem Core.setCanCh_frecIncarn (c : Core) (i : Nat) (v : CanCh) : (c.setCanCh i v).frecIncarn = c.frecIncarn := rfl
@[simp] theorem Core.setCanCh_canObjs (c : Core) (i : Nat) (v : CanCh) : (c.setCanCh i v).canObjs = c.canObjs := rfl
@[simp] theorem Core.setCanCh_strings (c : Core) (i : Nat) (v : CanCh) : (c.setCanCh i v).strings = c.strings := rfl
@[simp] theorem Core.setCanCh_isl (c : Core) (i : Nat) (v : CanCh) : (c.setCanCh i v).isl = c.isl := rfl
@[simp] theorem Core.setCanCh_woken (c : Core) (i : Nat) (v : CanCh) : (c.setCanCh i v).woken = c.woken := rfl
@[simp] theorem Core.setCanCh_crossings (c : Core) (i : Nat) (v : CanCh) : (c.setCanCh i v).crossings = c.crossings := rfl
@[simp] theorem Core.setCanCh_banks (c : Core) (i : Nat) (v : CanCh) : (c.setCanCh i v).banks = c.banks := rfl
@[simp] theorem Core.setCanCh_loader (c : Core) (i : Nat) (v : CanCh) : (c.setCanCh i v).loader = c.loader := rfl
@[simp] theorem Core.setCanCh_twin (c : Core) (i : Nat) (v : CanCh) : (c.setCanCh i v).twin = c.twin := rfl
@[simp] theorem Core.setCanCh_power (c : Core) (i : Nat) (v : CanCh) : (c.setCanCh i v).power = c.power := rfl
@[simp] theorem Core.setCanCh_rst (c : Core) (i : Nat) (v : CanCh) : (c.setCanCh i v).rst = c.rst := rfl
@[simp] theorem Core.setCanCh_sad (c : Core) (i : Nat) (v : CanCh) : (c.setCanCh i v).sad = c.sad := rfl
@[simp] theorem Core.setCanCh_sessions (c : Core) (i : Nat) (v : CanCh) : (c.setCanCh i v).sessions = c.sessions := rfl
@[simp] theorem Core.setCanCh_sessAge (c : Core) (i : Nat) (v : CanCh) : (c.setCanCh i v).sessAge = c.sessAge := rfl
@[simp] theorem Core.setCanCh_pendLow (c : Core) (i : Nat) (v : CanCh) : (c.setCanCh i v).pendLow = c.pendLow := rfl
@[simp] theorem Core.setCanCh_hold (c : Core) (i : Nat) (v : CanCh) : (c.setCanCh i v).hold = c.hold := rfl
@[simp] theorem Core.setCanCh_stalls (c : Core) (i : Nat) (v : CanCh) : (c.setCanCh i v).stalls = c.stalls := rfl
@[simp] theorem Core.setCanCh_strapWait (c : Core) (i : Nat) (v : CanCh) : (c.setCanCh i v).strapWait = c.strapWait := rfl
@[simp] theorem Core.setCanCh_strapQ (c : Core) (i : Nat) (v : CanCh) : (c.setCanCh i v).strapQ = c.strapQ := rfl
@[simp] theorem Core.setCanCh_wdHeld (c : Core) (i : Nat) (v : CanCh) : (c.setCanCh i v).wdHeld = c.wdHeld := rfl
@[simp] theorem Core.setCanCh_patFlash (c : Core) (i : Nat) (v : CanCh) : (c.setCanCh i v).patFlash = c.patFlash := rfl
@[simp] theorem Core.setCanCh_imgFlash (c : Core) (i : Nat) (v : CanCh) : (c.setCanCh i v).imgFlash = c.imgFlash := rfl
@[simp] theorem Core.setCanCh_keys (c : Core) (i : Nat) (v : CanCh) : (c.setCanCh i v).keys = c.keys := rfl
@[simp] theorem Core.setCanCh_pos0 (c : Core) (i : Nat) (v : CanCh) : (c.setCanCh i v).pos0 = c.pos0 := rfl
@[simp] theorem Core.setCanCh_pos1 (c : Core) (i : Nat) (v : CanCh) : (c.setCanCh i v).pos1 = c.pos1 := rfl
@[simp] theorem Core.setCanCh_ipSet (c : Core) (i : Nat) (v : CanCh) : (c.setCanCh i v).ipSet = c.ipSet := rfl
@[simp] theorem Core.setCanCh_livePorts (c : Core) (i : Nat) (v : CanCh) : (c.setCanCh i v).livePorts = c.livePorts := rfl
@[simp] theorem Core.setCanCh_liveVlan (c : Core) (i : Nat) (v : CanCh) : (c.setCanCh i v).liveVlan = c.liveVlan := rfl
@[simp] theorem Core.setCanCh_ipLive (c : Core) (i : Nat) (v : CanCh) : (c.setCanCh i v).ipLive = c.ipLive := rfl
@[simp] theorem Core.setCanCh_silent (c : Core) (i : Nat) (v : CanCh) : (c.setCanCh i v).silent = c.silent := rfl
@[simp] theorem Core.setCanCh_lockAns (c : Core) (i : Nat) (v : CanCh) : (c.setCanCh i v).lockAns = c.lockAns := rfl
@[simp] theorem Core.setCanCh_deferred (c : Core) (i : Nat) (v : CanCh) : (c.setCanCh i v).deferred = c.deferred := rfl
@[simp] theorem Core.setCanCh_memq (c : Core) (i : Nat) (v : CanCh) : (c.setCanCh i v).memq = c.memq := rfl
@[simp] theorem Core.setCanCh_freeIdx (c : Core) (i : Nat) (v : CanCh) : (c.setCanCh i v).freeIdx = c.freeIdx := rfl
@[simp] theorem Core.setCanCh_acc (c : Core) (i : Nat) (v : CanCh) : (c.setCanCh i v).acc = c.acc := rfl
@[simp] theorem Core.setCanCh_out (c : Core) (i : Nat) (v : CanCh) : (c.setCanCh i v).out = c.out := rfl
@[simp] theorem Core.setCanCh_reg (c : Core) (i : Nat) (v : CanCh) (r : Reg) (j : Nat) : (c.setCanCh i v).reg r j = c.reg r j := rfl
@[simp] theorem Core.setCanCh_get (c : Core) (i : Nat) (v : CanCh) (f : Fld) (j : Nat) : (c.setCanCh i v).get f j = c.get f j := rfl
@[simp] theorem Core.setCanCh_bit (c : Core) (i : Nat) (v : CanCh) (f : Fld) (j : Nat) : (c.setCanCh i v).bit f j = c.bit f j := rfl
@[simp] theorem Core.strAt_setStr (c : Core) (i : Nat) (v : FString) : (c.setStr i v).strAt i = v := Tab.get_set_self ..
theorem Core.strAt_setStr_ne (c : Core) {i j : Nat} (v : FString) (h : i ≠ j) : (c.setStr i v).strAt j = c.strAt j := Tab.get_set_ne _ _ v h
@[simp] theorem Core.setStr_regs (c : Core) (i : Nat) (v : FString) : (c.setStr i v).regs = c.regs := rfl
@[simp] theorem Core.setStr_pat (c : Core) (i : Nat) (v : FString) : (c.setStr i v).pat = c.pat := rfl
@[simp] theorem Core.setStr_prof (c : Core) (i : Nat) (v : FString) : (c.setStr i v).prof = c.prof := rfl
@[simp] theorem Core.setStr_igs (c : Core) (i : Nat) (v : FString) : (c.setStr i v).igs = c.igs := rfl
@[simp] theorem Core.setStr_steps (c : Core) (i : Nat) (v : FString) : (c.setStr i v).steps = c.steps := rfl
@[simp] theorem Core.setStr_loops (c : Core) (i : Nat) (v : FString) : (c.setStr i v).loops = c.loops := rfl
@[simp] theorem Core.setStr_snaps (c : Core) (i : Nat) (v : FString) : (c.setStr i v).snaps = c.snaps := rfl
@[simp] theorem Core.setStr_ctxs (c : Core) (i : Nat) (v : FString) : (c.setStr i v).ctxs = c.ctxs := rfl
@[simp] theorem Core.setStr_ests (c : Core) (i : Nat) (v : FString) : (c.setStr i v).ests = c.ests := rfl
@[simp] theorem Core.setStr_lanes (c : Core) (i : Nat) (v : FString) : (c.setStr i v).lanes = c.lanes := rfl
@[simp] theorem Core.setStr_ports (c : Core) (i : Nat) (v : FString) : (c.setStr i v).ports = c.ports := rfl
@[simp] theorem Core.setStr_reps (c : Core) (i : Nat) (v : FString) : (c.setStr i v).reps = c.reps := rfl
@[simp] theorem Core.setStr_time (c : Core) (i : Nat) (v : FString) : (c.setStr i v).time = c.time := rfl
@[simp] theorem Core.setStr_backSec (c : Core) (i : Nat) (v : FString) : (c.setStr i v).backSec = c.backSec := rfl
@[simp] theorem Core.setStr_backSub (c : Core) (i : Nat) (v : FString) : (c.setStr i v).backSub = c.backSub := rfl
@[simp] theorem Core.setStr_backPhase (c : Core) (i : Nat) (v : FString) : (c.setStr i v).backPhase = c.backPhase := rfl
@[simp] theorem Core.setStr_backKept (c : Core) (i : Nat) (v : FString) : (c.setStr i v).backKept = c.backKept := rfl
@[simp] theorem Core.setStr_dirIn (c : Core) (i : Nat) (v : FString) : (c.setStr i v).dirIn = c.dirIn := rfl
@[simp] theorem Core.setStr_rings (c : Core) (i : Nat) (v : FString) : (c.setStr i v).rings = c.rings := rfl
@[simp] theorem Core.setStr_query (c : Core) (i : Nat) (v : FString) : (c.setStr i v).query = c.query := rfl
@[simp] theorem Core.setStr_grids (c : Core) (i : Nat) (v : FString) : (c.setStr i v).grids = c.grids := rfl
@[simp] theorem Core.setStr_engines (c : Core) (i : Nat) (v : FString) : (c.setStr i v).engines = c.engines := rfl
@[simp] theorem Core.setStr_sched (c : Core) (i : Nat) (v : FString) : (c.setStr i v).sched = c.sched := rfl
@[simp] theorem Core.setStr_bridle (c : Core) (i : Nat) (v : FString) : (c.setStr i v).bridle = c.bridle := rfl
@[simp] theorem Core.setStr_latchRec (c : Core) (i : Nat) (v : FString) : (c.setStr i v).latchRec = c.latchRec := rfl
@[simp] theorem Core.setStr_frecIncarn (c : Core) (i : Nat) (v : FString) : (c.setStr i v).frecIncarn = c.frecIncarn := rfl
@[simp] theorem Core.setStr_canObjs (c : Core) (i : Nat) (v : FString) : (c.setStr i v).canObjs = c.canObjs := rfl
@[simp] theorem Core.setStr_canChs (c : Core) (i : Nat) (v : FString) : (c.setStr i v).canChs = c.canChs := rfl
@[simp] theorem Core.setStr_isl (c : Core) (i : Nat) (v : FString) : (c.setStr i v).isl = c.isl := rfl
@[simp] theorem Core.setStr_woken (c : Core) (i : Nat) (v : FString) : (c.setStr i v).woken = c.woken := rfl
@[simp] theorem Core.setStr_crossings (c : Core) (i : Nat) (v : FString) : (c.setStr i v).crossings = c.crossings := rfl
@[simp] theorem Core.setStr_banks (c : Core) (i : Nat) (v : FString) : (c.setStr i v).banks = c.banks := rfl
@[simp] theorem Core.setStr_loader (c : Core) (i : Nat) (v : FString) : (c.setStr i v).loader = c.loader := rfl
@[simp] theorem Core.setStr_twin (c : Core) (i : Nat) (v : FString) : (c.setStr i v).twin = c.twin := rfl
@[simp] theorem Core.setStr_power (c : Core) (i : Nat) (v : FString) : (c.setStr i v).power = c.power := rfl
@[simp] theorem Core.setStr_rst (c : Core) (i : Nat) (v : FString) : (c.setStr i v).rst = c.rst := rfl
@[simp] theorem Core.setStr_sad (c : Core) (i : Nat) (v : FString) : (c.setStr i v).sad = c.sad := rfl
@[simp] theorem Core.setStr_sessions (c : Core) (i : Nat) (v : FString) : (c.setStr i v).sessions = c.sessions := rfl
@[simp] theorem Core.setStr_sessAge (c : Core) (i : Nat) (v : FString) : (c.setStr i v).sessAge = c.sessAge := rfl
@[simp] theorem Core.setStr_pendLow (c : Core) (i : Nat) (v : FString) : (c.setStr i v).pendLow = c.pendLow := rfl
@[simp] theorem Core.setStr_hold (c : Core) (i : Nat) (v : FString) : (c.setStr i v).hold = c.hold := rfl
@[simp] theorem Core.setStr_stalls (c : Core) (i : Nat) (v : FString) : (c.setStr i v).stalls = c.stalls := rfl
@[simp] theorem Core.setStr_strapWait (c : Core) (i : Nat) (v : FString) : (c.setStr i v).strapWait = c.strapWait := rfl
@[simp] theorem Core.setStr_strapQ (c : Core) (i : Nat) (v : FString) : (c.setStr i v).strapQ = c.strapQ := rfl
@[simp] theorem Core.setStr_wdHeld (c : Core) (i : Nat) (v : FString) : (c.setStr i v).wdHeld = c.wdHeld := rfl
@[simp] theorem Core.setStr_patFlash (c : Core) (i : Nat) (v : FString) : (c.setStr i v).patFlash = c.patFlash := rfl
@[simp] theorem Core.setStr_imgFlash (c : Core) (i : Nat) (v : FString) : (c.setStr i v).imgFlash = c.imgFlash := rfl
@[simp] theorem Core.setStr_keys (c : Core) (i : Nat) (v : FString) : (c.setStr i v).keys = c.keys := rfl
@[simp] theorem Core.setStr_pos0 (c : Core) (i : Nat) (v : FString) : (c.setStr i v).pos0 = c.pos0 := rfl
@[simp] theorem Core.setStr_pos1 (c : Core) (i : Nat) (v : FString) : (c.setStr i v).pos1 = c.pos1 := rfl
@[simp] theorem Core.setStr_ipSet (c : Core) (i : Nat) (v : FString) : (c.setStr i v).ipSet = c.ipSet := rfl
@[simp] theorem Core.setStr_livePorts (c : Core) (i : Nat) (v : FString) : (c.setStr i v).livePorts = c.livePorts := rfl
@[simp] theorem Core.setStr_liveVlan (c : Core) (i : Nat) (v : FString) : (c.setStr i v).liveVlan = c.liveVlan := rfl
@[simp] theorem Core.setStr_ipLive (c : Core) (i : Nat) (v : FString) : (c.setStr i v).ipLive = c.ipLive := rfl
@[simp] theorem Core.setStr_silent (c : Core) (i : Nat) (v : FString) : (c.setStr i v).silent = c.silent := rfl
@[simp] theorem Core.setStr_lockAns (c : Core) (i : Nat) (v : FString) : (c.setStr i v).lockAns = c.lockAns := rfl
@[simp] theorem Core.setStr_deferred (c : Core) (i : Nat) (v : FString) : (c.setStr i v).deferred = c.deferred := rfl
@[simp] theorem Core.setStr_memq (c : Core) (i : Nat) (v : FString) : (c.setStr i v).memq = c.memq := rfl
@[simp] theorem Core.setStr_freeIdx (c : Core) (i : Nat) (v : FString) : (c.setStr i v).freeIdx = c.freeIdx := rfl
@[simp] theorem Core.setStr_acc (c : Core) (i : Nat) (v : FString) : (c.setStr i v).acc = c.acc := rfl
@[simp] theorem Core.setStr_out (c : Core) (i : Nat) (v : FString) : (c.setStr i v).out = c.out := rfl
@[simp] theorem Core.setStr_reg (c : Core) (i : Nat) (v : FString) (r : Reg) (j : Nat) : (c.setStr i v).reg r j = c.reg r j := rfl
@[simp] theorem Core.setStr_get (c : Core) (i : Nat) (v : FString) (f : Fld) (j : Nat) : (c.setStr i v).get f j = c.get f j := rfl
@[simp] theorem Core.setStr_bit (c : Core) (i : Nat) (v : FString) (f : Fld) (j : Nat) : (c.setStr i v).bit f j = c.bit f j := rfl
@[simp] theorem Core.crossAt_setCross (c : Core) (i : Nat) (v : Crossing) : (c.setCross i v).crossAt i = v := Tab.get_set_self ..
theorem Core.crossAt_setCross_ne (c : Core) {i j : Nat} (v : Crossing) (h : i ≠ j) : (c.setCross i v).crossAt j = c.crossAt j := Tab.get_set_ne _ _ v h
@[simp] theorem Core.setCross_regs (c : Core) (i : Nat) (v : Crossing) : (c.setCross i v).regs = c.regs := rfl
@[simp] theorem Core.setCross_pat (c : Core) (i : Nat) (v : Crossing) : (c.setCross i v).pat = c.pat := rfl
@[simp] theorem Core.setCross_prof (c : Core) (i : Nat) (v : Crossing) : (c.setCross i v).prof = c.prof := rfl
@[simp] theorem Core.setCross_igs (c : Core) (i : Nat) (v : Crossing) : (c.setCross i v).igs = c.igs := rfl
@[simp] theorem Core.setCross_steps (c : Core) (i : Nat) (v : Crossing) : (c.setCross i v).steps = c.steps := rfl
@[simp] theorem Core.setCross_loops (c : Core) (i : Nat) (v : Crossing) : (c.setCross i v).loops = c.loops := rfl
@[simp] theorem Core.setCross_snaps (c : Core) (i : Nat) (v : Crossing) : (c.setCross i v).snaps = c.snaps := rfl
@[simp] theorem Core.setCross_ctxs (c : Core) (i : Nat) (v : Crossing) : (c.setCross i v).ctxs = c.ctxs := rfl
@[simp] theorem Core.setCross_ests (c : Core) (i : Nat) (v : Crossing) : (c.setCross i v).ests = c.ests := rfl
@[simp] theorem Core.setCross_lanes (c : Core) (i : Nat) (v : Crossing) : (c.setCross i v).lanes = c.lanes := rfl
@[simp] theorem Core.setCross_ports (c : Core) (i : Nat) (v : Crossing) : (c.setCross i v).ports = c.ports := rfl
@[simp] theorem Core.setCross_reps (c : Core) (i : Nat) (v : Crossing) : (c.setCross i v).reps = c.reps := rfl
@[simp] theorem Core.setCross_time (c : Core) (i : Nat) (v : Crossing) : (c.setCross i v).time = c.time := rfl
@[simp] theorem Core.setCross_backSec (c : Core) (i : Nat) (v : Crossing) : (c.setCross i v).backSec = c.backSec := rfl
@[simp] theorem Core.setCross_backSub (c : Core) (i : Nat) (v : Crossing) : (c.setCross i v).backSub = c.backSub := rfl
@[simp] theorem Core.setCross_backPhase (c : Core) (i : Nat) (v : Crossing) : (c.setCross i v).backPhase = c.backPhase := rfl
@[simp] theorem Core.setCross_backKept (c : Core) (i : Nat) (v : Crossing) : (c.setCross i v).backKept = c.backKept := rfl
@[simp] theorem Core.setCross_dirIn (c : Core) (i : Nat) (v : Crossing) : (c.setCross i v).dirIn = c.dirIn := rfl
@[simp] theorem Core.setCross_rings (c : Core) (i : Nat) (v : Crossing) : (c.setCross i v).rings = c.rings := rfl
@[simp] theorem Core.setCross_query (c : Core) (i : Nat) (v : Crossing) : (c.setCross i v).query = c.query := rfl
@[simp] theorem Core.setCross_grids (c : Core) (i : Nat) (v : Crossing) : (c.setCross i v).grids = c.grids := rfl
@[simp] theorem Core.setCross_engines (c : Core) (i : Nat) (v : Crossing) : (c.setCross i v).engines = c.engines := rfl
@[simp] theorem Core.setCross_sched (c : Core) (i : Nat) (v : Crossing) : (c.setCross i v).sched = c.sched := rfl
@[simp] theorem Core.setCross_bridle (c : Core) (i : Nat) (v : Crossing) : (c.setCross i v).bridle = c.bridle := rfl
@[simp] theorem Core.setCross_latchRec (c : Core) (i : Nat) (v : Crossing) : (c.setCross i v).latchRec = c.latchRec := rfl
@[simp] theorem Core.setCross_frecIncarn (c : Core) (i : Nat) (v : Crossing) : (c.setCross i v).frecIncarn = c.frecIncarn := rfl
@[simp] theorem Core.setCross_canObjs (c : Core) (i : Nat) (v : Crossing) : (c.setCross i v).canObjs = c.canObjs := rfl
@[simp] theorem Core.setCross_canChs (c : Core) (i : Nat) (v : Crossing) : (c.setCross i v).canChs = c.canChs := rfl
@[simp] theorem Core.setCross_strings (c : Core) (i : Nat) (v : Crossing) : (c.setCross i v).strings = c.strings := rfl
@[simp] theorem Core.setCross_isl (c : Core) (i : Nat) (v : Crossing) : (c.setCross i v).isl = c.isl := rfl
@[simp] theorem Core.setCross_woken (c : Core) (i : Nat) (v : Crossing) : (c.setCross i v).woken = c.woken := rfl
@[simp] theorem Core.setCross_banks (c : Core) (i : Nat) (v : Crossing) : (c.setCross i v).banks = c.banks := rfl
@[simp] theorem Core.setCross_loader (c : Core) (i : Nat) (v : Crossing) : (c.setCross i v).loader = c.loader := rfl
@[simp] theorem Core.setCross_twin (c : Core) (i : Nat) (v : Crossing) : (c.setCross i v).twin = c.twin := rfl
@[simp] theorem Core.setCross_power (c : Core) (i : Nat) (v : Crossing) : (c.setCross i v).power = c.power := rfl
@[simp] theorem Core.setCross_rst (c : Core) (i : Nat) (v : Crossing) : (c.setCross i v).rst = c.rst := rfl
@[simp] theorem Core.setCross_sad (c : Core) (i : Nat) (v : Crossing) : (c.setCross i v).sad = c.sad := rfl
@[simp] theorem Core.setCross_sessions (c : Core) (i : Nat) (v : Crossing) : (c.setCross i v).sessions = c.sessions := rfl
@[simp] theorem Core.setCross_sessAge (c : Core) (i : Nat) (v : Crossing) : (c.setCross i v).sessAge = c.sessAge := rfl
@[simp] theorem Core.setCross_pendLow (c : Core) (i : Nat) (v : Crossing) : (c.setCross i v).pendLow = c.pendLow := rfl
@[simp] theorem Core.setCross_hold (c : Core) (i : Nat) (v : Crossing) : (c.setCross i v).hold = c.hold := rfl
@[simp] theorem Core.setCross_stalls (c : Core) (i : Nat) (v : Crossing) : (c.setCross i v).stalls = c.stalls := rfl
@[simp] theorem Core.setCross_strapWait (c : Core) (i : Nat) (v : Crossing) : (c.setCross i v).strapWait = c.strapWait := rfl
@[simp] theorem Core.setCross_strapQ (c : Core) (i : Nat) (v : Crossing) : (c.setCross i v).strapQ = c.strapQ := rfl
@[simp] theorem Core.setCross_wdHeld (c : Core) (i : Nat) (v : Crossing) : (c.setCross i v).wdHeld = c.wdHeld := rfl
@[simp] theorem Core.setCross_patFlash (c : Core) (i : Nat) (v : Crossing) : (c.setCross i v).patFlash = c.patFlash := rfl
@[simp] theorem Core.setCross_imgFlash (c : Core) (i : Nat) (v : Crossing) : (c.setCross i v).imgFlash = c.imgFlash := rfl
@[simp] theorem Core.setCross_keys (c : Core) (i : Nat) (v : Crossing) : (c.setCross i v).keys = c.keys := rfl
@[simp] theorem Core.setCross_pos0 (c : Core) (i : Nat) (v : Crossing) : (c.setCross i v).pos0 = c.pos0 := rfl
@[simp] theorem Core.setCross_pos1 (c : Core) (i : Nat) (v : Crossing) : (c.setCross i v).pos1 = c.pos1 := rfl
@[simp] theorem Core.setCross_ipSet (c : Core) (i : Nat) (v : Crossing) : (c.setCross i v).ipSet = c.ipSet := rfl
@[simp] theorem Core.setCross_livePorts (c : Core) (i : Nat) (v : Crossing) : (c.setCross i v).livePorts = c.livePorts := rfl
@[simp] theorem Core.setCross_liveVlan (c : Core) (i : Nat) (v : Crossing) : (c.setCross i v).liveVlan = c.liveVlan := rfl
@[simp] theorem Core.setCross_ipLive (c : Core) (i : Nat) (v : Crossing) : (c.setCross i v).ipLive = c.ipLive := rfl
@[simp] theorem Core.setCross_silent (c : Core) (i : Nat) (v : Crossing) : (c.setCross i v).silent = c.silent := rfl
@[simp] theorem Core.setCross_lockAns (c : Core) (i : Nat) (v : Crossing) : (c.setCross i v).lockAns = c.lockAns := rfl
@[simp] theorem Core.setCross_deferred (c : Core) (i : Nat) (v : Crossing) : (c.setCross i v).deferred = c.deferred := rfl
@[simp] theorem Core.setCross_memq (c : Core) (i : Nat) (v : Crossing) : (c.setCross i v).memq = c.memq := rfl
@[simp] theorem Core.setCross_freeIdx (c : Core) (i : Nat) (v : Crossing) : (c.setCross i v).freeIdx = c.freeIdx := rfl
@[simp] theorem Core.setCross_acc (c : Core) (i : Nat) (v : Crossing) : (c.setCross i v).acc = c.acc := rfl
@[simp] theorem Core.setCross_out (c : Core) (i : Nat) (v : Crossing) : (c.setCross i v).out = c.out := rfl
@[simp] theorem Core.setCross_reg (c : Core) (i : Nat) (v : Crossing) (r : Reg) (j : Nat) : (c.setCross i v).reg r j = c.reg r j := rfl
@[simp] theorem Core.setCross_get (c : Core) (i : Nat) (v : Crossing) (f : Fld) (j : Nat) : (c.setCross i v).get f j = c.get f j := rfl
@[simp] theorem Core.setCross_bit (c : Core) (i : Nat) (v : Crossing) (f : Fld) (j : Nat) : (c.setCross i v).bit f j = c.bit f j := rfl
@[simp] theorem Core.bankAt_setBank (c : Core) (i : Nat) (v : Bank) : (c.setBank i v).bankAt i = v := Tab.get_set_self ..
theorem Core.bankAt_setBank_ne (c : Core) {i j : Nat} (v : Bank) (h : i ≠ j) : (c.setBank i v).bankAt j = c.bankAt j := Tab.get_set_ne _ _ v h
@[simp] theorem Core.setBank_regs (c : Core) (i : Nat) (v : Bank) : (c.setBank i v).regs = c.regs := rfl
@[simp] theorem Core.setBank_pat (c : Core) (i : Nat) (v : Bank) : (c.setBank i v).pat = c.pat := rfl
@[simp] theorem Core.setBank_prof (c : Core) (i : Nat) (v : Bank) : (c.setBank i v).prof = c.prof := rfl
@[simp] theorem Core.setBank_igs (c : Core) (i : Nat) (v : Bank) : (c.setBank i v).igs = c.igs := rfl
@[simp] theorem Core.setBank_steps (c : Core) (i : Nat) (v : Bank) : (c.setBank i v).steps = c.steps := rfl
@[simp] theorem Core.setBank_loops (c : Core) (i : Nat) (v : Bank) : (c.setBank i v).loops = c.loops := rfl
@[simp] theorem Core.setBank_snaps (c : Core) (i : Nat) (v : Bank) : (c.setBank i v).snaps = c.snaps := rfl
@[simp] theorem Core.setBank_ctxs (c : Core) (i : Nat) (v : Bank) : (c.setBank i v).ctxs = c.ctxs := rfl
@[simp] theorem Core.setBank_ests (c : Core) (i : Nat) (v : Bank) : (c.setBank i v).ests = c.ests := rfl
@[simp] theorem Core.setBank_lanes (c : Core) (i : Nat) (v : Bank) : (c.setBank i v).lanes = c.lanes := rfl
@[simp] theorem Core.setBank_ports (c : Core) (i : Nat) (v : Bank) : (c.setBank i v).ports = c.ports := rfl
@[simp] theorem Core.setBank_reps (c : Core) (i : Nat) (v : Bank) : (c.setBank i v).reps = c.reps := rfl
@[simp] theorem Core.setBank_time (c : Core) (i : Nat) (v : Bank) : (c.setBank i v).time = c.time := rfl
@[simp] theorem Core.setBank_backSec (c : Core) (i : Nat) (v : Bank) : (c.setBank i v).backSec = c.backSec := rfl
@[simp] theorem Core.setBank_backSub (c : Core) (i : Nat) (v : Bank) : (c.setBank i v).backSub = c.backSub := rfl
@[simp] theorem Core.setBank_backPhase (c : Core) (i : Nat) (v : Bank) : (c.setBank i v).backPhase = c.backPhase := rfl
@[simp] theorem Core.setBank_backKept (c : Core) (i : Nat) (v : Bank) : (c.setBank i v).backKept = c.backKept := rfl
@[simp] theorem Core.setBank_dirIn (c : Core) (i : Nat) (v : Bank) : (c.setBank i v).dirIn = c.dirIn := rfl
@[simp] theorem Core.setBank_rings (c : Core) (i : Nat) (v : Bank) : (c.setBank i v).rings = c.rings := rfl
@[simp] theorem Core.setBank_query (c : Core) (i : Nat) (v : Bank) : (c.setBank i v).query = c.query := rfl
@[simp] theorem Core.setBank_grids (c : Core) (i : Nat) (v : Bank) : (c.setBank i v).grids = c.grids := rfl
@[simp] theorem Core.setBank_engines (c : Core) (i : Nat) (v : Bank) : (c.setBank i v).engines = c.engines := rfl
@[simp] theorem Core.setBank_sched (c : Core) (i : Nat) (v : Bank) : (c.setBank i v).sched = c.sched := rfl
@[simp] theorem Core.setBank_bridle (c : Core) (i : Nat) (v : Bank) : (c.setBank i v).bridle = c.bridle := rfl
@[simp] theorem Core.setBank_latchRec (c : Core) (i : Nat) (v : Bank) : (c.setBank i v).latchRec = c.latchRec := rfl
@[simp] theorem Core.setBank_frecIncarn (c : Core) (i : Nat) (v : Bank) : (c.setBank i v).frecIncarn = c.frecIncarn := rfl
@[simp] theorem Core.setBank_canObjs (c : Core) (i : Nat) (v : Bank) : (c.setBank i v).canObjs = c.canObjs := rfl
@[simp] theorem Core.setBank_canChs (c : Core) (i : Nat) (v : Bank) : (c.setBank i v).canChs = c.canChs := rfl
@[simp] theorem Core.setBank_strings (c : Core) (i : Nat) (v : Bank) : (c.setBank i v).strings = c.strings := rfl
@[simp] theorem Core.setBank_isl (c : Core) (i : Nat) (v : Bank) : (c.setBank i v).isl = c.isl := rfl
@[simp] theorem Core.setBank_woken (c : Core) (i : Nat) (v : Bank) : (c.setBank i v).woken = c.woken := rfl
@[simp] theorem Core.setBank_crossings (c : Core) (i : Nat) (v : Bank) : (c.setBank i v).crossings = c.crossings := rfl
@[simp] theorem Core.setBank_loader (c : Core) (i : Nat) (v : Bank) : (c.setBank i v).loader = c.loader := rfl
@[simp] theorem Core.setBank_twin (c : Core) (i : Nat) (v : Bank) : (c.setBank i v).twin = c.twin := rfl
@[simp] theorem Core.setBank_power (c : Core) (i : Nat) (v : Bank) : (c.setBank i v).power = c.power := rfl
@[simp] theorem Core.setBank_rst (c : Core) (i : Nat) (v : Bank) : (c.setBank i v).rst = c.rst := rfl
@[simp] theorem Core.setBank_sad (c : Core) (i : Nat) (v : Bank) : (c.setBank i v).sad = c.sad := rfl
@[simp] theorem Core.setBank_sessions (c : Core) (i : Nat) (v : Bank) : (c.setBank i v).sessions = c.sessions := rfl
@[simp] theorem Core.setBank_sessAge (c : Core) (i : Nat) (v : Bank) : (c.setBank i v).sessAge = c.sessAge := rfl
@[simp] theorem Core.setBank_pendLow (c : Core) (i : Nat) (v : Bank) : (c.setBank i v).pendLow = c.pendLow := rfl
@[simp] theorem Core.setBank_hold (c : Core) (i : Nat) (v : Bank) : (c.setBank i v).hold = c.hold := rfl
@[simp] theorem Core.setBank_stalls (c : Core) (i : Nat) (v : Bank) : (c.setBank i v).stalls = c.stalls := rfl
@[simp] theorem Core.setBank_strapWait (c : Core) (i : Nat) (v : Bank) : (c.setBank i v).strapWait = c.strapWait := rfl
@[simp] theorem Core.setBank_strapQ (c : Core) (i : Nat) (v : Bank) : (c.setBank i v).strapQ = c.strapQ := rfl
@[simp] theorem Core.setBank_wdHeld (c : Core) (i : Nat) (v : Bank) : (c.setBank i v).wdHeld = c.wdHeld := rfl
@[simp] theorem Core.setBank_patFlash (c : Core) (i : Nat) (v : Bank) : (c.setBank i v).patFlash = c.patFlash := rfl
@[simp] theorem Core.setBank_imgFlash (c : Core) (i : Nat) (v : Bank) : (c.setBank i v).imgFlash = c.imgFlash := rfl
@[simp] theorem Core.setBank_keys (c : Core) (i : Nat) (v : Bank) : (c.setBank i v).keys = c.keys := rfl
@[simp] theorem Core.setBank_pos0 (c : Core) (i : Nat) (v : Bank) : (c.setBank i v).pos0 = c.pos0 := rfl
@[simp] theorem Core.setBank_pos1 (c : Core) (i : Nat) (v : Bank) : (c.setBank i v).pos1 = c.pos1 := rfl
@[simp] theorem Core.setBank_ipSet (c : Core) (i : Nat) (v : Bank) : (c.setBank i v).ipSet = c.ipSet := rfl
@[simp] theorem Core.setBank_livePorts (c : Core) (i : Nat) (v : Bank) : (c.setBank i v).livePorts = c.livePorts := rfl
@[simp] theorem Core.setBank_liveVlan (c : Core) (i : Nat) (v : Bank) : (c.setBank i v).liveVlan = c.liveVlan := rfl
@[simp] theorem Core.setBank_ipLive (c : Core) (i : Nat) (v : Bank) : (c.setBank i v).ipLive = c.ipLive := rfl
@[simp] theorem Core.setBank_silent (c : Core) (i : Nat) (v : Bank) : (c.setBank i v).silent = c.silent := rfl
@[simp] theorem Core.setBank_lockAns (c : Core) (i : Nat) (v : Bank) : (c.setBank i v).lockAns = c.lockAns := rfl
@[simp] theorem Core.setBank_deferred (c : Core) (i : Nat) (v : Bank) : (c.setBank i v).deferred = c.deferred := rfl
@[simp] theorem Core.setBank_memq (c : Core) (i : Nat) (v : Bank) : (c.setBank i v).memq = c.memq := rfl
@[simp] theorem Core.setBank_freeIdx (c : Core) (i : Nat) (v : Bank) : (c.setBank i v).freeIdx = c.freeIdx := rfl
@[simp] theorem Core.setBank_acc (c : Core) (i : Nat) (v : Bank) : (c.setBank i v).acc = c.acc := rfl
@[simp] theorem Core.setBank_out (c : Core) (i : Nat) (v : Bank) : (c.setBank i v).out = c.out := rfl
@[simp] theorem Core.setBank_reg (c : Core) (i : Nat) (v : Bank) (r : Reg) (j : Nat) : (c.setBank i v).reg r j = c.reg r j := rfl
@[simp] theorem Core.setBank_get (c : Core) (i : Nat) (v : Bank) (f : Fld) (j : Nat) : (c.setBank i v).get f j = c.get f j := rfl
@[simp] theorem Core.setBank_bit (c : Core) (i : Nat) (v : Bank) (f : Fld) (j : Nat) : (c.setBank i v).bit f j = c.bit f j := rfl
@[simp] theorem Core.sessAt_setSess (c : Core) (i : Nat) (v : Session) : (c.setSess i v).sessAt i = v := Tab.get_set_self ..
theorem Core.sessAt_setSess_ne (c : Core) {i j : Nat} (v : Session) (h : i ≠ j) : (c.setSess i v).sessAt j = c.sessAt j := Tab.get_set_ne _ _ v h
@[simp] theorem Core.setSess_regs (c : Core) (i : Nat) (v : Session) : (c.setSess i v).regs = c.regs := rfl
@[simp] theorem Core.setSess_pat (c : Core) (i : Nat) (v : Session) : (c.setSess i v).pat = c.pat := rfl
@[simp] theorem Core.setSess_prof (c : Core) (i : Nat) (v : Session) : (c.setSess i v).prof = c.prof := rfl
@[simp] theorem Core.setSess_igs (c : Core) (i : Nat) (v : Session) : (c.setSess i v).igs = c.igs := rfl
@[simp] theorem Core.setSess_steps (c : Core) (i : Nat) (v : Session) : (c.setSess i v).steps = c.steps := rfl
@[simp] theorem Core.setSess_loops (c : Core) (i : Nat) (v : Session) : (c.setSess i v).loops = c.loops := rfl
@[simp] theorem Core.setSess_snaps (c : Core) (i : Nat) (v : Session) : (c.setSess i v).snaps = c.snaps := rfl
@[simp] theorem Core.setSess_ctxs (c : Core) (i : Nat) (v : Session) : (c.setSess i v).ctxs = c.ctxs := rfl
@[simp] theorem Core.setSess_ests (c : Core) (i : Nat) (v : Session) : (c.setSess i v).ests = c.ests := rfl
@[simp] theorem Core.setSess_lanes (c : Core) (i : Nat) (v : Session) : (c.setSess i v).lanes = c.lanes := rfl
@[simp] theorem Core.setSess_ports (c : Core) (i : Nat) (v : Session) : (c.setSess i v).ports = c.ports := rfl
@[simp] theorem Core.setSess_reps (c : Core) (i : Nat) (v : Session) : (c.setSess i v).reps = c.reps := rfl
@[simp] theorem Core.setSess_time (c : Core) (i : Nat) (v : Session) : (c.setSess i v).time = c.time := rfl
@[simp] theorem Core.setSess_backSec (c : Core) (i : Nat) (v : Session) : (c.setSess i v).backSec = c.backSec := rfl
@[simp] theorem Core.setSess_backSub (c : Core) (i : Nat) (v : Session) : (c.setSess i v).backSub = c.backSub := rfl
@[simp] theorem Core.setSess_backPhase (c : Core) (i : Nat) (v : Session) : (c.setSess i v).backPhase = c.backPhase := rfl
@[simp] theorem Core.setSess_backKept (c : Core) (i : Nat) (v : Session) : (c.setSess i v).backKept = c.backKept := rfl
@[simp] theorem Core.setSess_dirIn (c : Core) (i : Nat) (v : Session) : (c.setSess i v).dirIn = c.dirIn := rfl
@[simp] theorem Core.setSess_rings (c : Core) (i : Nat) (v : Session) : (c.setSess i v).rings = c.rings := rfl
@[simp] theorem Core.setSess_query (c : Core) (i : Nat) (v : Session) : (c.setSess i v).query = c.query := rfl
@[simp] theorem Core.setSess_grids (c : Core) (i : Nat) (v : Session) : (c.setSess i v).grids = c.grids := rfl
@[simp] theorem Core.setSess_engines (c : Core) (i : Nat) (v : Session) : (c.setSess i v).engines = c.engines := rfl
@[simp] theorem Core.setSess_sched (c : Core) (i : Nat) (v : Session) : (c.setSess i v).sched = c.sched := rfl
@[simp] theorem Core.setSess_bridle (c : Core) (i : Nat) (v : Session) : (c.setSess i v).bridle = c.bridle := rfl
@[simp] theorem Core.setSess_latchRec (c : Core) (i : Nat) (v : Session) : (c.setSess i v).latchRec = c.latchRec := rfl
@[simp] theorem Core.setSess_frecIncarn (c : Core) (i : Nat) (v : Session) : (c.setSess i v).frecIncarn = c.frecIncarn := rfl
@[simp] theorem Core.setSess_canObjs (c : Core) (i : Nat) (v : Session) : (c.setSess i v).canObjs = c.canObjs := rfl
@[simp] theorem Core.setSess_canChs (c : Core) (i : Nat) (v : Session) : (c.setSess i v).canChs = c.canChs := rfl
@[simp] theorem Core.setSess_strings (c : Core) (i : Nat) (v : Session) : (c.setSess i v).strings = c.strings := rfl
@[simp] theorem Core.setSess_isl (c : Core) (i : Nat) (v : Session) : (c.setSess i v).isl = c.isl := rfl
@[simp] theorem Core.setSess_woken (c : Core) (i : Nat) (v : Session) : (c.setSess i v).woken = c.woken := rfl
@[simp] theorem Core.setSess_crossings (c : Core) (i : Nat) (v : Session) : (c.setSess i v).crossings = c.crossings := rfl
@[simp] theorem Core.setSess_banks (c : Core) (i : Nat) (v : Session) : (c.setSess i v).banks = c.banks := rfl
@[simp] theorem Core.setSess_loader (c : Core) (i : Nat) (v : Session) : (c.setSess i v).loader = c.loader := rfl
@[simp] theorem Core.setSess_twin (c : Core) (i : Nat) (v : Session) : (c.setSess i v).twin = c.twin := rfl
@[simp] theorem Core.setSess_power (c : Core) (i : Nat) (v : Session) : (c.setSess i v).power = c.power := rfl
@[simp] theorem Core.setSess_rst (c : Core) (i : Nat) (v : Session) : (c.setSess i v).rst = c.rst := rfl
@[simp] theorem Core.setSess_sad (c : Core) (i : Nat) (v : Session) : (c.setSess i v).sad = c.sad := rfl
@[simp] theorem Core.setSess_sessAge (c : Core) (i : Nat) (v : Session) : (c.setSess i v).sessAge = c.sessAge := rfl
@[simp] theorem Core.setSess_pendLow (c : Core) (i : Nat) (v : Session) : (c.setSess i v).pendLow = c.pendLow := rfl
@[simp] theorem Core.setSess_hold (c : Core) (i : Nat) (v : Session) : (c.setSess i v).hold = c.hold := rfl
@[simp] theorem Core.setSess_stalls (c : Core) (i : Nat) (v : Session) : (c.setSess i v).stalls = c.stalls := rfl
@[simp] theorem Core.setSess_strapWait (c : Core) (i : Nat) (v : Session) : (c.setSess i v).strapWait = c.strapWait := rfl
@[simp] theorem Core.setSess_strapQ (c : Core) (i : Nat) (v : Session) : (c.setSess i v).strapQ = c.strapQ := rfl
@[simp] theorem Core.setSess_wdHeld (c : Core) (i : Nat) (v : Session) : (c.setSess i v).wdHeld = c.wdHeld := rfl
@[simp] theorem Core.setSess_patFlash (c : Core) (i : Nat) (v : Session) : (c.setSess i v).patFlash = c.patFlash := rfl
@[simp] theorem Core.setSess_imgFlash (c : Core) (i : Nat) (v : Session) : (c.setSess i v).imgFlash = c.imgFlash := rfl
@[simp] theorem Core.setSess_keys (c : Core) (i : Nat) (v : Session) : (c.setSess i v).keys = c.keys := rfl
@[simp] theorem Core.setSess_pos0 (c : Core) (i : Nat) (v : Session) : (c.setSess i v).pos0 = c.pos0 := rfl
@[simp] theorem Core.setSess_pos1 (c : Core) (i : Nat) (v : Session) : (c.setSess i v).pos1 = c.pos1 := rfl
@[simp] theorem Core.setSess_ipSet (c : Core) (i : Nat) (v : Session) : (c.setSess i v).ipSet = c.ipSet := rfl
@[simp] theorem Core.setSess_livePorts (c : Core) (i : Nat) (v : Session) : (c.setSess i v).livePorts = c.livePorts := rfl
@[simp] theorem Core.setSess_liveVlan (c : Core) (i : Nat) (v : Session) : (c.setSess i v).liveVlan = c.liveVlan := rfl
@[simp] theorem Core.setSess_ipLive (c : Core) (i : Nat) (v : Session) : (c.setSess i v).ipLive = c.ipLive := rfl
@[simp] theorem Core.setSess_silent (c : Core) (i : Nat) (v : Session) : (c.setSess i v).silent = c.silent := rfl
@[simp] theorem Core.setSess_lockAns (c : Core) (i : Nat) (v : Session) : (c.setSess i v).lockAns = c.lockAns := rfl
@[simp] theorem Core.setSess_deferred (c : Core) (i : Nat) (v : Session) : (c.setSess i v).deferred = c.deferred := rfl
@[simp] theorem Core.setSess_memq (c : Core) (i : Nat) (v : Session) : (c.setSess i v).memq = c.memq := rfl
@[simp] theorem Core.setSess_freeIdx (c : Core) (i : Nat) (v : Session) : (c.setSess i v).freeIdx = c.freeIdx := rfl
@[simp] theorem Core.setSess_acc (c : Core) (i : Nat) (v : Session) : (c.setSess i v).acc = c.acc := rfl
@[simp] theorem Core.setSess_out (c : Core) (i : Nat) (v : Session) : (c.setSess i v).out = c.out := rfl
@[simp] theorem Core.setSess_reg (c : Core) (i : Nat) (v : Session) (r : Reg) (j : Nat) : (c.setSess i v).reg r j = c.reg r j := rfl
@[simp] theorem Core.setSess_get (c : Core) (i : Nat) (v : Session) (f : Fld) (j : Nat) : (c.setSess i v).get f j = c.get f j := rfl
@[simp] theorem Core.setSess_bit (c : Core) (i : Nat) (v : Session) (f : Fld) (j : Nat) : (c.setSess i v).bit f j = c.bit f j := rfl
@[simp] theorem Core.keyAt_setKey (c : Core) (i : Nat) (v : KeySlot) : (c.setKey i v).keyAt i = v := Tab.get_set_self ..
theorem Core.keyAt_setKey_ne (c : Core) {i j : Nat} (v : KeySlot) (h : i ≠ j) : (c.setKey i v).keyAt j = c.keyAt j := Tab.get_set_ne _ _ v h
@[simp] theorem Core.setKey_regs (c : Core) (i : Nat) (v : KeySlot) : (c.setKey i v).regs = c.regs := rfl
@[simp] theorem Core.setKey_pat (c : Core) (i : Nat) (v : KeySlot) : (c.setKey i v).pat = c.pat := rfl
@[simp] theorem Core.setKey_prof (c : Core) (i : Nat) (v : KeySlot) : (c.setKey i v).prof = c.prof := rfl
@[simp] theorem Core.setKey_igs (c : Core) (i : Nat) (v : KeySlot) : (c.setKey i v).igs = c.igs := rfl
@[simp] theorem Core.setKey_steps (c : Core) (i : Nat) (v : KeySlot) : (c.setKey i v).steps = c.steps := rfl
@[simp] theorem Core.setKey_loops (c : Core) (i : Nat) (v : KeySlot) : (c.setKey i v).loops = c.loops := rfl
@[simp] theorem Core.setKey_snaps (c : Core) (i : Nat) (v : KeySlot) : (c.setKey i v).snaps = c.snaps := rfl
@[simp] theorem Core.setKey_ctxs (c : Core) (i : Nat) (v : KeySlot) : (c.setKey i v).ctxs = c.ctxs := rfl
@[simp] theorem Core.setKey_ests (c : Core) (i : Nat) (v : KeySlot) : (c.setKey i v).ests = c.ests := rfl
@[simp] theorem Core.setKey_lanes (c : Core) (i : Nat) (v : KeySlot) : (c.setKey i v).lanes = c.lanes := rfl
@[simp] theorem Core.setKey_ports (c : Core) (i : Nat) (v : KeySlot) : (c.setKey i v).ports = c.ports := rfl
@[simp] theorem Core.setKey_reps (c : Core) (i : Nat) (v : KeySlot) : (c.setKey i v).reps = c.reps := rfl
@[simp] theorem Core.setKey_time (c : Core) (i : Nat) (v : KeySlot) : (c.setKey i v).time = c.time := rfl
@[simp] theorem Core.setKey_backSec (c : Core) (i : Nat) (v : KeySlot) : (c.setKey i v).backSec = c.backSec := rfl
@[simp] theorem Core.setKey_backSub (c : Core) (i : Nat) (v : KeySlot) : (c.setKey i v).backSub = c.backSub := rfl
@[simp] theorem Core.setKey_backPhase (c : Core) (i : Nat) (v : KeySlot) : (c.setKey i v).backPhase = c.backPhase := rfl
@[simp] theorem Core.setKey_backKept (c : Core) (i : Nat) (v : KeySlot) : (c.setKey i v).backKept = c.backKept := rfl
@[simp] theorem Core.setKey_dirIn (c : Core) (i : Nat) (v : KeySlot) : (c.setKey i v).dirIn = c.dirIn := rfl
@[simp] theorem Core.setKey_rings (c : Core) (i : Nat) (v : KeySlot) : (c.setKey i v).rings = c.rings := rfl
@[simp] theorem Core.setKey_query (c : Core) (i : Nat) (v : KeySlot) : (c.setKey i v).query = c.query := rfl
@[simp] theorem Core.setKey_grids (c : Core) (i : Nat) (v : KeySlot) : (c.setKey i v).grids = c.grids := rfl
@[simp] theorem Core.setKey_engines (c : Core) (i : Nat) (v : KeySlot) : (c.setKey i v).engines = c.engines := rfl
@[simp] theorem Core.setKey_sched (c : Core) (i : Nat) (v : KeySlot) : (c.setKey i v).sched = c.sched := rfl
@[simp] theorem Core.setKey_bridle (c : Core) (i : Nat) (v : KeySlot) : (c.setKey i v).bridle = c.bridle := rfl
@[simp] theorem Core.setKey_latchRec (c : Core) (i : Nat) (v : KeySlot) : (c.setKey i v).latchRec = c.latchRec := rfl
@[simp] theorem Core.setKey_frecIncarn (c : Core) (i : Nat) (v : KeySlot) : (c.setKey i v).frecIncarn = c.frecIncarn := rfl
@[simp] theorem Core.setKey_canObjs (c : Core) (i : Nat) (v : KeySlot) : (c.setKey i v).canObjs = c.canObjs := rfl
@[simp] theorem Core.setKey_canChs (c : Core) (i : Nat) (v : KeySlot) : (c.setKey i v).canChs = c.canChs := rfl
@[simp] theorem Core.setKey_strings (c : Core) (i : Nat) (v : KeySlot) : (c.setKey i v).strings = c.strings := rfl
@[simp] theorem Core.setKey_isl (c : Core) (i : Nat) (v : KeySlot) : (c.setKey i v).isl = c.isl := rfl
@[simp] theorem Core.setKey_woken (c : Core) (i : Nat) (v : KeySlot) : (c.setKey i v).woken = c.woken := rfl
@[simp] theorem Core.setKey_crossings (c : Core) (i : Nat) (v : KeySlot) : (c.setKey i v).crossings = c.crossings := rfl
@[simp] theorem Core.setKey_banks (c : Core) (i : Nat) (v : KeySlot) : (c.setKey i v).banks = c.banks := rfl
@[simp] theorem Core.setKey_loader (c : Core) (i : Nat) (v : KeySlot) : (c.setKey i v).loader = c.loader := rfl
@[simp] theorem Core.setKey_twin (c : Core) (i : Nat) (v : KeySlot) : (c.setKey i v).twin = c.twin := rfl
@[simp] theorem Core.setKey_power (c : Core) (i : Nat) (v : KeySlot) : (c.setKey i v).power = c.power := rfl
@[simp] theorem Core.setKey_rst (c : Core) (i : Nat) (v : KeySlot) : (c.setKey i v).rst = c.rst := rfl
@[simp] theorem Core.setKey_sad (c : Core) (i : Nat) (v : KeySlot) : (c.setKey i v).sad = c.sad := rfl
@[simp] theorem Core.setKey_sessions (c : Core) (i : Nat) (v : KeySlot) : (c.setKey i v).sessions = c.sessions := rfl
@[simp] theorem Core.setKey_sessAge (c : Core) (i : Nat) (v : KeySlot) : (c.setKey i v).sessAge = c.sessAge := rfl
@[simp] theorem Core.setKey_pendLow (c : Core) (i : Nat) (v : KeySlot) : (c.setKey i v).pendLow = c.pendLow := rfl
@[simp] theorem Core.setKey_hold (c : Core) (i : Nat) (v : KeySlot) : (c.setKey i v).hold = c.hold := rfl
@[simp] theorem Core.setKey_stalls (c : Core) (i : Nat) (v : KeySlot) : (c.setKey i v).stalls = c.stalls := rfl
@[simp] theorem Core.setKey_strapWait (c : Core) (i : Nat) (v : KeySlot) : (c.setKey i v).strapWait = c.strapWait := rfl
@[simp] theorem Core.setKey_strapQ (c : Core) (i : Nat) (v : KeySlot) : (c.setKey i v).strapQ = c.strapQ := rfl
@[simp] theorem Core.setKey_wdHeld (c : Core) (i : Nat) (v : KeySlot) : (c.setKey i v).wdHeld = c.wdHeld := rfl
@[simp] theorem Core.setKey_patFlash (c : Core) (i : Nat) (v : KeySlot) : (c.setKey i v).patFlash = c.patFlash := rfl
@[simp] theorem Core.setKey_imgFlash (c : Core) (i : Nat) (v : KeySlot) : (c.setKey i v).imgFlash = c.imgFlash := rfl
@[simp] theorem Core.setKey_pos0 (c : Core) (i : Nat) (v : KeySlot) : (c.setKey i v).pos0 = c.pos0 := rfl
@[simp] theorem Core.setKey_pos1 (c : Core) (i : Nat) (v : KeySlot) : (c.setKey i v).pos1 = c.pos1 := rfl
@[simp] theorem Core.setKey_ipSet (c : Core) (i : Nat) (v : KeySlot) : (c.setKey i v).ipSet = c.ipSet := rfl
@[simp] theorem Core.setKey_livePorts (c : Core) (i : Nat) (v : KeySlot) : (c.setKey i v).livePorts = c.livePorts := rfl
@[simp] theorem Core.setKey_liveVlan (c : Core) (i : Nat) (v : KeySlot) : (c.setKey i v).liveVlan = c.liveVlan := rfl
@[simp] theorem Core.setKey_ipLive (c : Core) (i : Nat) (v : KeySlot) : (c.setKey i v).ipLive = c.ipLive := rfl
@[simp] theorem Core.setKey_silent (c : Core) (i : Nat) (v : KeySlot) : (c.setKey i v).silent = c.silent := rfl
@[simp] theorem Core.setKey_lockAns (c : Core) (i : Nat) (v : KeySlot) : (c.setKey i v).lockAns = c.lockAns := rfl
@[simp] theorem Core.setKey_deferred (c : Core) (i : Nat) (v : KeySlot) : (c.setKey i v).deferred = c.deferred := rfl
@[simp] theorem Core.setKey_memq (c : Core) (i : Nat) (v : KeySlot) : (c.setKey i v).memq = c.memq := rfl
@[simp] theorem Core.setKey_freeIdx (c : Core) (i : Nat) (v : KeySlot) : (c.setKey i v).freeIdx = c.freeIdx := rfl
@[simp] theorem Core.setKey_acc (c : Core) (i : Nat) (v : KeySlot) : (c.setKey i v).acc = c.acc := rfl
@[simp] theorem Core.setKey_out (c : Core) (i : Nat) (v : KeySlot) : (c.setKey i v).out = c.out := rfl
@[simp] theorem Core.setKey_reg (c : Core) (i : Nat) (v : KeySlot) (r : Reg) (j : Nat) : (c.setKey i v).reg r j = c.reg r j := rfl
@[simp] theorem Core.setKey_get (c : Core) (i : Nat) (v : KeySlot) (f : Fld) (j : Nat) : (c.setKey i v).get f j = c.get f j := rfl
@[simp] theorem Core.setKey_bit (c : Core) (i : Nat) (v : KeySlot) (f : Fld) (j : Nat) : (c.setKey i v).bit f j = c.bit f j := rfl
@[simp] theorem Core.bg_setBg (c : Core) (g : Nat) (v : BGroup) : (c.setBg g v).bg g = v := Tab.get_set_self ..
theorem Core.bg_setBg_ne (c : Core) {g h : Nat} (v : BGroup) (hne : g ≠ h) : (c.setBg g v).bg h = c.bg h := Tab.get_set_ne _ _ v hne
@[simp] theorem Core.setBg_regs (c : Core) (g : Nat) (v : BGroup) : (c.setBg g v).regs = c.regs := rfl
@[simp] theorem Core.setBg_pat (c : Core) (g : Nat) (v : BGroup) : (c.setBg g v).pat = c.pat := rfl
@[simp] theorem Core.setBg_prof (c : Core) (g : Nat) (v : BGroup) : (c.setBg g v).prof = c.prof := rfl
@[simp] theorem Core.setBg_igs (c : Core) (g : Nat) (v : BGroup) : (c.setBg g v).igs = c.igs := rfl
@[simp] theorem Core.setBg_steps (c : Core) (g : Nat) (v : BGroup) : (c.setBg g v).steps = c.steps := rfl
@[simp] theorem Core.setBg_loops (c : Core) (g : Nat) (v : BGroup) : (c.setBg g v).loops = c.loops := rfl
@[simp] theorem Core.setBg_snaps (c : Core) (g : Nat) (v : BGroup) : (c.setBg g v).snaps = c.snaps := rfl
@[simp] theorem Core.setBg_ctxs (c : Core) (g : Nat) (v : BGroup) : (c.setBg g v).ctxs = c.ctxs := rfl
@[simp] theorem Core.setBg_ests (c : Core) (g : Nat) (v : BGroup) : (c.setBg g v).ests = c.ests := rfl
@[simp] theorem Core.setBg_lanes (c : Core) (g : Nat) (v : BGroup) : (c.setBg g v).lanes = c.lanes := rfl
@[simp] theorem Core.setBg_ports (c : Core) (g : Nat) (v : BGroup) : (c.setBg g v).ports = c.ports := rfl
@[simp] theorem Core.setBg_reps (c : Core) (g : Nat) (v : BGroup) : (c.setBg g v).reps = c.reps := rfl
@[simp] theorem Core.setBg_time (c : Core) (g : Nat) (v : BGroup) : (c.setBg g v).time = c.time := rfl
@[simp] theorem Core.setBg_backSec (c : Core) (g : Nat) (v : BGroup) : (c.setBg g v).backSec = c.backSec := rfl
@[simp] theorem Core.setBg_backSub (c : Core) (g : Nat) (v : BGroup) : (c.setBg g v).backSub = c.backSub := rfl
@[simp] theorem Core.setBg_backPhase (c : Core) (g : Nat) (v : BGroup) : (c.setBg g v).backPhase = c.backPhase := rfl
@[simp] theorem Core.setBg_backKept (c : Core) (g : Nat) (v : BGroup) : (c.setBg g v).backKept = c.backKept := rfl
@[simp] theorem Core.setBg_dirIn (c : Core) (g : Nat) (v : BGroup) : (c.setBg g v).dirIn = c.dirIn := rfl
@[simp] theorem Core.setBg_rings (c : Core) (g : Nat) (v : BGroup) : (c.setBg g v).rings = c.rings := rfl
@[simp] theorem Core.setBg_query (c : Core) (g : Nat) (v : BGroup) : (c.setBg g v).query = c.query := rfl
@[simp] theorem Core.setBg_grids (c : Core) (g : Nat) (v : BGroup) : (c.setBg g v).grids = c.grids := rfl
@[simp] theorem Core.setBg_engines (c : Core) (g : Nat) (v : BGroup) : (c.setBg g v).engines = c.engines := rfl
@[simp] theorem Core.setBg_sched (c : Core) (g : Nat) (v : BGroup) : (c.setBg g v).sched = c.sched := rfl
@[simp] theorem Core.setBg_latchRec (c : Core) (g : Nat) (v : BGroup) : (c.setBg g v).latchRec = c.latchRec := rfl
@[simp] theorem Core.setBg_frecIncarn (c : Core) (g : Nat) (v : BGroup) : (c.setBg g v).frecIncarn = c.frecIncarn := rfl
@[simp] theorem Core.setBg_canObjs (c : Core) (g : Nat) (v : BGroup) : (c.setBg g v).canObjs = c.canObjs := rfl
@[simp] theorem Core.setBg_canChs (c : Core) (g : Nat) (v : BGroup) : (c.setBg g v).canChs = c.canChs := rfl
@[simp] theorem Core.setBg_strings (c : Core) (g : Nat) (v : BGroup) : (c.setBg g v).strings = c.strings := rfl
@[simp] theorem Core.setBg_isl (c : Core) (g : Nat) (v : BGroup) : (c.setBg g v).isl = c.isl := rfl
@[simp] theorem Core.setBg_woken (c : Core) (g : Nat) (v : BGroup) : (c.setBg g v).woken = c.woken := rfl
@[simp] theorem Core.setBg_crossings (c : Core) (g : Nat) (v : BGroup) : (c.setBg g v).crossings = c.crossings := rfl
@[simp] theorem Core.setBg_banks (c : Core) (g : Nat) (v : BGroup) : (c.setBg g v).banks = c.banks := rfl
@[simp] theorem Core.setBg_loader (c : Core) (g : Nat) (v : BGroup) : (c.setBg g v).loader = c.loader := rfl
@[simp] theorem Core.setBg_twin (c : Core) (g : Nat) (v : BGroup) : (c.setBg g v).twin = c.twin := rfl
@[simp] theorem Core.setBg_power (c : Core) (g : Nat) (v : BGroup) : (c.setBg g v).power = c.power := rfl
@[simp] theorem Core.setBg_rst (c : Core) (g : Nat) (v : BGroup) : (c.setBg g v).rst = c.rst := rfl
@[simp] theorem Core.setBg_sad (c : Core) (g : Nat) (v : BGroup) : (c.setBg g v).sad = c.sad := rfl
@[simp] theorem Core.setBg_sessions (c : Core) (g : Nat) (v : BGroup) : (c.setBg g v).sessions = c.sessions := rfl
@[simp] theorem Core.setBg_sessAge (c : Core) (g : Nat) (v : BGroup) : (c.setBg g v).sessAge = c.sessAge := rfl
@[simp] theorem Core.setBg_pendLow (c : Core) (g : Nat) (v : BGroup) : (c.setBg g v).pendLow = c.pendLow := rfl
@[simp] theorem Core.setBg_hold (c : Core) (g : Nat) (v : BGroup) : (c.setBg g v).hold = c.hold := rfl
@[simp] theorem Core.setBg_stalls (c : Core) (g : Nat) (v : BGroup) : (c.setBg g v).stalls = c.stalls := rfl
@[simp] theorem Core.setBg_strapWait (c : Core) (g : Nat) (v : BGroup) : (c.setBg g v).strapWait = c.strapWait := rfl
@[simp] theorem Core.setBg_strapQ (c : Core) (g : Nat) (v : BGroup) : (c.setBg g v).strapQ = c.strapQ := rfl
@[simp] theorem Core.setBg_wdHeld (c : Core) (g : Nat) (v : BGroup) : (c.setBg g v).wdHeld = c.wdHeld := rfl
@[simp] theorem Core.setBg_patFlash (c : Core) (g : Nat) (v : BGroup) : (c.setBg g v).patFlash = c.patFlash := rfl
@[simp] theorem Core.setBg_imgFlash (c : Core) (g : Nat) (v : BGroup) : (c.setBg g v).imgFlash = c.imgFlash := rfl
@[simp] theorem Core.setBg_keys (c : Core) (g : Nat) (v : BGroup) : (c.setBg g v).keys = c.keys := rfl
@[simp] theorem Core.setBg_pos0 (c : Core) (g : Nat) (v : BGroup) : (c.setBg g v).pos0 = c.pos0 := rfl
@[simp] theorem Core.setBg_pos1 (c : Core) (g : Nat) (v : BGroup) : (c.setBg g v).pos1 = c.pos1 := rfl
@[simp] theorem Core.setBg_ipSet (c : Core) (g : Nat) (v : BGroup) : (c.setBg g v).ipSet = c.ipSet := rfl
@[simp] theorem Core.setBg_livePorts (c : Core) (g : Nat) (v : BGroup) : (c.setBg g v).livePorts = c.livePorts := rfl
@[simp] theorem Core.setBg_liveVlan (c : Core) (g : Nat) (v : BGroup) : (c.setBg g v).liveVlan = c.liveVlan := rfl
@[simp] theorem Core.setBg_ipLive (c : Core) (g : Nat) (v : BGroup) : (c.setBg g v).ipLive = c.ipLive := rfl
@[simp] theorem Core.setBg_silent (c : Core) (g : Nat) (v : BGroup) : (c.setBg g v).silent = c.silent := rfl
@[simp] theorem Core.setBg_lockAns (c : Core) (g : Nat) (v : BGroup) : (c.setBg g v).lockAns = c.lockAns := rfl
@[simp] theorem Core.setBg_deferred (c : Core) (g : Nat) (v : BGroup) : (c.setBg g v).deferred = c.deferred := rfl
@[simp] theorem Core.setBg_memq (c : Core) (g : Nat) (v : BGroup) : (c.setBg g v).memq = c.memq := rfl
@[simp] theorem Core.setBg_freeIdx (c : Core) (g : Nat) (v : BGroup) : (c.setBg g v).freeIdx = c.freeIdx := rfl
@[simp] theorem Core.setBg_acc (c : Core) (g : Nat) (v : BGroup) : (c.setBg g v).acc = c.acc := rfl
@[simp] theorem Core.setBg_out (c : Core) (g : Nat) (v : BGroup) : (c.setBg g v).out = c.out := rfl
@[simp] theorem Core.setBg_reg (c : Core) (g : Nat) (v : BGroup) (r : Reg) (j : Nat) : (c.setBg g v).reg r j = c.reg r j := rfl
@[simp] theorem Core.setBg_get (c : Core) (g : Nat) (v : BGroup) (f : Fld) (j : Nat) : (c.setBg g v).get f j = c.get f j := rfl
@[simp] theorem Core.setBg_bit (c : Core) (g : Nat) (v : BGroup) (f : Fld) (j : Nat) : (c.setBg g v).bit f j = c.bit f j := rfl
@[simp] theorem Core.setBg_bridle_sto (c : Core) (g : Nat) (v : BGroup) : (c.setBg g v).bridle.sto = c.bridle.sto := rfl
@[simp] theorem Core.setBg_bridle_ss1 (c : Core) (g : Nat) (v : BGroup) : (c.setBg g v).bridle.ss1 = c.bridle.ss1 := rfl
@[simp] theorem Core.setBg_bridle_door (c : Core) (g : Nat) (v : BGroup) : (c.setBg g v).bridle.door = c.bridle.door := rfl
@[simp] theorem Core.setBg_bridle_discrep (c : Core) (g : Nat) (v : BGroup) : (c.setBg g v).bridle.discrep = c.bridle.discrep := rfl
@[simp] theorem Core.setBg_bridle_sealP (c : Core) (g : Nat) (v : BGroup) : (c.setBg g v).bridle.sealP = c.bridle.sealP := rfl
@[simp] theorem Core.setBg_bridle_xSeal (c : Core) (g : Nat) (v : BGroup) : (c.setBg g v).bridle.xSeal = c.bridle.xSeal := rfl
@[simp] theorem Core.setBg_bridle_xRef (c : Core) (g : Nat) (v : BGroup) : (c.setBg g v).bridle.xRef = c.bridle.xRef := rfl
@[simp] theorem Core.setBg_bridle_refStored (c : Core) (g : Nat) (v : BGroup) : (c.setBg g v).bridle.refStored = c.bridle.refStored := rfl
@[simp] theorem Core.setBg_bridle_sealLatch (c : Core) (g : Nat) (v : BGroup) : (c.setBg g v).bridle.sealLatch = c.bridle.sealLatch := rfl
@[simp] theorem Core.setBg_bridle_xSealLatch (c : Core) (g : Nat) (v : BGroup) : (c.setBg g v).bridle.xSealLatch = c.bridle.xSealLatch := rfl
@[simp] theorem Core.setBg_bridle_supplied (c : Core) (g : Nat) (v : BGroup) : (c.setBg g v).bridle.supplied = c.bridle.supplied := rfl
@[simp] theorem Core.setBg_bridle_linkSeen (c : Core) (g : Nat) (v : BGroup) : (c.setBg g v).bridle.linkSeen = c.bridle.linkSeen := rfl
@[simp] theorem Core.setBg_bridle_own (c : Core) (g : Nat) (v : BGroup) : (c.setBg g v).bridle.own = c.bridle.own := rfl
@[simp] theorem Core.setBg_bridle_pown (c : Core) (g : Nat) (v : BGroup) : (c.setBg g v).bridle.pown = c.bridle.pown := rfl
@[simp] theorem Core.setBg_bridle_ownT (c : Core) (g : Nat) (v : BGroup) : (c.setBg g v).bridle.ownT = c.bridle.ownT := rfl
@[simp] theorem Core.setBg_bridle_pownT (c : Core) (g : Nat) (v : BGroup) : (c.setBg g v).bridle.pownT = c.bridle.pownT := rfl
@[simp] theorem Core.setBg_bridle_agreed (c : Core) (g : Nat) (v : BGroup) : (c.setBg g v).bridle.agreed = c.bridle.agreed := rfl
@[simp] theorem Core.setBg_bridle_linkLost (c : Core) (g : Nat) (v : BGroup) : (c.setBg g v).bridle.linkLost = c.bridle.linkLost := rfl
@[simp] theorem Core.setBg_bridle_startup (c : Core) (g : Nat) (v : BGroup) : (c.setBg g v).bridle.startup = c.bridle.startup := rfl

/-! ### Islands, groups and crossings -/

@[simp] theorem Core.sendLevel_regs (c : Core) (a b l v : Nat) : (c.sendLevel a b l v).regs = c.regs := by unfold Core.sendLevel; split <;> rfl
@[simp] theorem Core.sendLevel_pat (c : Core) (a b l v : Nat) : (c.sendLevel a b l v).pat = c.pat := by unfold Core.sendLevel; split <;> rfl
@[simp] theorem Core.sendLevel_prof (c : Core) (a b l v : Nat) : (c.sendLevel a b l v).prof = c.prof := by unfold Core.sendLevel; split <;> rfl
@[simp] theorem Core.sendLevel_igs (c : Core) (a b l v : Nat) : (c.sendLevel a b l v).igs = c.igs := by unfold Core.sendLevel; split <;> rfl
@[simp] theorem Core.sendLevel_steps (c : Core) (a b l v : Nat) : (c.sendLevel a b l v).steps = c.steps := by unfold Core.sendLevel; split <;> rfl
@[simp] theorem Core.sendLevel_loops (c : Core) (a b l v : Nat) : (c.sendLevel a b l v).loops = c.loops := by unfold Core.sendLevel; split <;> rfl
@[simp] theorem Core.sendLevel_snaps (c : Core) (a b l v : Nat) : (c.sendLevel a b l v).snaps = c.snaps := by unfold Core.sendLevel; split <;> rfl
@[simp] theorem Core.sendLevel_ctxs (c : Core) (a b l v : Nat) : (c.sendLevel a b l v).ctxs = c.ctxs := by unfold Core.sendLevel; split <;> rfl
@[simp] theorem Core.sendLevel_ests (c : Core) (a b l v : Nat) : (c.sendLevel a b l v).ests = c.ests := by unfold Core.sendLevel; split <;> rfl
@[simp] theorem Core.sendLevel_lanes (c : Core) (a b l v : Nat) : (c.sendLevel a b l v).lanes = c.lanes := by unfold Core.sendLevel; split <;> rfl
@[simp] theorem Core.sendLevel_ports (c : Core) (a b l v : Nat) : (c.sendLevel a b l v).ports = c.ports := by unfold Core.sendLevel; split <;> rfl
@[simp] theorem Core.sendLevel_reps (c : Core) (a b l v : Nat) : (c.sendLevel a b l v).reps = c.reps := by unfold Core.sendLevel; split <;> rfl
@[simp] theorem Core.sendLevel_time (c : Core) (a b l v : Nat) : (c.sendLevel a b l v).time = c.time := by unfold Core.sendLevel; split <;> rfl
@[simp] theorem Core.sendLevel_backSec (c : Core) (a b l v : Nat) : (c.sendLevel a b l v).backSec = c.backSec := by unfold Core.sendLevel; split <;> rfl
@[simp] theorem Core.sendLevel_backSub (c : Core) (a b l v : Nat) : (c.sendLevel a b l v).backSub = c.backSub := by unfold Core.sendLevel; split <;> rfl
@[simp] theorem Core.sendLevel_backPhase (c : Core) (a b l v : Nat) : (c.sendLevel a b l v).backPhase = c.backPhase := by unfold Core.sendLevel; split <;> rfl
@[simp] theorem Core.sendLevel_backKept (c : Core) (a b l v : Nat) : (c.sendLevel a b l v).backKept = c.backKept := by unfold Core.sendLevel; split <;> rfl
@[simp] theorem Core.sendLevel_dirIn (c : Core) (a b l v : Nat) : (c.sendLevel a b l v).dirIn = c.dirIn := by unfold Core.sendLevel; split <;> rfl
@[simp] theorem Core.sendLevel_rings (c : Core) (a b l v : Nat) : (c.sendLevel a b l v).rings = c.rings := by unfold Core.sendLevel; split <;> rfl
@[simp] theorem Core.sendLevel_query (c : Core) (a b l v : Nat) : (c.sendLevel a b l v).query = c.query := by unfold Core.sendLevel; split <;> rfl
@[simp] theorem Core.sendLevel_grids (c : Core) (a b l v : Nat) : (c.sendLevel a b l v).grids = c.grids := by unfold Core.sendLevel; split <;> rfl
@[simp] theorem Core.sendLevel_engines (c : Core) (a b l v : Nat) : (c.sendLevel a b l v).engines = c.engines := by unfold Core.sendLevel; split <;> rfl
@[simp] theorem Core.sendLevel_sched (c : Core) (a b l v : Nat) : (c.sendLevel a b l v).sched = c.sched := by unfold Core.sendLevel; split <;> rfl
@[simp] theorem Core.sendLevel_bridle (c : Core) (a b l v : Nat) : (c.sendLevel a b l v).bridle = c.bridle := by unfold Core.sendLevel; split <;> rfl
@[simp] theorem Core.sendLevel_latchRec (c : Core) (a b l v : Nat) : (c.sendLevel a b l v).latchRec = c.latchRec := by unfold Core.sendLevel; split <;> rfl
@[simp] theorem Core.sendLevel_frecIncarn (c : Core) (a b l v : Nat) : (c.sendLevel a b l v).frecIncarn = c.frecIncarn := by unfold Core.sendLevel; split <;> rfl
@[simp] theorem Core.sendLevel_canObjs (c : Core) (a b l v : Nat) : (c.sendLevel a b l v).canObjs = c.canObjs := by unfold Core.sendLevel; split <;> rfl
@[simp] theorem Core.sendLevel_canChs (c : Core) (a b l v : Nat) : (c.sendLevel a b l v).canChs = c.canChs := by unfold Core.sendLevel; split <;> rfl
@[simp] theorem Core.sendLevel_strings (c : Core) (a b l v : Nat) : (c.sendLevel a b l v).strings = c.strings := by unfold Core.sendLevel; split <;> rfl
@[simp] theorem Core.sendLevel_isl (c : Core) (a b l v : Nat) : (c.sendLevel a b l v).isl = c.isl := by unfold Core.sendLevel; split <;> rfl
@[simp] theorem Core.sendLevel_woken (c : Core) (a b l v : Nat) : (c.sendLevel a b l v).woken = c.woken := by unfold Core.sendLevel; split <;> rfl
@[simp] theorem Core.sendLevel_banks (c : Core) (a b l v : Nat) : (c.sendLevel a b l v).banks = c.banks := by unfold Core.sendLevel; split <;> rfl
@[simp] theorem Core.sendLevel_loader (c : Core) (a b l v : Nat) : (c.sendLevel a b l v).loader = c.loader := by unfold Core.sendLevel; split <;> rfl
@[simp] theorem Core.sendLevel_twin (c : Core) (a b l v : Nat) : (c.sendLevel a b l v).twin = c.twin := by unfold Core.sendLevel; split <;> rfl
@[simp] theorem Core.sendLevel_power (c : Core) (a b l v : Nat) : (c.sendLevel a b l v).power = c.power := by unfold Core.sendLevel; split <;> rfl
@[simp] theorem Core.sendLevel_rst (c : Core) (a b l v : Nat) : (c.sendLevel a b l v).rst = c.rst := by unfold Core.sendLevel; split <;> rfl
@[simp] theorem Core.sendLevel_sad (c : Core) (a b l v : Nat) : (c.sendLevel a b l v).sad = c.sad := by unfold Core.sendLevel; split <;> rfl
@[simp] theorem Core.sendLevel_sessions (c : Core) (a b l v : Nat) : (c.sendLevel a b l v).sessions = c.sessions := by unfold Core.sendLevel; split <;> rfl
@[simp] theorem Core.sendLevel_sessAge (c : Core) (a b l v : Nat) : (c.sendLevel a b l v).sessAge = c.sessAge := by unfold Core.sendLevel; split <;> rfl
@[simp] theorem Core.sendLevel_pendLow (c : Core) (a b l v : Nat) : (c.sendLevel a b l v).pendLow = c.pendLow := by unfold Core.sendLevel; split <;> rfl
@[simp] theorem Core.sendLevel_hold (c : Core) (a b l v : Nat) : (c.sendLevel a b l v).hold = c.hold := by unfold Core.sendLevel; split <;> rfl
@[simp] theorem Core.sendLevel_stalls (c : Core) (a b l v : Nat) : (c.sendLevel a b l v).stalls = c.stalls := by unfold Core.sendLevel; split <;> rfl
@[simp] theorem Core.sendLevel_strapWait (c : Core) (a b l v : Nat) : (c.sendLevel a b l v).strapWait = c.strapWait := by unfold Core.sendLevel; split <;> rfl
@[simp] theorem Core.sendLevel_strapQ (c : Core) (a b l v : Nat) : (c.sendLevel a b l v).strapQ = c.strapQ := by unfold Core.sendLevel; split <;> rfl
@[simp] theorem Core.sendLevel_wdHeld (c : Core) (a b l v : Nat) : (c.sendLevel a b l v).wdHeld = c.wdHeld := by unfold Core.sendLevel; split <;> rfl
@[simp] theorem Core.sendLevel_patFlash (c : Core) (a b l v : Nat) : (c.sendLevel a b l v).patFlash = c.patFlash := by unfold Core.sendLevel; split <;> rfl
@[simp] theorem Core.sendLevel_imgFlash (c : Core) (a b l v : Nat) : (c.sendLevel a b l v).imgFlash = c.imgFlash := by unfold Core.sendLevel; split <;> rfl
@[simp] theorem Core.sendLevel_keys (c : Core) (a b l v : Nat) : (c.sendLevel a b l v).keys = c.keys := by unfold Core.sendLevel; split <;> rfl
@[simp] theorem Core.sendLevel_pos0 (c : Core) (a b l v : Nat) : (c.sendLevel a b l v).pos0 = c.pos0 := by unfold Core.sendLevel; split <;> rfl
@[simp] theorem Core.sendLevel_pos1 (c : Core) (a b l v : Nat) : (c.sendLevel a b l v).pos1 = c.pos1 := by unfold Core.sendLevel; split <;> rfl
@[simp] theorem Core.sendLevel_ipSet (c : Core) (a b l v : Nat) : (c.sendLevel a b l v).ipSet = c.ipSet := by unfold Core.sendLevel; split <;> rfl
@[simp] theorem Core.sendLevel_livePorts (c : Core) (a b l v : Nat) : (c.sendLevel a b l v).livePorts = c.livePorts := by unfold Core.sendLevel; split <;> rfl
@[simp] theorem Core.sendLevel_liveVlan (c : Core) (a b l v : Nat) : (c.sendLevel a b l v).liveVlan = c.liveVlan := by unfold Core.sendLevel; split <;> rfl
@[simp] theorem Core.sendLevel_ipLive (c : Core) (a b l v : Nat) : (c.sendLevel a b l v).ipLive = c.ipLive := by unfold Core.sendLevel; split <;> rfl
@[simp] theorem Core.sendLevel_silent (c : Core) (a b l v : Nat) : (c.sendLevel a b l v).silent = c.silent := by unfold Core.sendLevel; split <;> rfl
@[simp] theorem Core.sendLevel_lockAns (c : Core) (a b l v : Nat) : (c.sendLevel a b l v).lockAns = c.lockAns := by unfold Core.sendLevel; split <;> rfl
@[simp] theorem Core.sendLevel_deferred (c : Core) (a b l v : Nat) : (c.sendLevel a b l v).deferred = c.deferred := by unfold Core.sendLevel; split <;> rfl
@[simp] theorem Core.sendLevel_memq (c : Core) (a b l v : Nat) : (c.sendLevel a b l v).memq = c.memq := by unfold Core.sendLevel; split <;> rfl
@[simp] theorem Core.sendLevel_freeIdx (c : Core) (a b l v : Nat) : (c.sendLevel a b l v).freeIdx = c.freeIdx := by unfold Core.sendLevel; split <;> rfl
@[simp] theorem Core.sendLevel_acc (c : Core) (a b l v : Nat) : (c.sendLevel a b l v).acc = c.acc := by unfold Core.sendLevel; split <;> rfl
@[simp] theorem Core.sendLevel_out (c : Core) (a b l v : Nat) : (c.sendLevel a b l v).out = c.out := by unfold Core.sendLevel; split <;> rfl
@[simp] theorem Core.sendLevel_reg (c : Core) (a b l v : Nat) (r : Reg) (j : Nat) : (c.sendLevel a b l v).reg r j = c.reg r j := by unfold Core.sendLevel; split <;> rfl
@[simp] theorem Core.sendLevel_get (c : Core) (a b l v : Nat) (f : Fld) (j : Nat) : (c.sendLevel a b l v).get f j = c.get f j := by unfold Core.sendLevel; split <;> rfl
@[simp] theorem Core.sendLevel_bit (c : Core) (a b l v : Nat) (f : Fld) (j : Nat) : (c.sendLevel a b l v).bit f j = c.bit f j := by unfold Core.sendLevel; split <;> rfl
theorem Core.islState_setIsl (c : Core) {i : Nat} (v : Nat) (h : i ≤ 0x29) : (c.setIsl i v).islState i = v := by
  simp only [Core.islState, Core.setIsl, if_pos h, Core.sendLevel_isl, Tab.get_set_self]
theorem Core.islState_setIsl_ne (c : Core) {i j : Nat} (v : Nat) (h : i ≠ j) : (c.setIsl i v).islState j = c.islState j := by
  simp only [Core.islState, Core.setIsl, Core.sendLevel_isl, Tab.get_set_ne _ _ v h]
@[simp] theorem Core.setIsl_regs (c : Core) (i v : Nat) : (c.setIsl i v).regs = c.regs := by unfold Core.setIsl Core.sendLevel; split <;> rfl
@[simp] theorem Core.setIsl_pat (c : Core) (i v : Nat) : (c.setIsl i v).pat = c.pat := by unfold Core.setIsl Core.sendLevel; split <;> rfl
@[simp] theorem Core.setIsl_prof (c : Core) (i v : Nat) : (c.setIsl i v).prof = c.prof := by unfold Core.setIsl Core.sendLevel; split <;> rfl
@[simp] theorem Core.setIsl_igs (c : Core) (i v : Nat) : (c.setIsl i v).igs = c.igs := by unfold Core.setIsl Core.sendLevel; split <;> rfl
@[simp] theorem Core.setIsl_steps (c : Core) (i v : Nat) : (c.setIsl i v).steps = c.steps := by unfold Core.setIsl Core.sendLevel; split <;> rfl
@[simp] theorem Core.setIsl_loops (c : Core) (i v : Nat) : (c.setIsl i v).loops = c.loops := by unfold Core.setIsl Core.sendLevel; split <;> rfl
@[simp] theorem Core.setIsl_snaps (c : Core) (i v : Nat) : (c.setIsl i v).snaps = c.snaps := by unfold Core.setIsl Core.sendLevel; split <;> rfl
@[simp] theorem Core.setIsl_ctxs (c : Core) (i v : Nat) : (c.setIsl i v).ctxs = c.ctxs := by unfold Core.setIsl Core.sendLevel; split <;> rfl
@[simp] theorem Core.setIsl_ests (c : Core) (i v : Nat) : (c.setIsl i v).ests = c.ests := by unfold Core.setIsl Core.sendLevel; split <;> rfl
@[simp] theorem Core.setIsl_lanes (c : Core) (i v : Nat) : (c.setIsl i v).lanes = c.lanes := by unfold Core.setIsl Core.sendLevel; split <;> rfl
@[simp] theorem Core.setIsl_ports (c : Core) (i v : Nat) : (c.setIsl i v).ports = c.ports := by unfold Core.setIsl Core.sendLevel; split <;> rfl
@[simp] theorem Core.setIsl_reps (c : Core) (i v : Nat) : (c.setIsl i v).reps = c.reps := by unfold Core.setIsl Core.sendLevel; split <;> rfl
@[simp] theorem Core.setIsl_time (c : Core) (i v : Nat) : (c.setIsl i v).time = c.time := by unfold Core.setIsl Core.sendLevel; split <;> rfl
@[simp] theorem Core.setIsl_backSec (c : Core) (i v : Nat) : (c.setIsl i v).backSec = c.backSec := by unfold Core.setIsl Core.sendLevel; split <;> rfl
@[simp] theorem Core.setIsl_backSub (c : Core) (i v : Nat) : (c.setIsl i v).backSub = c.backSub := by unfold Core.setIsl Core.sendLevel; split <;> rfl
@[simp] theorem Core.setIsl_backPhase (c : Core) (i v : Nat) : (c.setIsl i v).backPhase = c.backPhase := by unfold Core.setIsl Core.sendLevel; split <;> rfl
@[simp] theorem Core.setIsl_backKept (c : Core) (i v : Nat) : (c.setIsl i v).backKept = c.backKept := by unfold Core.setIsl Core.sendLevel; split <;> rfl
@[simp] theorem Core.setIsl_dirIn (c : Core) (i v : Nat) : (c.setIsl i v).dirIn = c.dirIn := by unfold Core.setIsl Core.sendLevel; split <;> rfl
@[simp] theorem Core.setIsl_rings (c : Core) (i v : Nat) : (c.setIsl i v).rings = c.rings := by unfold Core.setIsl Core.sendLevel; split <;> rfl
@[simp] theorem Core.setIsl_query (c : Core) (i v : Nat) : (c.setIsl i v).query = c.query := by unfold Core.setIsl Core.sendLevel; split <;> rfl
@[simp] theorem Core.setIsl_grids (c : Core) (i v : Nat) : (c.setIsl i v).grids = c.grids := by unfold Core.setIsl Core.sendLevel; split <;> rfl
@[simp] theorem Core.setIsl_engines (c : Core) (i v : Nat) : (c.setIsl i v).engines = c.engines := by unfold Core.setIsl Core.sendLevel; split <;> rfl
@[simp] theorem Core.setIsl_sched (c : Core) (i v : Nat) : (c.setIsl i v).sched = c.sched := by unfold Core.setIsl Core.sendLevel; split <;> rfl
@[simp] theorem Core.setIsl_bridle (c : Core) (i v : Nat) : (c.setIsl i v).bridle = c.bridle := by unfold Core.setIsl Core.sendLevel; split <;> rfl
@[simp] theorem Core.setIsl_latchRec (c : Core) (i v : Nat) : (c.setIsl i v).latchRec = c.latchRec := by unfold Core.setIsl Core.sendLevel; split <;> rfl
@[simp] theorem Core.setIsl_frecIncarn (c : Core) (i v : Nat) : (c.setIsl i v).frecIncarn = c.frecIncarn := by unfold Core.setIsl Core.sendLevel; split <;> rfl
@[simp] theorem Core.setIsl_canObjs (c : Core) (i v : Nat) : (c.setIsl i v).canObjs = c.canObjs := by unfold Core.setIsl Core.sendLevel; split <;> rfl
@[simp] theorem Core.setIsl_canChs (c : Core) (i v : Nat) : (c.setIsl i v).canChs = c.canChs := by unfold Core.setIsl Core.sendLevel; split <;> rfl
@[simp] theorem Core.setIsl_strings (c : Core) (i v : Nat) : (c.setIsl i v).strings = c.strings := by unfold Core.setIsl Core.sendLevel; split <;> rfl
@[simp] theorem Core.setIsl_woken (c : Core) (i v : Nat) : (c.setIsl i v).woken = c.woken := by unfold Core.setIsl Core.sendLevel; split <;> rfl
@[simp] theorem Core.setIsl_banks (c : Core) (i v : Nat) : (c.setIsl i v).banks = c.banks := by unfold Core.setIsl Core.sendLevel; split <;> rfl
@[simp] theorem Core.setIsl_loader (c : Core) (i v : Nat) : (c.setIsl i v).loader = c.loader := by unfold Core.setIsl Core.sendLevel; split <;> rfl
@[simp] theorem Core.setIsl_twin (c : Core) (i v : Nat) : (c.setIsl i v).twin = c.twin := by unfold Core.setIsl Core.sendLevel; split <;> rfl
@[simp] theorem Core.setIsl_power (c : Core) (i v : Nat) : (c.setIsl i v).power = c.power := by unfold Core.setIsl Core.sendLevel; split <;> rfl
@[simp] theorem Core.setIsl_rst (c : Core) (i v : Nat) : (c.setIsl i v).rst = c.rst := by unfold Core.setIsl Core.sendLevel; split <;> rfl
@[simp] theorem Core.setIsl_sad (c : Core) (i v : Nat) : (c.setIsl i v).sad = c.sad := by unfold Core.setIsl Core.sendLevel; split <;> rfl
@[simp] theorem Core.setIsl_sessions (c : Core) (i v : Nat) : (c.setIsl i v).sessions = c.sessions := by unfold Core.setIsl Core.sendLevel; split <;> rfl
@[simp] theorem Core.setIsl_sessAge (c : Core) (i v : Nat) : (c.setIsl i v).sessAge = c.sessAge := by unfold Core.setIsl Core.sendLevel; split <;> rfl
@[simp] theorem Core.setIsl_pendLow (c : Core) (i v : Nat) : (c.setIsl i v).pendLow = c.pendLow := by unfold Core.setIsl Core.sendLevel; split <;> rfl
@[simp] theorem Core.setIsl_hold (c : Core) (i v : Nat) : (c.setIsl i v).hold = c.hold := by unfold Core.setIsl Core.sendLevel; split <;> rfl
@[simp] theorem Core.setIsl_stalls (c : Core) (i v : Nat) : (c.setIsl i v).stalls = c.stalls := by unfold Core.setIsl Core.sendLevel; split <;> rfl
@[simp] theorem Core.setIsl_strapWait (c : Core) (i v : Nat) : (c.setIsl i v).strapWait = c.strapWait := by unfold Core.setIsl Core.sendLevel; split <;> rfl
@[simp] theorem Core.setIsl_strapQ (c : Core) (i v : Nat) : (c.setIsl i v).strapQ = c.strapQ := by unfold Core.setIsl Core.sendLevel; split <;> rfl
@[simp] theorem Core.setIsl_wdHeld (c : Core) (i v : Nat) : (c.setIsl i v).wdHeld = c.wdHeld := by unfold Core.setIsl Core.sendLevel; split <;> rfl
@[simp] theorem Core.setIsl_patFlash (c : Core) (i v : Nat) : (c.setIsl i v).patFlash = c.patFlash := by unfold Core.setIsl Core.sendLevel; split <;> rfl
@[simp] theorem Core.setIsl_imgFlash (c : Core) (i v : Nat) : (c.setIsl i v).imgFlash = c.imgFlash := by unfold Core.setIsl Core.sendLevel; split <;> rfl
@[simp] theorem Core.setIsl_keys (c : Core) (i v : Nat) : (c.setIsl i v).keys = c.keys := by unfold Core.setIsl Core.sendLevel; split <;> rfl
@[simp] theorem Core.setIsl_pos0 (c : Core) (i v : Nat) : (c.setIsl i v).pos0 = c.pos0 := by unfold Core.setIsl Core.sendLevel; split <;> rfl
@[simp] theorem Core.setIsl_pos1 (c : Core) (i v : Nat) : (c.setIsl i v).pos1 = c.pos1 := by unfold Core.setIsl Core.sendLevel; split <;> rfl
@[simp] theorem Core.setIsl_ipSet (c : Core) (i v : Nat) : (c.setIsl i v).ipSet = c.ipSet := by unfold Core.setIsl Core.sendLevel; split <;> rfl
@[simp] theorem Core.setIsl_livePorts (c : Core) (i v : Nat) : (c.setIsl i v).livePorts = c.livePorts := by unfold Core.setIsl Core.sendLevel; split <;> rfl
@[simp] theorem Core.setIsl_liveVlan (c : Core) (i v : Nat) : (c.setIsl i v).liveVlan = c.liveVlan := by unfold Core.setIsl Core.sendLevel; split <;> rfl
@[simp] theorem Core.setIsl_ipLive (c : Core) (i v : Nat) : (c.setIsl i v).ipLive = c.ipLive := by unfold Core.setIsl Core.sendLevel; split <;> rfl
@[simp] theorem Core.setIsl_silent (c : Core) (i v : Nat) : (c.setIsl i v).silent = c.silent := by unfold Core.setIsl Core.sendLevel; split <;> rfl
@[simp] theorem Core.setIsl_lockAns (c : Core) (i v : Nat) : (c.setIsl i v).lockAns = c.lockAns := by unfold Core.setIsl Core.sendLevel; split <;> rfl
@[simp] theorem Core.setIsl_deferred (c : Core) (i v : Nat) : (c.setIsl i v).deferred = c.deferred := by unfold Core.setIsl Core.sendLevel; split <;> rfl
@[simp] theorem Core.setIsl_memq (c : Core) (i v : Nat) : (c.setIsl i v).memq = c.memq := by unfold Core.setIsl Core.sendLevel; split <;> rfl
@[simp] theorem Core.setIsl_freeIdx (c : Core) (i v : Nat) : (c.setIsl i v).freeIdx = c.freeIdx := by unfold Core.setIsl Core.sendLevel; split <;> rfl
@[simp] theorem Core.setIsl_acc (c : Core) (i v : Nat) : (c.setIsl i v).acc = c.acc := by unfold Core.setIsl Core.sendLevel; split <;> rfl
@[simp] theorem Core.setIsl_out (c : Core) (i v : Nat) : (c.setIsl i v).out = c.out := by unfold Core.setIsl Core.sendLevel; split <;> rfl
@[simp] theorem Core.setIsl_reg (c : Core) (i v : Nat) (r : Reg) (j : Nat) : (c.setIsl i v).reg r j = c.reg r j := by unfold Core.setIsl Core.sendLevel; split <;> rfl
@[simp] theorem Core.setIsl_get (c : Core) (i v : Nat) (f : Fld) (j : Nat) : (c.setIsl i v).get f j = c.get f j := by unfold Core.setIsl Core.sendLevel; split <;> rfl
@[simp] theorem Core.setIsl_bit (c : Core) (i v : Nat) (f : Fld) (j : Nat) : (c.setIsl i v).bit f j = c.bit f j := by unfold Core.setIsl Core.sendLevel; split <;> rfl
@[simp] theorem Core.setGrp_pat (c : Core) (g v : Nat) : (c.setGrp g v).pat = c.pat := by unfold Core.setGrp Core.sendLevel; split <;> rfl
@[simp] theorem Core.setGrp_prof (c : Core) (g v : Nat) : (c.setGrp g v).prof = c.prof := by unfold Core.setGrp Core.sendLevel; split <;> rfl
@[simp] theorem Core.setGrp_igs (c : Core) (g v : Nat) : (c.setGrp g v).igs = c.igs := by unfold Core.setGrp Core.sendLevel; split <;> rfl
@[simp] theorem Core.setGrp_steps (c : Core) (g v : Nat) : (c.setGrp g v).steps = c.steps := by unfold Core.setGrp Core.sendLevel; split <;> rfl
@[simp] theorem Core.setGrp_loops (c : Core) (g v : Nat) : (c.setGrp g v).loops = c.loops := by unfold Core.setGrp Core.sendLevel; split <;> rfl
@[simp] theorem Core.setGrp_snaps (c : Core) (g v : Nat) : (c.setGrp g v).snaps = c.snaps := by unfold Core.setGrp Core.sendLevel; split <;> rfl
@[simp] theorem Core.setGrp_ctxs (c : Core) (g v : Nat) : (c.setGrp g v).ctxs = c.ctxs := by unfold Core.setGrp Core.sendLevel; split <;> rfl
@[simp] theorem Core.setGrp_ests (c : Core) (g v : Nat) : (c.setGrp g v).ests = c.ests := by unfold Core.setGrp Core.sendLevel; split <;> rfl
@[simp] theorem Core.setGrp_lanes (c : Core) (g v : Nat) : (c.setGrp g v).lanes = c.lanes := by unfold Core.setGrp Core.sendLevel; split <;> rfl
@[simp] theorem Core.setGrp_ports (c : Core) (g v : Nat) : (c.setGrp g v).ports = c.ports := by unfold Core.setGrp Core.sendLevel; split <;> rfl
@[simp] theorem Core.setGrp_reps (c : Core) (g v : Nat) : (c.setGrp g v).reps = c.reps := by unfold Core.setGrp Core.sendLevel; split <;> rfl
@[simp] theorem Core.setGrp_time (c : Core) (g v : Nat) : (c.setGrp g v).time = c.time := by unfold Core.setGrp Core.sendLevel; split <;> rfl
@[simp] theorem Core.setGrp_backSec (c : Core) (g v : Nat) : (c.setGrp g v).backSec = c.backSec := by unfold Core.setGrp Core.sendLevel; split <;> rfl
@[simp] theorem Core.setGrp_backSub (c : Core) (g v : Nat) : (c.setGrp g v).backSub = c.backSub := by unfold Core.setGrp Core.sendLevel; split <;> rfl
@[simp] theorem Core.setGrp_backPhase (c : Core) (g v : Nat) : (c.setGrp g v).backPhase = c.backPhase := by unfold Core.setGrp Core.sendLevel; split <;> rfl
@[simp] theorem Core.setGrp_backKept (c : Core) (g v : Nat) : (c.setGrp g v).backKept = c.backKept := by unfold Core.setGrp Core.sendLevel; split <;> rfl
@[simp] theorem Core.setGrp_dirIn (c : Core) (g v : Nat) : (c.setGrp g v).dirIn = c.dirIn := by unfold Core.setGrp Core.sendLevel; split <;> rfl
@[simp] theorem Core.setGrp_rings (c : Core) (g v : Nat) : (c.setGrp g v).rings = c.rings := by unfold Core.setGrp Core.sendLevel; split <;> rfl
@[simp] theorem Core.setGrp_query (c : Core) (g v : Nat) : (c.setGrp g v).query = c.query := by unfold Core.setGrp Core.sendLevel; split <;> rfl
@[simp] theorem Core.setGrp_grids (c : Core) (g v : Nat) : (c.setGrp g v).grids = c.grids := by unfold Core.setGrp Core.sendLevel; split <;> rfl
@[simp] theorem Core.setGrp_engines (c : Core) (g v : Nat) : (c.setGrp g v).engines = c.engines := by unfold Core.setGrp Core.sendLevel; split <;> rfl
@[simp] theorem Core.setGrp_sched (c : Core) (g v : Nat) : (c.setGrp g v).sched = c.sched := by unfold Core.setGrp Core.sendLevel; split <;> rfl
@[simp] theorem Core.setGrp_bridle (c : Core) (g v : Nat) : (c.setGrp g v).bridle = c.bridle := by unfold Core.setGrp Core.sendLevel; split <;> rfl
@[simp] theorem Core.setGrp_latchRec (c : Core) (g v : Nat) : (c.setGrp g v).latchRec = c.latchRec := by unfold Core.setGrp Core.sendLevel; split <;> rfl
@[simp] theorem Core.setGrp_frecIncarn (c : Core) (g v : Nat) : (c.setGrp g v).frecIncarn = c.frecIncarn := by unfold Core.setGrp Core.sendLevel; split <;> rfl
@[simp] theorem Core.setGrp_canObjs (c : Core) (g v : Nat) : (c.setGrp g v).canObjs = c.canObjs := by unfold Core.setGrp Core.sendLevel; split <;> rfl
@[simp] theorem Core.setGrp_canChs (c : Core) (g v : Nat) : (c.setGrp g v).canChs = c.canChs := by unfold Core.setGrp Core.sendLevel; split <;> rfl
@[simp] theorem Core.setGrp_strings (c : Core) (g v : Nat) : (c.setGrp g v).strings = c.strings := by unfold Core.setGrp Core.sendLevel; split <;> rfl
@[simp] theorem Core.setGrp_isl (c : Core) (g v : Nat) : (c.setGrp g v).isl = c.isl := by unfold Core.setGrp Core.sendLevel; split <;> rfl
@[simp] theorem Core.setGrp_woken (c : Core) (g v : Nat) : (c.setGrp g v).woken = c.woken := by unfold Core.setGrp Core.sendLevel; split <;> rfl
@[simp] theorem Core.setGrp_banks (c : Core) (g v : Nat) : (c.setGrp g v).banks = c.banks := by unfold Core.setGrp Core.sendLevel; split <;> rfl
@[simp] theorem Core.setGrp_loader (c : Core) (g v : Nat) : (c.setGrp g v).loader = c.loader := by unfold Core.setGrp Core.sendLevel; split <;> rfl
@[simp] theorem Core.setGrp_twin (c : Core) (g v : Nat) : (c.setGrp g v).twin = c.twin := by unfold Core.setGrp Core.sendLevel; split <;> rfl
@[simp] theorem Core.setGrp_power (c : Core) (g v : Nat) : (c.setGrp g v).power = c.power := by unfold Core.setGrp Core.sendLevel; split <;> rfl
@[simp] theorem Core.setGrp_rst (c : Core) (g v : Nat) : (c.setGrp g v).rst = c.rst := by unfold Core.setGrp Core.sendLevel; split <;> rfl
@[simp] theorem Core.setGrp_sad (c : Core) (g v : Nat) : (c.setGrp g v).sad = c.sad := by unfold Core.setGrp Core.sendLevel; split <;> rfl
@[simp] theorem Core.setGrp_sessions (c : Core) (g v : Nat) : (c.setGrp g v).sessions = c.sessions := by unfold Core.setGrp Core.sendLevel; split <;> rfl
@[simp] theorem Core.setGrp_sessAge (c : Core) (g v : Nat) : (c.setGrp g v).sessAge = c.sessAge := by unfold Core.setGrp Core.sendLevel; split <;> rfl
@[simp] theorem Core.setGrp_pendLow (c : Core) (g v : Nat) : (c.setGrp g v).pendLow = c.pendLow := by unfold Core.setGrp Core.sendLevel; split <;> rfl
@[simp] theorem Core.setGrp_hold (c : Core) (g v : Nat) : (c.setGrp g v).hold = c.hold := by unfold Core.setGrp Core.sendLevel; split <;> rfl
@[simp] theorem Core.setGrp_stalls (c : Core) (g v : Nat) : (c.setGrp g v).stalls = c.stalls := by unfold Core.setGrp Core.sendLevel; split <;> rfl
@[simp] theorem Core.setGrp_strapWait (c : Core) (g v : Nat) : (c.setGrp g v).strapWait = c.strapWait := by unfold Core.setGrp Core.sendLevel; split <;> rfl
@[simp] theorem Core.setGrp_strapQ (c : Core) (g v : Nat) : (c.setGrp g v).strapQ = c.strapQ := by unfold Core.setGrp Core.sendLevel; split <;> rfl
@[simp] theorem Core.setGrp_wdHeld (c : Core) (g v : Nat) : (c.setGrp g v).wdHeld = c.wdHeld := by unfold Core.setGrp Core.sendLevel; split <;> rfl
@[simp] theorem Core.setGrp_patFlash (c : Core) (g v : Nat) : (c.setGrp g v).patFlash = c.patFlash := by unfold Core.setGrp Core.sendLevel; split <;> rfl
@[simp] theorem Core.setGrp_imgFlash (c : Core) (g v : Nat) : (c.setGrp g v).imgFlash = c.imgFlash := by unfold Core.setGrp Core.sendLevel; split <;> rfl
@[simp] theorem Core.setGrp_keys (c : Core) (g v : Nat) : (c.setGrp g v).keys = c.keys := by unfold Core.setGrp Core.sendLevel; split <;> rfl
@[simp] theorem Core.setGrp_pos0 (c : Core) (g v : Nat) : (c.setGrp g v).pos0 = c.pos0 := by unfold Core.setGrp Core.sendLevel; split <;> rfl
@[simp] theorem Core.setGrp_pos1 (c : Core) (g v : Nat) : (c.setGrp g v).pos1 = c.pos1 := by unfold Core.setGrp Core.sendLevel; split <;> rfl
@[simp] theorem Core.setGrp_ipSet (c : Core) (g v : Nat) : (c.setGrp g v).ipSet = c.ipSet := by unfold Core.setGrp Core.sendLevel; split <;> rfl
@[simp] theorem Core.setGrp_livePorts (c : Core) (g v : Nat) : (c.setGrp g v).livePorts = c.livePorts := by unfold Core.setGrp Core.sendLevel; split <;> rfl
@[simp] theorem Core.setGrp_liveVlan (c : Core) (g v : Nat) : (c.setGrp g v).liveVlan = c.liveVlan := by unfold Core.setGrp Core.sendLevel; split <;> rfl
@[simp] theorem Core.setGrp_ipLive (c : Core) (g v : Nat) : (c.setGrp g v).ipLive = c.ipLive := by unfold Core.setGrp Core.sendLevel; split <;> rfl
@[simp] theorem Core.setGrp_silent (c : Core) (g v : Nat) : (c.setGrp g v).silent = c.silent := by unfold Core.setGrp Core.sendLevel; split <;> rfl
@[simp] theorem Core.setGrp_lockAns (c : Core) (g v : Nat) : (c.setGrp g v).lockAns = c.lockAns := by unfold Core.setGrp Core.sendLevel; split <;> rfl
@[simp] theorem Core.setGrp_deferred (c : Core) (g v : Nat) : (c.setGrp g v).deferred = c.deferred := by unfold Core.setGrp Core.sendLevel; split <;> rfl
@[simp] theorem Core.setGrp_memq (c : Core) (g v : Nat) : (c.setGrp g v).memq = c.memq := by unfold Core.setGrp Core.sendLevel; split <;> rfl
@[simp] theorem Core.setGrp_freeIdx (c : Core) (g v : Nat) : (c.setGrp g v).freeIdx = c.freeIdx := by unfold Core.setGrp Core.sendLevel; split <;> rfl
@[simp] theorem Core.setGrp_acc (c : Core) (g v : Nat) : (c.setGrp g v).acc = c.acc := by unfold Core.setGrp Core.sendLevel; split <;> rfl
@[simp] theorem Core.setGrp_out (c : Core) (g v : Nat) : (c.setGrp g v).out = c.out := by unfold Core.setGrp Core.sendLevel; split <;> rfl

/-! ### SRAM, emissions and answers -/

@[simp] theorem Core.store_regs (c : Core) (a : Nat) (bs : List Byte) : (c.store a bs).regs = c.regs := rfl
@[simp] theorem Core.store_pat (c : Core) (a : Nat) (bs : List Byte) : (c.store a bs).pat = c.pat := rfl
@[simp] theorem Core.store_prof (c : Core) (a : Nat) (bs : List Byte) : (c.store a bs).prof = c.prof := rfl
@[simp] theorem Core.store_igs (c : Core) (a : Nat) (bs : List Byte) : (c.store a bs).igs = c.igs := rfl
@[simp] theorem Core.store_steps (c : Core) (a : Nat) (bs : List Byte) : (c.store a bs).steps = c.steps := rfl
@[simp] theorem Core.store_loops (c : Core) (a : Nat) (bs : List Byte) : (c.store a bs).loops = c.loops := rfl
@[simp] theorem Core.store_snaps (c : Core) (a : Nat) (bs : List Byte) : (c.store a bs).snaps = c.snaps := rfl
@[simp] theorem Core.store_ctxs (c : Core) (a : Nat) (bs : List Byte) : (c.store a bs).ctxs = c.ctxs := rfl
@[simp] theorem Core.store_ests (c : Core) (a : Nat) (bs : List Byte) : (c.store a bs).ests = c.ests := rfl
@[simp] theorem Core.store_lanes (c : Core) (a : Nat) (bs : List Byte) : (c.store a bs).lanes = c.lanes := rfl
@[simp] theorem Core.store_ports (c : Core) (a : Nat) (bs : List Byte) : (c.store a bs).ports = c.ports := rfl
@[simp] theorem Core.store_reps (c : Core) (a : Nat) (bs : List Byte) : (c.store a bs).reps = c.reps := rfl
@[simp] theorem Core.store_time (c : Core) (a : Nat) (bs : List Byte) : (c.store a bs).time = c.time := rfl
@[simp] theorem Core.store_backSec (c : Core) (a : Nat) (bs : List Byte) : (c.store a bs).backSec = c.backSec := rfl
@[simp] theorem Core.store_backSub (c : Core) (a : Nat) (bs : List Byte) : (c.store a bs).backSub = c.backSub := rfl
@[simp] theorem Core.store_backPhase (c : Core) (a : Nat) (bs : List Byte) : (c.store a bs).backPhase = c.backPhase := rfl
@[simp] theorem Core.store_backKept (c : Core) (a : Nat) (bs : List Byte) : (c.store a bs).backKept = c.backKept := rfl
@[simp] theorem Core.store_dirIn (c : Core) (a : Nat) (bs : List Byte) : (c.store a bs).dirIn = c.dirIn := rfl
@[simp] theorem Core.store_rings (c : Core) (a : Nat) (bs : List Byte) : (c.store a bs).rings = c.rings := rfl
@[simp] theorem Core.store_query (c : Core) (a : Nat) (bs : List Byte) : (c.store a bs).query = c.query := rfl
@[simp] theorem Core.store_grids (c : Core) (a : Nat) (bs : List Byte) : (c.store a bs).grids = c.grids := rfl
@[simp] theorem Core.store_engines (c : Core) (a : Nat) (bs : List Byte) : (c.store a bs).engines = c.engines := rfl
@[simp] theorem Core.store_sched (c : Core) (a : Nat) (bs : List Byte) : (c.store a bs).sched = c.sched := rfl
@[simp] theorem Core.store_bridle (c : Core) (a : Nat) (bs : List Byte) : (c.store a bs).bridle = c.bridle := rfl
@[simp] theorem Core.store_latchRec (c : Core) (a : Nat) (bs : List Byte) : (c.store a bs).latchRec = c.latchRec := rfl
@[simp] theorem Core.store_frecIncarn (c : Core) (a : Nat) (bs : List Byte) : (c.store a bs).frecIncarn = c.frecIncarn := rfl
@[simp] theorem Core.store_canObjs (c : Core) (a : Nat) (bs : List Byte) : (c.store a bs).canObjs = c.canObjs := rfl
@[simp] theorem Core.store_canChs (c : Core) (a : Nat) (bs : List Byte) : (c.store a bs).canChs = c.canChs := rfl
@[simp] theorem Core.store_strings (c : Core) (a : Nat) (bs : List Byte) : (c.store a bs).strings = c.strings := rfl
@[simp] theorem Core.store_isl (c : Core) (a : Nat) (bs : List Byte) : (c.store a bs).isl = c.isl := rfl
@[simp] theorem Core.store_woken (c : Core) (a : Nat) (bs : List Byte) : (c.store a bs).woken = c.woken := rfl
@[simp] theorem Core.store_crossings (c : Core) (a : Nat) (bs : List Byte) : (c.store a bs).crossings = c.crossings := rfl
@[simp] theorem Core.store_banks (c : Core) (a : Nat) (bs : List Byte) : (c.store a bs).banks = c.banks := rfl
@[simp] theorem Core.store_loader (c : Core) (a : Nat) (bs : List Byte) : (c.store a bs).loader = c.loader := rfl
@[simp] theorem Core.store_twin (c : Core) (a : Nat) (bs : List Byte) : (c.store a bs).twin = c.twin := rfl
@[simp] theorem Core.store_power (c : Core) (a : Nat) (bs : List Byte) : (c.store a bs).power = c.power := rfl
@[simp] theorem Core.store_rst (c : Core) (a : Nat) (bs : List Byte) : (c.store a bs).rst = c.rst := rfl
@[simp] theorem Core.store_sad (c : Core) (a : Nat) (bs : List Byte) : (c.store a bs).sad = c.sad := rfl
@[simp] theorem Core.store_sessions (c : Core) (a : Nat) (bs : List Byte) : (c.store a bs).sessions = c.sessions := rfl
@[simp] theorem Core.store_sessAge (c : Core) (a : Nat) (bs : List Byte) : (c.store a bs).sessAge = c.sessAge := rfl
@[simp] theorem Core.store_pendLow (c : Core) (a : Nat) (bs : List Byte) : (c.store a bs).pendLow = c.pendLow := rfl
@[simp] theorem Core.store_hold (c : Core) (a : Nat) (bs : List Byte) : (c.store a bs).hold = c.hold := rfl
@[simp] theorem Core.store_stalls (c : Core) (a : Nat) (bs : List Byte) : (c.store a bs).stalls = c.stalls := rfl
@[simp] theorem Core.store_strapWait (c : Core) (a : Nat) (bs : List Byte) : (c.store a bs).strapWait = c.strapWait := rfl
@[simp] theorem Core.store_strapQ (c : Core) (a : Nat) (bs : List Byte) : (c.store a bs).strapQ = c.strapQ := rfl
@[simp] theorem Core.store_wdHeld (c : Core) (a : Nat) (bs : List Byte) : (c.store a bs).wdHeld = c.wdHeld := rfl
@[simp] theorem Core.store_patFlash (c : Core) (a : Nat) (bs : List Byte) : (c.store a bs).patFlash = c.patFlash := rfl
@[simp] theorem Core.store_imgFlash (c : Core) (a : Nat) (bs : List Byte) : (c.store a bs).imgFlash = c.imgFlash := rfl
@[simp] theorem Core.store_keys (c : Core) (a : Nat) (bs : List Byte) : (c.store a bs).keys = c.keys := rfl
@[simp] theorem Core.store_pos0 (c : Core) (a : Nat) (bs : List Byte) : (c.store a bs).pos0 = c.pos0 := rfl
@[simp] theorem Core.store_pos1 (c : Core) (a : Nat) (bs : List Byte) : (c.store a bs).pos1 = c.pos1 := rfl
@[simp] theorem Core.store_ipSet (c : Core) (a : Nat) (bs : List Byte) : (c.store a bs).ipSet = c.ipSet := rfl
@[simp] theorem Core.store_livePorts (c : Core) (a : Nat) (bs : List Byte) : (c.store a bs).livePorts = c.livePorts := rfl
@[simp] theorem Core.store_liveVlan (c : Core) (a : Nat) (bs : List Byte) : (c.store a bs).liveVlan = c.liveVlan := rfl
@[simp] theorem Core.store_ipLive (c : Core) (a : Nat) (bs : List Byte) : (c.store a bs).ipLive = c.ipLive := rfl
@[simp] theorem Core.store_silent (c : Core) (a : Nat) (bs : List Byte) : (c.store a bs).silent = c.silent := rfl
@[simp] theorem Core.store_lockAns (c : Core) (a : Nat) (bs : List Byte) : (c.store a bs).lockAns = c.lockAns := rfl
@[simp] theorem Core.store_deferred (c : Core) (a : Nat) (bs : List Byte) : (c.store a bs).deferred = c.deferred := rfl
@[simp] theorem Core.store_freeIdx (c : Core) (a : Nat) (bs : List Byte) : (c.store a bs).freeIdx = c.freeIdx := rfl
@[simp] theorem Core.store_acc (c : Core) (a : Nat) (bs : List Byte) : (c.store a bs).acc = c.acc := rfl
@[simp] theorem Core.store_out (c : Core) (a : Nat) (bs : List Byte) : (c.store a bs).out = c.out := rfl
@[simp] theorem Core.store_reg (c : Core) (a : Nat) (bs : List Byte) (r : Reg) (j : Nat) : (c.store a bs).reg r j = c.reg r j := rfl
@[simp] theorem Core.store_get (c : Core) (a : Nat) (bs : List Byte) (f : Fld) (j : Nat) : (c.store a bs).get f j = c.get f j := rfl
@[simp] theorem Core.store_bit (c : Core) (a : Nat) (bs : List Byte) (f : Fld) (j : Nat) : (c.store a bs).bit f j = c.bit f j := rfl
@[simp] theorem Core.clearBank_regs (c : Core) (b : Nat) : (c.clearBank b).regs = c.regs := rfl
@[simp] theorem Core.clearBank_pat (c : Core) (b : Nat) : (c.clearBank b).pat = c.pat := rfl
@[simp] theorem Core.clearBank_prof (c : Core) (b : Nat) : (c.clearBank b).prof = c.prof := rfl
@[simp] theorem Core.clearBank_igs (c : Core) (b : Nat) : (c.clearBank b).igs = c.igs := rfl
@[simp] theorem Core.clearBank_steps (c : Core) (b : Nat) : (c.clearBank b).steps = c.steps := rfl
@[simp] theorem Core.clearBank_loops (c : Core) (b : Nat) : (c.clearBank b).loops = c.loops := rfl
@[simp] theorem Core.clearBank_snaps (c : Core) (b : Nat) : (c.clearBank b).snaps = c.snaps := rfl
@[simp] theorem Core.clearBank_ctxs (c : Core) (b : Nat) : (c.clearBank b).ctxs = c.ctxs := rfl
@[simp] theorem Core.clearBank_ests (c : Core) (b : Nat) : (c.clearBank b).ests = c.ests := rfl
@[simp] theorem Core.clearBank_lanes (c : Core) (b : Nat) : (c.clearBank b).lanes = c.lanes := rfl
@[simp] theorem Core.clearBank_ports (c : Core) (b : Nat) : (c.clearBank b).ports = c.ports := rfl
@[simp] theorem Core.clearBank_reps (c : Core) (b : Nat) : (c.clearBank b).reps = c.reps := rfl
@[simp] theorem Core.clearBank_time (c : Core) (b : Nat) : (c.clearBank b).time = c.time := rfl
@[simp] theorem Core.clearBank_backSec (c : Core) (b : Nat) : (c.clearBank b).backSec = c.backSec := rfl
@[simp] theorem Core.clearBank_backSub (c : Core) (b : Nat) : (c.clearBank b).backSub = c.backSub := rfl
@[simp] theorem Core.clearBank_backPhase (c : Core) (b : Nat) : (c.clearBank b).backPhase = c.backPhase := rfl
@[simp] theorem Core.clearBank_backKept (c : Core) (b : Nat) : (c.clearBank b).backKept = c.backKept := rfl
@[simp] theorem Core.clearBank_dirIn (c : Core) (b : Nat) : (c.clearBank b).dirIn = c.dirIn := rfl
@[simp] theorem Core.clearBank_rings (c : Core) (b : Nat) : (c.clearBank b).rings = c.rings := rfl
@[simp] theorem Core.clearBank_query (c : Core) (b : Nat) : (c.clearBank b).query = c.query := rfl
@[simp] theorem Core.clearBank_grids (c : Core) (b : Nat) : (c.clearBank b).grids = c.grids := rfl
@[simp] theorem Core.clearBank_engines (c : Core) (b : Nat) : (c.clearBank b).engines = c.engines := rfl
@[simp] theorem Core.clearBank_sched (c : Core) (b : Nat) : (c.clearBank b).sched = c.sched := rfl
@[simp] theorem Core.clearBank_bridle (c : Core) (b : Nat) : (c.clearBank b).bridle = c.bridle := rfl
@[simp] theorem Core.clearBank_latchRec (c : Core) (b : Nat) : (c.clearBank b).latchRec = c.latchRec := rfl
@[simp] theorem Core.clearBank_frecIncarn (c : Core) (b : Nat) : (c.clearBank b).frecIncarn = c.frecIncarn := rfl
@[simp] theorem Core.clearBank_canObjs (c : Core) (b : Nat) : (c.clearBank b).canObjs = c.canObjs := rfl
@[simp] theorem Core.clearBank_canChs (c : Core) (b : Nat) : (c.clearBank b).canChs = c.canChs := rfl
@[simp] theorem Core.clearBank_strings (c : Core) (b : Nat) : (c.clearBank b).strings = c.strings := rfl
@[simp] theorem Core.clearBank_isl (c : Core) (b : Nat) : (c.clearBank b).isl = c.isl := rfl
@[simp] theorem Core.clearBank_woken (c : Core) (b : Nat) : (c.clearBank b).woken = c.woken := rfl
@[simp] theorem Core.clearBank_crossings (c : Core) (b : Nat) : (c.clearBank b).crossings = c.crossings := rfl
@[simp] theorem Core.clearBank_banks (c : Core) (b : Nat) : (c.clearBank b).banks = c.banks := rfl
@[simp] theorem Core.clearBank_loader (c : Core) (b : Nat) : (c.clearBank b).loader = c.loader := rfl
@[simp] theorem Core.clearBank_twin (c : Core) (b : Nat) : (c.clearBank b).twin = c.twin := rfl
@[simp] theorem Core.clearBank_power (c : Core) (b : Nat) : (c.clearBank b).power = c.power := rfl
@[simp] theorem Core.clearBank_rst (c : Core) (b : Nat) : (c.clearBank b).rst = c.rst := rfl
@[simp] theorem Core.clearBank_sad (c : Core) (b : Nat) : (c.clearBank b).sad = c.sad := rfl
@[simp] theorem Core.clearBank_sessions (c : Core) (b : Nat) : (c.clearBank b).sessions = c.sessions := rfl
@[simp] theorem Core.clearBank_sessAge (c : Core) (b : Nat) : (c.clearBank b).sessAge = c.sessAge := rfl
@[simp] theorem Core.clearBank_pendLow (c : Core) (b : Nat) : (c.clearBank b).pendLow = c.pendLow := rfl
@[simp] theorem Core.clearBank_hold (c : Core) (b : Nat) : (c.clearBank b).hold = c.hold := rfl
@[simp] theorem Core.clearBank_stalls (c : Core) (b : Nat) : (c.clearBank b).stalls = c.stalls := rfl
@[simp] theorem Core.clearBank_strapWait (c : Core) (b : Nat) : (c.clearBank b).strapWait = c.strapWait := rfl
@[simp] theorem Core.clearBank_strapQ (c : Core) (b : Nat) : (c.clearBank b).strapQ = c.strapQ := rfl
@[simp] theorem Core.clearBank_wdHeld (c : Core) (b : Nat) : (c.clearBank b).wdHeld = c.wdHeld := rfl
@[simp] theorem Core.clearBank_patFlash (c : Core) (b : Nat) : (c.clearBank b).patFlash = c.patFlash := rfl
@[simp] theorem Core.clearBank_imgFlash (c : Core) (b : Nat) : (c.clearBank b).imgFlash = c.imgFlash := rfl
@[simp] theorem Core.clearBank_keys (c : Core) (b : Nat) : (c.clearBank b).keys = c.keys := rfl
@[simp] theorem Core.clearBank_pos0 (c : Core) (b : Nat) : (c.clearBank b).pos0 = c.pos0 := rfl
@[simp] theorem Core.clearBank_pos1 (c : Core) (b : Nat) : (c.clearBank b).pos1 = c.pos1 := rfl
@[simp] theorem Core.clearBank_ipSet (c : Core) (b : Nat) : (c.clearBank b).ipSet = c.ipSet := rfl
@[simp] theorem Core.clearBank_livePorts (c : Core) (b : Nat) : (c.clearBank b).livePorts = c.livePorts := rfl
@[simp] theorem Core.clearBank_liveVlan (c : Core) (b : Nat) : (c.clearBank b).liveVlan = c.liveVlan := rfl
@[simp] theorem Core.clearBank_ipLive (c : Core) (b : Nat) : (c.clearBank b).ipLive = c.ipLive := rfl
@[simp] theorem Core.clearBank_silent (c : Core) (b : Nat) : (c.clearBank b).silent = c.silent := rfl
@[simp] theorem Core.clearBank_lockAns (c : Core) (b : Nat) : (c.clearBank b).lockAns = c.lockAns := rfl
@[simp] theorem Core.clearBank_deferred (c : Core) (b : Nat) : (c.clearBank b).deferred = c.deferred := rfl
@[simp] theorem Core.clearBank_freeIdx (c : Core) (b : Nat) : (c.clearBank b).freeIdx = c.freeIdx := rfl
@[simp] theorem Core.clearBank_acc (c : Core) (b : Nat) : (c.clearBank b).acc = c.acc := rfl
@[simp] theorem Core.clearBank_out (c : Core) (b : Nat) : (c.clearBank b).out = c.out := rfl
@[simp] theorem Core.clearBank_reg (c : Core) (b : Nat) (r : Reg) (j : Nat) : (c.clearBank b).reg r j = c.reg r j := rfl
@[simp] theorem Core.clearBank_get (c : Core) (b : Nat) (f : Fld) (j : Nat) : (c.clearBank b).get f j = c.get f j := rfl
@[simp] theorem Core.clearBank_bit (c : Core) (b : Nat) (f : Fld) (j : Nat) : (c.clearBank b).bit f j = c.bit f j := rfl
@[simp] theorem Core.emit_regs (c : Core) (e : Emission) : (c.emit e).regs = c.regs := rfl
@[simp] theorem Core.emit_pat (c : Core) (e : Emission) : (c.emit e).pat = c.pat := rfl
@[simp] theorem Core.emit_prof (c : Core) (e : Emission) : (c.emit e).prof = c.prof := rfl
@[simp] theorem Core.emit_igs (c : Core) (e : Emission) : (c.emit e).igs = c.igs := rfl
@[simp] theorem Core.emit_steps (c : Core) (e : Emission) : (c.emit e).steps = c.steps := rfl
@[simp] theorem Core.emit_loops (c : Core) (e : Emission) : (c.emit e).loops = c.loops := rfl
@[simp] theorem Core.emit_snaps (c : Core) (e : Emission) : (c.emit e).snaps = c.snaps := rfl
@[simp] theorem Core.emit_ctxs (c : Core) (e : Emission) : (c.emit e).ctxs = c.ctxs := rfl
@[simp] theorem Core.emit_ests (c : Core) (e : Emission) : (c.emit e).ests = c.ests := rfl
@[simp] theorem Core.emit_lanes (c : Core) (e : Emission) : (c.emit e).lanes = c.lanes := rfl
@[simp] theorem Core.emit_ports (c : Core) (e : Emission) : (c.emit e).ports = c.ports := rfl
@[simp] theorem Core.emit_reps (c : Core) (e : Emission) : (c.emit e).reps = c.reps := rfl
@[simp] theorem Core.emit_time (c : Core) (e : Emission) : (c.emit e).time = c.time := rfl
@[simp] theorem Core.emit_backSec (c : Core) (e : Emission) : (c.emit e).backSec = c.backSec := rfl
@[simp] theorem Core.emit_backSub (c : Core) (e : Emission) : (c.emit e).backSub = c.backSub := rfl
@[simp] theorem Core.emit_backPhase (c : Core) (e : Emission) : (c.emit e).backPhase = c.backPhase := rfl
@[simp] theorem Core.emit_backKept (c : Core) (e : Emission) : (c.emit e).backKept = c.backKept := rfl
@[simp] theorem Core.emit_dirIn (c : Core) (e : Emission) : (c.emit e).dirIn = c.dirIn := rfl
@[simp] theorem Core.emit_rings (c : Core) (e : Emission) : (c.emit e).rings = c.rings := rfl
@[simp] theorem Core.emit_query (c : Core) (e : Emission) : (c.emit e).query = c.query := rfl
@[simp] theorem Core.emit_grids (c : Core) (e : Emission) : (c.emit e).grids = c.grids := rfl
@[simp] theorem Core.emit_engines (c : Core) (e : Emission) : (c.emit e).engines = c.engines := rfl
@[simp] theorem Core.emit_sched (c : Core) (e : Emission) : (c.emit e).sched = c.sched := rfl
@[simp] theorem Core.emit_bridle (c : Core) (e : Emission) : (c.emit e).bridle = c.bridle := rfl
@[simp] theorem Core.emit_latchRec (c : Core) (e : Emission) : (c.emit e).latchRec = c.latchRec := rfl
@[simp] theorem Core.emit_frecIncarn (c : Core) (e : Emission) : (c.emit e).frecIncarn = c.frecIncarn := rfl
@[simp] theorem Core.emit_canObjs (c : Core) (e : Emission) : (c.emit e).canObjs = c.canObjs := rfl
@[simp] theorem Core.emit_canChs (c : Core) (e : Emission) : (c.emit e).canChs = c.canChs := rfl
@[simp] theorem Core.emit_strings (c : Core) (e : Emission) : (c.emit e).strings = c.strings := rfl
@[simp] theorem Core.emit_isl (c : Core) (e : Emission) : (c.emit e).isl = c.isl := rfl
@[simp] theorem Core.emit_woken (c : Core) (e : Emission) : (c.emit e).woken = c.woken := rfl
@[simp] theorem Core.emit_crossings (c : Core) (e : Emission) : (c.emit e).crossings = c.crossings := rfl
@[simp] theorem Core.emit_banks (c : Core) (e : Emission) : (c.emit e).banks = c.banks := rfl
@[simp] theorem Core.emit_loader (c : Core) (e : Emission) : (c.emit e).loader = c.loader := rfl
@[simp] theorem Core.emit_twin (c : Core) (e : Emission) : (c.emit e).twin = c.twin := rfl
@[simp] theorem Core.emit_power (c : Core) (e : Emission) : (c.emit e).power = c.power := rfl
@[simp] theorem Core.emit_rst (c : Core) (e : Emission) : (c.emit e).rst = c.rst := rfl
@[simp] theorem Core.emit_sad (c : Core) (e : Emission) : (c.emit e).sad = c.sad := rfl
@[simp] theorem Core.emit_sessions (c : Core) (e : Emission) : (c.emit e).sessions = c.sessions := rfl
@[simp] theorem Core.emit_sessAge (c : Core) (e : Emission) : (c.emit e).sessAge = c.sessAge := rfl
@[simp] theorem Core.emit_pendLow (c : Core) (e : Emission) : (c.emit e).pendLow = c.pendLow := rfl
@[simp] theorem Core.emit_hold (c : Core) (e : Emission) : (c.emit e).hold = c.hold := rfl
@[simp] theorem Core.emit_stalls (c : Core) (e : Emission) : (c.emit e).stalls = c.stalls := rfl
@[simp] theorem Core.emit_strapWait (c : Core) (e : Emission) : (c.emit e).strapWait = c.strapWait := rfl
@[simp] theorem Core.emit_strapQ (c : Core) (e : Emission) : (c.emit e).strapQ = c.strapQ := rfl
@[simp] theorem Core.emit_wdHeld (c : Core) (e : Emission) : (c.emit e).wdHeld = c.wdHeld := rfl
@[simp] theorem Core.emit_patFlash (c : Core) (e : Emission) : (c.emit e).patFlash = c.patFlash := rfl
@[simp] theorem Core.emit_imgFlash (c : Core) (e : Emission) : (c.emit e).imgFlash = c.imgFlash := rfl
@[simp] theorem Core.emit_keys (c : Core) (e : Emission) : (c.emit e).keys = c.keys := rfl
@[simp] theorem Core.emit_pos0 (c : Core) (e : Emission) : (c.emit e).pos0 = c.pos0 := rfl
@[simp] theorem Core.emit_pos1 (c : Core) (e : Emission) : (c.emit e).pos1 = c.pos1 := rfl
@[simp] theorem Core.emit_ipSet (c : Core) (e : Emission) : (c.emit e).ipSet = c.ipSet := rfl
@[simp] theorem Core.emit_livePorts (c : Core) (e : Emission) : (c.emit e).livePorts = c.livePorts := rfl
@[simp] theorem Core.emit_liveVlan (c : Core) (e : Emission) : (c.emit e).liveVlan = c.liveVlan := rfl
@[simp] theorem Core.emit_ipLive (c : Core) (e : Emission) : (c.emit e).ipLive = c.ipLive := rfl
@[simp] theorem Core.emit_silent (c : Core) (e : Emission) : (c.emit e).silent = c.silent := rfl
@[simp] theorem Core.emit_lockAns (c : Core) (e : Emission) : (c.emit e).lockAns = c.lockAns := rfl
@[simp] theorem Core.emit_deferred (c : Core) (e : Emission) : (c.emit e).deferred = c.deferred := rfl
@[simp] theorem Core.emit_memq (c : Core) (e : Emission) : (c.emit e).memq = c.memq := rfl
@[simp] theorem Core.emit_freeIdx (c : Core) (e : Emission) : (c.emit e).freeIdx = c.freeIdx := rfl
@[simp] theorem Core.emit_acc (c : Core) (e : Emission) : (c.emit e).acc = c.acc := rfl
@[simp] theorem Core.emit_reg (c : Core) (e : Emission) (r : Reg) (j : Nat) : (c.emit e).reg r j = c.reg r j := rfl
@[simp] theorem Core.emit_get (c : Core) (e : Emission) (f : Fld) (j : Nat) : (c.emit e).get f j = c.get f j := rfl
@[simp] theorem Core.emit_bit (c : Core) (e : Emission) (f : Fld) (j : Nat) : (c.emit e).bit f j = c.bit f j := rfl
@[simp] theorem Core.answer_regs (c : Core) (st : Nat) (d : List Word) : (c.answer st d).regs = c.regs := rfl
@[simp] theorem Core.answer_pat (c : Core) (st : Nat) (d : List Word) : (c.answer st d).pat = c.pat := rfl
@[simp] theorem Core.answer_prof (c : Core) (st : Nat) (d : List Word) : (c.answer st d).prof = c.prof := rfl
@[simp] theorem Core.answer_igs (c : Core) (st : Nat) (d : List Word) : (c.answer st d).igs = c.igs := rfl
@[simp] theorem Core.answer_steps (c : Core) (st : Nat) (d : List Word) : (c.answer st d).steps = c.steps := rfl
@[simp] theorem Core.answer_loops (c : Core) (st : Nat) (d : List Word) : (c.answer st d).loops = c.loops := rfl
@[simp] theorem Core.answer_snaps (c : Core) (st : Nat) (d : List Word) : (c.answer st d).snaps = c.snaps := rfl
@[simp] theorem Core.answer_ctxs (c : Core) (st : Nat) (d : List Word) : (c.answer st d).ctxs = c.ctxs := rfl
@[simp] theorem Core.answer_ests (c : Core) (st : Nat) (d : List Word) : (c.answer st d).ests = c.ests := rfl
@[simp] theorem Core.answer_lanes (c : Core) (st : Nat) (d : List Word) : (c.answer st d).lanes = c.lanes := rfl
@[simp] theorem Core.answer_ports (c : Core) (st : Nat) (d : List Word) : (c.answer st d).ports = c.ports := rfl
@[simp] theorem Core.answer_reps (c : Core) (st : Nat) (d : List Word) : (c.answer st d).reps = c.reps := rfl
@[simp] theorem Core.answer_time (c : Core) (st : Nat) (d : List Word) : (c.answer st d).time = c.time := rfl
@[simp] theorem Core.answer_backSec (c : Core) (st : Nat) (d : List Word) : (c.answer st d).backSec = c.backSec := rfl
@[simp] theorem Core.answer_backSub (c : Core) (st : Nat) (d : List Word) : (c.answer st d).backSub = c.backSub := rfl
@[simp] theorem Core.answer_backPhase (c : Core) (st : Nat) (d : List Word) : (c.answer st d).backPhase = c.backPhase := rfl
@[simp] theorem Core.answer_backKept (c : Core) (st : Nat) (d : List Word) : (c.answer st d).backKept = c.backKept := rfl
@[simp] theorem Core.answer_dirIn (c : Core) (st : Nat) (d : List Word) : (c.answer st d).dirIn = c.dirIn := rfl
@[simp] theorem Core.answer_rings (c : Core) (st : Nat) (d : List Word) : (c.answer st d).rings = c.rings := rfl
@[simp] theorem Core.answer_query (c : Core) (st : Nat) (d : List Word) : (c.answer st d).query = c.query := rfl
@[simp] theorem Core.answer_grids (c : Core) (st : Nat) (d : List Word) : (c.answer st d).grids = c.grids := rfl
@[simp] theorem Core.answer_engines (c : Core) (st : Nat) (d : List Word) : (c.answer st d).engines = c.engines := rfl
@[simp] theorem Core.answer_sched (c : Core) (st : Nat) (d : List Word) : (c.answer st d).sched = c.sched := rfl
@[simp] theorem Core.answer_bridle (c : Core) (st : Nat) (d : List Word) : (c.answer st d).bridle = c.bridle := rfl
@[simp] theorem Core.answer_latchRec (c : Core) (st : Nat) (d : List Word) : (c.answer st d).latchRec = c.latchRec := rfl
@[simp] theorem Core.answer_frecIncarn (c : Core) (st : Nat) (d : List Word) : (c.answer st d).frecIncarn = c.frecIncarn := rfl
@[simp] theorem Core.answer_canObjs (c : Core) (st : Nat) (d : List Word) : (c.answer st d).canObjs = c.canObjs := rfl
@[simp] theorem Core.answer_canChs (c : Core) (st : Nat) (d : List Word) : (c.answer st d).canChs = c.canChs := rfl
@[simp] theorem Core.answer_strings (c : Core) (st : Nat) (d : List Word) : (c.answer st d).strings = c.strings := rfl
@[simp] theorem Core.answer_isl (c : Core) (st : Nat) (d : List Word) : (c.answer st d).isl = c.isl := rfl
@[simp] theorem Core.answer_woken (c : Core) (st : Nat) (d : List Word) : (c.answer st d).woken = c.woken := rfl
@[simp] theorem Core.answer_crossings (c : Core) (st : Nat) (d : List Word) : (c.answer st d).crossings = c.crossings := rfl
@[simp] theorem Core.answer_banks (c : Core) (st : Nat) (d : List Word) : (c.answer st d).banks = c.banks := rfl
@[simp] theorem Core.answer_loader (c : Core) (st : Nat) (d : List Word) : (c.answer st d).loader = c.loader := rfl
@[simp] theorem Core.answer_twin (c : Core) (st : Nat) (d : List Word) : (c.answer st d).twin = c.twin := rfl
@[simp] theorem Core.answer_power (c : Core) (st : Nat) (d : List Word) : (c.answer st d).power = c.power := rfl
@[simp] theorem Core.answer_rst (c : Core) (st : Nat) (d : List Word) : (c.answer st d).rst = c.rst := rfl
@[simp] theorem Core.answer_sad (c : Core) (st : Nat) (d : List Word) : (c.answer st d).sad = c.sad := rfl
@[simp] theorem Core.answer_sessions (c : Core) (st : Nat) (d : List Word) : (c.answer st d).sessions = c.sessions := rfl
@[simp] theorem Core.answer_sessAge (c : Core) (st : Nat) (d : List Word) : (c.answer st d).sessAge = c.sessAge := rfl
@[simp] theorem Core.answer_pendLow (c : Core) (st : Nat) (d : List Word) : (c.answer st d).pendLow = c.pendLow := rfl
@[simp] theorem Core.answer_hold (c : Core) (st : Nat) (d : List Word) : (c.answer st d).hold = c.hold := rfl
@[simp] theorem Core.answer_stalls (c : Core) (st : Nat) (d : List Word) : (c.answer st d).stalls = c.stalls := rfl
@[simp] theorem Core.answer_strapWait (c : Core) (st : Nat) (d : List Word) : (c.answer st d).strapWait = c.strapWait := rfl
@[simp] theorem Core.answer_strapQ (c : Core) (st : Nat) (d : List Word) : (c.answer st d).strapQ = c.strapQ := rfl
@[simp] theorem Core.answer_wdHeld (c : Core) (st : Nat) (d : List Word) : (c.answer st d).wdHeld = c.wdHeld := rfl
@[simp] theorem Core.answer_patFlash (c : Core) (st : Nat) (d : List Word) : (c.answer st d).patFlash = c.patFlash := rfl
@[simp] theorem Core.answer_imgFlash (c : Core) (st : Nat) (d : List Word) : (c.answer st d).imgFlash = c.imgFlash := rfl
@[simp] theorem Core.answer_keys (c : Core) (st : Nat) (d : List Word) : (c.answer st d).keys = c.keys := rfl
@[simp] theorem Core.answer_pos0 (c : Core) (st : Nat) (d : List Word) : (c.answer st d).pos0 = c.pos0 := rfl
@[simp] theorem Core.answer_pos1 (c : Core) (st : Nat) (d : List Word) : (c.answer st d).pos1 = c.pos1 := rfl
@[simp] theorem Core.answer_ipSet (c : Core) (st : Nat) (d : List Word) : (c.answer st d).ipSet = c.ipSet := rfl
@[simp] theorem Core.answer_livePorts (c : Core) (st : Nat) (d : List Word) : (c.answer st d).livePorts = c.livePorts := rfl
@[simp] theorem Core.answer_liveVlan (c : Core) (st : Nat) (d : List Word) : (c.answer st d).liveVlan = c.liveVlan := rfl
@[simp] theorem Core.answer_ipLive (c : Core) (st : Nat) (d : List Word) : (c.answer st d).ipLive = c.ipLive := rfl
@[simp] theorem Core.answer_silent (c : Core) (st : Nat) (d : List Word) : (c.answer st d).silent = c.silent := rfl
@[simp] theorem Core.answer_lockAns (c : Core) (st : Nat) (d : List Word) : (c.answer st d).lockAns = c.lockAns := rfl
@[simp] theorem Core.answer_deferred (c : Core) (st : Nat) (d : List Word) : (c.answer st d).deferred = c.deferred := rfl
@[simp] theorem Core.answer_memq (c : Core) (st : Nat) (d : List Word) : (c.answer st d).memq = c.memq := rfl
@[simp] theorem Core.answer_freeIdx (c : Core) (st : Nat) (d : List Word) : (c.answer st d).freeIdx = c.freeIdx := rfl
@[simp] theorem Core.answer_out (c : Core) (st : Nat) (d : List Word) : (c.answer st d).out = c.out := rfl
@[simp] theorem Core.answer_reg (c : Core) (st : Nat) (d : List Word) (r : Reg) (j : Nat) : (c.answer st d).reg r j = c.reg r j := rfl
@[simp] theorem Core.answer_get (c : Core) (st : Nat) (d : List Word) (f : Fld) (j : Nat) : (c.answer st d).get f j = c.get f j := rfl
@[simp] theorem Core.answer_bit (c : Core) (st : Nat) (d : List Word) (f : Fld) (j : Nat) : (c.answer st d).bit f j = c.bit f j := rfl
@[simp] theorem Core.latigo_regs (c : Core) (k : Nat) (b : List Nat) : (c.latigo k b).regs = c.regs := rfl
@[simp] theorem Core.latigo_pat (c : Core) (k : Nat) (b : List Nat) : (c.latigo k b).pat = c.pat := rfl
@[simp] theorem Core.latigo_prof (c : Core) (k : Nat) (b : List Nat) : (c.latigo k b).prof = c.prof := rfl
@[simp] theorem Core.latigo_igs (c : Core) (k : Nat) (b : List Nat) : (c.latigo k b).igs = c.igs := rfl
@[simp] theorem Core.latigo_steps (c : Core) (k : Nat) (b : List Nat) : (c.latigo k b).steps = c.steps := rfl
@[simp] theorem Core.latigo_loops (c : Core) (k : Nat) (b : List Nat) : (c.latigo k b).loops = c.loops := rfl
@[simp] theorem Core.latigo_snaps (c : Core) (k : Nat) (b : List Nat) : (c.latigo k b).snaps = c.snaps := rfl
@[simp] theorem Core.latigo_ctxs (c : Core) (k : Nat) (b : List Nat) : (c.latigo k b).ctxs = c.ctxs := rfl
@[simp] theorem Core.latigo_ests (c : Core) (k : Nat) (b : List Nat) : (c.latigo k b).ests = c.ests := rfl
@[simp] theorem Core.latigo_lanes (c : Core) (k : Nat) (b : List Nat) : (c.latigo k b).lanes = c.lanes := rfl
@[simp] theorem Core.latigo_ports (c : Core) (k : Nat) (b : List Nat) : (c.latigo k b).ports = c.ports := rfl
@[simp] theorem Core.latigo_reps (c : Core) (k : Nat) (b : List Nat) : (c.latigo k b).reps = c.reps := rfl
@[simp] theorem Core.latigo_time (c : Core) (k : Nat) (b : List Nat) : (c.latigo k b).time = c.time := rfl
@[simp] theorem Core.latigo_backSec (c : Core) (k : Nat) (b : List Nat) : (c.latigo k b).backSec = c.backSec := rfl
@[simp] theorem Core.latigo_backSub (c : Core) (k : Nat) (b : List Nat) : (c.latigo k b).backSub = c.backSub := rfl
@[simp] theorem Core.latigo_backPhase (c : Core) (k : Nat) (b : List Nat) : (c.latigo k b).backPhase = c.backPhase := rfl
@[simp] theorem Core.latigo_backKept (c : Core) (k : Nat) (b : List Nat) : (c.latigo k b).backKept = c.backKept := rfl
@[simp] theorem Core.latigo_dirIn (c : Core) (k : Nat) (b : List Nat) : (c.latigo k b).dirIn = c.dirIn := rfl
@[simp] theorem Core.latigo_rings (c : Core) (k : Nat) (b : List Nat) : (c.latigo k b).rings = c.rings := rfl
@[simp] theorem Core.latigo_query (c : Core) (k : Nat) (b : List Nat) : (c.latigo k b).query = c.query := rfl
@[simp] theorem Core.latigo_grids (c : Core) (k : Nat) (b : List Nat) : (c.latigo k b).grids = c.grids := rfl
@[simp] theorem Core.latigo_engines (c : Core) (k : Nat) (b : List Nat) : (c.latigo k b).engines = c.engines := rfl
@[simp] theorem Core.latigo_sched (c : Core) (k : Nat) (b : List Nat) : (c.latigo k b).sched = c.sched := rfl
@[simp] theorem Core.latigo_bridle (c : Core) (k : Nat) (b : List Nat) : (c.latigo k b).bridle = c.bridle := rfl
@[simp] theorem Core.latigo_latchRec (c : Core) (k : Nat) (b : List Nat) : (c.latigo k b).latchRec = c.latchRec := rfl
@[simp] theorem Core.latigo_frecIncarn (c : Core) (k : Nat) (b : List Nat) : (c.latigo k b).frecIncarn = c.frecIncarn := rfl
@[simp] theorem Core.latigo_canObjs (c : Core) (k : Nat) (b : List Nat) : (c.latigo k b).canObjs = c.canObjs := rfl
@[simp] theorem Core.latigo_canChs (c : Core) (k : Nat) (b : List Nat) : (c.latigo k b).canChs = c.canChs := rfl
@[simp] theorem Core.latigo_strings (c : Core) (k : Nat) (b : List Nat) : (c.latigo k b).strings = c.strings := rfl
@[simp] theorem Core.latigo_isl (c : Core) (k : Nat) (b : List Nat) : (c.latigo k b).isl = c.isl := rfl
@[simp] theorem Core.latigo_woken (c : Core) (k : Nat) (b : List Nat) : (c.latigo k b).woken = c.woken := rfl
@[simp] theorem Core.latigo_crossings (c : Core) (k : Nat) (b : List Nat) : (c.latigo k b).crossings = c.crossings := rfl
@[simp] theorem Core.latigo_banks (c : Core) (k : Nat) (b : List Nat) : (c.latigo k b).banks = c.banks := rfl
@[simp] theorem Core.latigo_loader (c : Core) (k : Nat) (b : List Nat) : (c.latigo k b).loader = c.loader := rfl
@[simp] theorem Core.latigo_power (c : Core) (k : Nat) (b : List Nat) : (c.latigo k b).power = c.power := rfl
@[simp] theorem Core.latigo_rst (c : Core) (k : Nat) (b : List Nat) : (c.latigo k b).rst = c.rst := rfl
@[simp] theorem Core.latigo_sad (c : Core) (k : Nat) (b : List Nat) : (c.latigo k b).sad = c.sad := rfl
@[simp] theorem Core.latigo_sessions (c : Core) (k : Nat) (b : List Nat) : (c.latigo k b).sessions = c.sessions := rfl
@[simp] theorem Core.latigo_sessAge (c : Core) (k : Nat) (b : List Nat) : (c.latigo k b).sessAge = c.sessAge := rfl
@[simp] theorem Core.latigo_pendLow (c : Core) (k : Nat) (b : List Nat) : (c.latigo k b).pendLow = c.pendLow := rfl
@[simp] theorem Core.latigo_hold (c : Core) (k : Nat) (b : List Nat) : (c.latigo k b).hold = c.hold := rfl
@[simp] theorem Core.latigo_stalls (c : Core) (k : Nat) (b : List Nat) : (c.latigo k b).stalls = c.stalls := rfl
@[simp] theorem Core.latigo_strapWait (c : Core) (k : Nat) (b : List Nat) : (c.latigo k b).strapWait = c.strapWait := rfl
@[simp] theorem Core.latigo_strapQ (c : Core) (k : Nat) (b : List Nat) : (c.latigo k b).strapQ = c.strapQ := rfl
@[simp] theorem Core.latigo_wdHeld (c : Core) (k : Nat) (b : List Nat) : (c.latigo k b).wdHeld = c.wdHeld := rfl
@[simp] theorem Core.latigo_patFlash (c : Core) (k : Nat) (b : List Nat) : (c.latigo k b).patFlash = c.patFlash := rfl
@[simp] theorem Core.latigo_imgFlash (c : Core) (k : Nat) (b : List Nat) : (c.latigo k b).imgFlash = c.imgFlash := rfl
@[simp] theorem Core.latigo_keys (c : Core) (k : Nat) (b : List Nat) : (c.latigo k b).keys = c.keys := rfl
@[simp] theorem Core.latigo_pos0 (c : Core) (k : Nat) (b : List Nat) : (c.latigo k b).pos0 = c.pos0 := rfl
@[simp] theorem Core.latigo_pos1 (c : Core) (k : Nat) (b : List Nat) : (c.latigo k b).pos1 = c.pos1 := rfl
@[simp] theorem Core.latigo_ipSet (c : Core) (k : Nat) (b : List Nat) : (c.latigo k b).ipSet = c.ipSet := rfl
@[simp] theorem Core.latigo_livePorts (c : Core) (k : Nat) (b : List Nat) : (c.latigo k b).livePorts = c.livePorts := rfl
@[simp] theorem Core.latigo_liveVlan (c : Core) (k : Nat) (b : List Nat) : (c.latigo k b).liveVlan = c.liveVlan := rfl
@[simp] theorem Core.latigo_ipLive (c : Core) (k : Nat) (b : List Nat) : (c.latigo k b).ipLive = c.ipLive := rfl
@[simp] theorem Core.latigo_silent (c : Core) (k : Nat) (b : List Nat) : (c.latigo k b).silent = c.silent := rfl
@[simp] theorem Core.latigo_lockAns (c : Core) (k : Nat) (b : List Nat) : (c.latigo k b).lockAns = c.lockAns := rfl
@[simp] theorem Core.latigo_deferred (c : Core) (k : Nat) (b : List Nat) : (c.latigo k b).deferred = c.deferred := rfl
@[simp] theorem Core.latigo_memq (c : Core) (k : Nat) (b : List Nat) : (c.latigo k b).memq = c.memq := rfl
@[simp] theorem Core.latigo_freeIdx (c : Core) (k : Nat) (b : List Nat) : (c.latigo k b).freeIdx = c.freeIdx := rfl
@[simp] theorem Core.latigo_acc (c : Core) (k : Nat) (b : List Nat) : (c.latigo k b).acc = c.acc := rfl
@[simp] theorem Core.latigo_out (c : Core) (k : Nat) (b : List Nat) : (c.latigo k b).out = c.out := rfl
@[simp] theorem Core.latigo_reg (c : Core) (k : Nat) (b : List Nat) (r : Reg) (j : Nat) : (c.latigo k b).reg r j = c.reg r j := rfl
@[simp] theorem Core.latigo_get (c : Core) (k : Nat) (b : List Nat) (f : Fld) (j : Nat) : (c.latigo k b).get f j = c.get f j := rfl
@[simp] theorem Core.latigo_bit (c : Core) (k : Nat) (b : List Nat) (f : Fld) (j : Nat) : (c.latigo k b).bit f j = c.bit f j := rfl

end Sys2Proof.Machine
end

