-- ==== Sys2Proof/Laws/Frames.lean ====
section
/-! SUPPORT. What the shared operations of logging, READY, claims and the XB-2 can change, each said once. -/
namespace Sys2Proof.Machine

/-- A fold keeps what each of its steps keeps. -/
theorem foldN_keeps {α : Type} (P : α → Prop) (f : α → Nat → α) (l : List Nat) (a : α) (h0 : P a) (h : ∀ b n, P b → P (f b n)) : P (foldN l a f) := by
  induction l generalizing a with
  | nil => exact h0
  | cons n l ih => exact ih (f a n) (h a n h0)

/-- What logging leaves: all but the register file, Saddler, the sessions and what is sent; of the registers, all but the event and log counters and MG_HEALTH. -/
def Core.LogsFrom (c d : Core) : Prop :=
  (∃ a b e o, d = { c with regs := a, sad := b, sessions := e, out := o }) ∧
  ∀ (r : Reg) (i : Nat), r.id < 512 → r.id ≠ R.MG_HEALTH.id → r.id ≠ R.MG_LOG_DROPPED.id → r.id ≠ R.EN_STRAP_STAT.id → r.id ≠ R.EN_EV_DROPPED.id → d.reg r i = c.reg r i

theorem Core.LogsFrom.refl (c : Core) : c.LogsFrom c := ⟨⟨_, _, _, _, rfl⟩, fun _ _ _ _ _ _ _ => rfl⟩
theorem Core.LogsFrom.trans {c d e : Core} (h : c.LogsFrom d) (k : d.LogsFrom e) : c.LogsFrom e := by
  obtain ⟨⟨_, _, _, _, rfl⟩, h2⟩ := h
  obtain ⟨⟨_, _, _, _, rfl⟩, k2⟩ := k
  exact ⟨⟨_, _, _, _, rfl⟩, fun r i a1 a2 a3 a4 a5 => (k2 r i a1 a2 a3 a4 a5).trans (h2 r i a1 a2 a3 a4 a5)⟩
/-- Setting a field of one of the four registers. -/
theorem Core.LogsFrom.set (c : Core) (f : Fld) (i v : Nat) (hlt : f.reg.id < 512) (hf : f.reg.id = R.MG_HEALTH.id ∨ f.reg.id = R.MG_LOG_DROPPED.id ∨ f.reg.id = R.EN_STRAP_STAT.id ∨ f.reg.id = R.EN_EV_DROPPED.id) :
    c.LogsFrom (c.set f i v) :=
  ⟨⟨_, _, _, _, rfl⟩, fun r j hr h1 h2 h3 h4 => Core.reg_setReg_of_id c _ hlt hr (by rcases hf with h | h | h | h <;> omega)⟩

theorem Core.LogsFrom.pump (c : Core) (sid : Nat) : c.LogsFrom (c.pump sid) := by
  unfold Core.pump
  dsimp only
  split
  · exact .refl c
  · exact ⟨⟨_, _, _, _, rfl⟩, fun _ _ _ _ _ _ _ => rfl⟩
theorem Core.LogsFrom.deliver (c : Core) (e : LogEntry) (sid : Nat) : c.LogsFrom (c.deliver e sid) := by
  have hs : ∀ x : Session, c.LogsFrom (c.setSess sid x) := fun x => ⟨⟨_, _, _, _, rfl⟩, fun _ _ _ _ _ _ _ => rfl⟩
  unfold Core.deliver
  dsimp only
  split
  · exact .refl c
  · split
    · exact ((hs _).trans (Core.LogsFrom.set _ _ _ _ (by decide) (.inr (.inr (.inl rfl))))).trans (Core.LogsFrom.set _ _ _ _ (by decide) (.inr (.inr (.inr rfl))))
    · exact (hs _).trans (Core.LogsFrom.pump _ _)
theorem Core.LogsFrom.enqueue (c : Core) (e : LogEntry) : c.LogsFrom (c.enqueue e) := by
  have hs : ∀ x : Saddler, c.LogsFrom { c with sad := x } := fun x => ⟨⟨_, _, _, _, rfl⟩, fun _ _ _ _ _ _ _ => rfl⟩
  unfold Core.enqueue
  dsimp only
  (repeat' split) <;> first
    | exact .refl c
    | exact hs _
    | exact ((hs _).trans (Core.LogsFrom.set _ _ _ _ (by decide) (.inl rfl))).trans (Core.LogsFrom.set _ _ _ _ (by decide) (.inr (.inl rfl)))
/-- Logging an event (R434, R437). -/
theorem Core.logFrom_frame (c : Core) (origin code src arg : Nat) : c.LogsFrom (c.logFrom origin code src arg) := by
  unfold Core.logFrom
  dsimp only
  split
  · exact .enqueue c _
  · exact foldN_keeps (fun d => c.LogsFrom d) _ _ _ (.enqueue c _) (fun b n h => h.trans (.deliver b _ n))

/-- Stopping the excitation of ports changes their state and what is sent alone (R245). -/
theorem Core.exciteStop_frame (c : Core) (p : Nat) : ∃ a o, c.exciteStop p = { c with ports := a, out := o } := by
  unfold Core.exciteStop
  split <;> exact ⟨_, _, rfl⟩

/-- Releasing the claims changes Bridle, the excitation of the ports, the crossing of the claims and the state of the CAN channels, and leaves no OWN line asserted (R245, R312, R373). -/
theorem Core.releaseClaims_frame (c : Core) :
    ∃ s a o x t r, c.releaseClaims = { c with regs := r, twin := { c.twin with suppressTo := s }, ports := a, out := o, crossings := x, bridle := { c.bridle with own := 0, grp := t } } := by
  unfold Core.releaseClaims
  dsimp only
  have h1 : ∃ s, (if c.drivesPorts then c.suppressPorts else c) = { c with twin := { c.twin with suppressTo := s } } := by
    split <;> exact ⟨_, rfl⟩
  obtain ⟨s, h1⟩ := h1
  rw [h1]
  have h2 : ∃ a o, foldN (List.range 56) { c with twin := { c.twin with suppressTo := s } } Core.exciteStop = { c with twin := { c.twin with suppressTo := s }, ports := a, out := o } :=
    foldN_keeps (fun d : Core => ∃ a o, d = { c with twin := { c.twin with suppressTo := s }, ports := a, out := o }) _ _ _ ⟨_, _, rfl⟩
      (fun b n h => by obtain ⟨a, o, rfl⟩ := h; obtain ⟨a', o', h⟩ := Core.exciteStop_frame { c with twin := { c.twin with suppressTo := s }, ports := a, out := o } n; exact ⟨a', o', h⟩)
  obtain ⟨a, o, h2⟩ := h2
  rw [h2]
  let P (d : Core) : Prop := ∃ s a o x t r, d = { c with regs := r, twin := { c.twin with suppressTo := s }, ports := a, out := o, crossings := x, bridle := { c.bridle with own := 0, grp := t } }
  have h3 : ∀ d : Core, P d → P (foldN (List.range 16) d (fun c g => c.setBg g { c.bg g with genA := false, genB := false, path1 := false, path2 := false, relCheck := false, relPend := false, brakePend := false })) :=
    fun d hd => foldN_keeps P _ _ _ hd (fun b n h => by obtain ⟨s, a, o, x, t, r, rfl⟩ := h; exact ⟨s, a, o, x, _, r, rfl⟩)
  split
  · exact foldN_keeps P _ _ _ (h3 _ ⟨s, a, o, _, _, _, rfl⟩) (fun b n h => by
      split
      · exact h
      · obtain ⟨s, a, o, x, t, r, rfl⟩ := h; exact ⟨s, a, o, x, t, _, rfl⟩)
  · exact h3 _ ⟨s, a, o, _, _, _, rfl⟩

/-- The XB-2 changes the state of the lane groups alone (R339). -/
theorem Core.xb2_frame (c : Core) : ∃ t, c.xb2 = { c with bridle := { c.bridle with grp := t } } := by
  unfold Core.xb2
  exact foldN_keeps (fun d : Core => ∃ t, d = { c with bridle := { c.bridle with grp := t } }) _ _ _ ⟨_, rfl⟩ (fun b n h => by obtain ⟨t, rfl⟩ := h; exact ⟨_, rfl⟩)

/-- The registers that logging, judging READY or confirming a trial image can change. -/
def judged (r : Reg) : Bool :=
  [R.MG_HEALTH.id, R.MG_LOG_DROPPED.id, R.EN_STRAP_STAT.id, R.EN_EV_DROPPED.id, R.TW_NOTREADY.id, R.TW_ROLE.id, R.MG_IMG_STAT.id, R.MG_IMG_LINK.id, R.MG_IMG_FLOOR.id].contains r.id
/-- What judging READY leaves: all but the register file, Saddler, the sessions and what is sent, and of the registers all but those of `judged`. -/
def Core.JudgesTo (c d : Core) : Prop :=
  (∃ a b e o, d = { c with regs := a, sad := b, sessions := e, out := o }) ∧ ∀ (r : Reg) (i : Nat), r.id < 512 → judged r = false → d.reg r i = c.reg r i

theorem Core.JudgesTo.refl (c : Core) : c.JudgesTo c := ⟨⟨_, _, _, _, rfl⟩, fun _ _ _ _ => rfl⟩
theorem Core.JudgesTo.trans {c d e : Core} (h : c.JudgesTo d) (k : d.JudgesTo e) : c.JudgesTo e := by
  obtain ⟨⟨_, _, _, _, rfl⟩, h2⟩ := h
  obtain ⟨⟨_, _, _, _, rfl⟩, k2⟩ := k
  exact ⟨⟨_, _, _, _, rfl⟩, fun r i a1 a2 => (k2 r i a1 a2).trans (h2 r i a1 a2)⟩
theorem Core.JudgesTo.setReg {c d : Core} (k : c.JudgesTo d) (q : Reg) (i : Nat) (w : Word) (hlt : q.id < 512) (hq : judged q = true) : c.JudgesTo (d.setReg q i w) :=
  k.trans ⟨⟨_, _, _, _, rfl⟩, fun r j hr hj => Core.reg_setReg_of_id d _ hlt hr (fun e => by unfold judged at hq hj; rw [e, hj] at hq; exact Bool.noConfusion hq)⟩
theorem Core.JudgesTo.set {c d : Core} (k : c.JudgesTo d) (f : Fld) (i v : Nat) (hlt : f.reg.id < 512) (hq : judged f.reg = true) : c.JudgesTo (d.set f i v) := k.setReg _ _ _ hlt hq
theorem Core.JudgesTo.setBit {c d : Core} (k : c.JudgesTo d) (f : Fld) (i : Nat) (b : Bool) (hlt : f.reg.id < 512) (hq : judged f.reg = true) : c.JudgesTo (d.setBit f i b) := k.setReg _ _ _ hlt hq
theorem Core.JudgesTo.log {c d : Core} (k : c.JudgesTo d) (o n s a : Nat) : c.JudgesTo (d.logFrom o n s a) := by
  obtain ⟨⟨_, _, _, _, h⟩, h2⟩ := Core.logFrom_frame d o n s a
  refine k.trans ⟨⟨_, _, _, _, h⟩, fun r i hr hj => h2 r i hr ?_ ?_ ?_ ?_⟩ <;> intro e <;> simp [judged, e] at hj
/-- Confirming a trial image (R447). -/
theorem Core.JudgesTo.imgConfirm {c d : Core} (k : c.JudgesTo d) : c.JudgesTo d.imgConfirm := by
  unfold Core.imgConfirm
  split
  · exact k
  · dsimp only
    have h0 : ∀ x : Saddler, d.JudgesTo { d with sad := x } := fun x => ⟨⟨_, _, _, _, rfl⟩, fun _ _ _ _ => rfl⟩
    exact (((((((k.trans (h0 _)).setBit F.MG_IMG_STAT_TRIAL 0 false (by decide) (by decide)).setBit F.MG_HEALTH_IMG_TRIAL 0 false (by decide) (by decide)).set F.MG_IMG_STAT_BOOT 0 _ (by decide) (by decide)).set
      F.MG_IMG_LINK_STATE _ 2 (by decide) (by decide)).setReg R.MG_IMG_FLOOR 0 _ (by decide) (by decide)).log _ _ _ _)
/-- Judging READY (R372, R447). -/
theorem Core.judge_frame (c : Core) : c.JudgesTo c.judge := by
  have h := (Core.JudgesTo.refl c).set F.TW_NOTREADY_CAUSES 0 c.notReady (by decide) (by decide)
  unfold Core.judge
  dsimp only
  split
  · exact h
  · split
    · exact ((h.setBit F.TW_ROLE_READY 0 _ (by decide) (by decide)).log _ _ _ _).imgConfirm
    · exact (h.setBit F.TW_ROLE_READY 0 _ (by decide) (by decide)).log _ _ _ _
/-- A field of a register that judging leaves. -/
theorem Core.get_judge (c : Core) (f : Fld) (i : Nat) (hr : f.reg.id < 512) (hj : judged f.reg = false) : c.judge.get f i = c.get f i := by
  unfold Core.get; rw [(Core.judge_frame c).2 f.reg i hr hj]

/-! ### Profiles, loops and STO -/

/-- What the operations on a slot's motion leave: all but the register file, the tables of profiles, paths, loops and estimators, Saddler, the sessions and what is sent; and the state of every lane group. -/
def Core.Moves (c d : Core) : Prop :=
  (∃ a b e f g h i j k, d = { c with regs := a, prof := b, igs := e, loops := f, snaps := g, ests := h, sad := i, sessions := j, out := k }) ∧
  ∀ i, d.reg R.SF_GRP i = c.reg R.SF_GRP i

theorem Core.Moves.refl (c : Core) : c.Moves c := ⟨⟨_, _, _, _, _, _, _, _, _, rfl⟩, fun _ => rfl⟩
theorem Core.Moves.trans {c d e : Core} (h : c.Moves d) (k : d.Moves e) : c.Moves e := by
  obtain ⟨⟨_, _, _, _, _, _, _, _, _, rfl⟩, h2⟩ := h
  obtain ⟨⟨_, _, _, _, _, _, _, _, _, rfl⟩, k2⟩ := k
  exact ⟨⟨_, _, _, _, _, _, _, _, _, rfl⟩, fun i => (k2 i).trans (h2 i)⟩
theorem Core.Moves.setReg {c d : Core} (k : c.Moves d) (r : Reg) (i : Nat) (w : Word) (hlt : r.id < 512) (h : r.id ≠ R.SF_GRP.id) : c.Moves (d.setReg r i w) :=
  k.trans ⟨⟨_, _, _, _, _, _, _, _, _, rfl⟩, fun _ => Core.reg_setReg_of_id d _ hlt (by decide) h⟩
theorem Core.Moves.set {c d : Core} (k : c.Moves d) (f : Fld) (i v : Nat) (hlt : f.reg.id < 512) (h : f.reg.id ≠ R.SF_GRP.id) : c.Moves (d.set f i v) := k.setReg _ _ _ hlt h
theorem Core.Moves.setBit {c d : Core} (k : c.Moves d) (f : Fld) (i : Nat) (b : Bool) (hlt : f.reg.id < 512) (h : f.reg.id ≠ R.SF_GRP.id) : c.Moves (d.setBit f i b) := k.setReg _ _ _ hlt h
theorem Core.Moves.log {c d : Core} (k : c.Moves d) (o n s a : Nat) : c.Moves (d.logFrom o n s a) := by
  obtain ⟨⟨_, _, _, _, h⟩, h2⟩ := Core.logFrom_frame d o n s a
  exact k.trans ⟨by rw [h]; exact ⟨_, _, _, _, _, _, _, _, _, rfl⟩, fun i => h2 _ i (by decide) (by decide) (by decide) (by decide) (by decide)⟩
theorem Core.Moves.setProf {c d : Core} (k : c.Moves d) (i : Nat) (v : Profile) : c.Moves (d.setProf i v) := k.trans ⟨⟨_, _, _, _, _, _, _, _, _, rfl⟩, fun _ => rfl⟩
theorem Core.Moves.setIg {c d : Core} (k : c.Moves d) (i : Nat) (v : IgPath) : c.Moves (d.setIg i v) := k.trans ⟨⟨_, _, _, _, _, _, _, _, _, rfl⟩, fun _ => rfl⟩
theorem Core.Moves.setLoop {c d : Core} (k : c.Moves d) (i : Nat) (v : Loop) : c.Moves (d.setLoop i v) := k.trans ⟨⟨_, _, _, _, _, _, _, _, _, rfl⟩, fun _ => rfl⟩
theorem Core.Moves.setSnap {c d : Core} (k : c.Moves d) (i : Nat) (v : Snap) : c.Moves (d.setSnap i v) := k.trans ⟨⟨_, _, _, _, _, _, _, _, _, rfl⟩, fun _ => rfl⟩
theorem Core.Moves.setEst {c d : Core} (k : c.Moves d) (i : Nat) (v : Estim) : c.Moves (d.setEst i v) := k.trans ⟨⟨_, _, _, _, _, _, _, _, _, rfl⟩, fun _ => rfl⟩
theorem Core.Moves.raiseP {c d : Core} (h : c.Moves d) (f : Fld) (k arg : Nat) (hlt : f.reg.id < 512) (hf : f.reg.id ≠ R.SF_GRP.id) : c.Moves (d.raiseP f k arg) := by
  unfold Core.raiseP
  split
  · exact h
  · exact (h.setBit f k true hlt hf).log _ _ _ _
theorem Core.Moves.publishState {c d : Core} (h : c.Moves d) (k : Nat) (t : Int) : c.Moves (d.publishState k t) := by
  unfold Core.publishState
  generalize d.profileAt k t = q
  obtain ⟨pos, vel, acc⟩ := q
  dsimp only
  exact ((((h.set F.AX_PSTAT_STATE k _ (by decide) (by decide)).setBit F.AX_PSTAT_REVERSING k _ (by decide) (by decide)).setBit F.AX_PSTAT_VCLAMP k _ (by decide) (by decide)).setBit
    F.GR_STAT_ENGAGED k _ (by decide) (by decide)).setBit F.GR_STAT_RAMPING k _ (by decide) (by decide)
theorem Core.Moves.breakPath {c d : Core} (h : c.Moves d) (k : Nat) (t : Int) : c.Moves (d.breakPath k t) := by
  unfold Core.breakPath
  split
  · exact h
  · next g _ =>
    generalize d.profileAt k t = q
    generalize d.pathParam g t = w
    obtain ⟨pos, vel, acc⟩ := q
    obtain ⟨u, v, x⟩ := w
    dsimp only
    split
    · exact (h.setProf _ _).setIg _ _
    · exact (((h.setProf _ _).setIg _ _).setBit F.IG_STAT_BROKEN _ true (by decide) (by decide)).log _ _ _ _
theorem Core.Moves.stopSlot {c d : Core} (h : c.Moves d) (k : Nat) (t : Int) (ss1 : Bool) : c.Moves (d.stopSlot k t ss1) := by
  unfold Core.stopSlot
  generalize d.profileAt k t = q
  generalize d.stopRate k ss1 = w
  obtain ⟨pos, vel, acc⟩ := q
  obtain ⟨rate, other⟩ := w
  dsimp only
  split
  · exact (h.raiseP F.AX_PSTAT_PARAM_REFUSED k 10 (by decide) (by decide)).setProf _ _
  · exact h.setProf _ _
theorem Core.Moves.jogFrom {c d : Core} (h : c.Moves d) (k : Nat) (t pos : Int) (v w : F32) : c.Moves (d.jogFrom k t pos v w) := by
  unfold Core.jogFrom
  exact h.setProf _ _
theorem Core.Moves.ungear {c d : Core} (h : c.Moves d) (k : Nat) (t : Int) (b : Bool) : c.Moves (d.ungear k t b) := by
  unfold Core.ungear
  generalize d.profileAt k t = q
  obtain ⟨pos, vel, acc⟩ := q
  dsimp only
  split
  · exact h.jogFrom _ _ _ _ _
  · exact h.stopSlot _ _ _
theorem Core.Moves.loseMaster {c d : Core} (h : c.Moves d) (kind m : Nat) : c.Moves (d.loseMaster kind m) := by
  unfold Core.loseMaster
  exact foldN_keeps (fun e => c.Moves e) _ _ _ h (fun b n hb => (hb.raiseP F.AX_PSTAT_MASTER_LOST n 12 (by decide) (by decide)).ungear _ _ _)
theorem Core.Moves.clearLoop {c d : Core} (h : c.Moves d) (k : Nat) : c.Moves (d.clearLoop k) :=
  (((h.setLoop _ _).setSnap _ _).setReg R.AX_ICMD k 0 (by decide) (by decide)).setBit F.AX_LSTAT_INPOS k false (by decide) (by decide)
theorem Core.Moves.restAt {c d : Core} (h : c.Moves d) (k : Nat) (t pos : Int) : c.Moves (d.restAt k t pos) := h.setProf _ _
theorem Core.Moves.trackSlot {c d : Core} (h : c.Moves d) (k : Nat) : c.Moves (d.trackSlot k) := by
  unfold Core.trackSlot
  dsimp only
  have hb := h.breakPath k d.profNs
  generalize d.breakPath k d.profNs = b at hb
  generalize b.profileAt k d.profNs = q
  obtain ⟨pos, vel, acc⟩ := q
  exact (hb.restAt _ _ _).setProf _ _
theorem Core.Moves.stoSlot {c d : Core} (h : c.Moves d) (k : Nat) : c.Moves (d.stoSlot k) := by
  unfold Core.stoSlot
  have hb := (h.trackSlot k).clearLoop k
  generalize (d.trackSlot k).clearLoop k = b at hb
  dsimp only
  split
  · exact (hb.setEst _ _).publishState _ _
  · exact (((hb.setEst _ _).setEst _ _).set F.AX_SL_STAT_STATE k 0 (by decide) (by decide)).publishState _ _

/-- What taking a group to STO leaves: of Bridle all but the state of that group, of which its latches, its XSTO and its readback count stay; and what the operations on motion leave, but for the crossing that carries the state to the lane island. -/
structure Core.StoFrame (c d : Core) (g : Nat) : Prop where
  rest : ∃ a b e f h i j k o x, d = { c with regs := a, prof := b, igs := e, loops := f, snaps := h, ests := i, sad := j, sessions := k, out := o, crossings := x, bridle := d.bridle }
  bridle : d.bridle = { c.bridle with grp := d.bridle.grp }
  others : ∀ h, h ≠ g → d.bg h = c.bg h ∧ d.reg R.SF_GRP h = c.reg R.SF_GRP h
  latch : (d.bg g).latch = (c.bg g).latch
  xsto : (d.bg g).xsto = (c.bg g).xsto
  rb : (d.bg g).rb = (c.bg g).rb

theorem Core.StoFrame.refl (c : Core) (g : Nat) : c.StoFrame c g := ⟨⟨_, _, _, _, _, _, _, _, _, _, rfl⟩, rfl, fun _ _ => ⟨rfl, rfl⟩, rfl, rfl, rfl⟩
theorem Core.StoFrame.trans {c d e : Core} {g : Nat} (h : c.StoFrame d g) (k : d.StoFrame e g) : c.StoFrame e g := by
  obtain ⟨⟨_, _, _, _, _, _, _, _, _, _, h1⟩, h2, h3, h4, h5, h6⟩ := h
  obtain ⟨⟨_, _, _, _, _, _, _, _, _, _, k1⟩, k2, k3, k4, k5, k6⟩ := k
  refine ⟨⟨_, _, _, _, _, _, _, _, _, _, by rw [k1, h1]⟩, by rw [k2, h2], fun i hi => ⟨(k3 i hi).1.trans (h3 i hi).1, (k3 i hi).2.trans (h3 i hi).2⟩, k4.trans h4, k5.trans h5, k6.trans h6⟩
theorem Core.Moves.sto {c d : Core} (h : c.Moves d) (g : Nat) : c.StoFrame d g := by
  obtain ⟨⟨_, _, _, _, _, _, _, _, _, rfl⟩, h2⟩ := h
  exact ⟨⟨_, _, _, _, _, _, _, _, _, _, rfl⟩, rfl, fun i _ => ⟨rfl, h2 i⟩, rfl, rfl, rfl⟩
theorem Core.StoFrame.setBg {c : Core} {g : Nat} (v : BGroup) (h1 : v.latch = (c.bg g).latch) (h2 : v.xsto = (c.bg g).xsto) (h3 : v.rb = (c.bg g).rb) : c.StoFrame (c.setBg g v) g :=
  ⟨⟨_, _, _, _, _, _, _, _, _, _, rfl⟩, rfl, fun i hi => ⟨Core.bg_setBg_ne c v (Ne.symm hi), rfl⟩, by rw [Core.bg_setBg, h1], by rw [Core.bg_setBg, h2], by rw [Core.bg_setBg, h3]⟩
theorem Core.StoFrame.set (c : Core) (f : Fld) (g v : Nat) (hf : f.reg = R.SF_GRP) : c.StoFrame (c.set f g v) g :=
  ⟨⟨_, _, _, _, _, _, _, _, _, _, rfl⟩, rfl, fun i hi => ⟨rfl, by unfold Core.set; rw [hf]; exact Core.reg_setReg_of_inst c _ (by decide) (Ne.symm hi)⟩, rfl, rfl, rfl⟩
theorem Core.StoFrame.sendLevel (c : Core) (g s d l v : Nat) : c.StoFrame (c.sendLevel s d l v) g := by
  unfold Core.sendLevel
  split
  · exact .refl c g
  · exact ⟨⟨_, _, _, _, _, _, _, _, _, _, rfl⟩, rfl, fun _ _ => ⟨rfl, rfl⟩, rfl, rfl, rfl⟩
theorem Core.StoFrame.setGrp (c : Core) (g v : Nat) : c.StoFrame (c.setGrp g v) g := (Core.StoFrame.set c F.SF_GRP_STATE g v rfl).trans (.sendLevel _ _ _ _ _ _)
theorem Core.StoFrame.cancelRelease (c : Core) (g : Nat) : c.StoFrame (c.cancelRelease g) g := by
  unfold Core.cancelRelease
  dsimp only
  split
  · have h := Core.StoFrame.setBg (c := c) (g := g) { c.bg g with relCheck := false, relPend := false } rfl rfl rfl
    split
    · exact h.trans (((Core.Moves.refl _).set F.LG_REL_RESULT_RESULT 0 4 (by decide) (by decide)).sto g)
    · exact h
  · exact .refl c g

@[simp] theorem Core.reg_sendLevel (c : Core) (s d l v : Nat) (r : Reg) (i : Nat) : (c.sendLevel s d l v).reg r i = c.reg r i := by
  unfold Core.sendLevel; split <;> rfl

/-- Taking a group to STO (R350): the group is in STO with the cause, and the frame. -/
theorem Core.enterSto_spec (c : Core) (g cause : Nat) (e : Bool) :
    (c.enterSto g cause e).inSto g = true ∧ (c.enterSto g cause e).get F.SF_GRP_CAUSE g = cause % 16 ∧ c.StoFrame (c.enterSto g cause e) g := by
  have hst : ∀ d : Core, (d.set F.SF_GRP_CAUSE g cause).inSto g = d.inSto g := fun d => by
    unfold Core.inSto; rw [Core.get_set_apart d F.SF_GRP_CAUSE F.SF_GRP_STATE g cause rfl (by decide) (by decide)]
  have keep : ∀ {d x : Core}, d.Moves x → x.inSto g = d.inSto g ∧ x.get F.SF_GRP_CAUSE g = d.get F.SF_GRP_CAUSE g := fun {d x} h => by
    unfold Core.inSto Core.get; rw [show F.SF_GRP_STATE.reg = R.SF_GRP from rfl, show F.SF_GRP_CAUSE.reg = R.SF_GRP from rfl, h.2 g]; exact ⟨rfl, rfl⟩
  unfold Core.enterSto
  split
  · next hin =>
    refine ⟨?_, Core.get_set _ F.SF_GRP_CAUSE g cause (by decide), (Core.StoFrame.cancelRelease c g).trans (.set _ _ _ _ rfl)⟩
    rw [hst]
    unfold Core.cancelRelease
    dsimp only
    split
    · split
      · exact (keep ((Core.Moves.refl _).set F.LG_REL_RESULT_RESULT 0 4 (by decide) (by decide))).1.trans hin
      · exact hin
    · exact hin
  · dsimp only
    generalize hb : c.setBg g { c.bg g with genA := false, path1 := false, ss1Pend := 0, brakeLead := false, relCheck := false, relPend := false, brakePend := false, still := 0 } = b
    have fb : c.StoFrame b g := by rw [← hb]; exact .setBg _ rfl rfl rfl
    have hd : ((b.setGrp g 2).set F.SF_GRP_CAUSE g cause).inSto g = true := by
      rw [hst]; unfold Core.inSto Core.setGrp Core.get; rw [Core.reg_sendLevel]
      exact (congrArg (· == 2) (Core.get_set b F.SF_GRP_STATE g 2 (by decide)))
    have hc := Core.get_set (b.setGrp g 2) F.SF_GRP_CAUSE g cause (by decide)
    have fd := (fb.trans (Core.StoFrame.setGrp b g 2)).trans (Core.StoFrame.set _ F.SF_GRP_CAUSE g cause rfl)
    generalize (b.setGrp g 2).set F.SF_GRP_CAUSE g cause = d at *
    have m : ∀ ks : List Nat, d.Moves (foldN ks (if e then ((d.addSat F.SF_CNT_STO 0 1).logFrom 0x27 0x0000 g cause) else foldN ks ((d.addSat F.SF_CNT_STO 0 1).logFrom 0x27 0x0000 g cause) (fun c k => c.loseMaster 1 k)) Core.stoSlot) := fun ks => by
      have h0 : d.Moves ((d.addSat F.SF_CNT_STO 0 1).logFrom 0x27 0x0000 g cause) := ((Core.Moves.refl d).set F.SF_CNT_STO 0 _ (by decide) (by decide)).log _ _ _ _
      refine foldN_keeps (fun x => d.Moves x) _ _ _ ?_ (fun x n hx => hx.stoSlot n)
      split
      · exact h0
      · exact foldN_keeps (fun x => d.Moves x) _ _ _ h0 (fun x n hx => hx.loseMaster 1 n)
    exact ⟨(keep (m _)).1.trans hd, (keep (m _)).2.trans hc, fd.trans ((m _).sto g)⟩

end Sys2Proof.Machine
end

