-- ==== Sys2Proof/Laws/Memory.lean ====
section
/-! SUPPORT. The SRAM: every operation keeps its canonical form, and what a write leaves at other addresses. -/
namespace Sys2Proof.Machine

/-- A write of bytes keeps the canonical form. -/
theorem Ram.wf_write {r : Ram} (a : Nat) (bs : List Byte) (h : r.wf) : (r.write a bs).wf := by
  induction bs generalizing r a with
  | nil => exact h
  | cons b bs ih =>
    refine ih (r := { r with mem := Tab.set 0 r.mem a b, poison := r.poison.filter (· ≠ a / 4 * 4) }) (a + 1) ?_
    exact ⟨Tab.wf_set 0 a b h.1, h.2.1.filter _, fun x hx => h.2.2 x ((List.mem_filter.1 hx).1)⟩

/-- Filtering a canonical table by its keys keeps what lies above a bound. -/
theorem Tab.above_filter {α : Type} {n : Nat} {t : List (Nat × α)} (p : Nat × α → Bool) (h : Tab.above n t) : Tab.above n (t.filter p) :=
  fun e he => h e ((List.mem_filter.1 he).1)

/-- Filtering keeps the canonical form. -/
theorem Tab.wf_filter {α : Type} [DecidableEq α] (d : α) {t : List (Nat × α)} (p : Nat × α → Bool) (h : Tab.wf d t = true) : Tab.wf d (t.filter p) = true := by
  induction t with
  | nil => exact h
  | cons e t ih =>
    obtain ⟨k, v⟩ := e
    obtain ⟨hv, ha, ht⟩ := (Tab.wf_cons d k v t).1 h
    by_cases hp : p (k, v) = true
    · rw [List.filter_cons_of_pos hp]; exact (Tab.wf_cons ..).2 ⟨hv, Tab.above_filter p ha, ih ht⟩
    · rw [List.filter_cons_of_neg hp]; exact ih ht

/-- Clearing a bank keeps the canonical form. -/
theorem Ram.wf_clear {r : Ram} (b : Nat) (h : r.wf) : (r.clear b).wf :=
  ⟨Tab.wf_filter 0 _ h.1, h.2.1.filter _, fun x hx => h.2.2 x ((List.mem_filter.1 hx).1)⟩

/-- Poisoning a word keeps the canonical form. -/
theorem Ram.wf_doPoison {r : Ram} (a : Nat) (h : r.wf) : (r.doPoison a).wf := by
  unfold Ram.doPoison
  split
  · exact h
  · next hn =>
    refine ⟨h.1, ?_, ?_⟩
    · have : a / 4 * 4 ∉ r.poison := by simpa using hn
      exact List.nodup_append.2 ⟨h.2.1, by simp, fun x hx y hy hxy => this (by simp at hy; subst hy; subst hxy; exact hx)⟩
    · intro x hx
      rcases List.mem_append.1 hx with hx | hx
      · exact h.2.2 x hx
      · simp at hx; omega

/-- One change of SRAM keeps the canonical form. -/
theorem Ram.wf_apply1 {r : Ram} (o : MemOp) (h : r.wf) : (r.apply1 o).wf := by
  cases o with
  | bytes a bs => exact Ram.wf_write a bs h
  | clear b => exact Ram.wf_clear b h
  | poison a => exact Ram.wf_doPoison a h

/-- Changes of SRAM keep the canonical form. -/
theorem Ram.wf_apply {r : Ram} (ops : List MemOp) (h : r.wf) : (r.apply ops).wf := by
  induction ops generalizing r with
  | nil => exact h
  | cons o ops ih => exact ih (Ram.wf_apply1 o h)

/-- The SRAM after reset is in canonical form. -/
theorem Ram.wf_reset : State.reset.ram.wf := ⟨rfl, List.nodup_nil, by simp [State.reset]⟩

/-- A byte written is read back. -/
theorem Ram.byte_set_self (r : Ram) (a : Nat) (b : Byte) (p : List Nat) : Ram.byte { r with mem := Tab.set 0 r.mem a b, poison := p } a = b :=
  Tab.get_set_self ..

/-- A byte written leaves the others. -/
theorem Ram.byte_set_ne (r : Ram) {a x : Nat} (b : Byte) (p : List Nat) (h : a ≠ x) : Ram.byte { r with mem := Tab.set 0 r.mem a b, poison := p } x = r.byte x :=
  Tab.get_set_ne 0 r.mem b h

/-- No change of SRAM. -/
@[simp] theorem Ram.apply_nil (r : Ram) : r.apply [] = r := rfl

end Sys2Proof.Machine
end

