-- ==== Sys2Proof/Tests/Slice0.lean ====
section
/-! SUPPORT. Small tests: ill-formed commands are refused, values worked out in the manual, and for each statement with hypotheses a state and operands that meet them. -/
namespace Sys2Proof.Tests
open Sys2Proof.Machine
set_option Elab.async false

/-! ### A small part -/

/-- A pattern with a lane-bound slot 0, a step slot 1, a CAN slot 2 and virtual slots 3 and 127, ports of every type, and a receive and a transmit object on channel 0. -/
def demoPat : Pattern :=
  { valid := true, groupMask := 1,
    slots := [(0, { kind := 1, cls := 1, res := 0, fb1 := 0, template := 1 }), (1, { kind := 2, res := 0 }), (2, { kind := 3, cls := 1, res := 2, rx := 3 }), (3, { kind := 4 }), (127, { kind := 4, fb1 := 46 })],
    groups := [(0, { present := true, period := 3 })],
    ports := [(0, { type := 1 }), (1, { type := 2 }), (2, { type := 5 }), (3, { type := 6 }), (46, { type := 5 }), (47, { type := 1 }), (56, { type := 7, src := 2 })],
    canObj := [(0, { present := true, dlc := 8, id := 5, slot := 0xFF }), (1, { present := true, tx := true, dlc := 8, id := 6, slot := 0xFF })] }
/-- A Lead with that pattern, an Expert session 1 and a Basic session 2. -/
def demoCore : Core :=
  (({ pat := demoPat, sessions := [(1, { live := true, expert := true }), (2, { live := true })] } : Core).set F.TW_ROLE_ROLE 0 1).setBit F.PT_BOOT_NO_PATTERN 0 false
def demo : State := { core := demoCore }

/-! ### Served accesses -/

/-- The conditions of a served access as a Boolean. -/
def reachesB (c : Core) (p : Path) (l : Loc) (rd : Bool) : Bool :=
  c.heard p && c.pathRefusal p l.addr rd == 0 && !(c.accepted p).engineBusy p && !(c.accepted p).stallsOn ((c.accepted p).islandOf l.addr) && (c.accepted p).runs ((c.accepted p).islandOf l.addr) && !c.silent.contains l.addr
/-- The conditions of a served write as a Boolean. -/
def writesB (c : Core) (p : Path) (l : Loc) : Bool :=
  reachesB c p l false && (c.expert p || l.reg.accMask (fun f => f.acc = .rwx) == 0) && !(mirrored l.reg && c.isStandby && p ≠ .tansy)
theorem reaches_of {c : Core} {p : Path} {l : Loc} {rd : Bool} (h : reachesB c p l rd = true) : Reaches c p l rd := by
  unfold reachesB at h
  simp only [Bool.and_eq_true, beq_iff_eq, Bool.not_eq_true'] at h
  obtain ⟨⟨⟨⟨⟨h1, h2⟩, h3⟩, h4⟩, h5⟩, h6⟩ := h
  exact ⟨h1, h2, h3, h4, h5, h6⟩
theorem writes_of {c : Core} {p : Path} {l : Loc} (h : writesB c p l = true) : Writes c p l := by
  unfold writesB at h
  simp only [Bool.and_eq_true, Bool.or_eq_true, beq_iff_eq, Bool.not_eq_true'] at h
  obtain ⟨⟨h1, h2⟩, h3⟩ := h
  exact { toReaches := reaches_of h1, entitled := h2, notMirrored := h3 }

/-- The registers that the statements about commands write, at the instances that bound their ranges. -/
def writtenLocs : List Loc :=
  [⟨R.PT_CTRL, 0⟩, ⟨R.AR_PRIO_LO, 15⟩, ⟨R.AR_PRIO_HI, 15⟩, ⟨R.AR_RETAIN, 0⟩, ⟨R.SYS_AWL, 0⟩, ⟨R.SYS_ISL_RST, 0⟩, ⟨R.AX_CMD, 127⟩, ⟨R.AX_TARGET_LO, 127⟩, ⟨R.AX_TARGET_HI, 127⟩, ⟨R.AX_SOFT_MIN_LO, 127⟩,
   ⟨R.AX_SOFT_MIN_HI, 127⟩, ⟨R.AX_SOFT_MAX_LO, 127⟩, ⟨R.AX_SOFT_MAX_HI, 127⟩, ⟨R.GR_DEN, 127⟩, ⟨R.GR_NUM, 127⟩, ⟨R.AX_VMAX, 127⟩, ⟨R.AX_ACCEL, 127⟩, ⟨R.AX_DECEL, 127⟩, ⟨R.AX_SS1_DEC, 127⟩, ⟨R.IG_CTRL, 15⟩,
   ⟨R.IG_CFG, 15⟩, ⟨R.ST_CHECK, 15⟩, ⟨R.AX_COEF_DATA, 127⟩, ⟨R.AX_PA_DATA, 127⟩, ⟨R.AX_COEF_CTRL, 127⟩, ⟨R.AX_LCFG, 127⟩, ⟨R.LN_CTRL, 95⟩, ⟨R.FB_CTRL, 55⟩, ⟨R.FB_CPR, 55⟩, ⟨R.FB_SER, 2⟩, ⟨R.NT_CTRL, 0⟩,
   ⟨R.CP_DI_STAT, 15⟩, ⟨R.CP_ARM, 127⟩, ⟨R.CP_Q_CTRL, 0⟩, ⟨R.CN_OBJ_W3, 1⟩, ⟨R.CN_OBJ_W3, 2047⟩, ⟨R.CN_CTRL, 3⟩, ⟨R.FI_DO_CTRL, 0⟩, ⟨R.LG_STO_REQ, 0⟩, ⟨R.LG_SS1_REQ, 0⟩, ⟨R.LG_RELEASE, 0⟩, ⟨R.TW_CTRL, 0⟩,
   ⟨R.PW_REQ, 0⟩, ⟨R.RST_CTRL, 0⟩, ⟨R.MG_I2C, 0⟩, ⟨R.MG_LOG_CTRL, 0⟩, ⟨R.SYS_LED, 0⟩, ⟨R.MG_KEY_DATA, 0⟩, ⟨R.MG_KEY_CTRL, 0⟩, ⟨R.MG_IMG_CTRL, 0⟩, ⟨R.MG_IMG_DATA, 0⟩]
theorem witness_writes_of_tansy : writtenLocs.all (writesB demoCore .tansy) = true := by decide +kernel
theorem witness_writes_of_an_expert : writtenLocs.all (writesB demoCore (.strap 1)) = true := by decide +kernel
theorem witness_writes_of_loop_parameters : paramRegs.all (fun r => writesB demoCore .tansy ⟨r, 127⟩) = true := by decide +kernel
theorem witness_writes : Writes demoCore .tansy ⟨R.PT_CTRL, 0⟩ ∧ Writes demoCore (.strap 1) ⟨R.AX_CMD, 127⟩ := ⟨writes_of (by decide +kernel), writes_of (by decide +kernel)⟩
/-- The registers that the statements about commands read. -/
theorem witness_reads : ([⟨R.NT_SEC_LO, 0⟩, ⟨R.NT_SEC_HI, 0⟩, ⟨R.AX_COEF_DATA, 127⟩, ⟨R.AX_PA_DATA, 127⟩, ⟨R.CN_OBJ_W0, 0⟩, ⟨R.CN_OBJ_W3, 0⟩, ⟨R.CN_OBJ_DATA, 1⟩, ⟨R.MG_KEY_DATA, 0⟩] : List Loc).all (fun l => reachesB demoCore (.strap 2) l true) = true := by
  decide +kernel
theorem witness_log_read : reachesB demoCore (.strap 2) ⟨R.MG_LOG_CTRL, 0⟩ false = true ∧ demoCore.reg R.MG_LOG_CTRL 0 = 0 := by decide +kernel
theorem witness_can_object_addresses : locAt (⟨R.CN_OBJ_W3, 2047⟩ : Loc).addr = some ⟨R.CN_OBJ_W3, 2047⟩ := by decide +kernel

/-! ### The queue and what every command does -/

theorem witness_EmptyQueueCountsOneClock :
    State.reset.pending = [] ∧ State.reset.core.runs 0x22 = true ∧ State.reset.core.netNs + 10 < 2 ^ 48 * 1000000000 ∧ ({ State.reset with core := State.reset.core.setIsl 0x22 1 } : State).core.runs 0x22 = false ∧
    demoCore.backSec + 1 < 2 ^ 64 ∧ demoCore.backSub < 32768 ∧ demoCore.backPhase < 125000000 ∧ ({ demoCore with backKept := true } : Core).backKept = true ∧ ({ demoCore with backKept := false } : Core).backKept = false := by decide +kernel
theorem witness_StepKeepsSoundness : State.reset.sound ∧ step { State.reset with pending := [.supplyRestored] } = exec .supplyRestored State.reset ∧ exec .supplyRestored State.reset = .next State.reset :=
  ⟨⟨by decide, by decide, by decide⟩, rfl, rfl⟩
theorem witness_WellFormedCommandsComplete : (Instr.jog .tansy 127).wellFormed = true ∧ (Instr.jog .tansy 128).wellFormed = false := by decide
theorem witness_OtherCommandsKeepSram : (Instr.supplyRestored).mayStore = false ∧ exec .supplyRestored demo = .next demo := ⟨rfl, rfl⟩

/-! ### Registers and their access -/

theorem witness_EveryRegisterHasItsAddress : R.AX_VMAX ∈ allRegs ∧ (∃ n, R.AX_VMAX.place = .lin n) ∧ 127 < R.AX_VMAX.count := ⟨by decide +kernel, ⟨0x100, rfl⟩, by decide⟩
theorem witness_AccessesWithoutARegister :
    demoCore.heard (.strap 2) = true ∧ 2 % 4 ≠ 0 ∧ 0x4000000 ≤ 0xFFFFFFFC ∧ locAt 0xFFFFFFFC = none ∧ locAt 0x4000000 = none ∧ demoCore.pathRefusal (.strap 2) 2 false = 0 ∧ demoCore.pathRefusal (.strap 2) 2 true = 0 ∧
    demoCore.pathRefusal (.strap 2) 0xFFFFFFFC false = 0 ∧ demoCore.pathRefusal (.strap 2) 0xFFFFFFFC true = 0 ∧
    locAt (⟨R.SF_GRP, 15⟩ : Loc).addr = some ⟨R.SF_GRP, 15⟩ ∧ blockOf (⟨R.SF_GRP, 15⟩ : Loc).addr = some 16 ∧ reachesB demoCore (.strap 2) ⟨R.SF_GRP, 15⟩ false = true := by decide +kernel
/-- Island 0x22 stopped (1), or failed (5). -/
def stopped (n : Nat) : Core := demoCore.setIsl 0x22 n
theorem witness_StoppedIslandsAnswerAsleep : [1, 5].all (fun n =>
    let a := (⟨R.NT_CTRL, 0⟩ : Loc).addr
    let c := stopped n
    c.heard (.strap 2) && opCheck a 1 == 0 && blockOf a != some 16 && !(c.accepted (.strap 2)).engineBusy (.strap 2) && !(c.accepted (.strap 2)).stallsOn ((c.accepted (.strap 2)).islandOf a) &&
      !(c.accepted (.strap 2)).runs ((c.accepted (.strap 2)).islandOf a) && c.pathRefusal (.strap 2) a true == 0 && c.pathRefusal (.strap 2) a false == 0 &&
      decide ((c.accepted (.strap 2)).islandOf a < 0x40) && !(c.crossAt (crossKey ⟨0x25, 0x24, .pulse, F.AR_FAULT_ASLEEP.line 0⟩)).trip) = true ∧
    ((demoCore.setCross (crossKey ⟨0x25, 0x24, .pulse, F.AR_FAULT_ASLEEP.line 0⟩) { trip := true }).crossAt (crossKey ⟨0x25, 0x24, .pulse, F.AR_FAULT_ASLEEP.line 0⟩)).trip = true := by decide +kernel
theorem witness_RegisterWrites :
    demoCore.deferred = none ∧ demoCore.memq = [] ∧ demoCore.stalls = [] ∧ demoCore.strapWait = none ∧ R.AR_HOLD.id < 512 ∧ R.AR_HOLD.id ≠ R.EN_HOST_WD.id ∧ locAt (⟨R.AR_HOLD, 0⟩ : Loc).addr = some ⟨R.AR_HOLD, 0⟩ ∧ 0x4000000 ≤ (⟨R.AR_HOLD, 0⟩ : Loc).addr ∧
    blockOf (⟨R.AR_HOLD, 0⟩ : Loc).addr ≠ some 16 ∧ (blockOf (⟨R.AR_HOLD, 0⟩ : Loc).addr).isSome = true ∧ R.AR_HOLD.writable = true ∧ highOf R.AR_HOLD = none ∧ lowOf R.AR_HOLD = none ∧ handlers.all (fun h => h.1.id != R.AR_HOLD.id) = true ∧
    sysHandlers.all (fun h => h.1.id != R.AR_HOLD.id) = true ∧ shown.all (fun e => e.1.id != R.AR_HOLD.id) = true ∧ demoCore.unusedSlotReg R.AR_HOLD 0 = false ∧ demoCore.portRegApplies R.AR_HOLD 0 = true ∧
    writesB demoCore (.strap 1) ⟨R.AR_HOLD, 0⟩ = true ∧ reachesB demoCore (.strap 2) ⟨R.AR_HOLD, 0⟩ false = true ∧ demoCore.expert (.strap 2) = false ∧ (mirrored R.AR_HOLD && demoCore.isStandby) = false ∧
    (0x1 : Word) &&& R.AR_HOLD.accMask (fun f => f.acc = .rwx) ≠ demoCore.reg R.AR_HOLD 0 &&& R.AR_HOLD.accMask (fun f => f.acc = .rwx) := by decide +kernel
theorem witness_RegisterWrites_place : (∃ n, R.AR_HOLD.place = .lin n) ∧ ∃ t, exec (.registerWrite (.strap 2) (⟨R.AR_HOLD, 0⟩ : Loc).addr 1) demo = .next t := ⟨⟨0, rfl⟩, ⟨_, rfl⟩⟩
theorem witness_RegisterWrites_runs : ∃ t, exec (.registerWrite (.strap 1) (⟨R.AR_HOLD, 0⟩ : Loc).addr 1) demo = .next t := ⟨_, rfl⟩
/-- Session 2 holds the high word of network time. -/
def holding : Core := { demoCore with hold := [(Path.strap 2, [((⟨R.NT_SEC_HI, 0⟩ : Loc).addr, (7 : Word)), ((⟨R.NT_NS, 0⟩ : Loc).addr, 0)])] }
theorem witness_WordsThatReadTogether :
    (demoCore.pat.slot 127).kind ≠ 0 ∧ demoCore.hold = [] ∧
    reachesB holding (.strap 2) ⟨R.NT_SEC_HI, 0⟩ true = true ∧ holding.hold.find? (fun e => e.1 = .strap 2) = some (.strap 2, ((⟨R.NT_SEC_HI, 0⟩ : Loc).addr, 7) :: [((⟨R.NT_NS, 0⟩ : Loc).addr, 0)]) ∧
    allRegs.any (fun r => r.accMask (fun f => f.acc = .rc) != 0 && decide (5 < r.count) && demoCore.portRegApplies r 5 && reachesB demoCore (.strap 2) ⟨r, 5⟩ true) = true := by decide +kernel

/-! ### SRAM and Strap -/

theorem witness_SramWords : 0x3FFFFFC % 4 = 0 ∧ (0x3FFFFFC + 3) / 4 = 0x3FFFFFC / 4 := by decide
theorem witness_StrapReachesSram :
    let c := demoCore.set F.PT_STAT_PHASE 0 1
    c.heard (.strap 1) = true ∧ c.pathRefusal (.strap 1) 0x3BFFFFC false = 0 ∧ (c.accepted (.strap 1)).engineBusy (.strap 1) = false ∧ (c.accepted (.strap 1)).stallsOn 0x24 = false ∧ (c.accepted (.strap 1)).runs 0x24 = true ∧
    c.silent = [] ∧ 0x3BFFFFC / 0x400000 = 14 ∧ 0x3BFFFFC % 4 = 0 ∧ 0x37FFFFC / 0x400000 ≠ 14 ∧ 0x3C00000 / 0x400000 ≠ 14 ∧ (c.sessAt 1).expert = true ∧ (c.sessAt 2).expert = false ∧
    (c.sent (.strap 1) 0x3BFFFFC [0]).get F.PT_STAT_PHASE 0 = 1 ∧ (demoCore.sent (.strap 1) 0x3BFFFFC [0]).get F.PT_STAT_PHASE 0 ≠ 1 ∧ c.runs 0x24 = true ∧ 0x3FFFFFC + 4 * 1 ≤ 0x4000000 := by decide +kernel
/-- The four outcomes of the window at its bounds. -/
theorem witness_SequenceWindow :
    (({ head := 65535 } : Session).window 0).1 = .accept ∧ (({ head := 0 } : Session).window 32767).1 = .accept ∧ (({ head := 0 } : Session).window 32768).1 = .old ∧ (({ head := 64, seen := 1 } : Session).window 0).1 = .old ∧
    (({ head := 63, seen := 1 } : Session).window 0).1 = .accept ∧ (({ head := 63, seen := 1 } : Session).window 63).1 = .duplicate := by decide +kernel
/-- A header for a session, with a TAG. -/
def header (sid len : Nat) (tag : List Byte) : StrapHdr :=
  { src := ⟨0, 0, 1, 1, 1⟩, magic := 0x5053, ver := 1, kind := 1, session := sid, seq := 1, len := len, payload := len, count := 1, status := 0, flags := 0, rsvd := 0, echo := 0, tag := tag }
/-- The TAG that a session's key gives a request. -/
def tagFor (sid len : Nat) (ks : List Byte) (ops : List StrapOp) : List Byte := (Crypto.hmac ks (requestBytes (header sid len []) ops)).take 16
theorem requestBytes_header (sid len : Nat) (t : List Byte) (ops : List StrapOp) : requestBytes (header sid len t) ops = requestBytes (header sid len []) ops := by simp only [requestBytes, header]
theorem shapeOk_header (sid len : Nat) (t : List Byte) (ops : List StrapOp) : shapeOk (header sid len t) ops = shapeOk (header sid len []) ops := by simp only [shapeOk, header]; rfl
/-- The conditions of a taken request as a Boolean. -/
def takenB (c : Core) (sid len : Nat) (ops : List StrapOp) : Bool :=
  c.runs 0x23 && c.livePorts.testBit 0 && c.liveVlan == 0 && c.strapWait.isNone && !c.stalls.any (fun e => pathEngine e.1 == 0) && decide (32 ≤ len) && decide (len ≤ 1472) && shapeOk (header sid len []) ops &&
    decide (32 + (ops.map (fun o => 8 + 4 * replyWords o)).sum ≤ 1472)
theorem taken_of {c : Core} {ops : List StrapOp} {sid len : Nat} (t : List Byte) (h : takenB c sid len ops = true) : Taken c (header sid len t) ops := by
  unfold takenB at h
  simp only [Bool.and_eq_true, decide_eq_true_eq, beq_iff_eq, Bool.not_eq_true', Option.isNone_iff_eq_none] at h
  obtain ⟨⟨⟨⟨⟨⟨⟨⟨h1, h2⟩, hv⟩, h3⟩, h4⟩, h5⟩, h6⟩, h7⟩, h8⟩ := h
  exact ⟨h1, h2, hv.symm, ⟨h3, h4⟩, ⟨rfl, rfl, rfl, h5, h6, rfl⟩, (shapeOk_header sid len t ops).trans h7, h8⟩
theorem inSession_of {c : Core} {ops : List StrapOp} {len : Nat}
    (h : (takenB c 1 len ops && (c.sessAt 1).live && !(c.sessAt 1).half && ((c.sessAt 1).window 1).1 == .accept) = true) : InSession c (header 1 len (tagFor 1 len (c.sessAt 1).ks ops)) ops := by
  simp only [Bool.and_eq_true, Bool.not_eq_true', beq_iff_eq] at h
  obtain ⟨⟨⟨h0, h9⟩, h10⟩, h11⟩ := h
  exact { toTaken := taken_of _ h0, session := Nat.one_ne_zero, live := h9, opened := h10, tagged := by rw [requestBytes_header]; simp only [header, tagFor], fresh := h11 }
/-- A request of each operation, and the longest READ. -/
theorem witness_StrapRequests :
    let request (len : Nat) (o : StrapOp) := InSession demoCore (header 1 len (tagFor 1 len (demoCore.sessAt 1).ks [o])) [o]
    request 40 .nop ∧ request 40 (.read 0 256) ∧ request 44 (.write 0 [0]) ∧ request 48 (.rmw 0 0 0) ∧ request 40 .close ∧ request 40 (.subscribe 0) ∧ request 40 (.evAck 0) :=
  ⟨inSession_of (by decide +kernel), inSession_of (by decide +kernel), inSession_of (by decide +kernel), inSession_of (by decide +kernel), inSession_of (by decide +kernel), inSession_of (by decide +kernel), inSession_of (by decide +kernel)⟩
theorem witness_StrapOperations :
    demoCore.islState 0x25 ≠ 5 ∧ opCheck 0 256 = 0 ∧ opCheck 0x3FFFFFC 1 = 0 ∧ demoCore.strapWait = none ∧
    [StrapOp.read 0 256, .write 0x3FFFFFC [0], .rmw 0x3FFFFFC 0 0].all (fun o => !(demoCore.admitted (header 1 48 [])).opStalls (demoCore.sessionJob (header 1 48 []) [o]) o) = true := by decide +kernel
/-- Session 3 is half open, for an Expert key. -/
def halfOpen : Core := demoCore.setSess 3 { live := true, half := true, expert := true }
theorem witness_SessionsOpen :
    Taken demoCore (header 0 56 noTag) [.hello 3 (List.replicate 16 0)] ∧ (({ demoCore with keys := [(3, { present := true })] } : Core).keyAt 3).present = true ∧
    Taken halfOpen (header 3 40 (tagFor 3 40 (halfOpen.sessAt 3).ks [.openS 1])) [.openS 1] ∧ halfOpen.openSessions.length < 8 ∧ (halfOpen.openSessions.filter (·.expert)).length < 2 ∧ halfOpen.wdHeld = none ∧ halfOpen.islState 0x25 ≠ 5 ∧ (halfOpen.sessAt 3).live = true ∧ (halfOpen.sessAt 3).half = true :=
  ⟨taken_of _ (by decide +kernel), by decide +kernel, taken_of _ (by decide +kernel), by decide +kernel, by decide +kernel, by decide +kernel, by decide +kernel, by decide +kernel, by decide +kernel⟩
/-- An event frame of session 1 is outstanding, sent again `n` times, session 3 is half open, and the armed watchdog acts at a Lead. -/
def waitingFor (n : Nat) : Core := ((halfOpen.setSess 1 { demoCore.sessAt 1 with outstanding := some ([], 1, 2), resent := n }).setBit F.EN_HOST_WD_ARMED 0 true).set F.EN_HOST_WD_TIMEOUT 0 1
theorem witness_NetworkAndTimers :
    (header 1 40 []).src.vlan ≠ ({ demoCore with liveVlan := 5 } : Core).liveVlan ∧ demoCore.runs 0x23 = true ∧ (0 : Word) ≠ demoCore.liveIp + 1 ∧ ((waitingFor 5).sessAt 3).live = true ∧ ((waitingFor 5).sessAt 3).half = true ∧ ((waitingFor 5).sessAt 1).live = true ∧
    ((waitingFor 5).sessAt 1).half = false ∧ ((waitingFor 4).sessAt 1).outstanding = some ([], 1, 2) ∧ ((waitingFor 4).sessAt 1).resent = 4 ∧ ((waitingFor 5).sessAt 1).outstanding = some ([], 1, 2) ∧ ((waitingFor 5).sessAt 1).resent = 5 ∧
    (waitingFor 5).bit F.EN_HOST_WD_ARMED 0 = true ∧ (waitingFor 5).get F.EN_HOST_WD_TIMEOUT 0 ≠ 0 ∧ (waitingFor 5).islState 0x25 = 0 ∧ ((waitingFor 5).setIsl 0x25 1).islState 0x25 = 1 ∧
    ([(waitingFor 5), (waitingFor 5).set F.TW_ROLE_ROLE 0 2].map (fun s => ((s.pokeApp.setBit F.EN_HOST_WD_EXPIRED 0 true).log 0x050D noSrc 0).isLead)) = [true, false] := by decide +kernel

/-! ### The loader and the arbiters -/

/-- The loader in a phase, with a command. -/
def phase (n cmd : Nat) : Core := { demoCore.set F.PT_STAT_PHASE 0 n with loader := { cmd := cmd, target := 0x22 } }
/-- The loader may re-lace island `isl` of a verified image. -/
def relaceable : Core := { demoCore.setBit F.PT_STAT_VERIFIED 0 true with pat := { demoPat with allowRelace := true } }
theorem witness_LoaderCommands_run : [1, 2, 3, 4, 5, 6, 7].all (fun cmd => relaceable.ptRefusal {} cmd 1 == 0) = true ∧ relaceable.twin.coldPend = false ∧ relaceable.byHandover 1 = false := by decide +kernel
theorem witness_LoaderCommands : demoCore.ptRefusal {} 4 0x22 ≠ 0 ∧ (phase 2 2).ptRefusal {} 1 0 ≠ 0 ∧ (phase 5 2).ptRefusal {} 7 0 ≠ 0 := by decide +kernel
theorem witness_LoaderWork :
    (phase 2 2).get F.PT_STAT_PHASE 0 = 2 ∧ (phase 2 2).loader.cmd ≠ 7 ∧ (phase 2 7).get F.PT_STAT_PHASE 0 = 2 ∧ (phase 2 7).loader.cmd = 7 ∧ (phase 4 3).get F.PT_STAT_PHASE 0 = 4 ∧ (phase 4 3).loader.cmd = 3 ∧ (phase 4 3).rstLock = false ∧
    (phase 4 7).loader.cmd = 7 ∧ (phase 4 7).rstLock = false ∧ (phase 5 5).get F.PT_STAT_PHASE 0 = 5 ∧ demoCore.twin.coldPend = false := by decide +kernel
/-- A re-lace of a target that goes by handover or not, with the contexts handed over or not, the target rebuilt or not, abandoned or not. -/
def relaceAt (target : Nat) (handover handedOver ready aborted : Bool) : Core := { demoCore with loader := { cmd := 4, relace := true, target := target, handover := handover, handedOver := handedOver, ready := ready, aborted := aborted } }
theorem witness_LoaderWork_relace : [false, true].all (fun ab => [(relaceAt 3 true false false ab), (relaceAt 3 false false false ab), (relaceAt 3 true true false ab), (relaceAt 0x1F false false false ab), (relaceAt 3 true true true ab), (relaceAt 3 false false true ab)].all
    (fun c => c.loader.relace && !c.rstLock)) = true := by decide +kernel
/-- Bank 14 holds a transfer of RQ0, with RQ1 and RQ9 waiting; RQ7 holds the lock of bank 5, and waits there. -/
def arbiting : Core :=
  (demoCore.setBank 14 { holder := some ⟨0, 0, 1, none⟩, waiting := [⟨1, 0, 1, none⟩, ⟨9, 0, 1, none⟩] }).setBank 5 { lock := some 7, waiting := [⟨7, 0, 1, none⟩, ⟨3, 0, 1, none⟩] }
theorem witness_BanksDecideAndLock :
    (arbiting.bankAt 14).lock = none ∧ arbiting.winner 14 = some 9 ∧ (arbiting.bankAt 5).lock = some 7 ∧ arbiting.winner 5 = some 7 ∧ demoCore.winner 0 = none ∧ (arbiting.setBank 14 { waiting := [⟨1, 0, 1, none⟩] }).winner 14 = some 1 ∧
    arbiting.runs 0x24 = true ∧ lockable 4 = false ∧ (lockable 15 = true ∧ (demoCore.bankAt 15).lock = none) ∧ 5 < 16 ∧ (demoCore.bankAt 5).lockWait.contains 6 = false := by decide +kernel
/-- RQ7 on a lockable free bank above those it holds, on the bank it holds, on a bank below, RQ6 on the bank RQ7 holds, and RQ5 on any: granted, refused, refused, waits, refused. -/
theorem witness_BanksDecideAndLock_requests :
    lockable 8 = true ∧ (arbiting.bankAt 8).lock = none ∧ (∀ b' < 16, 8 ≤ b' → (arbiting.bankAt b').lock ≠ some 7) ∧ (arbiting.bankAt 5).lock = some 7 ∧ (∀ b' < 16, (arbiting.bankAt b').lock ≠ some 6) ∧ lockable 5 = true ∧
    demoCore.patternLock = false ∧ (arbiting.bankAt 5).lock ≠ some 6 := by decide +kernel
/-- RQ10 and RQ11 are at their thresholds on bank 14, where RQ11 waits or not. -/
def starving (waits : Bool) : Core :=
  demoCore.setBank 14 { waiting := if waits then [⟨11, 0, 1, none⟩, ⟨10, 4, 1, none⟩] else [⟨10, 4, 1, none⟩], lost := Tab.set 0 (Tab.set 0 [] 10 65535) 11 (if waits then 65535 else 0) }
/-- RQ10 and RQ11 are at their thresholds, and whether RQ11 waits. -/
def starvingAt (c : Core) : List Bool := [decide (c.starveThr 10 ≤ Tab.get 0 (c.bankAt 14).lost 10), decide (c.starveThr 11 ≤ Tab.get 0 (c.bankAt 14).lost 11), (c.bankAt 14).waiting.any (fun y => y.rq == 11)]
theorem witness_TransfersAndErrors :
    xferOk ⟨0, 0, 1, none⟩ = true ∧ xferOk ⟨0, 0x3FFFFC, 1, some [0]⟩ = true ∧ (arbiting.bankAt 14).holder = some ⟨0, 0, 1, none⟩ ∧ (arbiting.bankAt 14).lock = none ∧ (arbiting.bankAt 15).holder = none ∧ demoCore.mayWrite 0 15 = false ∧ demoCore.mayWrite 11 15 = true ∧
    starvingAt (starving true) = [true, true, true] ∧ starvingAt (starving false) = [true, false, false] ∧ ((starving true).setBit F.SYS_AWL_ENABLE 0 true).mayWrite 10 14 = true ∧ 10 < 12 ∧ demoCore.runs 0x24 = true ∧ demoCore.islState 0x25 = 0 ∧ (demoCore.setIsl 0x25 1).islState 0x25 = 1 ∧
    0x3FFFFFF < 0x4000000 ∧ 0x3FFFFFF / 0x400000 = 15 ∧ (List.range 16).any (fun i => ({ poison := [0x3FFFFFC] } : Ram).poisoned (0x3FFFFFF / 64 * 64 + 4 * i)) = true ∧
    (demoCore.setIsl 0x24 2).runs 0x24 = false ∧ (((demoCore.setIsl 0x24 2).set F.PW_STAT_STATE 0 3).set F.PW_STAT_ACTIVE 0 0).pwState = 3 ∧ (((demoCore.setIsl 0x24 2).set F.PW_STAT_STATE 0 3).set F.PW_STAT_ACTIVE 0 0).pwActive = 0 := by decide +kernel
theorem witness_ArbiterAndAwlRegisters :
    let c := demoCore.setBit F.SYS_AWL_ENABLE 0 true
    F.AR_RETAIN_REFUSED.read (0xF : Word) = 0 ∧ c.runs 0x23 = true ∧ c.bit F.SYS_AWL_ENABLE 0 = true ∧ c.runs 0x24 = true ∧ c.engineBusy .awl = false ∧ c.silent.contains 0x3FFFFFC = false ∧ 0x3FFFFFC % 4 = 0 ∧ 0x3FFFFFC < 0x4000000 ∧
    0x3FFFFFC / 0x400000 = 15 ∧ 0x3BFFFFC / 0x400000 ≠ 15 := by decide +kernel

/-! ### Islands and slots -/

theorem witness_CrossingsAndFailures :
    eitherSide ⟨0x29, 0x22, .word, 0⟩ = true ∧ eitherSide ⟨0x29, 0x22, .level, 0⟩ = true ∧ eitherSide ⟨0x29, 0x22, .pulse, 0⟩ = true ∧ eitherSide ⟨0, 0x26, .counted, 0⟩ = true ∧ eitherSide ⟨0x22, 0x26, .pulse, 0⟩ = false ∧ demoCore.rst.held = false ∧
    (demoCore.setIsl 0x29 4).islState 0x29 = 4 ∧ (demoCore.setIsl 0x29 5).islState 0x29 = 5 ∧ demoCore.islState 0xF = 0 ∧ demoCore.islState 0x28 = 0 ∧ demoCore.runs 0x25 = true ∧ ({} : Crossing).trip = false ∧ ({ trip := true } : Crossing).trip = true := by decide +kernel
/-- The Tansy path waits for island 0x22, which wakes on access. -/
def wakingUp : Core := { (stopped 1).setBit F.SYS_WAKE_ON_ACCESS_EN 0 true with stalls := [(.tansy, (⟨R.NT_CTRL, 0⟩ : Loc).addr, none)] }
/-- The module sleeps, and island 0x21 was woken by an access. -/
def wokenAsleep : Core := { demoCore.set F.PW_STAT_STATE 0 2 with woken := [(0x21, 1)] }
/-- An island's reset runs. -/
def resetting (n : Nat) : Core := { demoCore with loader := { islReset := true, rstTarget := n } }
theorem witness_IslandStates :
    demoCore.runs 0x29 = true ∧ demoCore.runs 0x24 = true ∧ (arbiting.bankAt 14).holder.isSome = true ∧ (∀ b < 16, (demoCore.bankAt b).lock.isSome = false ∧ (demoCore.bankAt b).holder.isSome = false) ∧ (stopped 1).runs 0x22 = false ∧ wakingUp.stallsOn 0x22 = true ∧
    wakingUp.awaited 0x22 = true ∧ (wakingUp.setIsl 0x22 0).awaited 0x22 = true ∧ (wakingUp.setIsl 0x22 0).stallsOn 0x22 = false ∧ wakingUp.loader.relace = false ∧ wakingUp.loader.islReset = false ∧ Tab.get 0 wokenAsleep.woken 0x21 ≠ 0 ∧
    wokenAsleep.runs 0x21 = true ∧ wokenAsleep.pwState = 2 ∧ sleepIslands.contains 0x21 = true ∧ Tab.get 0 ({ demoCore with woken := [(0x21, 1)] } : Core).woken 0x21 ≠ 0 ∧ ({ demoCore with woken := [(0x21, 1)] } : Core).pwState = 0 := by decide +kernel
theorem witness_IslandStates_resets :
    (resetting 15).loader.islReset = true ∧ (resetting 15).fullLoading = false ∧ (resetting 15).loader.rstTarget < 0x10 ∧ ({ resetting 0x23 with loader := { (resetting 0x23).loader with rstFirst := true } } : Core).loader.rstFirst = true ∧
    (demoCore.setIsl 0x23 3).loader.islReset = false ∧ (demoCore.setIsl 0x23 3).islState 0x23 = 3 ∧ (demoCore.setIsl 0x23 3).rst.held = false ∧
    (let a := (⟨R.NT_CTRL, 0⟩ : Loc).addr
     demoCore.heard (.strap 1) && opCheck a 1 == 0 && blockOf a != some 16 && !(demoCore.accepted (.strap 1)).engineBusy (.strap 1) && !(demoCore.accepted (.strap 1)).stallsOn ((demoCore.accepted (.strap 1)).islandOf a) &&
       (demoCore.accepted (.strap 1)).runs ((demoCore.accepted (.strap 1)).islandOf a) && demoCore.pathRefusal (.strap 1) a true == 0 && demoCore.pathRefusal (.strap 1) a false == 0) = true := by decide +kernel
/-- A slot that tracks, or is in SS1. -/
def tracking (ss1 : Bool) : Core := demoCore.setProf 127 { held := !ss1, ss1 := ss1 }
theorem witness_SlotCommands :
    (demoCore.pat.slot 127).kind ≠ 0 ∧ demoCore.deferred = none ∧ demoCore.stalls = [] ∧ demoCore.strapWait = none ∧ (tracking false).tracking 127 = true ∧ ((tracking true).profAt 127).ss1 = true := by decide +kernel
theorem witness_MovesEndAtTheirTarget : (planTo 0 0 0 1000 0x3F800000 0x3F800000 0x3F800000).1.ended 1000000000000000 = true := by decide +kernel
theorem witness_ProfileParameters :
    (demoCore.pat.slot 127).kind ≠ 0 ∧ (demoCore.profAt 127).engaged = false ∧ F32.positive 0 = false ∧ F32.positive 0x7F800000 = false ∧ F32.positive 1 = true := by decide +kernel
theorem witness_InterpolationAndTheTick :
    let c : Core := { demoCore with pat := { demoPat with slots := (4, { kind := 4, ig := 15 }) :: demoPat.slots } }
    let m := F.IG_CFG_MASTER.read (4 : Word)
    demoCore.runs 0x21 = true ∧ (m < 128 ∧ (c.pat.slot m).kind ≠ 0 ∧ (c.pat.slot m).ig < 16) ∧ ¬(F.IG_CFG_MASTER.read (0xFF : Word) < 128) ∧ ¬(F.IG_CFG_MASTER.read (0x80 : Word) < 128) ∧
    (let r := demoCore.pat.slot (F.IG_CFG_MASTER.read (127 : Word)); r.kind ≠ 0 ∧ ¬(r.ig < 16 ∨ r.gearKind ≠ 0)) := by decide +kernel

/-! ### Frames, loops, lanes and ports -/

/-- Engine 15 has a frame to run, and an injected error or not. -/
def inFrame (inject : Bool) : Core := ((demoCore.setEng 15 { done := false }).set F.BS_ENG_STAT_PERIOD 15 3).setBit F.ST_CHECK_INJECT 15 inject
/-- A Standby whose grid 3 runs. -/
def standbyGrid : Core := (demoCore.set F.TW_ROLE_ROLE 0 2).setGrid 3 { running := true, len := 62500 }
theorem witness_FramesAndEngines :
    demoCore.gridUsed 3 = true ∧ demoCore.gridUsed 5 = false ∧ demoCore.runs 0x22 = true ∧ demoCore.runs 0x26 = true ∧ (demoCore.setIsl 0x26 5).islState 0x26 = 5 ∧ demoCore.pat.valid = true ∧ demoCore.isStandby = false ∧ demoCore.mayOpen 3 demoCore.profNs = true ∧
    (demoCore.setGrid 3 { running := true, len := 62500 }).mayOpen 3 62499 = false ∧ (standbyGrid.gridAt 3).running = true ∧ standbyGrid.isStandby = true ∧ standbyGrid.mayOpen 3 0 = true ∧ [true, false].all (fun inject =>
      let c := inFrame inject
      c.engRuns 15 && Tab.get 0 c.woken 15 == 0 && decide (c.get F.BS_ENG_STAT_PERIOD 15 < 6) && c.bit F.ST_CHECK_INJECT 15 == inject && !(c.engAt 15).done && (c.engAt 15).ctx.all (fun k => !c.contextWaits k)) = true := by decide +kernel
theorem witness_FramesAndEngines_grid : (standbyGrid.gridAt 3).running = true ∧ 5 * (periodNs 3 : Int) ≤ (standbyGrid.gridAt 3).nominal + periodNs 3 + 4 * periodNs 3 ∧ (standbyGrid.gridAt 3).nominal + periodNs 3 + 4 * periodNs 3 < 5 * (periodNs 3 : Int) + 1 ∧ (demoCore.gridAt 3).running = false := by decide +kernel
theorem witness_LoopsAreTuned :
    (demoCore.pat.slot 127).kind ≠ 0 ∧ R.AX_KPP ∈ paramRegs ∧ R.AX_PA_WSTEP ∈ paramRegs ∧ demoCore.hold = [] ∧ [0x80000000, 0xC0000000].all (fun v : Word => !F32.positive v && F32.finite v) = true ∧ F32.positive 1 = true ∧ F32.finite 0x7FC00000 = false ∧
    R.AX_SL_VLO ∈ paramRegs ∧ R.AX_SL_VHI ∈ paramRegs ∧ F32.nonneg 0x7F000000 = true ∧ F32.le (demoCore.param 127 R.AX_SL_VHI) 0x7F000000 = true ∧ F32.nonneg 0 = true ∧ F32.le 0 (demoCore.param 127 R.AX_SL_VLO) = true ∧ F32.nonneg 0xC0000000 = false := by decide +kernel
theorem witness_SchedulerEvents :
    (demoCore.setIsl 0x26 1).runs 0x26 = false ∧ demoCore.runs 0x26 = true ∧ (demoCore.setBit F.ST_CLK_CHANGING 15 true).bit F.ST_CLK_CHANGING 15 = true ∧ demoCore.bit F.ST_CLK_CHANGING 15 = false ∧ demoCore.get F.BS_STAT_LEVEL 0 ≤ 6 ∧
    (demoCore.set F.BS_STAT_LEVEL 0 6).get F.BS_STAT_LEVEL 0 = 6 ∧ (∀ i < 6, demoCore.tempOf i < 115) ∧ 115 ≤ (demoCore.set F.MG_TEMP_TEMP 5 1840).tempOf 5 := by decide +kernel
/-- Lane 0 has an overcurrent limit, and slot 0 on it waits for a sensorless start after `n` retries. -/
def starting (n : Nat) : Core :=
  ({ demoCore.setReg R.LN_OC_LIM 0 0x3F800000 with pat := { demoPat with slots := [(0, { kind := 1, cls := 1, res := 0, sensorless := true })] } }).setEst 0 { waiting := true, retries := n, cfg := F.AX_SL_CFG_RETRIES.write 0 1 }
/-- Lane 95 is disabled by its FAULT_N line, which is still low. -/
def laneFaulted : Core := ((demoCore.setBit F.LN_STAT_FAULT 95 true).set F.LN_STAT_CAUSE 95 1).setBit F.LN_STAT_FAULT_N_LIVE 95 true
/-- The module drives every lane group. -/
def driving : Core := { demoCore with bridle := { demoCore.bridle with own := 0xFFFF } }
theorem witness_LanesStop :
    isSLane 31 = false ∧ isSLane 32 = true ∧ demoCore.runs (0x10 + laneGroup 95) = true ∧ F32.isZero ((starting 0).reg R.LN_OC_LIM 0) = false ∧ F32.isZero (demoCore.reg R.LN_OC_LIM 95) = true ∧ laneFaulted.bit F.LN_STAT_FAULT 95 = true ∧
    laneFaulted.get F.LN_STAT_CAUSE 95 = 1 ∧ laneFaulted.bit F.LN_STAT_FAULT_N_LIVE 95 = true ∧ driving.runs (0x10 + laneGroup 95) = true ∧ driving.drives (laneGroup 95) = true ∧ driving.bit F.LN_STAT_FAULT 95 = false ∧
    ((starting 0).estAt 0).waiting = true ∧ (starting 0).startsUp 0 = true := by decide +kernel
/-- Ports 0 (ABZ) and 1 (Hall) have shown their lines; port 0 is one count before its wrap. -/
def encoders : Core := (demoCore.setPort 0 { lines := 1, linesKnown := true, st := 0xFFF, n := 0x1000 }).setPort 1 { lines := 1, linesKnown := true }
theorem witness_EncodersCount :
    demoCore.runs 0x20 = true ∧ demoCore.portType 47 = 1 ∧ demoCore.portType 1 = 2 ∧ (demoCore.portAt 47).linesKnown = false ∧ (encoders.portAt 0).linesKnown = true ∧
    [1, 3, 0, 2].map (fun lines : BitVec 3 => (quadPhase lines + 4 - quadPhase (encoders.portAt 0).lines) % 4) = [0, 1, 3, 2] ∧ (encoders.portAt 1).linesKnown = true ∧ hallSector (encoders.portAt 1).lines = some 0 ∧
    [1, 3, 5, 2].map hallSector = [some 0, some 1, some 5, some 2] ∧ (encoders.portAt 0).st < encoders.portN 0 ∧ -(2 ^ 31) < (encoders.portAt 0).mt ∧ (encoders.portAt 0).mt < 2 ^ 31 - 1 ∧ encoders.portType 0 ≤ 2 := by decide +kernel
/-- Port 0 is faulted with a cause, and slot 0, which names it, is out of STO. -/
def portFaulted (cause : Nat) : Core := ((demoCore.setBit F.FB_STAT_FAULT 0 true).set F.FB_STAT_CAUSE 0 cause).set F.SF_GRP_STATE 0 0
theorem witness_PortsFaultAndTakeTheirSettings :
    demoCore.runs 0x20 = true ∧ causeApplies (demoCore.portType 47) 1 = true ∧ demoCore.suppressed 1 = false ∧ demoCore.bit F.FB_STAT_FAULT 55 = false ∧ (portFaulted 1).bit F.FB_STAT_FAULT 0 = true ∧ (portFaulted 1).portInUse 0 = true ∧ demoCore.portType 0 ≤ 2 ∧
    demoCore.portInUse 47 = false ∧ demoCore.portType 47 ≤ 2 ∧ serialType (demoCore.portType 2) = true ∧ demoCore.portType 3 = 6 ∧ F.FB_SER_ST_BITS.read (0 : Word) = 0 := by decide +kernel
/-- A reading of port 2 with a good CRC, and one without an acknowledge. -/
def reading (ack : Bool) : SerialReading := { ack := ack, start := true, data := 0, nE := true, nW := true, crc := bissCrc 0 (demoCore.get F.FB_SER_ST_BITS 2 + demoCore.get F.FB_SER_MT_BITS 2) 0 true true, parity := false, dataHigh := true }
/-- Port 46 of slot 127 and port 2 of none have a transaction running. -/
def polled : Core := (demoCore.setPort 2 { run := some ⟨0, 0, 0⟩ }).setPort 46 { run := some ⟨0, 0, 0⟩ }
theorem witness_PortsReadTheirSensors :
    polled.runs 0x20 = true ∧ serialType (polled.portType 2) = true ∧ (polled.portAt 2).run = some ⟨0, 0, 0⟩ ∧ demoCore.sleepStopped 2 = false ∧ driving.drivesPorts = true ∧ driving.sleepStopped 2 = false ∧ (demoCore.set F.TW_ROLE_ROLE 0 2).isLead = false ∧
    demoCore.portSlots 2 = [] ∧ demoCore.portSlots 46 = [127] ∧ serialType (demoCore.portType 46) = true ∧ (demoCore.set F.PW_STAT_STATE 0 2).sleepStopped 2 = true ∧ demoCore.portSlots 47 = [] ∧ serialType (demoCore.portType 47) = false ∧
    demoCore.portType 3 = 6 ∧ demoCore.sleepStopped 3 = false ∧ (demoCore.pat.port 56).type = 7 ∧ serialType (demoCore.portType (demoCore.pat.port 56).src) = true ∧ 2 ^ demoCore.get F.FB_SER_ST_BITS 2 < 2 ^ 48 ∧
    (0xFFFF : BitVec 16).toInt < 0 ∧ 0 ≤ (0 : BitVec 16).toInt := by decide +kernel

/-! ### Time, stamps and buses -/

/-- Time as it runs, four steps within the last minute. -/
def stepped (storm : Bool) : Core := { demoCore with time := { demoCore.time with sec := 1, stepTimes := [0, 0, 0, 0], storm := storm } }
theorem witness_StepStorms :
    [false, true].all (fun st =>
      let c := stepped st
      decide (4 < ((c.profNs :: c.time.stepTimes).filter (fun x => decide (c.profNs - x ≤ 60000000000))).length) && c.time.storm == st) = true ∧ ((demoCore.profNs :: demoCore.time.stepTimes).filter (fun x => decide (demoCore.profNs - x ≤ 60000000000))).length ≤ 4 ∧
    1000000000 ≤ ((demoCore.setReg R.NT_SET_NS 0 1000000000).reg R.NT_SET_NS 0).toNat := by
  decide +kernel
theorem witness_TimeChanges : 0 ≤ demoCore.netNs + 0 ∧ demoCore.netNs < 2 ^ 48 * 1000000000 ∧ 0 ≤ (stepped false).netNs - 1000000000 ∧ demoCore.runs 0x22 = true := by decide +kernel
/-- gPTP runs, with a Sync waiting, a master heard and a path-delay request open; the module is grandmaster or not. -/
def ptp (gm : Bool) : Core :=
  { (demoCore.setBit F.NT_PTP_CFG_PTP_EN 0 true).setBit F.NT_STAT_GM 0 gm with time := { demoCore.time with e0Link := true, syncPend := some (1, 0), master := some [0], masterClock := 1, pdelayTx := some 0 } }
theorem witness_Gptp :
    (ptp true).ptpOn = true ∧ (ptp true).follows 1 = true ∧ (ptp true).time.syncPend = some (1, 0) ∧ (ptp true).time.master = some [0] ∧ (ptp true).time.masterClock = 1 ∧ vectorLt [1] [0] = false ∧ (ptp true).bit F.NT_STAT_GM 0 = true ∧
    (ptp true).time.pdelayTx = some 0 ∧ (ptp true).time.pdelaySeq = 0 ∧ (ptp true).bit F.NT_STAT_AS_CAPABLE 0 = false ∧ ({ ptp true with time := { (ptp true).time with master := none } } : Core).time.master = none ∧
    ((ptp false).setBit F.NT_PTP_CFG_SERVO_EN 0 true).bit F.NT_PTP_CFG_SERVO_EN 0 = true ∧ ((ptp false).setBit F.NT_PTP_CFG_SERVO_EN 0 false).bit F.NT_PTP_CFG_SERVO_EN 0 = false ∧ (ptp false).bit F.NT_STAT_GM 0 = false ∧ (ptp false).time.setClk ≠ some (ptp false).time.clocks ∧
    ({ ptp false with time := { (ptp false).time with good := 7 } } : Core).time.good = 7 := by decide +kernel
theorem witness_Gptp_far : (1000000 : Rat) < 1000001 ∧ ¬((1000000 : Rat) < 1000000 ∨ (1000000 : Rat) < -1000000) ∧ (-1000 : Rat) < 999 ∧ (999 : Rat) < 1000 := by decide +kernel
/-- Input 15 is stamped on both edges, its FIFO full or not; or the supply is missing. -/
def inputs (full missing : Bool) : Core :=
  ((demoCore.set F.CP_DI_CFG_EDGE 15 3).setBit F.FI_SUPPLY_MISSING 0 missing).setDi 15 { fifo := if full then List.replicate 4 ⟨0, 0, true, 0, false⟩ else [] }
theorem witness_DirectInputsStamp :
    (inputs false true).runs 0x22 = true ∧ (inputs false true).bit F.FI_SUPPLY_MISSING 0 = true ∧ (inputs true false).runs 0x22 = true ∧ (inputs true false).bit F.FI_SUPPLY_MISSING 0 = false ∧ false = ((inputs true false).diAt 15).level ∧
    true ≠ ((inputs true false).diAt 15).level ∧ true ≠ ((inputs false false).diAt 15).level := by decide +kernel
/-- Slot 127's capture waits, and the host's query. -/
def capturing : Core := { demoCore.setRing 127 { cap := some ⟨0, 0, true, 0, false⟩ } with query := some ⟨127, ⟨0, 0, true, 0, false⟩⟩ }
theorem witness_Captures :
    demoCore.portType 47 = 1 ∧ demoCore.runs 0x20 = true ∧ demoCore.runs 0x22 = true ∧ demoCore.runs 0x21 = true ∧ (capturing.ringAt 127).cap = some ⟨0, 0, true, 0, false⟩ ∧ (capturing.reconstruct {} 127 ⟨0, 0, true, 0, false⟩).isNone = true ∧
    (({ capturing with pat := {} } : Core).ringAt 127).cap = some ⟨0, 0, true, 0, false⟩ ∧ (({ capturing with pat := {} } : Core).reconstruct {} 127 ⟨0, 0, true, 0, false⟩).isSome = true ∧ capturing.query.isSome = true := by decide +kernel
/-- Channel 0 in a state of R312, its object 0 locked by session 2 or not, object 1 waiting to be sent. -/
def canAt (st : Nat) (locked : Bool) : Core :=
  (((((demoCore.set F.CN_STAT_STATE 0 st).set F.PW_CANWAKE_CH 0 1).setBit F.CN_CFG_AUTO_RECOVER 0 true).set F.CN_LOSS_LOSS_T 0 1).setCanCh 0 { queue := [1], recovering := decide (st = 3) }).setCanObj 1 { txPend := some [] } |>.setCanObj 0
    { lock := if locked then some (.strap 2) else none }
/-- A frame for object 0 of channel 0. -/
def frame (rtr : Bool) : CanFrame := ⟨5, false, false, false, false, rtr, 8, List.replicate 8 1⟩
theorem witness_CanFrames :
    let hit (f : CanFrame) := demoPat.canObj.find? (fun e : Nat × CanObjRec => e.1 / 512 == 0 && !e.2.tx && e.2.id == f.id && e.2.ide == f.ide && e.2.fdf == f.fdf)
    [1, 2, 4].all (fun st => (canAt st false).runs 0x23 && (canAt st false).get F.CN_STAT_STATE 0 == st) = true ∧ hit (frame false) = some (0, demoPat.obj 0 0) ∧ hit { frame false with id := 6 } = none ∧ (frame true).rtr = true ∧ (frame false).rtr = false ∧
    (canAt 1 false).time.startNet ≤ (canAt 1 false).canStamp 0 - (canAt 1 false).time.stepSum ∧ (canAt 1 false).runs 0x22 = true ∧ ((canAt 1 true).canObjAt 0).lock = some (.strap 2) ∧ ((canAt 1 false).canObjAt 0).lock = none ∧ (demoPat.obj 0 0).present = true ∧ (demoPat.obj 0 0).lastWord = 5 ∧
    [canAt 1 true, canAt 1 false].all (fun c => reachesB c (.strap 2) ⟨R.CN_OBJ_DATA, 1⟩ true && reachesB c (.strap 2) ⟨R.CN_OBJ_W0, 0⟩ true && c.hold.isEmpty) = true ∧ (Path.strap 2 ≠ Path.strap 1) ∧ reachesB (canAt 1 true) (.strap 1) ⟨R.CN_OBJ_DATA, 1⟩ true = true := by
  decide +kernel
theorem witness_CanChannels :
    (demoPat.obj 0 1).present = true ∧ (demoPat.obj 0 1).tx = true ∧ 128 ≤ (demoPat.obj 0 1).slot ∧ demoCore.isLead = true ∧ (demoCore.set F.TW_ROLE_ROLE 0 2).isLead = false ∧ [1, 2].all (fun st => (canAt st false).runs 0x23 && (canAt st false).get F.CN_STAT_STATE 0 == st &&
      ((canAt st false).canChAt 0).queue == [] ++ 1 :: [] && ((canAt st false).canObjAt 1).txPend == some []) = true ∧ (canAt 3 false).get F.CN_STAT_STATE 0 = 3 ∧ ((canAt 3 false).canChAt 0).recovering = true ∧ ((canAt 3 false).canChAt 0).storm = false ∧
    (canAt 3 false).bit F.CN_CFG_AUTO_RECOVER 0 = true ∧ (canAt 5 false).get F.CN_STAT_STATE 0 = 5 ∧ (canAt 5 false).runs 0x23 = true ∧ (canAt 5 false).get F.CN_LOSS_LOSS_T 0 ≠ 0 ∧ (demoCore.set F.CN_LOSS_LOSS_T 3 0).get F.CN_LOSS_LOSS_T 3 = 0 := by decide +kernel
/-- Output 7 is commanded and driven, with open loads looked for; string 1 expects block 3. -/
def outputs : Core := (((demoCore.set F.FI_DO_CMD_ON 0 0x80).set F.FI_DO_CFG_OLD_EN 0 0x80).set F.FI_FS_CFG_EXPECT 1 8).setBit F.FI_SUPPLY_MISSING 0 false
theorem witness_DirectOutputs :
    outputs.doDriven.testBit 7 = true ∧ (outputs.get F.FI_DO_CFG_OLD_EN 0).testBit 7 = true ∧ demoCore.doDriven.testBit 7 = false ∧ ((outputs.set F.FI_DO_STAT_OVERLOAD 0 0x80).get F.FI_DO_STAT_OVERLOAD 0 ||| outputs.get F.FI_DO_STAT_OVERTEMP 0).testBit 7 = true ∧
    (0x80 : BitVec 8) ≠ 0 ∧ outputs.runs 0x22 = true := by decide +kernel
/-- A reply of block 3 with the sequence number 0. -/
def reply : List Byte := let b : List Byte := [3, 0, 0, 0, 0, 0, 0, 0, 0]; b ++ bytesOfNat 2 (Crypto.crc16 b).toNat
theorem witness_FieldStrings :
    outputs.runs 0x22 = true ∧ outputs.get F.FI_FS_CFG_EXPECT 1 ≠ 0 ∧ outputs.pat.valid = true ∧ outputs.get F.PW_STAT_ACTIVE 0 = 7 ∧ outputs.fsExpected 1 3 = true ∧ outputs.fsExpected 1 2 = false ∧ ((outputs.setFsBlock 1 3 { lost := false }).fsBlock 1 3).lost = false ∧ (outputs.setFsBlock 1 3 { lost := false }).fsExpected 1 3 = true ∧
    (natOfBytes ((reply.drop 9).take 2) == (Crypto.crc16 (reply.take 9)).toNat && reply.length == 11) = true ∧ (natOfBytes ((([] : List Byte).drop 9).take 2) == (Crypto.crc16 (([] : List Byte).take 9)).toNat && ([] : List Byte).length == 11) = false ∧
    ((reply.getD 0 0).toNat = 3 ∧ (reply.getD 1 0).toNat = outputs.get F.FI_FS_STAT_SEQ 1) ∧ ¬(reply.getD 1 0).toNat = (outputs.set F.FI_FS_STAT_SEQ 1 1).get F.FI_FS_STAT_SEQ 1 := by decide +kernel

/-! ### Bridle and the twin pair -/

theorem witness_SafetyInputs :
    showsRequest (sealAntivalent demoCore.bridle.sealP) true true = 0 ∧ showsRequest (sealAntivalent demoCore.bridle.sealP) false true ≠ 0 ∧ demoCore.bridle.discrep = 0 ∧ 99 < 100 ∧ 2000 < 2001 ∧ demoCore.get F.SF_GRP_STATE 15 ≠ 0 ∧
    (demoCore.set F.SF_GRP_STATE 15 0).get F.SF_GRP_STATE 15 = 0 ∧ ((demoCore.set F.SF_GRP_STATE 15 0).bg 15).ss1Pend = 0 := by decide +kernel
/-- Group 15 has code 3 in the reference, is claimed, and has read back wrong twice; the XB-2 is supplied or not. -/
def bridled (supplied : Bool) : Core := { demoCore with bridle := { demoCore.bridle with own := 0x8000, xRef := 0xC0000000, supplied := supplied, grp := [(15, { rb := 2, relCheck := true, genB := supplied, brakeLead := true })] } }
theorem witness_BridleFaults :
    (bridled true).runs 0x27 = true ∧ ((bridled true).setIsl 0x27 3).runs 0x27 = false ∧ sealCode (bridled true).bridle.xRef 15 = 3 ∧ sealCode demoCore.bridle.xRef 15 = 0 ∧ (bridled true).bridle.supplied = true ∧ (bridled false).bridle.supplied = false := by decide +kernel
/-- Group 15 may be released. -/
def releasable : Core := { demoCore with bridle := { own := 0x8000, agreed := true } }
theorem witness_StopsAndReleases :
    (0x8000 : BitVec 16) ≠ 0 ∧ (0x8000 : BitVec 16).getLsbD 15 = true ∧ demoCore.relRefusal 15 ≠ 0 ∧ releasable.relRefusal 15 = 0 ∧ (demoCore.set F.SF_GRP_STATE 15 0).inSto 15 = false ∧ ((bridled true).set F.SF_GRP_STATE 15 1).get F.SF_GRP_STATE 15 = 1 ∧
    (((bridled true).set F.SF_GRP_STATE 15 1).bg 15).brakeLead = true ∧ (bridled true).get F.SF_GRP_STATE 15 ≠ 1 ∧ ((bridled true).bg 15).relCheck = true ∧ ((bridled true).bg 15).genB = true ∧ ((bridled false).bg 15).genB = false ∧
    ((bridled false).bg 15).relCheck = true ∧ (bridled false).get F.LG_REL_RESULT_RESULT 0 = 0 ∧ (demoCore.bg 15).relCheck = false := by decide +kernel
/-- A module with a role, with its link in a state, ready or not. -/
def pair (role link : Nat) (ready : Bool) : Core := (((demoCore.set F.TW_ROLE_ROLE 0 role).set F.TW_ROLE_LINK 0 link).setBit F.TW_ROLE_READY 0 ready).setBit F.TW_ROLE_PARTNER_READY 0 ready
/-- A pair whose link has sent frame 3, asked for frame 3, or sends the second copy of a release record. -/
def talking (role link : Nat) : Core := { pair role link true with twin := { (pair role link true).twin with sent := [(3, [])], nak := some 3, copies := 1, seenAt := some 0 } }
theorem witness_TheLatigoLink :
    (pair 1 6 true).runs 0x23 = true ∧ (pair 1 6 true).trained = true ∧ (pair 1 6 true).twin.copies = 0 ∧ (talking 1 6).trained = true ∧ (talking 1 6).twin.copies = 0 + 1 ∧ (pair 1 3 true).link = 3 ∧ (pair 1 3 true).runs 0x23 = true ∧ (pair 1 7 false).trained = false ∧
    (pair 1 7 false).link = 7 ∧ (pair 1 2 false).link < 3 ∧ (pair 1 2 false).relinkRuns = false ∧ ((pair 0 2 false).setBit F.TW_RELINK_RUNNING 0 true).relinkRuns = true ∧ (pair 0 2 false).get F.TW_ROLE_ROLE 0 = 0 ∧ (pair 1 6 true).twin.txPoison = false ∧
    (pair 1 6 true).reg R.TW_PINCARN 0 = 0 ∧ (1 : Word) ≠ (pair 1 6 true).reg R.TW_PINCARN 0 ∧ (pair 1 6 true).isStandby = false ∧ (pair 2 6 false).isStandby = true ∧ (pair 2 6 false).twin.nak = none ∧ (talking 2 6).isStandby = true ∧ (talking 2 6).trained = true ∧
    (talking 2 6).twin.nak = some 3 ∧ (talking 2 6).link = 6 ∧ (talking 1 6).isLead = true ∧ (talking 1 6).twin.sent.find? (fun f => f.1 == (3 : Word).toNat) = some (3, []) ∧ (pair 1 6 true).twin.sent.find? (fun f => f.1 == (3 : Word).toNat) = none := by decide +kernel
theorem witness_TheLatigoLink_timers :
    (pair 1 4 true).link = 4 ∧ ((pair 0 2 false).setBit F.TW_RELINK_RUNNING 0 true).twin.seenAt = none ∧ ((talking 0 2).setBit F.TW_RELINK_RUNNING 0 true).relinkRuns = true ∧ (talking 0 2).twin.seenAt = some 0 ∧ (pair 0 2 false).twin.partnerSeen = false ∧
    (pair 0 2 false).bridle.pown = 0 ∧ (pair 0 2 false).pat.valid = true ∧ (pair 0 2 false).bit F.PT_BOOT_NO_PATTERN 0 = false ∧ (pair 0 2 false).bit F.RST_STAT_INCARN_UNSAVED 0 = false ∧
    ({ pair 0 2 false with twin := { (pair 0 2 false).twin with partnerSeen := true } } : Core).twin.partnerSeen = true := by decide +kernel
theorem witness_StandbyRecords :
    (pair 1 6 true).isStandby = false ∧ (pair 2 1 true).trained = false ∧ [4, 5, 6].all (fun l => (pair 2 l true).isStandby && (pair 2 l true).trained && (pair 2 l true).link == l) = true ∧ ((pair 2 6 true).pat.slot 127).kind = 4 ∧ ((pair 2 6 true).pat.slot 1).kind = 2 ∧
    ({ pair 2 5 true with twin := { (pair 2 5 true).twin with snapshots := true } } : Core).twin.snapshots = true ∧ (pair 2 5 true).twin.snapshots = false ∧ mirrored R.AR_HOLD = false ∧ mirrored R.AX_VMAX = true ∧ highOf R.AX_VMAX = none ∧ lowOf R.AX_VMAX = none ∧
    mirrored R.AX_TARGET_LO = true ∧ (highOf R.AX_TARGET_LO).isSome = true ∧ locAt (⟨R.AX_VMAX, 127⟩ : Loc).addr = some ⟨R.AX_VMAX, 127⟩ ∧ locAt (⟨R.AX_TARGET_LO, 127⟩ : Loc).addr = some ⟨R.AX_TARGET_LO, 127⟩ ∧ locAt (⟨R.AR_HOLD, 0⟩ : Loc).addr = some ⟨R.AR_HOLD, 0⟩ ∧
    (({ demoPat with canObj := [(513, { present := true, cyclic := true })] } : Pattern).obj 1 1).cyclic = true := by decide +kernel
/-- A SLOT record of zeros. -/
def slotRec : SlotRec := ⟨0, false, false, false, false, 0, 0, 0, false, false, 0, 0, 0, 0, 0, 0, 0, 0, 0, 0, 0, 0, 0, 0, 0, false⟩
/-- A Standby whose slot 127 follows a port and whose slot 3 is on a moving path, and a record of each that moves nothing. -/
def followers : Core :=
  { pair 2 6 true with
    pat := { demoPat with slots := [(3, { kind := 4, ig := 0 }), (127, { kind := 4, gearKind := 2, gearMaster := 0 })] },
    prof := [(127, { engaged := true })], igs := [(0, { moving := true, members := [(3, 0, 5)], lenL := 5, lenEnd := 5, s := { endPos := 5 } })] }
theorem witness_StandbyRecords_followers :
    followers.isStandby = true ∧ followers.trained = true ∧ (followers.pat.slot 127).gearKind = 2 ∧ (followers.pat.slot 3).gearKind = 0 ∧ (followers.profAt 127).engaged = true ∧ followers.pathOf 127 = none ∧
    (followers.pat.slot 3).ig = 0 ∧ (followers.igAt 0).moving = true ∧ (followers.igAt 0).members.find? (fun x => x.1 == 3) = some (3, 0, 5) ∧ (followers.igAt 0).memberEnd (3, 0, 5) = 5 ∧
    (followers.adoptProfile 3 { slotRec with slot := 3, pstate := 4, rtarget := 5 } 0).igAt 0 = followers.igAt 0 ∧
    ((followers.adoptProfile 127 { slotRec with slot := 127, pstate := 3, ppos := 7, rtarget := 7 } 0).profAt 127).sup.endPos = 7 := by decide +kernel
/-- A release instant is set, and the partner has seen it or not; a claim waits for OWN lines of the partner. -/
def handing (role : Nat) (seen : Bool) : Core :=
  { pair role 6 true with twin := { (pair role 6 true).twin with release := some 0, handoverSeen := seen, lossPend := true, takeover := true }, bridle := { demoCore.bridle with own := 0x8000, pown := 0x8000 } }
theorem witness_HandoverAndTakeover :
    demoCore.bit F.PT_BOOT_NO_PATTERN 0 = false ∧ demoCore.pat.valid = true ∧ demoCore.bit F.RST_STAT_INCARN_UNSAVED 0 = false ∧ (pair 2 6 true).isStandby = true ∧ (pair 2 6 true).bit F.TW_ROLE_READY 0 = true ∧ (pair 2 6 true).twin.handover = none ∧
    (pair 1 6 true).isStandby = false ∧ (pair 2 6 false).bit F.TW_ROLE_READY 0 = false ∧ ({ pair 2 6 true with twin := { (pair 2 6 true).twin with handover := some 7 } } : Core).twin.handover = some 7 ∧ (pair 1 6 true).twin.release = none ∧
    [false, true].all (fun seen => (handing 1 seen).twin.release == some 0 && (handing 1 seen).isLead && (handing 1 seen).twin.handoverSeen == seen) = true ∧ (handing 2 true).twin.release = some 0 ∧ (handing 2 true).isLead = false ∧ (handing 2 true).bit F.TW_ROLE_READY 0 = true ∧
    ((handing 2 true).setBit F.TW_ROLE_READY 0 false).bit F.TW_ROLE_READY 0 = false ∧ (handing 1 true).twin.lossPend = true ∧ (handing 1 true).bridle.pown ≠ 0 ∧ (handing 1 true).twin.takeover = true ∧ (handing 1 true).runs 0x27 = true ∧ (handing 1 true).rst.held = false ∧
    (handing 2 true).bridle.own ≠ 0 ∧ (handing 1 true).bridle.own.getLsbD 15 = true ∧ (handing 1 true).bridle.pown.getLsbD 15 = true ∧ demoCore.bridle.own.getLsbD 15 = false := by decide +kernel
/-- The partner's last OWN line is that of group 15, or not, and the module waits for it or not. -/
theorem witness_HandoverAndTakeover_lines :
    (handing 2 true).bridle.pown &&& ~~~(BitVec.ofNat 16 (2 ^ 15)) = 0 ∧ (handing 2 true).bridle.pown &&& ~~~(BitVec.ofNat 16 (2 ^ 14)) ≠ 0 ∧ (handing 2 true).twin.lossPend = true ∧ (pair 2 6 true).bridle.pown &&& ~~~(BitVec.ofNat 16 (2 ^ 15)) = 0 ∧
    (pair 2 6 true).twin.lossPend = false ∧ (pair 2 6 true).twin.coldPend = false := by decide +kernel

/-! ### Power, resets and Saddler -/

/-- A power state, a target waiting, and an entry under way or none (7). -/
def powered (state pending active : Nat) : Core := ((demoCore.set F.PW_STAT_STATE 0 state).set F.PW_STAT_PENDING 0 pending).set F.PW_STAT_ACTIVE 0 active
theorem witness_PowerTransitions :
    demoCore.pwRefusal 5 ≠ 0 ∧ (demoCore.set F.SF_GRP_STATE 15 0).allSto = false ∧ demoCore.islState 0x26 ≠ 5 ∧ demoCore.islState 0x25 ≠ 5 ∧ (powered 0 4 7).get F.PW_STAT_PENDING 0 = 4 ∧ (powered 0 4 7).get F.PW_STAT_ACTIVE 0 = 7 ∧ (powered 0 4 7).pwHeld = false ∧
    (powered 0 4 7).rst.held = false ∧ (powered 0 7 7).get F.PW_STAT_PENDING 0 = 7 ∧ [0, 1, 2, 3, 4, 7].all (fun a => (powered 0 7 a).get F.PW_STAT_ACTIVE 0 == a) = true ∧ (∀ b < 16, (((powered 0 7 3).dropLocks 6).dropLocks 7 |>.bankAt b).holder = none) ∧
    ((({ powered 0 7 3 with banks := arbiting.banks } : Core).dropLocks 6).dropLocks 7 |>.bankAt 14).holder ≠ none ∧ (powered 2 7 7).get F.PW_STAT_STATE 0 = 2 ∧ (powered 1 7 7).get F.PW_STAT_STATE 0 = 1 ∧ (powered 2 7 7).runs 0x25 = true ∧
    [1, 2, 3].all (fun st => (powered st 7 0).get F.PW_STAT_STATE 0 == st && (powered st 7 0).get F.PW_STAT_ACTIVE 0 == 0) = true := by decide +kernel
theorem witness_WakesAndSupply :
    [(powered 4 7 7, 0), (powered 2 7 7, 7), (powered 4 7 7, 9)].all (fun x => let c := x.1.set F.PW_WAKE_EN_EN 0 0x3FF; c.wakeEnabled x.2 && wakes x.2 c.wakeColumn) = true ∧ wakes 0 demoCore.wakeColumn = false ∧ wakes 1 demoCore.wakeColumn = false ∧
    ((powered 2 7 7).set F.PW_WAKE_EN_EN 0 0).wakeEnabled 1 = false ∧ ((demoCore.setReg R.PW_ALARM_HI 0 1).reg R.PW_ALARM_HI 0) ≠ 0 ∧ demoCore.reg R.PW_ALARM_LO 0 = 0 ∧ demoCore.reg R.PW_ALARM_HI 0 = 0 ∧
    [false, true].all (fun b => (demoCore.setBit F.PW_CELL_CELL_ABSENT 0 b).bit F.PW_CELL_CELL_ABSENT 0 == b) = true ∧ demoCore.runs 0x28 = true ∧ (demoCore.setIsl 0x28 3).islState 0x28 = 3 := by decide +kernel
/-- A reset is held by an input, by nothing, or because the rails did not start. -/
def held (kind : Nat) (button : Bool) : Core := { demoCore with rst := { held := true, kind := kind, buttonHold := button, pinHold := button } }
theorem witness_Resets :
    ((demoCore.setBit F.RST_STUCK_PIN_MASKED 0 true).bit (inputFields .pin).2.1 0) = true ∧ demoCore.bit (inputFields .button).2.1 0 = false ∧ (held 2 true).rst.holds .pin = true ∧ (held 2 true).rst.holds .button = true ∧ demoCore.rst.holds .button = false ∧
    demoCore.bit (inputFields .pin).1 0 = false ∧ (demoCore.setBit (inputFields .pin).1 0 true).bit (inputFields .pin).1 0 = true ∧ (held 2 true).rst.held = true ∧ (held 2 true).rst.startFail = false ∧ demoCore.rst.held = false ∧
    [1, 2].all (fun k => let r := (held k false).rst; r.held && !r.buttonHold && !r.pinHold && !r.unseat && !r.supply && !r.startFail && r.retries == 0 && r.kind == k) = true := by decide +kernel
/-- A flag of the humidity is set. -/
def humid : Core := demoCore.setBit F.MG_HEALTH_HUMIDITY_HIGH 0 true
theorem witness_HumidityIsFlagged :
    demoCore.runs 0x28 = true ∧ demoCore.bit F.MG_HEALTH_HUMIDITY_HIGH 0 = false ∧ humid.runs 0x28 = true ∧ humid.bit F.MG_HEALTH_HUMIDITY_HIGH 0 = true ∧ (humid.get F.MG_HEALTH_ISOLATED 0).testBit 3 = false := by decide +kernel
/-- Every segment of the sensors' bus is isolated. -/
def isolatedCore : Core := demoCore.set F.MG_HEALTH_ISOLATED 0 15
theorem witness_SensorsAndTheirBus :
    demoCore.runs 0x28 = true ∧ (demoCore.get F.MG_HEALTH_ISOLATED 0).testBit (segmentOf 14) = false ∧ (isolatedCore.get F.MG_HEALTH_ISOLATED 0).testBit (segmentOf 14) = true ∧ railOk 0 8000 = true ∧ railOk 9 0 = false ∧
    (demoCore.get F.MG_HEALTH_ISOLATED 0).testBit (segmentOf 13) = false ∧ pointValid 13 20 = true ∧ pointValid 13 100000 = false ∧ ([2, 3].all (fun n => (({ demoCore with sad := { demoCore.sad with points := Tab.set {} demoCore.sad.points 13 { fails := n } } } : Core).pointAt 13).fails == n)) = true := by
  decide +kernel
/-- An entry of the log. -/
def entry : LogEntry := { code := 1, src := 0, arg := 0, sec := 0, ns := 0, pinned := true }
/-- A log with one entry waiting, one in the ring, one pinned, a read asked for, and the pinned region being erased. -/
def logging (pin : Bool) (n : Nat) : Core := { demoCore with sad := { qRing := [entry], ring := [entry], pins := [entry], readReq := some (pin, n), pinErasing := true } }
/-- The log's two queues, with the pinned region being erased or not. -/
def queued (erasing : Bool) (pin ring : List LogEntry) : Core := { demoCore with sad := { qPin := pin, qRing := ring, pinErasing := erasing } }
theorem witness_TheLog :
    [(false, []), (false, [entry]), (true, [entry])].all (fun x => let c := queued x.1 x.2 [entry]; c.sad.dropped == 0 && c.runs 0x28 && c.sad.qRing.head? == some entry && c.sad.qPin == x.2 && c.sad.pinErasing == x.1) = true ∧ (queued false [entry] []).sad.qRing = [] ∧
    (queued false [] []).sad.qPin = [] ∧ reachesB demoCore (.strap 2) ⟨R.MG_LOG_CTRL, 0⟩ false = true ∧ demoCore.reg R.MG_LOG_CTRL 0 = 0 ∧ (logging false 1).sad.readReq = some (false, 1) ∧ (logging true 0).sad.readReq = some (true, 0) ∧ demoCore.sad.readReq = none ∧
    (logging true 0).sad.pinErasing = true ∧ demoCore.sad.pinErasing = false := by decide +kernel
/-- A key commit is under way. -/
def committing : Core := { demoCore with sad := { keyPend := some (8, {}, true) } }
theorem witness_KeysChange :
    committing.sad.keyPend = some (8, {}, true) ∧ demoCore.sad.keyPend = none ∧ 8 < 9 ∧ (demoCore.keyAt 8).present = false ∧ (demoCore.set F.SF_GRP_STATE 15 0).allSto = false ∧ (demoCore.set F.SF_GRP_STATE 15 0).sad.keyPend = none ∧ demoCore.hold = [] := by decide +kernel
/-- The Tansy path owns the image sequence, with a command running or none; the running image is on trial or not. -/
def imaging (cmd : Nat) (trial : Bool) : Core := { (demoCore.set F.MG_IMG_STAT_PHASE 0 1).set F.MG_IMG_CTRL_CMD 0 cmd with sad := { imgOwner := some .tansy, imgTrial := trial, imgTrialBoots := 1 } }
theorem witness_ImagesUpdate :
    [0, 1, 2].all (fun n => (imaging n true).get F.MG_IMG_CTRL_CMD 0 == n) = true ∧ (imaging 0 true).sad.imgTrial = true ∧ (imaging 0 true).sad.imgTrialBoots = 1 ∧ (imaging 0 true).isLead = true ∧ (imaging 0 true).get F.PW_STAT_STATE 0 = 0 ∧ (imaging 0 false).sad.imgTrial = false ∧
    ((imaging 0 true).set F.TW_ROLE_ROLE 0 2).isLead = false ∧ (powered 2 7 7).get F.PW_STAT_STATE 0 ≠ 0 ∧ writesB (imaging 0 true) .tansy ⟨R.MG_IMG_CTRL, 0⟩ = true ∧ writesB (imaging 0 true) .tansy ⟨R.MG_IMG_DATA, 0⟩ = true := by decide +kernel
/-! ### Ill-formed commands -/

/-- A GRID record of zeros. -/
def gridRec : GridRec := ⟨0, 0, 0, 0, 0, 0, 0, true, false⟩
/-- A GROUP record of zeros. -/
def groupRec : GroupRec := ⟨0, 0, 0, false, 0, 0, 0, false, false⟩
/-- Commands that name what the part does not have, one for each check, in the order of the checks. -/
def illFormed0 : List Instr :=
  [.relace .tansy 0x100, .stagingWrite .tansy 0x4000000 0, .opChangeSettled 16, .crossingAck ⟨0x2A, 0, .level, 0⟩, .crossingAck ⟨0, 0x2A, .level, 0⟩, .crossMerge ⟨0x2A, 0, .level, 0⟩,
   .crossMerge ⟨0, 0x2A, .level, 0⟩, .crossingResync ⟨0x2A, 0, .level, 0⟩ 0, .crossingResync ⟨0, 0x2A, .level, 0⟩ 0, .resyncTimeout 0x2A, .crossHang ⟨0x2A, 0, .level, 0⟩, .crossHang ⟨0, 0x2A, .level, 0⟩,
   .islandQuiesced 0x2A 1, .islandQuiesced 0 4, .wakeOnAccessReady 0x2A, .wakeAccessTimeout 0x2A, .wokenIslandIdle 0x2A, .islandResetReq .tansy 0x100, .bankRequest 16 ⟨0, 0, 1, none⟩,
   .bankRequest 0 ⟨12, 0, 1, none⟩, .bankRequest 0 ⟨0, 0, 17, none⟩, .transferEnd 16 [], .emergencyTransfer 16 ⟨0, 0, 1, none⟩, .emergencyTransfer 0 ⟨0, 0, 17, none⟩, .bankRequest 0 ⟨0, 0, 0, none⟩, .bankRequest 0 ⟨0, 0x3FFFFC, 2, none⟩, .bankLockReq 12 0,
   .bankLockReq 0 16, .bankLockRelease 12 0, .bankLockRelease 0 16, .holdOverrun 16, .patternLineRepair 0x4000000]
/-- Further ones. -/
def illFormed1 : List Instr :=
  [.prioWrite .tansy 16 false 0, .targetWrite .tansy 128 0, .jog .tansy 128, .stop .tansy 128, .gearEngage .tansy 128, .gearDisengage .tansy 128, .ratioWrite .tansy 128 false 0,
   .profileParamWrite .tansy 128 0x10 0, .profileParamWrite .tansy 0 0 0, .igGo .tansy 16, .igStop .tansy 16, .igCfgWrite .tansy 16 0, .frameStart 6 [], .engineDispatch 16 .pass 0,
   .engineHang 16, .coefDataAccess .tansy 128 none, .coefCommit .tansy 128 0, .manSwitch .tansy 128 0, .loopParamWrite .tansy 128 0x68 0, .loopParamWrite .tansy 0 0 0, .inject .tansy 16,
   .laneFaultN 96, .sdLost 96, .laneClear .tansy 96, .slRetryWait 128, .paDataAccess .tansy 128 none, .encoderEdge 48 0, .serialPoll 48, .serialReading 48 (reading true),
   .portPersistentError 56 0]
/-- Further ones. -/
def illFormed2 : List Instr :=
  [.portClear .tansy 56 false, .refOk .tansy 56, .cprWrite .tansy 56 0, .serWrite .tansy 56 0, .speedZeroTimeout 48, .repeatUpdate 8, .resolverTrack 56 0 0 0, .diEdge 16 false, .diPop .tansy 16,
   .zEdge 48, .captureArm .tansy 128 0, .capture 128, .reconTimeout (some 128), .canFrameRx 4 (frame false), .canTxDone 4, .canObjWord0Read .tansy 4 0, .canObjWord0Read .tansy 0 512,
   .canObjLastRead .tansy 4 0, .canObjLastRead .tansy 0 512, .canLockTimeout 4 0, .canLockTimeout 0 512, .canTxReq .tansy 4 0, .canTxReq .tansy 0 512, .canError 4 0 0, .canBoffHoldExpiry 4,
   .canRecover .tansy 4, .canRecoveryDone 4, .canRestart .tansy 4, .canIntegrated 4, .canRxLost 4 0]
/-- Further ones. -/
def illFormed3 : List Instr :=
  [.canRxLost 0 512, .doOverload 8, .doOvertemp 8, .doOpenLoad 8, .stringCycle 2, .stringReply 2 0 [], .stringReply 0 4 [], .stringReplyMiss 2 0 false, .stringReplyMiss 0 4 false,
   .ss1BrakeLeadExpiry 16, .ss1TimeEnd 16, .xb2Ss1Timer 16, .watchLineTrip 16, .releaseGenBCheck 16, .dualClaim 16 0, .dualClaim 0 10001, .islandFailure 0x2A, .slotRecord { slotRec with slot := 128 },
   .gridRecord { gridRec with period := 6 }, .groupRecord { groupRec with group := 16 }, .powerReqBadTarget .tansy 4, .powerReqBadTarget .tansy 8, .phyWake 2, .canWake 4, .sensorRead 26 .free none,
   .i2cSclStuck 4, .railFault 10 0, .overcurrent 96, .pownLineChange 16 false, .sampleCycleStamp 56]
/-- A command that the check refuses, and that faults by name. -/
def refused (i : Instr) : Bool := !i.wellFormed && (match exec i demo with | .fault (.noSuch _ _) => true | _ => false)
theorem test_illFormed0 : illFormed0.all refused = true := by decide +kernel
theorem test_illFormed1 : illFormed1.all refused = true := by decide +kernel
theorem test_illFormed2 : illFormed2.all refused = true := by decide +kernel
theorem test_illFormed3 : illFormed3.all refused = true := by decide +kernel

/-! ### The manual's worked cases -/

/-- Addresses of "finding a register", of Table 12.4, of Table 10.5, and of "a starving Latigo port" with the value it reads. -/
theorem test_addresses :
    (⟨R.AX_CMD, 63⟩ : Loc).addr = 0x40103F00 ∧ (⟨R.LN_CTRL, 84⟩ : Loc).addr / 0x100 = 0x402054 ∧ (⟨R.FB_CTRL, 17⟩ : Loc).addr / 0x80 * 0x80 = 0x40300880 ∧ (⟨R.FB_CTRL, 49⟩ : Loc).addr / 0x80 * 0x80 = 0x40301880 ∧
    (⟨R.CN_OBJ_W0, 529⟩ : Loc).addr = 0x40611550 ∧ (⟨R.CN_OBJ_DATA, 529 * 16⟩ : Loc).addr = 0x40611560 ∧ (⟨R.CP_ARM, 40⟩ : Loc).addr = 0x40502504 ∧ (⟨R.AR_PRIO_HI, 4⟩ : Loc).addr = 0x40030024 ∧
    (⟨R.PT_DIGEST, 0⟩ : Loc).addr = 0x40C00020 ∧ State.reset.core.reg R.AR_PRIO_HI 4 = 0x12FA := by decide +kernel
/-- The request header of "reading the pattern digest". -/
def digestHdr : StrapHdr := { header 3 40 [] with seq := 0x105 }
/-- Its bytes, and those of the reply's header. -/
theorem test_strapHeaders :
    requestBytes digestHdr [.read 0x40C00020 8] = [0x53, 0x50, 1, 1, 3, 0, 5, 1, 0x28, 0, 1, 0, 0, 0, 0, 0, 1, 0, 8, 0, 0x20, 0, 0xC0, 0x40] ∧
    strapHeader 2 3 0x105 0x48 1 0 0 0 = [0x53, 0x50, 1, 2, 3, 0, 5, 1, 0x48, 0, 1, 0, 0, 0, 0, 0] := by decide +kernel
/-- Its session with the window head at 65,530, after SEQ 3. -/
def windowed : Session := (({ head := 65530, seen := 1 } : Session).window 3).2
theorem test_window : windowed.head = 3 ∧ (windowed.window 65500).1 = .accept ∧ (windowed.window 65530).1 = .duplicate ∧ (windowed.window 65000).1 = .old := by decide +kernel
/-- The record of "the belt's SLOT record". -/
theorem test_slotRecord :
    slotOf 4 [0x3F, 1, 3, 2, 0x54, 0, 0xFF, 0xFF, 0xFF, 0xFF, 0, 1, 1, 0, 0xFF, 0xFF, 1, 1, 0x5A, 0xFF, 0, 0, 0, 0] =
      { kind := 1, template := 3, cls := 2, res := 84, rx := 0xFFFF, sensorless := true, velDiv := 1, ff := 1, gearKind := 1, gearMaster := 90, island := 4 } := by decide +kernel
/-- A whole number as a binary32 value. -/
def f32 (n : Int) : F32 := F32.ofInt n
/-- The door's move of Table 6.1, and its reversal. -/
def doorMove : Traj := (planTo 0 0 0 (120000 * 65536) (f32 40000) (f32 80000) (f32 80000)).1
def doorBack : Traj := (planTo 0 (30000 * 65536) (f32 40000) 0 (f32 40000) (f32 80000) (f32 80000)).1
theorem test_doorMove : doorMove.eval 1000000000 = (30000 * 65536, f32 40000, 0) ∧ doorMove.ended 3500000000 = true ∧ doorMove.ended 3499999999 = false := by decide +kernel
theorem test_doorReversal :
    doorBack.eval 500000000 = (40000 * 65536, 0, F32.negate (f32 80000)) ∧ doorBack.eval 1000000000 = (30000 * 65536, F32.negate (f32 40000), 0) ∧ (doorBack.eval 1500000000).1 = 10000 * 65536 ∧ doorBack.eval 2000000000 = (0, 0, 0) := by
  decide +kernel
/-- The costs of "ST0's budget". -/
theorem test_slotCost : slotCost { template := 3, ff := 1, tbCog := 0 } 0 = 298 ∧ slotCost { template := 6, ff := 1, tbFric := 0 } 4 = 376 := by decide +kernel
/-- The windows of "opening the windows of roller 18". -/
theorem test_shuntWindows :
    (shuntWindows false [512 / 1000, 497 / 1000, 491 / 1000] 15625).s1 = 3328125 / 10000 ∧ (shuntWindows false [512 / 1000, 497 / 1000, 491 / 1000] 15625).s2 = 403125 / 1000 ∧
    ((shuntWindows false [512 / 1000, 497 / 1000, 491 / 1000] 15625).holds.map (fun h => h.getD 0 (0, 0))) = some (38796875 / 10000, 39296875 / 10000) := by decide +kernel
/-- The multi-turn rollover of "reading steer actuator A on P0". -/
def steer : Core := ((({ pat := { ports := [(0, { type := 5 })] } } : Core).set F.FB_SER_ST_BITS 0 19).set F.FB_SER_MT_BITS 0 12).setPort 0 { first := false, mt := 4095, prevMt := 4095 }
theorem test_rollover : steer.extendReading 0 { reading true with data := 1000 } = (1000, 4096, 0) ∧ (4096 * steer.portN 0 + 1000 : Int) = 0x800003E8 := by decide +kernel
/-- The interpolation of Table 10.5. -/
theorem test_capture : (1000000 * 65536 + (16384000 * 30508 : Int).tdiv 62500) = 0x000F42BA0831 := by decide +kernel
/-- The frame length of Table 11.5 at a debt of 20 µs, and of its last frame at 4,375 ns. -/
theorem test_frameLength : frameLength 62500 20000 = 546875 / 10 ∧ frameLength 62500 4375 = 58125 := by decide +kernel
/-- The bit timing of "seat axis 71 on C1". -/
theorem test_canTiming : canBt 500 8 80 0x50 = 0x02503F10 ∧ canBt 2000 5 40 0x4B = 0x01281D0A := by decide +kernel
/-- "The Campion L2 seal". -/
theorem test_seal :
    sealParity 0x19155A0023 = true ∧ sealDoor 0x19155A0023 = true ∧ sealTwin 0x19155A0023 = false ∧ sealAntivalent 0x19155A0023 = false ∧ ({ bridle := { xRef := 0x19155A0023 } } : Core).tSs1 = 1000 ∧
    (List.range 16).map (sealCode 0x19155A0023) = [3, 0, 2, 0, 0, 0, 0, 0, 2, 2, 1, 1, 1, 1, 1, 0] := by decide +kernel
/-- Module B of Table 17.7, its RESET_N stuck. -/
def stuckPin : State := { core := ({ rst := { held := true, pinHold := true } } : Core).setBit F.RST_STUCK_PIN_ACTIVE 0 true }
theorem test_stuckReset : (match exec (.stuckReset .pin) stuckPin with | .next t => t.core.reg R.RST_STUCK 0 | _ => 0) = 0x2A := by decide +kernel
/-- SHA-256 of the empty message, of FIPS 180-4. -/
theorem test_sha256 : (Crypto.sha256 []).take 4 = [0xE3, 0xB0, 0xC4, 0x42] := by decide +kernel
/-- A clock of an empty queue is 8 ns (R247). -/
theorem test_clock : (match step State.reset with | .next t => t.core.netNs | _ => 0) = 8 := by decide +kernel
end Sys2Proof.Tests
end

section
/-! SUPPORT. What an accepted request leaves of the state, how a command ends where nothing is owed or waits, and what a write of an ordinary register does; then the statements about register writes and about words that read together. -/
namespace Sys2Proof.Machine

/-! ### What an accepted request leaves -/

/-- Sending words over a crossing changes the crossings alone (R94). -/
theorem Core.sendWords_frame (c : Core) (a b : Nat) (ws : List Word) : ∃ x, c.sendWords a b ws = { c with crossings := x } := by
  unfold Core.sendWords; split <;> exact ⟨_, rfl⟩

/-- An accepted request changes registers, islands and crossings alone (R83, R106). -/
theorem Core.accepted_frame (c : Core) (p : Path) : ∃ a b x, c.accepted p = { c with regs := a, isl := b, crossings := x } := by
  unfold Core.accepted Core.pokeApp Core.setIsl
  cases p with
  | strap k => dsimp only; split <;> split <;> exact ⟨_, _, _, rfl⟩
  | awl => exact ⟨_, _, _, rfl⟩
  | tansy => exact ⟨_, _, _, rfl⟩

/-- A request as its register finds it has changed registers, islands and crossings, and dropped what its path held (R4). -/
theorem Core.sent_frame (c : Core) (p : Path) (n : Nat) (ws : List Word) :
    ∃ a b x, c.sent p n ws = { c with regs := a, isl := b, crossings := x, hold := c.hold.filter (fun e => e.1 ≠ p) } := by
  obtain ⟨a, b, x, ha⟩ := c.accepted_frame p
  obtain ⟨y, hy⟩ := (c.accepted p).sendWords_frame 0x25 ((c.accepted p).islandOf n) (BitVec.ofNat 32 n :: ws)
  exact ⟨a, b, y, by unfold Core.sent; rw [hy, ha]; rfl⟩

@[simp] theorem Core.pat_sent (c : Core) (p : Path) (n : Nat) (ws : List Word) : (c.sent p n ws).pat = c.pat := by
  obtain ⟨_, _, _, h⟩ := c.sent_frame p n ws; rw [h]
@[simp] theorem Core.time_sent (c : Core) (p : Path) (n : Nat) (ws : List Word) : (c.sent p n ws).time = c.time := by
  obtain ⟨_, _, _, h⟩ := c.sent_frame p n ws; rw [h]
@[simp] theorem Core.memq_sent (c : Core) (p : Path) (n : Nat) (ws : List Word) : (c.sent p n ws).memq = c.memq := by
  obtain ⟨_, _, _, h⟩ := c.sent_frame p n ws; rw [h]
@[simp] theorem Core.hold_accepted (c : Core) (p : Path) : (c.accepted p).hold = c.hold := by
  obtain ⟨_, _, _, h⟩ := c.accepted_frame p; rw [h]
@[simp] theorem Core.silent_accepted (c : Core) (p : Path) : (c.accepted p).silent = c.silent := by
  obtain ⟨_, _, _, h⟩ := c.accepted_frame p; rw [h]
@[simp] theorem Core.hold_sendWords (c : Core) (a b : Nat) (ws : List Word) : (c.sendWords a b ws).hold = c.hold := by
  obtain ⟨_, h⟩ := c.sendWords_frame a b ws; rw [h]

@[simp] theorem Core.unusedSlotReg_sent (c : Core) (p : Path) (n : Nat) (ws : List Word) (r : Reg) (i : Nat) : (c.sent p n ws).unusedSlotReg r i = c.unusedSlotReg r i := by
  simp only [Core.unusedSlotReg, Core.pat_sent]
@[simp] theorem Core.portRegApplies_sent (c : Core) (p : Path) (n : Nat) (ws : List Word) (r : Reg) (i : Nat) : (c.sent p n ws).portRegApplies r i = c.portRegApplies r i := by
  simp only [Core.portRegApplies, Core.portType, Core.pat_sent]
@[simp] theorem Core.stores_sent (c : Core) (p : Path) (n : Nat) (ws : List Word) (r : Reg) (i : Nat) : (c.sent p n ws).stores p r i = c.stores p r i := by
  have hm : ∀ b, (c.sent p n ws).storeMask r i b = c.storeMask r i b := fun b => by obtain ⟨_, _, _, h⟩ := c.sent_frame p n ws; rw [h]; rfl
  rw [Core.stores, Core.stores, Core.expert_sent, hm]

/-! ### How a command ends where nothing is owed or waits -/

/-- No effect of an earlier write is owed (R85), and neither an access nor a Strap request waits for an island (R104). -/
structure Core.Quiet (c : Core) : Prop where
  deferred : c.deferred = none
  stalls : c.stalls = []
  strapWait : c.strapWait = none

theorem Core.Quiet.sent {c : Core} (h : c.Quiet) (p : Path) (n : Nat) (ws : List Word) : (c.sent p n ws).Quiet := by
  obtain ⟨_, _, _, e⟩ := c.sent_frame p n ws; rw [e]; exact ⟨h.deferred, h.stalls, h.strapWait⟩
theorem Core.Quiet.setReg {c : Core} (h : c.Quiet) (r : Reg) (i : Nat) (w : Word) : (c.setReg r i w).Quiet := ⟨h.deferred, h.stalls, h.strapWait⟩
theorem Core.Quiet.answer {c : Core} (h : c.Quiet) (st : Nat) (ws : List Word) : (c.answer st ws).Quiet := ⟨h.deferred, h.stalls, h.strapWait⟩

/-- The CHANGE record of a write changes what the link is to send alone (R369). -/
theorem Core.sendChange_frame (c : Core) (r : Reg) (i : Nat) (w : Word) : ∃ q, c.sendChange r i w = { c with twin := { c.twin with txq := q } } := by
  have hm : ∀ (d : Core) (b : List Nat), ∃ q, d.mirror 5 b = { d with twin := { d.twin with txq := q } } := fun d b => by
    unfold Core.mirror; split <;> exact ⟨_, rfl⟩
  unfold Core.sendChange
  split
  · exact ⟨_, rfl⟩
  · split
    · next lo _ =>
      obtain ⟨q, hq⟩ := hm c [(⟨lo, i⟩ : Loc).addr, (c.reg lo i).toNat]
      dsimp only
      rw [hq]
      exact hm _ _
    · exact hm _ _
theorem Core.Quiet.sendChange {c : Core} (h : c.Quiet) (r : Reg) (i : Nat) (w : Word) : (c.sendChange r i w).Quiet := by
  obtain ⟨_, e⟩ := c.sendChange_frame r i w; rw [e]; exact ⟨h.deferred, h.stalls, h.strapWait⟩
@[simp] theorem Core.reg_sendChange (c : Core) (r q : Reg) (i j : Nat) (w : Word) : (c.sendChange r i w).reg q j = c.reg q j := by
  obtain ⟨_, e⟩ := c.sendChange_frame r i w; rw [e]; rfl
@[simp] theorem Core.memq_sendChange (c : Core) (r : Reg) (i : Nat) (w : Word) : (c.sendChange r i w).memq = c.memq := by
  obtain ⟨_, e⟩ := c.sendChange_frame r i w; rw [e]

/-- Where nothing is owed or waits, nothing follows the reply (R85, R113). -/
theorem Core.Quiet.ends {c : Core} (h : c.Quiet) (ram : Ram) : c.runDeferred.goOn ram = c := by
  have hd : c.runDeferred = c := by
    unfold Core.runDeferred
    rw [h.deferred]
    obtain ⟨hdef, _, _⟩ := h
    cases c; cases hdef; rfl
  rw [hd]
  simp [Core.goOn, Core.unstalled, h.stalls, h.strapWait]

/-- Commands that leave the same parts have the same outcome. -/
theorem next_after_congr {s : State} {c d : Core} (h : c = d) : Host.Outcome.next (s.after c) = (.next (s.after d) : Host.Outcome State Fault Refusal) := by rw [h]

/-! ### Ordinary registers -/

/-- A mapped word outside SRAM and the SF_ block, of a writable register that is no part of a 64-bit quantity and has no handler: a write of it stores and clears, and commands nothing (R4, R5). -/
structure Reg.Ordinary (r : Reg) (i : Nat) : Prop where
  named : locAt (⟨r, i⟩ : Loc).addr = some ⟨r, i⟩
  outsideSram : 0x4000000 ≤ (⟨r, i⟩ : Loc).addr
  outsideSf : blockOf (⟨r, i⟩ : Loc).addr ≠ some 16
  inBlock : (blockOf (⟨r, i⟩ : Loc).addr).isSome = true
  writable : r.writable = true
  noHigh : highOf r = none
  noLow : lowOf r = none
  noHandler : handlers.all (fun h => h.1.id != r.id) = true
  noSysHandler : sysHandlers.all (fun h => h.1.id != r.id) = true

/-- A register whose number no entry of a table has is not found there. -/
theorem find?_reg_eq_none {α : Type} {l : List (Reg × α)} {r : Reg} (h : l.all (fun e => e.1.id != r.id) = true) : l.find? (fun e => e.1.id == r.id) = none := by
  rw [List.find?_eq_none]
  intro e he
  simpa using List.all_eq_true.1 h e he

/-- A register whose number is in a table is not one that the table lacks. -/
theorem id_ne_of_all {α : Type} {l : List (Reg × α)} {r : Reg} {n : Nat} (h : l.all (fun e => e.1.id != r.id) = true) (hn : (l.any (fun e => e.1.id == n)) = true) : r.id ≠ n := by
  rintro rfl
  obtain ⟨e, he, hid⟩ := List.any_eq_true.1 hn
  have := List.all_eq_true.1 h e he
  simp_all

/-- A write at a slot that the pattern does not use has no effect (R19). -/
theorem Core.effect_unusedSlot {c : Core} {r : Reg} {i : Nat} (o : r.Ordinary i) (hu : c.unusedSlotReg r i = true) (ram : Ram) (p : Path) (v store act : Word) : c.effect ram p r i v store act = c := by
  unfold Core.effect
  rw [find?_reg_eq_none o.noSysHandler]
  simp only [Core.pathWrite, o.noHigh, o.noLow, Core.applyWrite, hu, if_true]

/-- A write of an ordinary register stores the bits that it may store and clears the W1C bits written with 1 (R5). -/
theorem Core.effect_ordinary {c : Core} {r : Reg} {i : Nat} (o : r.Ordinary i) (hu : c.unusedSlotReg r i = false) (hp : c.portRegApplies r i = true) (ram : Ram) (p : Path) (v store act : Word) :
    c.effect ram p r i v store act = c.setReg r i (((c.reg r i &&& ~~~store) ||| (v &&& store)) &&& ~~~(v &&& act &&& r.accMask (fun f => f.acc = .w1c))) := by
  have hmask : c.portMask r i = BitVec.allOnes 32 := by simp only [Core.portMask, hp, if_true]; rfl
  unfold Core.effect
  rw [find?_reg_eq_none o.noSysHandler]
  simp only [Core.pathWrite, o.noHigh, o.noLow, Core.applyWrite, hu, Bool.false_eq_true, if_false, find?_reg_eq_none o.noHandler, hmask, BitVec.and_allOnes]

/-- A served write turns on what its effect does to the request as the register finds it. -/
theorem Core.wrote_congr {c : Core} {p : Path} {r : Reg} {i : Nat} {v : Word} {f g : Core → Core} (h : f (c.sent p (⟨r, i⟩ : Loc).addr [v]) = g (c.sent p (⟨r, i⟩ : Loc).addr [v])) (ram : Ram) :
    c.wrote ram p r i v f = c.wrote ram p r i v g := by
  unfold Core.wrote; rw [h]

/-- A served write of an ordinary register that its path may make (R5, R7). -/
theorem Core.request_ordinary {c : Core} {p : Path} {r : Reg} {i : Nat} (o : r.Ordinary i) (hu : c.unusedSlotReg r i = false) (hp : c.portRegApplies r i = true) (h : Writes c p ⟨r, i⟩) (ram : Ram) (v : Word) :
    c.request ram p (⟨r, i⟩ : Loc).addr (some v) none =
      c.wrote ram p r i v (fun d => d.setReg r i (d.taken p r i v &&& ~~~(v &&& r.actMask &&& r.accMask (fun f => f.acc = .w1c)))) := by
  rw [Core.request_write h o.named (Nat.not_lt.2 o.outsideSram) o.inBlock o.outsideSf o.writable]
  exact Core.wrote_congr (Core.effect_ordinary o (by rw [Core.unusedSlotReg_sent, hu]) (by rw [Core.portRegApplies_sent, hp]) ..) ram

/-- Where nothing is owed or waits, a served write is its effect, the CHANGE record and the reply. -/
theorem Core.wrote_quiet {c : Core} {p : Path} {r : Reg} {i : Nat} {v : Word} {f : Core → Core} (h : (f (c.sent p (⟨r, i⟩ : Loc).addr [v])).Quiet) (ram : Ram) :
    c.wrote ram p r i v f =
      ((f (c.sent p (⟨r, i⟩ : Loc).addr [v])).sendChange r i ((c.sent p (⟨r, i⟩ : Loc).addr [v]).taken p r i v ||| (v &&& r.actMask))).answer 0 [] :=
  ((h.sendChange r i _).answer 0 []).ends ram

/-! ### A write that its path may not make -/

/-- A served write reaches its register, is answered, and lets go on what waits (R64, R85, R103, R113). -/
theorem Core.request_reaches {c : Core} {p : Path} {r : Reg} {i : Nat} (h : Reaches c p ⟨r, i⟩ false) (o : r.Ordinary i) (ram : Ram) (v : Word) :
    c.request ram p (⟨r, i⟩ : Loc).addr (some v) none =
      (let e := ((c.accepted p).sendWords 0x25 ((c.accepted p).islandOf (⟨r, i⟩ : Loc).addr) [BitVec.ofNat 32 (⟨r, i⟩ : Loc).addr, v]).writeReg ram p ⟨r, i⟩ v none
       ((e.2.answer e.1 []).runDeferred).goOn ram) := by
  have hchk : opCheck (⟨r, i⟩ : Loc).addr 1 = 0 := opCheck_loc o.named o.inBlock
  have hall : c.pathRefusal p (⟨r, i⟩ : Loc).addr false = 0 := h.allowed
  have hack : c.silent.contains (⟨r, i⟩ : Loc).addr = false := h.acks
  unfold Core.request Core.command
  simp only [h.heard, Bool.not_true, Bool.false_eq_true, if_false, Option.isNone_some, hall, ne_eq, not_true_eq_false, hchk, h.free, h.awake, Bool.or_self]
  unfold Core.access Core.writeAt
  simp only [if_neg o.outsideSf, h.runs, Core.silent_accepted, hack, Bool.not_true, Bool.false_eq_true, if_false, o.named, if_neg (Nat.not_lt.2 o.outsideSram)]

/-- A write that would change an RWX field on a path without Expert rights answers EXPERT_ONLY, and its effect is that of the fields that the path may write (R7, R74). -/
theorem Core.writeReg_expertOnly {c : Core} {p : Path} {r : Reg} {i : Nat} {v : Word} (he : (c.dropHold p).expert p = false) (hm : (mirrored r && (c.dropHold p).isStandby) = false) (hw : r.writable = true)
    (hv : v &&& r.accMask (fun f => f.acc = .rwx) ≠ (c.dropHold p).value p r i &&& r.accMask (fun f => f.acc = .rwx)) (ram : Ram) :
    c.writeReg ram p ⟨r, i⟩ v none =
      (8, ((c.dropHold p).effect ram p r i v ((c.dropHold p).stores p r i) r.actMask).sendChange r i ((c.dropHold p).taken p r i v ||| (v &&& r.actMask))) := by
  have hst : (c.dropHold p).stores p r i = (c.dropHold p).storeMask r i false := by rw [Core.stores, he]
  unfold Core.writeReg Core.taken
  simp only [hm, hw, he, hst, Bool.false_and, Bool.true_or, Bool.not_true, Bool.or_self, Bool.false_or, Bool.false_eq_true, decide_eq_true_eq, if_false, if_neg hv]

/-- A register at a stride that shows no value of its own in place of the stored word. -/
structure Reg.ShowsStored (r : Reg) : Prop where
  notShown : shown.all (fun e => e.1.id != r.id) = true
  strided : ∃ n, r.place = .lin n

/-- An ordinary register that shows its stored word reads it. -/
theorem Core.value_ordinary {c : Core} {r : Reg} {i : Nat} (o : r.Ordinary i) (hs : r.ShowsStored) (hp : c.portRegApplies r i = true) (p : Path) : c.value p r i = c.reg r i := by
  obtain ⟨hshown, n, hn⟩ := hs
  have hmask : c.portMask r i = BitVec.allOnes 32 := by simp only [Core.portMask, hp, if_true]; rfl
  have hcoef : r.id ≠ R.AX_COEF_DATA.id := id_ne_of_all o.noHandler (by decide)
  have hpa : r.id ≠ R.AX_PA_DATA.id := id_ne_of_all o.noHandler (by decide)
  simp only [Core.value, hn, if_neg hcoef, if_neg hpa, find?_reg_eq_none hshown, hmask, BitVec.and_allOnes]

/-- A register that an address names is one of the map. -/
theorem mem_allRegs_of_locAt {a : Nat} {l : Loc} (h : locAt a = some l) : l.reg ∈ allRegs := by
  unfold locAt at h
  split at h
  · simp at h
  · obtain ⟨r, hr, hi⟩ := List.exists_of_findSome?_eq_some h
    obtain ⟨_, _, rfl⟩ := Option.map_eq_some_iff.1 hi
    exact hr

/-- In no register of the map does an RWX field share a bit with an RW or a W1C field. -/
theorem rwx_apart : allRegs.all (fun r => r.accMask (fun f => f.acc = .rwx) &&& (r.accMask (fun f => f.acc = .rw) ||| r.accMask (fun f => f.acc = .w1c)) == 0) = true := by decide +kernel

/-- A write on a path without Expert rights leaves every bit of the RWX fields (R7). -/
theorem Core.getLsbD_taken_of_rwx {c : Core} {p : Path} {r : Reg} {i b : Nat} (hr : r ∈ allRegs) (hid : r.id ≠ R.CN_OBJ_DATA.id) (he : c.expert p = false)
    (hb : (r.accMask (fun f => f.acc = .rwx)).getLsbD b = true) (v : Word) :
    (c.taken p r i v &&& ~~~(v &&& r.actMask &&& r.accMask (fun f => f.acc = .w1c))).getLsbD b = (c.reg r i).getLsbD b := by
  have hst : c.stores p r i = r.accMask (fun f => f.acc = .rw) := by
    simp only [Core.stores, Core.storeMask, if_neg hid, he, Bool.false_and, Bool.or_false]
  have hbit := congrArg (·.getLsbD b) (beq_iff_eq.1 (List.all_eq_true.1 rwx_apart r hr))
  simp only [BitVec.getLsbD_and, BitVec.getLsbD_or, hb, Bool.true_and, show (0 : Word) = 0#32 from rfl, BitVec.getLsbD_zero, Bool.or_eq_false_iff] at hbit
  obtain ⟨hrw, hw1c⟩ := hbit
  have hlt : b < 32 := BitVec.lt_of_getLsbD hb
  simp only [Core.taken, hst, BitVec.getLsbD_and, BitVec.getLsbD_or, BitVec.getLsbD_not, hrw, hw1c, hlt, decide_true, Bool.not_false, Bool.and_true, Bool.and_false, Bool.or_false]

/-- Without Expert rights the effect of a write of an ordinary register leaves every bit of its RWX fields (R7, R19). -/
theorem Core.getLsbD_effect_of_rwx {c : Core} {p : Path} {r : Reg} {i b : Nat} (o : r.Ordinary i) (hp : c.portRegApplies r i = true) (he : c.expert p = false)
    (hb : (r.accMask (fun f => f.acc = .rwx)).getLsbD b = true) (ram : Ram) (v : Word) :
    ((c.effect ram p r i v (c.stores p r i) r.actMask).reg r i).getLsbD b = (c.reg r i).getLsbD b := by
  cases hu : c.unusedSlotReg r i with
  | true => rw [Core.effect_unusedSlot o hu]
  | false =>
    rw [Core.effect_ordinary o hu hp, Core.reg_setReg_self]
    exact Core.getLsbD_taken_of_rwx (mem_allRegs_of_locAt o.named) (id_ne_of_all o.noHandler (by decide)) he hb v

/-- The effect of a write of an ordinary register owes nothing and waits for nothing. -/
theorem Core.Quiet.effect {c : Core} {r : Reg} {i : Nat} (h : c.Quiet) (o : r.Ordinary i) (hp : c.portRegApplies r i = true) (ram : Ram) (p : Path) (v store act : Word) :
    (c.effect ram p r i v store act).Quiet := by
  cases hu : c.unusedSlotReg r i with
  | true => rw [Core.effect_unusedSlot o hu]; exact h
  | false => rw [Core.effect_ordinary o hu hp]; exact h.setReg ..

/-! ### Register writes (R5, R7, R74) -/

/-- Where nothing is owed or waits, a served write of an ordinary register leaves in it what the access codes say, every other register but EN_HOST_WD as it was, and no change of SRAM (R5, R83). -/
theorem Core.wrote_ordinary_frame {c : Core} {p : Path} {r : Reg} {i : Nat} (q : c.Quiet) (hr : r.id < 512) (hne : r.id ≠ R.EN_HOST_WD.id) (ram : Ram) (v : Word) :
    let m := v &&& r.actMask &&& r.accMask (fun f => f.acc = .w1c)
    let d := c.wrote ram p r i v (fun d => d.setReg r i (d.taken p r i v &&& ~~~m))
    d.reg r i = c.taken p r i v &&& ~~~m ∧
    (∀ (x : Reg) (j : Nat), x.id < 512 → x.id ≠ R.EN_HOST_WD.id → (x.id ≠ r.id ∨ j ≠ i) → d.reg x j = c.reg x j) ∧ d.memq = c.memq := by
  dsimp only
  rw [Core.wrote_quiet ((q.sent p _ [v]).setReg ..)]
  refine ⟨?_, fun x j hx hxne hapart => ?_, ?_⟩
  · rw [Core.answer_reg, Core.reg_sendChange, Core.reg_setReg_self, Core.taken, Core.stores_sent, Core.reg_sent c p _ _ hr hne]; rfl
  · have hkey : r.key i ≠ x.key j := fun e => by have := Reg.key_inj hr hx e; omega
    rw [Core.answer_reg, Core.reg_sendChange, Core.reg_setReg_ne _ _ hkey, Core.reg_sent c p _ _ hx hxne]
  · rw [Core.answer_memq, Core.memq_sendChange, Core.setReg_memq, Core.memq_sent]

/-- A served write of `v` that would change an RWX field, on a path without Expert rights, of a register that the Lead does not mirror into a Standby (R7, R74, R369). -/
structure Core.ExpertOnly (c : Core) (p : Path) (r : Reg) (i : Nat) (v : Word) : Prop extends Reaches c p ⟨r, i⟩ false where
  notMirrored : (mirrored r && c.isStandby) = false
  basic : c.expert p = false
  changes : v &&& r.accMask (fun f => f.acc = .rwx) ≠ c.reg r i &&& r.accMask (fun f => f.acc = .rwx)

/-- Such a write answers EXPERT_ONLY, and its effect is that of the fields that the path may write (R7, R74). -/
theorem Core.request_expertOnly {c : Core} {p : Path} {r : Reg} {i : Nat} {v : Word} (h : c.ExpertOnly p r i v) (o : r.Ordinary i) (hs : r.ShowsStored) (hr : r.id < 512) (hne : r.id ≠ R.EN_HOST_WD.id)
    (hp : c.portRegApplies r i = true) (ram : Ram) :
    let d := c.sent p (⟨r, i⟩ : Loc).addr [v]
    c.request ram p (⟨r, i⟩ : Loc).addr (some v) none =
      ((((d.effect ram p r i v (d.stores p r i) r.actMask).sendChange r i (d.taken p r i v ||| (v &&& r.actMask))).answer 8 []).runDeferred).goOn ram := by
  have hexp : (c.sent p (⟨r, i⟩ : Loc).addr [v]).expert p = false := by rw [Core.expert_sent, h.basic]
  have hsby : (mirrored r && (c.sent p (⟨r, i⟩ : Loc).addr [v]).isStandby) = false := by rw [Core.isStandby_sent, h.notMirrored]
  have hval : v &&& r.accMask (fun f => f.acc = .rwx) ≠ (c.sent p (⟨r, i⟩ : Loc).addr [v]).value p r i &&& r.accMask (fun f => f.acc = .rwx) := by
    rw [Core.value_ordinary o hs (by rw [Core.portRegApplies_sent, hp]), Core.reg_sent c p _ _ hr hne]; exact h.changes
  rw [Core.request_reaches h.toReaches o, Core.writeReg_expertOnly hexp hsby o.writable hval]
  rfl

/-- Where nothing is owed or waits, such a write leaves every bit of the RWX fields (R7, R74). -/
theorem Core.request_expertOnly_frame {c : Core} {p : Path} {r : Reg} {i : Nat} {v : Word} (q : c.Quiet) (h : c.ExpertOnly p r i v) (o : r.Ordinary i) (hs : r.ShowsStored) (hr : r.id < 512)
    (hne : r.id ≠ R.EN_HOST_WD.id) (hp : c.portRegApplies r i = true) (ram : Ram) :
    let d := c.request ram p (⟨r, i⟩ : Loc).addr (some v) none
    d.acc.status = 8 ∧ ∀ b, (r.accMask (fun f => f.acc = .rwx)).getLsbD b = true → (d.reg r i).getLsbD b = (c.reg r i).getLsbD b := by
  have hport : (c.sent p (⟨r, i⟩ : Loc).addr [v]).portRegApplies r i = true := by rw [Core.portRegApplies_sent, hp]
  have hexp : (c.sent p (⟨r, i⟩ : Loc).addr [v]).expert p = false := by rw [Core.expert_sent, h.basic]
  dsimp only
  rw [Core.request_expertOnly h o hs hr hne hp, ((((q.sent p _ [v]).effect o hport ..).sendChange ..).answer ..).ends ram]
  refine ⟨rfl, fun b hb => ?_⟩
  rw [Core.answer_reg, Core.reg_sendChange, ← Core.reg_sent c p (⟨r, i⟩ : Loc).addr [v] hr hne]
  exact Core.getLsbD_effect_of_rwx o hport hexp hb ram v

/-- Settles O11: an ordinary register's write is `setReg` of the taken word; with nothing owed or waiting the reply is all that follows it, and the RWX bits of the map share none with those that a path without Expert rights stores or clears. -/
theorem registerWrites : Obligations.RegisterWrites := by
  unfold Obligations.RegisterWrites
  refine ⟨?_, ?_, ?_⟩
  · intro s p r i v named outsideSram outsideSf inBlock writable noHigh noLow noHandler noSysHandler hu hp h
    have o : r.Ordinary i := ⟨named, outsideSram, outsideSf, inBlock, writable, noHigh, noLow, noHandler, noSysHandler⟩
    exact next_after_congr (Core.request_ordinary o hu hp h s.ram v)
  · intro s t p r i v deferred memq stalls strapWait hr hne named outsideSram outsideSf inBlock writable noHigh noLow noHandler noSysHandler hu hp h ht
    have o : r.Ordinary i := ⟨named, outsideSram, outsideSf, inBlock, writable, noHigh, noLow, noHandler, noSysHandler⟩
    obtain ⟨hreg, hothers, hmemq⟩ := Core.wrote_ordinary_frame ⟨deferred, stalls, strapWait⟩ (p := p) (i := i) hr hne s.ram v
    rw [← Core.request_ordinary o hu hp h s.ram v] at hreg hothers hmemq
    cases ht
    exact ⟨hreg, hothers, congrArg s.ram.apply (hmemq.trans memq)⟩
  · intro s t p r i v deferred stalls strapWait hr hne named outsideSram outsideSf inBlock writable noHigh noLow noHandler noSysHandler hs hl hp h hm he hv ht
    have o : r.Ordinary i := ⟨named, outsideSram, outsideSf, inBlock, writable, noHigh, noLow, noHandler, noSysHandler⟩
    have x : s.core.ExpertOnly p r i v := { toReaches := h, notMirrored := hm, basic := he, changes := hv }
    obtain ⟨hstatus, hbits⟩ := Core.request_expertOnly_frame ⟨deferred, stalls, strapWait⟩ x o ⟨hs, hl⟩ hr hne hp s.ram
    cases ht
    exact ⟨hstatus, fun b _ hb => hbits b hb⟩

end Sys2Proof.Machine
end

section
/-! SUPPORT. Reads and writes of 64-bit quantities and of fields that clear when read; then the statement about words that read together. -/
namespace Sys2Proof.Machine

/-! ### Writes of a 64-bit quantity (R4) -/

/-- A slot that the pattern uses has its registers (R19). -/
theorem Core.unusedSlotReg_of_used {c : Core} {k : Nat} (h : (c.pat.slot k).kind ≠ 0) (r : Reg) : c.unusedSlotReg r k = false := by
  simp [Core.unusedSlotReg, h]

/-- What a path has pending other than the low word at an address (R4). -/
def Core.otherPend (c : Core) (p : Path) (a : Nat) : List (Path × Nat × Word) := c.pendLow.filter (fun e => !(e.1 = p && e.2.1 = a))
/-- The low word that a path's high word applies with: the pending one, else the one in force (R4). -/
def Core.lowWord (c : Core) (p : Path) (lo : Reg) (i : Nat) : Word :=
  ((c.pendLow.find? (fun e => e.1 = p && e.2.1 = (⟨lo, i⟩ : Loc).addr)).map (fun e => e.2.2)).getD (c.reg lo i)

/-- A write of a low word has no effect but that the word waits on its path (R4). -/
theorem Core.effect_low {c : Core} {lo hi : Reg} (hpair : highOf lo = some hi) (hst : lo.flds.any FldDesc.stored = true) (hsys : sysHandlers.all (fun h => h.1.id != lo.id) = true)
    (ram : Ram) (p : Path) (i : Nat) (v store act : Word) :
    c.effect ram p lo i v store act = { c with pendLow := c.otherPend p (⟨lo, i⟩ : Loc).addr ++ [(p, (⟨lo, i⟩ : Loc).addr, v)] } := by
  unfold Core.effect
  rw [find?_reg_eq_none hsys]
  simp only [Core.pathWrite, hpair, hst, if_true]
  rfl

/-- A write of a high word stores both words of a quantity that has no handler, and nothing waits any longer (R4). -/
theorem Core.effect_high {c : Core} {lo hi : Reg} {i : Nat} (hpair : lowOf hi = some lo) (hhi : highOf hi = none) (hst : lo.flds.any FldDesc.stored = true)
    (hsys : sysHandlers.all (fun h => h.1.id != hi.id) = true) (htgt : lo.id ≠ R.AX_TARGET_LO.id) (hu : c.unusedSlotReg lo i = false) (ram : Ram) (p : Path) (v store act : Word) :
    c.effect ram p hi i v store act = ({ c with pendLow := c.otherPend p (⟨lo, i⟩ : Loc).addr }.setReg lo i (c.lowWord p lo i)).setReg hi i v := by
  have hu' : ∀ l, ({ c with pendLow := l } : Core).unusedSlotReg lo i = false := fun _ => hu
  unfold Core.effect Core.lowWord Core.otherPend
  rw [find?_reg_eq_none hsys]
  simp only [Core.pathWrite, hpair, hhi, hst, Bool.not_true, Bool.false_eq_true, if_false, Core.writeQuad, hu', if_neg htgt]
  cases c.pendLow.find? (fun e => e.1 = p && e.2.1 = (⟨lo, i⟩ : Loc).addr) <;> rfl

/-- A pair of plain registers of the slots that hold a writable 64-bit quantity with no command of its own (R4). -/
structure SlotQuad (lo hi : Reg) : Prop where
  loPlain : lo.plain = true
  hiPlain : hi.plain = true
  loCount : lo.count = 128
  hiCount : hi.count = 128
  high : highOf lo = some hi
  low : lowOf hi = some lo
  noHigh : highOf hi = none
  loStored : lo.flds.any FldDesc.stored = true
  loWritable : lo.writable = true
  hiWritable : hi.writable = true
  loNoSys : sysHandlers.all (fun h => h.1.id != lo.id) = true
  hiNoSys : sysHandlers.all (fun h => h.1.id != hi.id) = true
  noTarget : lo.id ≠ R.AX_TARGET_LO.id

theorem softMin_slotQuad : SlotQuad R.AX_SOFT_MIN_LO R.AX_SOFT_MIN_HI := by constructor <;> decide +kernel
theorem softMax_slotQuad : SlotQuad R.AX_SOFT_MAX_LO R.AX_SOFT_MAX_HI := by constructor <;> decide +kernel

/-- A served write of the low word waits on its path, in place of an earlier one (R4). -/
theorem Core.request_low {c : Core} {lo hi : Reg} {k : Nat} {p : Path} (q : SlotQuad lo hi) (hk : k < 128) (h : Writes c p ⟨lo, k⟩) (ram : Ram) (v : Word) :
    c.request ram p (⟨lo, k⟩ : Loc).addr (some v) none =
      c.wrote ram p lo k v (fun d => { d with pendLow := d.otherPend p (⟨lo, k⟩ : Loc).addr ++ [(p, (⟨lo, k⟩ : Loc).addr, v)] }) := by
  rw [Core.wrote_write h q.loPlain (by rw [q.loCount]; exact hk) q.loWritable]
  exact Core.wrote_congr (Core.effect_low q.high q.loStored q.loNoSys ..) ram

/-- A served write of the high word applies both words, or itself with the low word in force (R4). -/
theorem Core.request_high {c : Core} {lo hi : Reg} {k : Nat} {p : Path} (q : SlotQuad lo hi) (hk : k < 128) (hu : (c.pat.slot k).kind ≠ 0) (h : Writes c p ⟨hi, k⟩) (ram : Ram) (v : Word) :
    c.request ram p (⟨hi, k⟩ : Loc).addr (some v) none =
      c.wrote ram p hi k v (fun d => ({ d with pendLow := d.otherPend p (⟨lo, k⟩ : Loc).addr }.setReg lo k (d.lowWord p lo k)).setReg hi k v) := by
  rw [Core.wrote_write h q.hiPlain (by rw [q.hiCount]; exact hk) q.hiWritable]
  exact Core.wrote_congr (Core.effect_high q.low q.noHigh q.loStored q.hiNoSys q.noTarget (by rw [Core.unusedSlotReg_sent]; exact Core.unusedSlotReg_of_used hu lo) ..) ram

/-! ### Reads (R4, R5, R247) -/

/-- A register outside the FB_ block shows every bit (R246). -/
theorem Core.portRegApplies_of_base {r : Reg} (h : r.base / 0x10000 ≠ 0x4030) (c : Core) (i : Nat) : c.portRegApplies r i = true := by
  simp [Core.portRegApplies, h]

/-- A register whose value is not the stored word alone reads what it shows. -/
theorem Core.value_shown {r : Reg} {e : Reg × (Core → Nat → Word → Word)} (hl : ∃ n, r.place = .lin n) (hcoef : r.id ≠ R.AX_COEF_DATA.id) (hpa : r.id ≠ R.AX_PA_DATA.id)
    (he : shown.find? (fun x => x.1.id == r.id) = some e) (hb : r.base / 0x10000 ≠ 0x4030) (c : Core) (p : Path) (i : Nat) : c.value p r i = e.2 c i (c.reg r i) := by
  obtain ⟨n, hn⟩ := hl
  have hmask : c.portMask r i = BitVec.allOnes 32 := by simp only [Core.portMask, Core.portRegApplies_of_base hb, if_true]; rfl
  simp only [Core.value, hn, if_neg hcoef, if_neg hpa, he, hmask, BitVec.and_allOnes]

theorem Core.value_ntSecLo (c : Core) (p : Path) : c.value p R.NT_SEC_LO 0 = BitVec.ofNat 32 c.time.sec :=
  Core.value_shown (r := R.NT_SEC_LO) ⟨_, rfl⟩ (by decide) (by decide) rfl (by decide) c p 0
theorem Core.value_ntSecHi (c : Core) (p : Path) : c.value p R.NT_SEC_HI 0 = BitVec.ofNat 32 (c.time.sec / 2 ^ 32) :=
  Core.value_shown (r := R.NT_SEC_HI) ⟨_, rfl⟩ (by decide) (by decide) rfl (by decide) c p 0
theorem Core.value_ntNs (c : Core) (p : Path) : c.value p R.NT_NS 0 = BitVec.ofNat 32 c.time.ns :=
  Core.value_shown (r := R.NT_NS) ⟨_, rfl⟩ (by decide) (by decide) rfl (by decide) c p 0
theorem Core.value_ntFrac (c : Core) (p : Path) : c.value p R.NT_FRAC 0 = BitVec.ofNat 32 (c.time.frac / 2 ^ 16) :=
  Core.value_shown (r := R.NT_FRAC) ⟨_, rfl⟩ (by decide) (by decide) rfl (by decide) c p 0

/-- Network time's parts as a read of NT_SEC_LO holds them (R247). -/
theorem Core.heldBy_ntSecLo (c : Core) (p : Path) :
    c.heldBy p R.NT_SEC_LO 0 = [((⟨R.NT_SEC_HI, 0⟩ : Loc).addr, BitVec.ofNat 32 (c.time.sec / 2 ^ 32)), ((⟨R.NT_NS, 0⟩ : Loc).addr, BitVec.ofNat 32 c.time.ns),
      ((⟨R.NT_FRAC, 0⟩ : Loc).addr, BitVec.ofNat 32 (c.time.frac / 2 ^ 16))] := by
  have hh : highOf R.NT_SEC_LO = some R.NT_SEC_HI := by decide
  simp only [Core.heldBy, hh, if_true, List.cons_append, List.nil_append, List.map_cons, List.map_nil, Core.value_ntSecHi, Core.value_ntNs, Core.value_ntFrac]

/-- A read of a register of plain addresses that no rule gives an effect clears its RC fields alone (R5). -/
theorem Core.readEffect_plain {r : Reg} (hl : ∃ n, r.place = .lin n) (hid : [R.AX_COEF_DATA.id, R.AX_PA_DATA.id, R.MG_KEY_DATA.id, R.SYS_PINS.id, R.SYS_AWL.id, R.TW_ROLE.id].contains r.id = false)
    (c : Core) (p : Path) (i : Nat) :
    c.readEffect p r i = if r.accMask (fun f => f.acc = .rc) = 0 then c else c.setReg r i (c.reg r i &&& ~~~r.accMask (fun f => f.acc = .rc)) := by
  obtain ⟨n, hn⟩ := hl
  simp only [List.contains_cons, List.contains_nil, Bool.or_false, Bool.or_eq_false_iff, beq_eq_false_iff_ne] at hid
  obtain ⟨h1, h2, h3, h4, h5, h6⟩ := hid
  simp [Core.readEffect, hn, h1, h2, h3, h4, h5, h6]

/-- A path that holds nothing finds nothing held. -/
theorem find?_hold_eq_none {c : Core} {p : Path} (h : ∀ e ∈ c.hold, Prod.fst e ≠ p) : c.hold.find? (fun e => e.1 = p) = none := by
  rw [List.find?_eq_none]
  exact fun e he => by simpa using h e he

/-- A read on a path that holds nothing is a live one (R4). -/
theorem Core.readReg_live {c : Core} {p : Path} (h : ∀ e ∈ c.hold, Prod.fst e ≠ p) (l : Loc) : c.readReg p l = Core.readReg.fresh p (c.dropHold p) l := by
  unfold Core.readReg
  rw [find?_hold_eq_none h]
  rfl

/-- A read of the word that a path holds next answers it, and the rest stay held (R4). -/
theorem Core.readReg_held {c : Core} {p : Path} {l : Loc} {w : Word} {rest : List (Nat × Word)} (h : c.hold.find? (fun e => e.1 = p) = some (p, (l.addr, w) :: rest)) :
    c.readReg p l = (w, { c.dropHold p with hold := (c.dropHold p).hold ++ [(p, rest)] }) := by
  unfold Core.readReg
  rw [h]
  simp only [Option.map_some, if_true]

/-- A live read of a low word answers it and holds what belongs to it (R4). -/
theorem Core.fresh_low {c : Core} {p : Path} {l : Loc} (hheld : (c.heldBy p l.reg l.inst).isEmpty = false) (heff : c.readEffect p l.reg l.inst = c) :
    Core.readReg.fresh p c l = (c.value p l.reg l.inst, { c with hold := c.hold ++ [(p, c.heldBy p l.reg l.inst)] }) := by
  simp only [Core.readReg.fresh, hheld, heff, Bool.false_eq_true, if_false]

/-- A served read of a plain register whose word and effect on the request are `w` and `f`. -/
theorem Core.request_wasRead {c : Core} {p : Path} {r : Reg} {i : Nat} {w : Word} {f : Core → Core} (h : Reaches c p ⟨r, i⟩ true) (hp : r.plain = true) (hi : i < r.count) (ram : Ram)
    (hread : ((c.accepted p).sendWords 0x25 ((c.accepted p).islandOf (⟨r, i⟩ : Loc).addr) [BitVec.ofNat 32 (⟨r, i⟩ : Loc).addr]).readReg p ⟨r, i⟩ = (w, f (c.sent p (⟨r, i⟩ : Loc).addr []))) :
    c.request ram p (⟨r, i⟩ : Loc).addr none none = c.wasRead ram p r i w f := by
  obtain ⟨hl, hs, hb, _⟩ := Reg.plain_loc hp hi
  rw [Core.request_read h hl hs hb ram none]
  simp only [hread]
  rfl

/-- A read of NT_SEC_LO on a path that holds nothing (R4, R247). -/
theorem Core.request_ntSecLo {c : Core} {p : Path} (h : Reaches c p ⟨R.NT_SEC_LO, 0⟩ true) (hold : ∀ e ∈ c.hold, Prod.fst e ≠ p) (ram : Ram) :
    c.request ram p (⟨R.NT_SEC_LO, 0⟩ : Loc).addr none none =
      c.wasRead ram p R.NT_SEC_LO 0 (BitVec.ofNat 32 c.time.sec) (fun d => { d with hold := d.hold ++ [(p, (c.sent p (⟨R.NT_SEC_LO, 0⟩ : Loc).addr []).heldBy p R.NT_SEC_LO 0)] }) := by
  refine Core.request_wasRead h (by decide +kernel) (by decide) ram ?_
  rw [Core.readReg_live (by simpa using hold)]
  have hheld : ((c.sent p (⟨R.NT_SEC_LO, 0⟩ : Loc).addr []).heldBy p R.NT_SEC_LO 0).isEmpty = false := by rw [Core.heldBy_ntSecLo]; rfl
  have heff : (c.sent p (⟨R.NT_SEC_LO, 0⟩ : Loc).addr []).readEffect p R.NT_SEC_LO 0 = c.sent p (⟨R.NT_SEC_LO, 0⟩ : Loc).addr [] := by
    rw [Core.readEffect_plain ⟨_, rfl⟩ (by decide), if_pos (by decide)]
  refine (Core.fresh_low (c := c.sent p (⟨R.NT_SEC_LO, 0⟩ : Loc).addr []) hheld heff).trans ?_
  rw [Core.value_ntSecLo, Core.time_sent]

/-- A read of NT_SEC_HI on a path that holds it (R4, R247). -/
theorem Core.request_ntSecHi {c : Core} {p : Path} {w : Word} {rest : List (Nat × Word)} (h : Reaches c p ⟨R.NT_SEC_HI, 0⟩ true)
    (hold : c.hold.find? (fun e => e.1 = p) = some (p, ((⟨R.NT_SEC_HI, 0⟩ : Loc).addr, w) :: rest)) (ram : Ram) :
    c.request ram p (⟨R.NT_SEC_HI, 0⟩ : Loc).addr none none = c.wasRead ram p R.NT_SEC_HI 0 w (fun d => { d with hold := d.hold ++ [(p, rest)] }) :=
  Core.request_wasRead h (by decide +kernel) (by decide) ram (Core.readReg_held (by simpa using hold))

/-- BS_OVR_MAX alone has fields of code RC. -/
theorem rcRegs : allRegs.filter (fun r => r.accMask (fun f => f.acc = .rc) != 0) = [R.BS_OVR_MAX] := by decide +kernel

/-- A read of an RC field on a path that holds nothing answers it and clears it (R5). -/
theorem Core.request_bsOvrMax {c : Core} {p : Path} {i : Nat} (h : Reaches c p ⟨R.BS_OVR_MAX, i⟩ true) (hi : i < R.BS_OVR_MAX.count) (hold : ∀ e ∈ c.hold, Prod.fst e ≠ p) (ram : Ram) :
    c.request ram p (⟨R.BS_OVR_MAX, i⟩ : Loc).addr none none =
      c.wasRead ram p R.BS_OVR_MAX i ((c.sent p (⟨R.BS_OVR_MAX, i⟩ : Loc).addr []).value p R.BS_OVR_MAX i)
        (fun d => d.setReg R.BS_OVR_MAX i (d.reg R.BS_OVR_MAX i &&& ~~~R.BS_OVR_MAX.accMask (fun f => f.acc = .rc))) := by
  have hheld : (c.sent p (⟨R.BS_OVR_MAX, i⟩ : Loc).addr []).heldBy p R.BS_OVR_MAX i = [] := by
    have hh : highOf R.BS_OVR_MAX = none := by decide
    simp only [Core.heldBy, hh]
  have heff : (fun d : Core => d.readEffect p R.BS_OVR_MAX i) = fun d => d.setReg R.BS_OVR_MAX i (d.reg R.BS_OVR_MAX i &&& ~~~R.BS_OVR_MAX.accMask (fun f => f.acc = .rc)) :=
    funext fun d => by rw [Core.readEffect_plain ⟨_, rfl⟩ (by decide), if_neg (by decide)]
  rw [Core.wasRead_read h (by decide +kernel) hi ram hheld (find?_hold_eq_none (by simpa using hold)), heff]

/-- Settles O12: each write and read is the access of its address, whose effect on the request `effect_low`, `effect_high`, `readReg` and `readEffect` say. -/
theorem wordsThatReadTogether : Obligations.WordsThatReadTogether := by
  unfold Obligations.WordsThatReadTogether
  refine ⟨?_, ?_, ?_⟩
  · intro s p v lh hlh k hk hu
    have q : SlotQuad lh.1 lh.2 := by
      rcases List.mem_cons.1 hlh with rfl | hmax
      · exact softMin_slotQuad
      · rw [List.mem_singleton.1 hmax]; exact softMax_slotQuad
    exact ⟨fun h => next_after_congr (Core.request_low q hk h s.ram v), fun h => next_after_congr (Core.request_high q hk hu h s.ram v)⟩
  · refine fun s p => ⟨fun h hold => ?_, fun w rest h hold => next_after_congr (Core.request_ntSecHi h hold s.ram)⟩
    have hread := Core.request_ntSecLo h hold s.ram
    rw [Core.heldBy_ntSecLo, Core.time_sent] at hread
    exact next_after_congr hread
  · intro s p r hr hrc i hi hold h
    have hmem : r ∈ allRegs.filter (fun r => r.accMask (fun f => f.acc = .rc) != 0) := List.mem_filter.2 ⟨hr, by simpa using hrc⟩
    rw [rcRegs, List.mem_singleton] at hmem
    subst hmem
    exact next_after_congr (Core.request_bsOvrMax h hi hold s.ram)

end Sys2Proof.Machine
end

section
/-! SUPPORT. The window of sequence numbers (R79), and the statement about it. -/
namespace Sys2Proof.Machine

/-- How far a sequence number lies ahead of the window's head, counted modulo 65,536 (R79). -/
def Session.ahead (x : Session) (q : Nat) : Nat := (q + 65536 - x.head) % 65536
/-- How far a sequence number lies behind the window's head (R79). -/
def Session.behind (x : Session) (q : Nat) : Nat := (x.head + 65536 - q) % 65536
/-- The sequence number lies ahead of the head, by no more than half of the numbers. -/
def Session.leads (x : Session) (q : Nat) : Prop := 1 ≤ x.ahead q ∧ x.ahead q ≤ 32767

/-- A number of the window's record does not lead. -/
theorem Session.not_leads_of_behind {x : Session} {q : Nat} (hq : q < 65536) (hx : x.head < 65536) (h : x.behind q ≤ 63) : ¬x.leads q := by
  unfold Session.leads Session.ahead
  unfold Session.behind at h
  omega

/-- The record once a number ahead is accepted: shifted by the distance, with the new head's own bit. -/
def Session.shifted (x : Session) (d : Nat) : BitVec 64 := (if 64 ≤ d then 0 else x.seen <<< d) ||| 1

/-- Numbers are compared by what they are. -/
theorem natBEq_eq_decide (a b : Nat) : (a == b) = decide (a = b) := rfl

/-- The shifted record shows the head, and each earlier number at its new distance. -/
theorem Session.getLsbD_shifted (x : Session) (d : Nat) {k : Nat} (hk : k < 64) :
    (x.shifted d).getLsbD k = (k == 0 || (decide (d ≤ k) && x.seen.getLsbD (k - d))) := by
  have h1 : (1 : BitVec 64).getLsbD k = (k == 0) := by rw [show (1 : BitVec 64) = 1#64 from rfl, BitVec.getLsbD_one, natBEq_eq_decide, decide_eq_true (by decide : 0 < 64), Bool.true_and]
  have hle : (!decide (k < d)) = decide (d ≤ k) := by rw [← decide_not]; exact decide_eq_decide.2 Nat.not_lt
  unfold Session.shifted
  rw [BitVec.getLsbD_or, h1, Bool.or_comm]
  split
  · next hd => simp [show ¬d ≤ k by omega]
  · rw [BitVec.getLsbD_shiftLeft, decide_eq_true hk, Bool.true_and, hle]

theorem Session.window_leads {x : Session} {q : Nat} (h : x.leads q) : x.window q = (.accept, { x with head := q, seen := x.shifted (x.ahead q) }) := by
  have hd : (decide (1 ≤ x.ahead q) && decide (x.ahead q ≤ 32767)) = true := by simpa [Session.leads] using h
  unfold Session.window
  exact if_pos hd

/-- A number that does not lead is judged by its distance behind the head. -/
theorem Session.window_behind {x : Session} {q : Nat} (h : ¬x.leads q) :
    x.window q = if 63 < x.behind q then (.old, x) else if x.seen.getLsbD (x.behind q) then (.duplicate, x) else (.accept, { x with seen := x.seen ||| (1 <<< x.behind q) }) := by
  have hd : ¬(decide (1 ≤ x.ahead q) && decide (x.ahead q ≤ 32767)) = true := by simpa [Session.leads] using h
  unfold Session.window
  exact if_neg hd

/-- A number of the record that it does not show is accepted and shown, and the head stays. -/
theorem Session.getLsbD_recorded (x : Session) (b : Nat) {k : Nat} (hk : k < 64) : (x.seen ||| (1 <<< b)).getLsbD k = (k == b || x.seen.getLsbD k) := by
  rw [BitVec.getLsbD_or, BitVec.natCast_eq_ofNat, BitVec.getLsbD_ofNat, Nat.one_shiftLeft, Nat.testBit_two_pow, decide_eq_true hk, Bool.true_and, Bool.or_comm]
  rw [natBEq_eq_decide, decide_eq_decide.2 (eq_comm : b = k ↔ k = b)]

/-- The window changes the head and the record of a session alone (R79). -/
theorem Session.window_frame (x : Session) (q : Nat) : ∃ hd sn, (x.window q).2 = { x with head := hd, seen := sn } := by
  by_cases h : x.leads q
  · rw [Session.window_leads h]; exact ⟨_, _, rfl⟩
  · rw [Session.window_behind h]
    split
    · exact ⟨_, _, rfl⟩
    · split <;> exact ⟨_, _, rfl⟩

theorem Session.window_old {x : Session} {q : Nat} (h : ¬x.leads q) (hb : 63 < x.behind q) : x.window q = (.old, x) := by
  rw [Session.window_behind h, if_pos hb]

theorem Session.window_duplicate {x : Session} {q : Nat} (h : ¬x.leads q) (hb : x.behind q ≤ 63) (hs : x.seen.getLsbD (x.behind q) = true) : x.window q = (.duplicate, x) := by
  rw [Session.window_behind h, if_neg (Nat.not_lt.2 hb), if_pos hs]

theorem Session.window_unseen {x : Session} {q : Nat} (h : ¬x.leads q) (hb : x.behind q ≤ 63) (hs : x.seen.getLsbD (x.behind q) = false) :
    x.window q = (.accept, { x with seen := x.seen ||| (1 <<< x.behind q) }) := by
  rw [Session.window_behind h, if_neg (Nat.not_lt.2 hb), if_neg (Bool.not_eq_true _ ▸ hs)]

/-- Settles O15: a number ahead shifts the record, and one behind is judged by its bit there. -/
theorem sequenceWindow : Obligations.SequenceWindow := by
  unfold Obligations.SequenceWindow
  intro x q hq hx
  refine ⟨fun h => ?_, fun h hb => Session.window_old h hb, fun hb hs => Session.window_duplicate (Session.not_leads_of_behind hq hx hb) hb hs, fun hb hs => ?_⟩
  · rw [Session.window_leads h]
    exact ⟨rfl, rfl, fun k hk => x.getLsbD_shifted _ hk⟩
  · rw [Session.window_unseen (Session.not_leads_of_behind hq hx hb) hb hs]
    exact ⟨rfl, rfl, fun k hk => x.getLsbD_recorded _ hk⟩

end Sys2Proof.Machine
end

section
/-! SUPPORT. Accesses of a path that its checks let through, accesses of no register, and accesses of SRAM; then the statements about them. -/
namespace Sys2Proof.Machine

/-! ### One access (R64, R103, R104) -/

/-- A request that is heard and not refused, of an address that names something and whose island need not wake, is one access (R64, R87, R104). -/
theorem Core.request_served {c : Core} {p : Path} {a : Nat} {wr : Option Word} (heard : c.heard p = true) (allowed : c.pathRefusal p a wr.isNone = 0) (addr : opCheck a 1 = 0)
    (free : (c.accepted p).engineBusy p = false) (awake : (c.accepted p).stallsOn ((c.accepted p).islandOf a) = false) (ram : Ram) (hook : Option (Core → Core)) :
    c.request ram p a wr hook = (((c.accepted p).access ram p a wr [] hook).runDeferred).goOn ram := by
  unfold Core.request Core.command
  simp only [heard, allowed, addr, free, awake, Bool.not_true, Bool.false_eq_true, if_false, ne_eq, not_true_eq_false, Bool.or_self]

/-- A request of an address that its check refuses accesses nothing and answers the refusal, with 0 for a word read (R64). -/
theorem Core.request_badAddress {c : Core} {p : Path} {a : Nat} {wr : Option Word} (heard : c.heard p = true) (allowed : c.pathRefusal p a wr.isNone = 0) (addr : opCheck a 1 ≠ 0) (ram : Ram)
    (hook : Option (Core → Core)) : c.request ram p a wr hook = ((c.accepted p).answer (opCheck a 1) (if wr.isNone then [0] else [])).goOn ram := by
  unfold Core.request Core.command
  simp only [heard, allowed, addr, Bool.not_true, Bool.false_eq_true, if_false, if_true, ne_eq, not_true_eq_false, not_false_eq_true]

/-- The check of one address turns on its alignment, its block, and what it names (R64). -/
theorem opCheck_one (a : Nat) : opCheck a 1 = if a % 4 ≠ 0 ∨ (blockOf a).isNone = true then 6 else if mapped a = true then 0 else 6 := by
  simp [opCheck]

/-- An address outside SRAM that names no register, or that is not aligned, is a BAD_ADDR (R64). -/
theorem opCheck_noRegister {a : Nat} (h : a % 4 ≠ 0 ∨ (0x4000000 ≤ a ∧ locAt a = none)) : opCheck a 1 = 6 := by
  rw [opCheck_one]
  rcases h with h | ⟨hge, hnone⟩
  · rw [if_pos (.inl h)]
  · have hm : mapped a = false := by simp [mapped, hge, hnone]
    rw [hm, if_neg (by decide : ¬false = true), ite_self]

/-- A served write of the SF_ block answers READ_ONLY and has no effect (R67). -/
theorem Core.request_sfBlock {c : Core} {p : Path} {l : Loc} (h : Reaches c p l false) (hl : locAt l.addr = some l) (hsf : blockOf l.addr = some 16) (ram : Ram) (v : Word) :
    c.request ram p l.addr (some v) none = (((c.begun p).answer 7 []).runDeferred).goOn ram := by
  rw [Core.request_served h.heard h.allowed (opCheck_loc hl (by rw [hsf]; rfl)) h.free h.awake]
  unfold Core.access Core.writeAt
  simp only [hsf, if_true]
  rfl

/-- Settles O9: the address check answers for what names no register, and the SF_ block before its island is looked at. -/
theorem accessesWithoutARegister : Obligations.AccessesWithoutARegister := by
  unfold Obligations.AccessesWithoutARegister
  refine ⟨fun s p a v heard ha => ?_, fun s p l v hl hsf h => next_after_congr (Core.request_sfBlock h hl hsf s.ram v)⟩
  have h6 := opCheck_noRegister ha
  have hbad : opCheck a 1 ≠ 0 := by rw [h6]; decide
  have hwrite (allowed : s.core.pathRefusal p a false = 0) : s.core.request s.ram p a (some v) none = ((s.core.accepted p).answer 6 []).goOn s.ram := by
    rw [Core.request_badAddress (wr := some v) heard allowed hbad, h6]; rfl
  have hread (allowed : s.core.pathRefusal p a true = 0) : s.core.request s.ram p a none none = ((s.core.accepted p).answer 6 [0]).goOn s.ram := by
    rw [Core.request_badAddress (wr := none) heard allowed hbad, h6]; rfl
  exact ⟨fun allowed => next_after_congr (hwrite allowed), fun allowed => ⟨next_after_congr (hread allowed), next_after_congr (hread allowed)⟩⟩

/-! ### SRAM (R66, R81, R124) -/

/-- No register lies in SRAM. -/
theorem regs_outsideSram : allRegs.all (fun r => decide (0x4000000 ≤ r.base)) = true := by decide +kernel
/-- An address of SRAM names no register. -/
theorem locAt_sram {a : Nat} (h : a < 0x4000000) : locAt a = none := by
  unfold locAt
  split
  · rfl
  · rw [List.findSome?_eq_none_iff]
    intro r hr
    have hbase : 0x4000000 ≤ r.base := of_decide_eq_true (List.all_eq_true.1 regs_outsideSram r hr)
    cases hi : r.instAt a with
    | none => rfl
    | some i => have := (Reg.instAt_bounds hi).1; omega
/-- An aligned address of SRAM passes the address check. -/
theorem opCheck_sram {a : Nat} (h : a < 0x4000000) (h4 : a % 4 = 0) : opCheck a 1 = 0 := by
  simp [opCheck_one, blockOf, mapped, h, h4]
/-- SRAM is reached through the memory island. -/
theorem Core.islandOf_sram (c : Core) {a : Nat} (h : a < 0x4000000) : c.islandOf a = 0x24 := if_pos h

/-- An access of a word of SRAM by a path is served at once: the path is heard and entitled to it, no earlier request of its engine waits, the memory island runs, and it acknowledges. -/
structure Core.ReachesSram (c : Core) (p : Path) (a : Nat) (rd : Bool) : Prop where
  inSram : a < 0x4000000
  aligned : a % 4 = 0
  heard : c.heard p = true
  allowed : c.pathRefusal p a rd = 0
  free : (c.accepted p).engineBusy p = false
  awake : (c.accepted p).stallsOn 0x24 = false
  runs : (c.accepted p).runs 0x24 = true
  acks : c.silent.contains a = false

/-- A request of SRAM that is served at once is one access. -/
theorem Core.ReachesSram.request {c : Core} {p : Path} {a : Nat} {wr : Option Word} (h : c.ReachesSram p a wr.isNone) (ram : Ram) :
    c.request ram p a wr none = (((c.accepted p).access ram p a wr [] none).runDeferred).goOn ram :=
  Core.request_served h.heard h.allowed (opCheck_sram h.inSram h.aligned) h.free (by rw [Core.islandOf_sram _ h.inSram]; exact h.awake) ram none

/-- A served write of SRAM is judged by its bank and its path (R66, R81). -/
theorem Core.request_writeRam {c : Core} {p : Path} {a : Nat} {v : Word} (h : c.ReachesSram p a false) (ram : Ram) :
    c.request ram p a (some v) none =
      (((((c.sent p a [v]).writeRam p a v).2.answer ((c.sent p a [v]).writeRam p a v).1 []).runDeferred)).goOn ram := by
  have hsent : c.sent p a [v] = ((c.accepted p).sendWords 0x25 0x24 [BitVec.ofNat 32 a, v]).dropHold p := by unfold Core.sent; rw [Core.islandOf_sram _ h.inSram]
  have hb : blockOf a ≠ some 16 := by simp [blockOf, h.inSram]
  rw [Core.ReachesSram.request (wr := some v) h, hsent]
  unfold Core.access Core.writeAt
  simp only [if_neg hb, Core.islandOf_sram _ h.inSram, h.runs, Core.silent_accepted, h.acks, Bool.not_true, Bool.false_eq_true, if_false, locAt_sram h.inSram]

/-- The parts as a read of a word of SRAM finds them: the address has crossed to the memory island, and the path holds no high word any longer (R4, R94). -/
def Core.asksRam (c : Core) (p : Path) (a : Nat) : Core := (c.sendWords 0x25 0x24 [BitVec.ofNat 32 a]).dropHold p

/-- A read of a word of SRAM by Strap or the Awl port: the word, or for a poisoned one 0 and ECC_ERROR (R66, R124). -/
theorem Core.readAt_sram {c : Core} {p : Path} {a : Nat} (ha : a < 0x4000000) (runs : c.runs 0x24 = true) (acks : c.silent.contains a = false) (hp : p ≠ .tansy) (ram : Ram) (down : List Nat) :
    c.readAt ram p down a =
      if (c.view ram).poisoned a then (0x0C, 0, (c.asksRam p a).poisonRead a)
      else (0, (c.view ram).word a, (c.asksRam p a).sendWords 0x24 0x25 [(c.view ram).word a]) := by
  have hview : (c.sendWords 0x25 0x24 [BitVec.ofNat 32 a]).view ram = c.view ram := by
    obtain ⟨_, h⟩ := c.sendWords_frame 0x25 0x24 [BitVec.ofNat 32 a]; rw [h]; rfl
  unfold Core.readAt
  simp only [Core.islandOf_sram _ ha, runs, acks, Bool.not_true, Bool.false_eq_true, if_false, locAt_sram ha, hview, if_neg hp]
  rfl

/-- A Strap write of SRAM meets the refusals in their order (R66). -/
theorem Core.writeRam_strap (c : Core) (sid a : Nat) (v : Word) :
    c.writeRam (.strap sid) a v =
      if a / 0x400000 ≠ 14 then (7, c) else if (c.sessAt sid).expert = false then (8, c)
      else if c.get F.PT_STAT_PHASE 0 ≠ 1 then (9, c.setBit F.PT_STAT_STAGE_WRITE_LATE 0 true) else (0, c.store a v.toBytes) := by
  simp [Core.writeRam, Core.expert]

/-! ### A burst read of SRAM -/

/-- What reads of SRAM leave: all but the register file, Saddler, the sessions, what is sent, the crossings and what the paths hold. -/
def Core.ReadsTo (c d : Core) : Prop := ∃ a b e o x h, d = { c with regs := a, sad := b, sessions := e, out := o, crossings := x, hold := h }

theorem Core.ReadsTo.refl (c : Core) : c.ReadsTo c := ⟨_, _, _, _, _, _, rfl⟩
theorem Core.ReadsTo.trans {c d e : Core} (h : c.ReadsTo d) (k : d.ReadsTo e) : c.ReadsTo e := by
  obtain ⟨_, _, _, _, _, _, rfl⟩ := h
  obtain ⟨_, _, _, _, _, _, rfl⟩ := k
  exact ⟨_, _, _, _, _, _, rfl⟩
theorem Core.ReadsTo.of_logs {c d : Core} (h : c.LogsFrom d) : c.ReadsTo d := by
  obtain ⟨⟨_, _, _, _, rfl⟩, _⟩ := h
  exact ⟨_, _, _, _, _, _, rfl⟩
theorem Core.ReadsTo.sendWords (c : Core) (i j : Nat) (ws : List Word) : c.ReadsTo (c.sendWords i j ws) := by
  obtain ⟨_, h⟩ := c.sendWords_frame i j ws
  rw [h]; exact ⟨_, _, _, _, _, _, rfl⟩
theorem Core.ReadsTo.asksRam (c : Core) (p : Path) (a : Nat) : c.ReadsTo (c.asksRam p a) :=
  (Core.ReadsTo.sendWords c 0x25 0x24 [BitVec.ofNat 32 a]).trans ⟨_, _, _, _, _, _, rfl⟩
/-- Counting and logging a poisoned word (R124). -/
theorem Core.ReadsTo.poisonRead (c : Core) (a : Nat) : c.ReadsTo (c.poisonRead a) := by
  unfold Core.poisonRead
  dsimp only
  split
  · exact ⟨_, _, _, _, _, _, rfl⟩
  · exact Core.ReadsTo.trans ⟨_, _, _, _, _, _, rfl⟩ (.of_logs (Core.logFrom_frame _ 0x25 0x050E _ _))
/-- A read of a word of SRAM. -/
theorem Core.ReadsTo.readAt {c : Core} {p : Path} {a : Nat} (ha : a < 0x4000000) (runs : c.runs 0x24 = true) (acks : c.silent.contains a = false) (hp : p ≠ .tansy) (ram : Ram) (down : List Nat) :
    c.ReadsTo (c.readAt ram p down a).2.2 := by
  rw [Core.readAt_sram ha runs acks hp]
  split
  · exact (Core.ReadsTo.asksRam c p a).trans (.poisonRead _ a)
  · exact (Core.ReadsTo.asksRam c p a).trans (.sendWords (c.asksRam p a) 0x24 0x25 [(c.view ram).word a])

/-- The SRAM word that a read returns: 0 where it is poisoned (R124). -/
def Ram.answered (r : Ram) (a : Nat) : Word := if r.poisoned a then 0 else r.word a

/-- A burst of one word more reads it after the others; the first status that is not OK stays (R71). -/
theorem Core.readBurst_succ (c : Core) (ram : Ram) (p : Path) (down : List Nat) (a n : Nat) :
    c.readBurst ram p down a (n + 1) =
      (let r := c.readBurst ram p down a n
       let e := r.2.2.readAt ram p down (a + 4 * n)
       (if r.1 = 0 then e.1 else r.1, r.2.1 ++ [e.2.1], e.2.2)) := by
  unfold Core.readBurst
  rw [List.range_succ, List.foldl_append]
  rfl

/-- The status of a burst over SRAM words: ECC_ERROR where one was poisoned (R66). -/
def Ram.burstStatus (r : Ram) (a n : Nat) : Nat := if (List.range n).any (fun i => r.poisoned (a + 4 * i)) then 0x0C else 0
/-- One word more makes the status ECC_ERROR where it is poisoned and no earlier one was. -/
theorem Ram.burstStatus_succ (r : Ram) (a n : Nat) : r.burstStatus a (n + 1) = if r.burstStatus a n = 0 then (if r.poisoned (a + 4 * n) then 0x0C else 0) else r.burstStatus a n := by
  unfold Ram.burstStatus
  rw [List.range_succ, List.any_append]
  cases (List.range n).any (fun i => r.poisoned (a + 4 * i)) <;> simp

/-- A burst read of SRAM answers each word, ECC_ERROR where one was poisoned, and leaves the memory island as it was (R66). -/
theorem Core.readBurst_sram {c : Core} {p : Path} {a : Nat} (runs : c.runs 0x24 = true) (acks : c.silent = []) (hp : p ≠ .tansy) (ram : Ram) (n : Nat) (hn : a + 4 * n ≤ 0x4000000) :
    (c.readBurst ram p [] a n).1 = (c.view ram).burstStatus a n ∧
    (c.readBurst ram p [] a n).2.1 = (List.range n).map (fun i => (c.view ram).answered (a + 4 * i)) ∧
    c.ReadsTo (c.readBurst ram p [] a n).2.2 := by
  induction n with
  | zero => exact ⟨rfl, rfl, .refl c⟩
  | succ n ih =>
    obtain ⟨hst, hws, hd⟩ := ih (by omega)
    rw [Core.readBurst_succ, Ram.burstStatus_succ, ← hst, List.range_succ, List.map_append, ← hws]
    generalize c.readBurst ram p [] a n = r at hd
    obtain ⟨st, ws, d⟩ := r
    have ha : a + 4 * n < 0x4000000 := by omega
    have hruns : d.runs 0x24 = true := by obtain ⟨_, _, _, _, _, _, rfl⟩ := hd; exact runs
    have hacks : d.silent.contains (a + 4 * n) = false := by obtain ⟨_, _, _, _, _, _, rfl⟩ := hd; simp [acks]
    have hview : d.view ram = c.view ram := by obtain ⟨_, _, _, _, _, _, rfl⟩ := hd; rfl
    have hread := Core.readAt_sram ha hruns hacks hp ram []
    rw [hview] at hread
    have hst' : (d.readAt ram p [] (a + 4 * n)).1 = if (c.view ram).poisoned (a + 4 * n) then 0x0C else 0 := by rw [hread]; split <;> rfl
    have hw' : (d.readAt ram p [] (a + 4 * n)).2.1 = (c.view ram).answered (a + 4 * n) := by rw [hread, Ram.answered]; split <;> rfl
    rw [← hst', List.map_singleton, ← hw']
    exact ⟨rfl, rfl, hd.trans (.readAt ha hruns hacks hp ram [])⟩

/-- Settles O14: a served write is judged by R66's refusals in order, and a burst read goes on over poisoned words. -/
theorem strapReachesSram : Obligations.StrapReachesSram := by
  unfold Obligations.StrapReachesSram
  refine ⟨fun s sid a v inSram aligned heard allowed free awake runs acks => ?_, fun c ram sid a n _ hn runs acks => ?_⟩
  · have h : s.core.ReachesSram (.strap sid) a false := ⟨inSram, aligned, heard, allowed, free, awake, runs, acks⟩
    have hex : ((s.core.sent (.strap sid) a [v]).sessAt sid).expert = (s.core.sessAt sid).expert := Core.expert_sent s.core (.strap sid) (.strap sid) a [v]
    have hexec {st : Nat} {d : Core} (hw : (s.core.sent (.strap sid) a [v]).writeRam (.strap sid) a v = (st, d)) :
        exec (.stagingWrite (.strap sid) a v) s = .next (s.after (((d.answer st []).runDeferred).goOn s.ram)) := by
      have hreq := Core.request_writeRam (v := v) h s.ram
      rw [hw] at hreq
      exact (inRange_of_lt _ _ inSram).trans (next_after_congr hreq)
    refine ⟨fun hb => hexec ?_, fun hb he => hexec ?_, fun hb he hph => hexec ?_, fun hb he hph => hexec ?_⟩ <;> rw [Core.writeRam_strap, hex]
    · rw [if_pos hb]
    · rw [if_neg (not_not_intro hb), if_pos he]
    · rw [if_neg (not_not_intro hb), if_neg (by rw [he]; decide), if_pos hph]
    · rw [if_neg (not_not_intro hb), if_neg (by rw [he]; decide), if_neg (not_not_intro hph)]
  · obtain ⟨hst, hws, _⟩ := Core.readBurst_sram (p := .strap sid) runs acks (by simp) ram n hn
    exact ⟨hws, hst⟩

end Sys2Proof.Machine
end

section
/-! SUPPORT. Writes of registers with a handler, where the written fields are stored; then the statement about the arbiter's and the Awl port's registers. -/
namespace Sys2Proof.Machine

/-! ### What a write hands to a register's handler (R5) -/

/-- A path that may write a register with an RWX field has Expert rights (R7). -/
theorem Writes.expert {c : Core} {p : Path} {r : Reg} {i : Nat} (h : Writes c p ⟨r, i⟩) (hx : r.accMask (fun f => f.acc = .rwx) ≠ 0) : c.expert p = true :=
  h.entitled.resolve_right hx

/-- On an Expert path every stored field of a register takes what is written (R5, R7). -/
theorem Core.stores_expert {c : Core} {p : Path} {r : Reg} {i : Nat} (he : c.expert p = true) (hid : r.id ≠ R.CN_OBJ_DATA.id) : c.stores p r i = r.accMask FldDesc.stored := by
  rw [Core.stores, Core.storeMask, if_neg hid, he]
  simp only [Bool.true_and]
  rfl

/-- The request of a path that may write a register with an RWX field stores every stored field of it. -/
theorem Writes.stores_sent {c : Core} {p : Path} {r : Reg} {i : Nat} (h : Writes c p ⟨r, i⟩) (hx : r.accMask (fun f => f.acc = .rwx) ≠ 0) (hid : r.id ≠ R.CN_OBJ_DATA.id) (n : Nat) (ws : List Word) :
    (c.sent p n ws).stores p r i = r.accMask FldDesc.stored :=
  Core.stores_expert (by rw [Core.expert_sent]; exact h.expert hx) hid

/-- Every bit of a field lies in a mask. -/
def Fld.within (f : Fld) (m : Word) : Bool := (List.range f.width).all (fun k => m.getLsbD (f.lsb + k))
theorem Fld.getLsbD_of_within {f : Fld} {m : Word} (h : f.within m = true) {k : Nat} (hk : k < f.width) : m.getLsbD (f.lsb + k) = true :=
  List.all_eq_true.1 h k (List.mem_range.2 hk)

/-- A field within a mask reads the same of a masked word. -/
theorem Fld.read_and {f : Fld} {m : Word} (h : f.within m = true) (v : Word) : f.read (v &&& m) = f.read v := by
  apply Nat.eq_of_testBit_eq
  intro k
  rw [Fld.testBit_read, Fld.testBit_read, BitVec.getLsbD_and]
  by_cases hk : k < f.width
  · rw [Fld.getLsbD_of_within h hk, Bool.and_true]
  · simp [hk]
/-- A field that reads 0 reads 0 of a masked word. -/
theorem Fld.read_and_zero {f : Fld} {v : Word} (h : f.read v = 0) (m : Word) : f.read (v &&& m) = 0 := by
  apply Nat.eq_of_testBit_eq
  intro k
  have hk := Fld.testBit_read f v k
  rw [h, Nat.zero_testBit] at hk
  rw [Fld.testBit_read, BitVec.getLsbD_and, ← Bool.and_assoc, ← hk, Bool.false_and, Nat.zero_testBit]
/-- A field within the stored bits reads as it was written. -/
theorem Fld.read_taken {f : Fld} {m : Word} (h : f.within m = true) (w v : Word) : f.read ((w &&& ~~~m) ||| (v &&& m)) = f.read v := by
  apply Nat.eq_of_testBit_eq
  intro k
  rw [Fld.testBit_read, Fld.testBit_read, BitVec.getLsbD_or, BitVec.getLsbD_and, BitVec.getLsbD_and, BitVec.getLsbD_not]
  by_cases hk : k < f.width
  · rw [Fld.getLsbD_of_within h hk]; simp
  · simp [hk]
/-- A field of a word made of its value alone. -/
theorem Fld.read_fieldWord (f : Fld) (v : Nat) (h : f.lsb + f.width ≤ 32) : f.read (fieldWord f v) = v % 2 ^ f.width := Fld.read_write f 0 v h

/-- A write that stores something reaches a register's handler (R5). -/
theorem Core.effect_sysHandler {r : Reg} {e : Reg × (Core → Ram → Path → Word → Word → Core)} (he : sysHandlers.find? (fun x => x.1.id == r.id) = some e) {store : Word} (hs : store ≠ 0) (c : Core) (ram : Ram)
    (p : Path) (i : Nat) (v act : Word) : c.effect ram p r i v store act = e.2 c ram p ((c.reg r i &&& ~~~store) ||| (v &&& store)) (v &&& (store ||| act)) := by
  unfold Core.effect
  rw [he]
  simp only [hs, decide_false, Bool.and_false, Bool.false_and, Bool.false_eq_true, if_false]

/-- A served write of a plain register whose handler takes the stored fields (R5). -/
theorem Core.request_sysHandler {c : Core} {p : Path} {r : Reg} {e : Reg × (Core → Ram → Path → Word → Word → Core)} (h : Writes c p ⟨r, 0⟩) (hp : r.plain = true) (h0 : 0 < r.count) (hw : r.writable = true)
    (hx : r.accMask (fun f => f.acc = .rwx) ≠ 0) (hid : r.id ≠ R.CN_OBJ_DATA.id) (he : sysHandlers.find? (fun x => x.1.id == r.id) = some e) (hs : r.accMask FldDesc.stored ≠ 0) (ram : Ram) (v : Word) :
    c.request ram p (⟨r, 0⟩ : Loc).addr (some v) none =
      c.wrote ram p r 0 v (fun d => e.2 d ram p ((d.reg r 0 &&& ~~~r.accMask FldDesc.stored) ||| (v &&& r.accMask FldDesc.stored)) (v &&& (r.accMask FldDesc.stored ||| r.actMask))) := by
  rw [Core.wrote_write h hp h0 hw]
  refine Core.wrote_congr ?_ ram
  rw [h.stores_sent hx hid]
  exact Core.effect_sysHandler he hs _ ram p 0 v r.actMask

/-! ### AR_PRIO, AR_RETAIN and SYS_AWL (R81, R120, R127) -/

/-- A plain register with no handler and no part in a 64-bit quantity is an ordinary one. -/
theorem Reg.ordinary_of_plain {r : Reg} {i : Nat} (hp : r.plain = true) (hi : i < r.count) (hw : r.writable = true) (hh : highOf r = none) (hl : lowOf r = none) (hn : handlers.all (fun h => h.1.id != r.id) = true)
    (hs : sysHandlers.all (fun h => h.1.id != r.id) = true) : r.Ordinary i := by
  obtain ⟨named, outside, inBlock, outsideSf⟩ := Reg.plain_loc hp hi
  exact ⟨named, Nat.not_lt.1 outside, outsideSf, inBlock, hw, hh, hl, hn, hs⟩

theorem arPrioLo_ordinary {b : Nat} (hb : b < 16) : R.AR_PRIO_LO.Ordinary b :=
  Reg.ordinary_of_plain (by decide +kernel) hb (by decide) (by decide) (by decide) (by decide +kernel) (by decide +kernel)
theorem arPrioHi_ordinary {b : Nat} (hb : b < 16) : R.AR_PRIO_HI.Ordinary b :=
  Reg.ordinary_of_plain (by decide +kernel) hb (by decide) (by decide) (by decide) (by decide +kernel) (by decide +kernel)

/-- A served write of an ordinary register without W1C fields, outside the slots and the ports, stores the taken word (R5). -/
theorem Core.request_stored {c : Core} {p : Path} {r : Reg} {i : Nat} (o : r.Ordinary i) (hslot : r.base / 0x10000 ≠ 0x4010) (hport : r.base / 0x10000 ≠ 0x4030) (hw1c : r.accMask (fun f => f.acc = .w1c) = 0#32)
    (h : Writes c p ⟨r, i⟩) (ram : Ram) (v : Word) : c.request ram p (⟨r, i⟩ : Loc).addr (some v) none = c.wrote ram p r i v (fun d => d.setReg r i (d.taken p r i v)) := by
  have hu : c.unusedSlotReg r i = false := by simp [Core.unusedSlotReg, hslot]
  rw [Core.request_ordinary o hu (Core.portRegApplies_of_base hport c i) h]
  refine Core.wrote_congr ?_ ram
  rw [hw1c, BitVec.and_zero, BitVec.not_zero, BitVec.and_allOnes]

/-- A write that stores something reaches the handler of a register outside the slots and the ports (R5). -/
theorem Core.effect_handler {r : Reg} {e : Reg × Handler} (hsys : sysHandlers.all (fun h => h.1.id != r.id) = true) (hh : highOf r = none) (hl : lowOf r = none) (hslot : r.base / 0x10000 ≠ 0x4010)
    (hport : r.base / 0x10000 ≠ 0x4030) (he : handlers.find? (fun x => x.1.id == r.id) = some e) {store : Word} (hs : store ≠ 0) (c : Core) (ram : Ram) (p : Path) (i : Nat) (v act : Word) :
    c.effect ram p r i v store act = e.2 c ram i ((c.reg r i &&& ~~~store) ||| (v &&& store)) (v &&& (store ||| act)) := by
  have hu : c.unusedSlotReg r i = false := by simp [Core.unusedSlotReg, hslot]
  have hmask : c.portMask r i = BitVec.allOnes 32 := by simp only [Core.portMask, Core.portRegApplies_of_base hport, if_true]; rfl
  unfold Core.effect
  rw [find?_reg_eq_none hsys]
  simp only [Core.pathWrite, hh, hl, Core.applyWrite, hu, Bool.false_eq_true, if_false, hmask, BitVec.and_allOnes, he, hs, decide_false, Bool.false_and]

/-- What a write of AR_RETAIN without REFUSED does: a mask of more than three banks is refused (R120). -/
def Core.retain (c : Core) (m : Nat) : Core := if 3 < (bitsOf 15 m).length then c.setBit F.AR_RETAIN_REFUSED 0 true else c.set F.AR_RETAIN_MASK 0 m

/-- A served write of AR_RETAIN that does not clear REFUSED (R120). -/
theorem Core.request_retain {c : Core} {p : Path} {v : Word} (h : Writes c p ⟨R.AR_RETAIN, 0⟩) (hv : F.AR_RETAIN_REFUSED.read v = 0) (ram : Ram) :
    c.request ram p (⟨R.AR_RETAIN, 0⟩ : Loc).addr (some v) none = c.wrote ram p R.AR_RETAIN 0 v (fun d => d.retain (F.AR_RETAIN_MASK.read v)) := by
  rw [Core.wrote_write h (by decide +kernel) (by decide) (by decide)]
  refine Core.wrote_congr ?_ ram
  rw [h.stores_sent (by decide) (by decide),
    Core.effect_handler (r := R.AR_RETAIN) (by decide +kernel) (by decide) (by decide) (by decide) (by decide) rfl (by decide)]
  have hact : acts F.AR_RETAIN_REFUSED (v &&& (R.AR_RETAIN.accMask FldDesc.stored ||| R.AR_RETAIN.actMask)) = false := by
    rw [acts, Fld.read_and_zero hv]; rfl
  dsimp only
  rw [hact, Fld.read_taken (by decide)]
  rfl

/-- What a write of SYS_AWL.ENABLE does: the port is enabled, logged where it was not, or disabled, and then its path ends (R81). -/
def Core.awlSet (c : Core) (on : Bool) : Core :=
  let d := c.setBit F.SYS_AWL_ENABLE 0 on
  (if on && !c.bit F.SYS_AWL_ENABLE 0 then d.logFrom 0x23 0x0603 noSrc 0 else if !on then (d.endPath .awl).imgRelease .awl else d).judge

/-- The handler of SYS_AWL sets the port as ENABLE of the stored word says. -/
theorem sysHandlers_awl : sysHandlers.find? (fun x => x.1.id == R.SYS_AWL.id) = some (R.SYS_AWL, fun c _ _ w _ => c.awlSet (F.SYS_AWL_ENABLE.read w = 1)) := rfl

theorem Core.awlSet_true (c : Core) :
    c.awlSet true = (if c.bit F.SYS_AWL_ENABLE 0 then c.setBit F.SYS_AWL_ENABLE 0 true else (c.setBit F.SYS_AWL_ENABLE 0 true).logFrom 0x23 0x0603 noSrc 0).judge := by
  unfold Core.awlSet
  cases c.bit F.SYS_AWL_ENABLE 0 <;> simp only [Bool.not_false, Bool.not_true, Bool.and_self, Bool.and_false, if_true, Bool.false_eq_true, if_false]

/-- A served write of SYS_AWL (R81). -/
theorem Core.request_awlSet {c : Core} {p : Path} (h : Writes c p ⟨R.SYS_AWL, 0⟩) (on : Bool) (ram : Ram) :
    c.request ram p (⟨R.SYS_AWL, 0⟩ : Loc).addr (some (fieldWord F.SYS_AWL_ENABLE (bitOf on))) none = c.wrote ram p R.SYS_AWL 0 (fieldWord F.SYS_AWL_ENABLE (bitOf on)) (fun d => d.awlSet on) := by
  rw [Core.request_sysHandler h (by decide +kernel) (by decide) (by decide) (by decide) (by decide) sysHandlers_awl (by decide)]
  refine Core.wrote_congr ?_ ram
  have hon : Decidable.decide (bitOf on % 2 ^ F.SYS_AWL_ENABLE.width = 1) = on := by cases on <;> rfl
  dsimp only
  rw [Fld.read_taken (by decide), Fld.read_fieldWord _ _ (by decide), hon]

/-! ### The Awl port's accesses of SRAM (R81) -/

/-- The enabled port's access of a word of SRAM is served at once where no earlier one waits and the memory island runs and acknowledges. -/
theorem Core.reachesSram_awl {c : Core} {a : Nat} (net : c.runs 0x23 = true) (enabled : c.bit F.SYS_AWL_ENABLE 0 = true) (aligned : a % 4 = 0) (inSram : a < 0x4000000) (runs : c.runs 0x24 = true)
    (free : c.engineBusy .awl = false) (acks : c.silent.contains a = false) (rd : Bool) : c.ReachesSram .awl a rd where
  inSram := inSram
  aligned := aligned
  heard := by simp only [Core.heard, net, enabled, Bool.and_self]
  allowed := rfl
  free := free
  awake := by
    have h0 : c.islState 0x24 = 0 := by simpa [Core.runs] using runs
    show c.stallsOn 0x24 = false
    simp [Core.stallsOn, h0]
  runs := runs
  acks := acks

/-- A served read of SRAM by the Awl port: the word, or for a poisoned one 0 and ECC_ERROR (R81, R124). -/
theorem Core.request_readRam {c : Core} {a : Nat} (h : c.ReachesSram .awl a true) (ram : Ram) :
    c.request ram .awl a none none =
      (((let d := c.sent .awl a []
         if (d.view ram).poisoned a then (d.poisonRead a).answer 0x0C [0] else (d.sendWords 0x24 0x25 [(d.view ram).word a]).answer 0 [(d.view ram).word a]).runDeferred)).goOn ram := by
  have hsent : (c.accepted .awl).asksRam .awl a = c.sent .awl a [] := by unfold Core.sent Core.asksRam; rw [Core.islandOf_sram _ h.inSram]
  have hview : (c.sent .awl a []).view ram = c.view ram := by rw [Core.view, Core.memq_sent]; rfl
  have hread := Core.readAt_sram h.inSram h.runs (by rw [Core.silent_accepted]; exact h.acks) (by decide : Path.awl ≠ .tansy) ram []
  rw [hsent, show (c.accepted .awl).view ram = c.view ram from rfl] at hread
  rw [Core.ReachesSram.request (wr := none) h, Core.access]
  dsimp only
  rw [hread, hview]
  split <;> rfl

/-- A write of SRAM by the Awl port: the staged and the other banks are written, and the pattern bank is not its own (R81, R118). -/
theorem Core.writeRam_awl (c : Core) (a : Nat) (v : Word) : c.writeRam .awl a v = if a / 0x400000 = 15 then (7, c.wrongBank 10 15) else (0, c.store a v.toBytes) := rfl

/-- Settles O23: each write is that of a stored word or of a handler, and the port's accesses of SRAM have no refusal but of bank 15. -/
theorem arbiterAndAwlRegisters : Obligations.ArbiterAndAwlRegisters := by
  unfold Obligations.ArbiterAndAwlRegisters
  intro s p v
  refine ⟨fun b hb h => ?_, fun b hb h => ?_, fun h hv => next_after_congr (Core.request_retain h hv s.ram), fun h => ⟨?_, ?_⟩, fun a net enabled aligned inSram runs free acks => ?_,
    fun a net enabled aligned inSram runs free acks => ?_⟩
  · exact (inRange_of_lt _ _ hb).trans (next_after_congr (Core.request_stored (arPrioLo_ordinary hb) (by decide) (by decide) (by decide) h s.ram v))
  · exact (inRange_of_lt _ _ hb).trans (next_after_congr (Core.request_stored (arPrioHi_ordinary hb) (by decide) (by decide) (by decide) h s.ram v))
  · exact next_after_congr ((Core.request_awlSet h true s.ram).trans (Core.wrote_congr (Core.awlSet_true _) s.ram))
  · exact next_after_congr (Core.request_awlSet h false s.ram)
  · have hreq := Core.request_writeRam (v := v) (Core.reachesSram_awl net enabled aligned inSram runs free acks false) s.ram
    rw [Core.writeRam_awl] at hreq
    refine (next_after_congr hreq).trans ?_
    dsimp only
    split <;> rfl
  · refine (next_after_congr (Core.request_readRam (Core.reachesSram_awl net enabled aligned inSram runs free acks true) s.ram)).trans ?_
    dsimp only
    split <;> rfl

end Sys2Proof.Machine
end

section
/-! SUPPORT. Reset requests, what asserting a reset does, and what holds it; then the statement about resets. -/
namespace Sys2Proof.Machine

/-! ### A write of RST_CTRL (R85, R412) -/

/-- The handler of RST_CTRL takes REQ and KEY as written. -/
theorem sysHandlers_rstCtrl : sysHandlers.find? (fun x => x.1.id == R.RST_CTRL.id) = some (R.RST_CTRL, fun c _ p _ act => c.rstCtrl p (F.RST_CTRL_REQ.read act) (F.RST_CTRL_KEY.read act)) := rfl

/-- What a request of a reset does: with KEY 0x5A it is owed after the reply, else it is refused (R85, R412). -/
def Core.asksReset (c : Core) (p : Path) (req : Nat) (key : Byte) : Core :=
  if key = 0x5A then { c with deferred := some (.reset (if req = 1 then 1 else 2) (if p = .awl then 7 else 6) (req = 3)) } else c.setBit F.RST_STAT_KEY_REFUSED 0 true

theorem Core.rstCtrl_asks (c : Core) (p : Path) {req : Nat} (h : req ≠ 0) (key : Byte) : c.rstCtrl p req key.toNat = c.asksReset p req key := by
  have hkey : key.toNat ≠ 0x5A ↔ key ≠ 0x5A := not_congr (BitVec.toNat_inj (y := (0x5A : Byte)))
  unfold Core.rstCtrl Core.asksReset
  simp only [if_neg h, hkey, ite_not]
  cases p <;> rfl

/-- The word that a reset command writes to RST_CTRL. -/
def resetWord (req : Nat) (key : Byte) : Word := F.RST_CTRL_KEY.write (fieldWord F.RST_CTRL_REQ req) key.toNat
theorem read_req_resetWord {req : Nat} (h : req < 4) (key : Byte) : F.RST_CTRL_REQ.read (resetWord req key) = req := by
  rw [resetWord, Fld.read_write_ne _ _ _ _ (by decide) (by decide), Fld.read_fieldWord _ _ (by decide)]
  exact Nat.mod_eq_of_lt h
theorem read_key_resetWord (req : Nat) (key : Byte) : F.RST_CTRL_KEY.read (resetWord req key) = key.toNat := by
  rw [resetWord, Fld.read_write _ _ _ (by decide)]
  exact Nat.mod_eq_of_lt key.isLt

/-- A served write of RST_CTRL that requests a reset (R412). -/
theorem Core.request_reset {c : Core} {p : Path} (h : Writes c p ⟨R.RST_CTRL, 0⟩) {req : Nat} (h0 : req ≠ 0) (h4 : req < 4) (key : Byte) (ram : Ram) :
    c.request ram p (⟨R.RST_CTRL, 0⟩ : Loc).addr (some (resetWord req key)) none = c.wrote ram p R.RST_CTRL 0 (resetWord req key) (fun d => d.asksReset p req key) := by
  rw [Core.request_sysHandler h (by decide +kernel) (by decide) (by decide) (by decide) (by decide) sysHandlers_rstCtrl (by decide)]
  refine Core.wrote_congr ?_ ram
  dsimp only
  rw [Fld.read_and (by decide), Fld.read_and (by decide), read_req_resetWord h4, read_key_resetWord, Core.rstCtrl_asks _ p h0]

/-! ### Asserting a reset (R411, R413) -/

/-- What each step of a fold establishes for its own number, and no later step undoes, holds at the end for every number of the list. -/
theorem foldN_establishes {α : Type} (P : α → Prop) (Q : Nat → α → Prop) (f : α → Nat → α) (hP : ∀ a n, P a → P (f a n)) (l : List Nat) (hQ : ∀ a, ∀ n ∈ l, P a → Q n (f a n))
    (hkeep : ∀ a m n, P a → Q m a → Q m (f a n)) (a : α) (h0 : P a) : ∀ m ∈ l, Q m (foldN l a f) := by
  induction l generalizing a with
  | nil => simp
  | cons n l ih =>
    intro m hm
    rcases List.mem_cons.1 hm with rfl | hm
    · obtain ⟨_, hq⟩ := foldN_keeps (fun b => P b ∧ Q m b) f l (f a m) ⟨hP a m h0, hQ a m (List.mem_cons_self ..) h0⟩ (fun b n hb => ⟨hP b n hb.1, hkeep b m n hb.1 hb.2⟩)
      exact hq
    · exact ih (fun a n hn => hQ a n (List.mem_cons_of_mem _ hn)) (f a n) (hP a n h0) m hm

/-- The islands that a reset of a kind holds: all but FREC, and Saddler but for a warm one (R411). -/
def heldIslands (kind : Nat) : List Nat := List.range (if kind = 1 then 0x28 else 0x29)
/-- A reset of a kind holds its islands in reset (R411). -/
def Core.holdIslands (c : Core) (kind : Nat) : Core := foldN (heldIslands kind) c (fun c i => c.setIsl i 3)

@[simp] theorem Core.rst_holdIslands (c : Core) (kind : Nat) : (c.holdIslands kind).rst = c.rst :=
  foldN_keeps (fun d : Core => d.rst = c.rst) _ _ c rfl (fun d n h => by rw [Core.setIsl_rst, h])

/-- Every island that a reset holds is in reset (R411). -/
theorem Core.islState_holdIslands (c : Core) {kind j : Nat} (h : j < 0x28) : (c.holdIslands kind).islState j = 3 := by
  have hmem : j ∈ heldIslands kind := List.mem_range.2 (by split <;> omega)
  refine foldN_establishes (fun _ => True) (fun i d => d.islState i = 3) _ (fun _ _ _ => trivial) _ (fun d n hn _ => ?_) (fun d m n _ hm => ?_) c trivial j hmem
  · have hlt := List.mem_range.1 hn
    exact Core.islState_setIsl d 3 (by split at hlt <;> omega)
  · by_cases hmn : n = m
    · subst hmn
      by_cases hn : n ≤ 0x29
      · exact Core.islState_setIsl d 3 hn
      · simp [Core.islState, hn] at hm
    · rw [Core.islState_setIsl_ne d 3 hmn, hm]

/-- A reset asserted while one is held joins it: its source is noted, and it lengthens a warm one (R413). -/
theorem Core.assertReset_of_held {c : Core} (h : c.rst.held = true) (kind source : Nat) :
    c.assertReset kind source = { c with rst := { c.rst with kind := if c.rst.kind = 1 then kind else c.rst.kind, sources := c.rst.sources ++ [source] } }.holdIslands (if c.rst.kind = 1 then kind else c.rst.kind) :=
  if_pos h
/-- A reset asserted where none is held becomes the one held, with its kind and source, and its islands go into reset (R411, R413). -/
theorem Core.assertReset_of_free {c : Core} (h : c.rst.held = false) (kind source : Nat) :
    ∃ d : Core, c.assertReset kind source = { d with rst := { d.rst with held := true, kind := kind, source := source, sources := [source], clean := false } }.holdIslands kind :=
  ⟨_, if_neg (by rw [h]; exact Bool.false_ne_true)⟩

/-- An asserted reset is held, with its islands in reset (R411). -/
theorem Core.assertReset_holds (c : Core) (kind source : Nat) : (c.assertReset kind source).rst.held = true ∧ ∀ j < 0x28, (c.assertReset kind source).islState j = 3 := by
  cases h : c.rst.held with
  | true => rw [Core.assertReset_of_held h]; exact ⟨by rw [Core.rst_holdIslands]; exact h, fun _ hj => Core.islState_holdIslands _ hj⟩
  | false =>
    obtain ⟨d, hd⟩ := Core.assertReset_of_free h kind source
    rw [hd]; exact ⟨by rw [Core.rst_holdIslands], fun _ hj => Core.islState_holdIslands _ hj⟩
/-- The first source and its kind are those of the reset held (R413). -/
theorem Core.assertReset_first {c : Core} (h : c.rst.held = false) (kind source : Nat) : (c.assertReset kind source).rst.kind = kind ∧ (c.assertReset kind source).rst.source = source := by
  obtain ⟨d, hd⟩ := Core.assertReset_of_free h kind source
  rw [hd, Core.rst_holdIslands]; exact ⟨rfl, rfl⟩
theorem Core.assertReset_later {c : Core} (h : c.rst.held = true) (kind source : Nat) : (c.assertReset kind source).rst.source = c.rst.source := by
  rw [Core.assertReset_of_held h, Core.rst_holdIslands]

/-! ### The XB-2 without its supply (R339, R348) -/

/-- One group of the XB-2 follows its conditions (R339). -/
def Core.xb2Group (c : Core) (g : Nat) : Core :=
  let b := c.bg g
  let r := c.bridle.supplied && c.xReason g
  let c := c.setBg g { b with xTimer := r, xExpired := r && b.xExpired }
  c.setBg g { c.bg g with genB := c.genBOk g, path2 := c.genBOk g && g % 2 == 0 }

theorem Core.supplied_xb2Group (c : Core) (g : Nat) : (c.xb2Group g).bridle.supplied = c.bridle.supplied := rfl
/-- Without supply the XB-2 drives no GEN_B (R339). -/
theorem Core.genBOk_unsupplied {c : Core} (h : c.bridle.supplied = false) (g : Nat) : c.genBOk g = false := by
  simp [Core.genBOk, h]
theorem Core.genB_xb2Group_self {c : Core} (h : c.bridle.supplied = false) (g : Nat) : ((c.xb2Group g).bg g).genB = false := by
  unfold Core.xb2Group
  rw [Core.bg_setBg]
  exact Core.genBOk_unsupplied (c := c.setBg g _) h g
theorem Core.bg_xb2Group_ne (c : Core) {g m : Nat} (h : g ≠ m) : (c.xb2Group g).bg m = c.bg m := by
  unfold Core.xb2Group
  rw [Core.bg_setBg_ne _ _ h, Core.bg_setBg_ne _ _ h]
theorem Core.genB_xb2 {c : Core} (h : c.bridle.supplied = false) {g : Nat} (hg : g < 16) : (c.xb2.bg g).genB = false := by
  refine foldN_establishes (fun d : Core => d.bridle.supplied = false) (fun m d => (d.bg m).genB = false) Core.xb2Group (fun d n hd => (d.supplied_xb2Group n).trans hd) _
    (fun d n _ hd => Core.genB_xb2Group_self hd n) (fun d m n hd hm => ?_) c h g (List.mem_range.2 hg)
  by_cases hmn : n = m
  · subst hmn; exact Core.genB_xb2Group_self hd n
  · rw [Core.bg_xb2Group_ne d hmn, hm]
/-- Without its supply the XB-2 has lost its reference and drives no GEN_B (R348). -/
theorem Core.bridleOff_spec (c : Core) : c.bridleOff.bridle.refStored = false ∧ ∀ g < 16, (c.bridleOff.bg g).genB = false := by
  unfold Core.bridleOff
  refine ⟨?_, fun g hg => Core.genB_xb2 rfl hg⟩
  dsimp only
  obtain ⟨t, ht⟩ := Core.xb2_frame { c with bridle := { c.bridle with grp := _, sealLatch := false, xSealLatch := false, refStored := false, supplied := false, discrep := 0 } }
  rw [ht]

/-! ### Reset inputs and the end of a reset (R414–R418, R422, R444) -/

/-- The bits of RST_STUCK that show that an input is active and that it is masked are apart. -/
theorem Core.masked_setActive (c : Core) (i : ResetInput) (b : Bool) : (c.setBit (inputFields i).1 0 b).bit (inputFields i).2.1 0 = c.bit (inputFields i).2.1 0 := by
  cases i
  · exact congrArg (· == 1) (Core.get_set_apart c F.RST_STUCK_BUTTON_ACTIVE F.RST_STUCK_BUTTON_MASKED 0 _ rfl (by decide) (by decide))
  · exact congrArg (· == 1) (Core.get_set_apart c F.RST_STUCK_PIN_ACTIVE F.RST_STUCK_PIN_MASKED 0 _ rfl (by decide) (by decide))

/-- Commands that leave the same parts and no change of SRAM have the same outcome. -/
theorem next_core_congr {s : State} {c d : Core} (h : c = d) : Host.Outcome.next { s with core := c } = (.next { s with core := d } : Host.Outcome State Fault Refusal) := by rw [h]

/-- Something holds the reset, no reset is held, or the start waits for its rails or has failed (R417, R422, R423). -/
def ResetSt.stays (r : ResetSt) : Bool := !r.held || r.buttonHold || r.pinHold || r.unseat || r.supply || r.startFail || 0 < r.retries
theorem execModuleResetRelease_stays {s : State} (h : s.core.rst.stays = true) (pos0 pos1 frec : Bool) : execModuleResetRelease s pos0 pos1 frec = .next (s.after s.core) :=
  next_after_congr (if_pos h)
/-- A warm reset ends with a start from the image that runs, another with one from the boot code's choice, unless none boots (R411, R444). -/
theorem execModuleResetRelease_starts {s : State} (h : s.core.rst.stays = false) (pos0 pos1 frec : Bool) :
    execModuleResetRelease s pos0 pos1 frec = .next (s.after (
      let boot := if s.core.rst.kind = 1 then (s.core, true) else s.core.imageBoot
      if boot.2 then boot.1.start s.ram s.core.rst.kind s.core.rst.source pos0 pos1 frec else { boot.1 with rst := { boot.1.rst with startFail := true } })) := by
  refine next_after_congr ((if_neg (by rw [← ResetSt.stays, h]; exact Bool.false_ne_true)).trans ?_)
  generalize (if s.core.rst.kind = 1 then (s.core, true) else s.core.imageBoot) = boot
  obtain ⟨d, _ | _⟩ := boot <;> rfl
theorem ResetSt.stays_of {r : ResetSt} {i : ResetInput} (h : r.held = false ∨ r.holds i = true ∨ r.unseat = true ∨ r.supply = true) : r.stays = true := by
  have hin (hi : r.holds i = true) : r.buttonHold = true ∨ r.pinHold = true := by
    cases i
    · exact .inl hi
    · exact .inr hi
  unfold ResetSt.stays
  rcases h with h | h | h | h
  · simp [h]
  · rcases hin h with h | h <;> simp [h]
  · simp [h]
  · simp [h]

/-- Settles O54: each command is its definition in the case given, an asserted reset is `assertReset_holds`, and the start follows where nothing holds the reset. -/
theorem resets : Obligations.Resets := by
  unfold Obligations.Resets
  intro s p key i heldMs pos0 pos1 frec
  refine ⟨fun h => ⟨?_, ?_, ?_⟩, fun c kind source => ?_, fun hm => ?_, fun hm => ?_, fun hh hms => ?_, fun hh => ⟨?_, ?_⟩, fun hh => ?_, fun ha => ?_, fun ha => ?_, rfl, rfl, rfl, Core.bridleOff_spec,
    fun hh hf => ⟨?_, ?_⟩, fun h ok => ?_, fun hh => ?_, fun hh => ?_, fun hh hb hp hu hs hf hr => ⟨fun hk => ?_, fun hk => ?_⟩, fun h => execModuleResetRelease_stays (ResetSt.stays_of h) pos0 pos1 frec⟩
  · exact next_after_congr (Core.request_reset h (req := 1) (by decide) (by decide) key s.ram)
  · exact next_after_congr (Core.request_reset h (req := 2) (by decide) (by decide) key s.ram)
  · exact next_after_congr (Core.request_reset h (req := 3) (by decide) (by decide) key s.ram)
  · exact ⟨(c.assertReset_holds kind source).1, fun h => Core.assertReset_first h kind source, fun h => Core.assertReset_later h kind source, (c.assertReset_holds kind source).2⟩
  · exact next_core_congr (if_pos ((Core.masked_setActive ..).trans hm))
  · exact next_core_congr (if_neg (ne_true_of_eq_false ((Core.masked_setActive ..).trans hm)))
  · exact next_core_congr (if_neg (by simp [hh, hms]))
  · exact next_core_congr (if_pos (by simp [hh]))
  · exact next_core_congr (if_pos (by simp [hh]))
  · exact next_core_congr (if_neg (by simp [hh]))
  · exact next_core_congr (if_neg (ne_true_of_eq_false ha))
  · exact next_core_congr (if_pos ha)
  · exact next_core_congr ((if_neg (by simp [hh, hf])).trans (if_pos rfl))
  · exact next_core_congr ((if_neg (by simp [hh, hf])).trans (if_neg Bool.false_ne_true))
  · exact next_core_congr (if_pos (by simpa using h))
  · exact next_core_congr (if_neg (by simp [hh]))
  · exact next_core_congr (if_pos hh)
  · refine (execModuleResetRelease_starts (by simp [ResetSt.stays, hh, hb, hp, hu, hs, hf, hr]) pos0 pos1 frec).trans (next_after_congr ?_)
    dsimp only
    rw [if_pos hk, if_pos rfl, hk]
  · refine (execModuleResetRelease_starts (by simp [ResetSt.stays, hh, hb, hp, hu, hs, hf, hr]) pos0 pos1 frec).trans (next_after_congr ?_)
    dsimp only
    rw [if_neg hk]

end Sys2Proof.Machine
end

section
/-! SUPPORT. What a request of an open session goes through until its operations run, and how a request of one operation ends; then the statement about Strap requests. -/
namespace Sys2Proof.Machine

/-! ### The acceptance of a request (R78, R79) -/

@[simp] theorem Core.sessions_accepted (c : Core) (p : Path) : (c.accepted p).sessions = c.sessions := by
  obtain ⟨_, _, _, h⟩ := c.accepted_frame p; rw [h]
/-- The session of an accepted request is the one that the window left (R79). -/
theorem Core.sessAt_admitted (c : Core) (h : StrapHdr) : (c.admitted h).sessAt h.session = ((c.sessAt h.session).window h.seq).2 := by
  unfold Core.admitted
  rw [show ∀ d : Core, (d.accepted (.strap h.session)).sessAt h.session = d.sessAt h.session from fun d => by rw [Core.sessAt, Core.sessions_accepted]; rfl, Core.sessAt_setSess]
@[simp] theorem Core.strapWait_admitted (c : Core) (h : StrapHdr) : (c.admitted h).strapWait = c.strapWait := by
  unfold Core.admitted
  obtain ⟨_, _, _, e⟩ := (c.setSess h.session ((c.sessAt h.session).window h.seq).2).accepted_frame (.strap h.session)
  rw [e]; rfl
/-- Work makes the application island run where its clock was stopped, and else leaves it as it is (R106). -/
theorem Core.app_pokeApp (c : Core) : c.pokeApp.islState 0x25 = if c.islState 0x25 = 1 then 0 else c.islState 0x25 := by
  unfold Core.pokeApp
  split
  · exact Core.islState_setIsl c 0 (by decide)
  · rfl
/-- An accepted Strap request leaves the islands as its work finds them (R106). -/
theorem Core.islState_accepted_strap (c : Core) (sid i : Nat) : (c.accepted (.strap sid)).islState i = c.pokeApp.islState i := by
  unfold Core.accepted
  dsimp only
  split <;> rfl
/-- An accepted request does not make the application island fail (R106). -/
theorem Core.app_admitted {c : Core} (h : StrapHdr) (ha : c.islState 0x25 ≠ 5) : (c.admitted h).islState 0x25 ≠ 5 := by
  have hs : ∀ x, (c.setSess h.session x).islState 0x25 = c.islState 0x25 := fun _ => rfl
  unfold Core.admitted
  rw [Core.islState_accepted_strap, Core.app_pokeApp, hs]
  split
  · decide
  · exact ha

/-- A request of an open session that passes every check runs its operations (R72, R78). -/
theorem Core.datagram_inSession {c : Core} {h : StrapHdr} {ops : List StrapOp} (q : InSession c h ops) (ram : Ram) : c.datagram ram h ops = (c.admitted h).runJob ram (c.sessionJob h ops) := by
  obtain ⟨⟨hruns, hport, hvlan, ⟨hwait, hstalls⟩, ⟨hmagic, hver, hkind, hmin, hmax, hlen⟩, hshape, hfits⟩, hsid, hlive, hopen, htag, hfresh⟩ := q
  have htaken : c.datagram ram h ops = c.frameIn ram h ops := by
    unfold Core.datagram
    simp only [hruns, hport, hvlan, hwait, hstalls, Bool.not_true, ne_eq, not_true_eq_false, decide_false, Bool.or_self, Bool.false_eq_true, if_false, Option.any_none, Option.isSome_none]
  have hframe : c.frameIn ram h ops = c.sessionFrame ram h ops := by
    have hgood : ¬(h.magic ≠ 0x5053 ∨ h.ver ≠ 1 ∨ h.kind ≠ 1 ∨ h.len < 32 ∨ 1472 < h.len ∨ h.len ≠ h.payload) := by omega
    unfold Core.frameIn
    rw [if_neg (by simpa [and_assoc] using hgood), if_neg hsid, if_neg (by rw [hlive]; decide), if_neg (not_not_intro htag)]
  have hwin : (c.sessAt h.session).window h.seq = (.accept, ((c.sessAt h.session).window h.seq).2) := Prod.ext hfresh rfl
  have hsess : c.sessionFrame ram h ops = (c.admitted h).execute ram h (c.sessAt h.session).ks ops := by
    unfold Core.sessionFrame
    dsimp only
    rw [hopen, hwin, hshape]
    rfl
  obtain ⟨hd, sn, hx⟩ := (c.sessAt h.session).window_frame h.seq
  have hadm : (c.admitted h).sessAt h.session = { c.sessAt h.session with head := hd, seen := sn } := (c.sessAt_admitted h).trans hx
  rw [htaken, hframe, hsess]
  unfold Core.execute
  rw [if_neg (Nat.not_lt.2 hfits), hadm]
  simp only [hsid, hlive, hopen, ne_eq, not_false_eq_true, decide_true, Bool.not_false, Bool.and_self, if_true]
  rfl

/-- The command of a request of an open session runs its operations, and lets go on what waits (R72, R113). -/
theorem strapRequest_inSession {s : State} {h : StrapHdr} {ops : List StrapOp} (q : InSession s.core h ops) :
    strapRequest s h ops = .next (s.after (((s.core.admitted h).runJob s.ram (s.core.sessionJob h ops)).goOn s.ram)) :=
  next_after_congr (congrArg (Core.goOn · s.ram) (Core.datagram_inSession q s.ram))

/-! ### A request of one operation (R71, R75, R82) -/

/-- Clearing what is already clear changes nothing. -/
theorem Core.strapWait_clear {c : Core} (h : c.strapWait = none) : { c with strapWait := none } = c := by
  cases c; cases h; rfl

/-- A request of one operation that need not wait ends with the operation's reply (R69–R73). -/
theorem Core.runJob_single {c : Core} {j : StrapJob} {o : StrapOp} (hw : c.strapWait = none) (hops : j.ops = [o]) (hstop : j.stop = false) (hdone : j.done = []) (hfirst : j.first = 0)
    (hstalls : c.opStalls j o = false) (ram : Ram) :
    c.runJob ram j = (c.runOp ram j o).2.2.2.endRequest j o (c.runOp ram j o).1 (c.runOp ram j o).2.1 (c.runOp ram j o).2.2.1 := by
  unfold Core.runJob
  rw [Core.strapWait_clear hw, hops]
  simp only [Core.runOps, hstop, hstalls, hdone, hfirst, Bool.false_eq_true, if_false, if_true, List.nil_append]
  rfl

/-- An operation of an open session is run while the application island has not failed (R87). -/
structure Core.Serves (c : Core) (j : StrapJob) : Prop where
  session : j.sid ≠ 0
  live : (c.sessAt j.sid).live = true
  opened : (c.sessAt j.sid).half = false
  app : c.islState 0x25 ≠ 5
  down : j.down = []

/-- What each operation of an open session does (R71, R75, R82). -/
theorem Core.Serves.runOp {c : Core} {j : StrapJob} (q : c.Serves j) (ram : Ram) :
    c.runOp ram j .nop = (0, [], j.ks, c) ∧
    (∀ a n, opCheck a n = 0 → c.runOp ram j (.read a n) = (let r := c.readBurst ram (.strap j.sid) [] a n; (r.1, r.2.1, j.ks, r.2.2))) ∧
    (∀ a d, opCheck a d.length = 0 → c.runOp ram j (.write a d) = (let r := c.writeBurst ram (.strap j.sid) [] a d; (r.1, [], j.ks, r.2))) ∧
    (∀ a m v, opCheck a 1 = 0 → c.runOp ram j (.rmw a m v) = (let r := c.rmwAt ram (.strap j.sid) [] a m v; (r.1, r.2.1, j.ks, r.2.2))) ∧
    (∀ n, c.runOp ram j (.subscribe n) = (0, [], j.ks, c.subscribe j.sid n)) ∧
    (∀ n, c.runOp ram j (.evAck n) = (0, [], j.ks, c.evAck j.sid n)) ∧
    c.runOp ram j .close = (0, [], j.ks, c.closeSess j.sid 0) := by
  obtain ⟨hsid, hlive, hopen, happ, hdown⟩ := q
  refine ⟨?_, fun a n hc => ?_, fun a d hc => ?_, fun a m v hc => ?_, fun n => ?_, fun n => ?_, ?_⟩ <;> unfold Core.runOp <;>
    simp only [*, if_false, Bool.not_true, Bool.false_and, Bool.or_self, Bool.false_eq_true, decide_false, ne_eq, not_true_eq_false]
  rfl

/-- The session of an admitted request is served (R75, R87). -/
theorem Core.serves_admitted {c : Core} {h : StrapHdr} {ops : List StrapOp} (q : InSession c h ops) (ha : c.islState 0x25 ≠ 5) : (c.admitted h).Serves (c.sessionJob h ops) := by
  obtain ⟨hd, sn, hx⟩ := (c.sessAt h.session).window_frame h.seq
  have hadm : (c.admitted h).sessAt h.session = { c.sessAt h.session with head := hd, seen := sn } := (c.sessAt_admitted h).trans hx
  exact ⟨q.session, (congrArg Session.live hadm).trans q.live, (congrArg Session.half hadm).trans q.opened, Core.app_admitted h ha, rfl⟩

/-- A request of one operation in an open session that need not wait ends with what the operation answers. -/
theorem strapRequest_single {s : State} {h : StrapHdr} {o : StrapOp} (q : InSession s.core h [o]) (hstalls : (s.core.admitted h).opStalls (s.core.sessionJob h [o]) o = false) {st : Nat} {data : List Word}
    {ks : List Byte} {d : Core} (hop : (s.core.admitted h).runOp s.ram (s.core.sessionJob h [o]) o = (st, data, ks, d)) :
    strapRequest s h [o] = .next (s.after ((d.endRequest (s.core.sessionJob h [o]) o st data ks).goOn s.ram)) := by
  have hw : (s.core.admitted h).strapWait = none := by rw [Core.strapWait_admitted]; exact q.free.1
  rw [strapRequest_inSession q, Core.runJob_single hw rfl rfl rfl rfl hstalls, hop]

/-- An operation without addresses waits for no island (R104). -/
theorem Core.opStalls_of_noAddrs {o : StrapOp} (h : opAddrs o = []) (c : Core) (j : StrapJob) : c.opStalls j o = false := by
  rw [Core.opStalls, h, List.any_nil, Bool.and_false]

/-- Settles O16: a request that passes every check is its job, and a job of one operation ends with what `Core.Serves.runOp` says. -/
theorem strapRequests : Obligations.StrapRequests := by
  unfold Obligations.StrapRequests
  refine ⟨fun s h rest a n d m v => ⟨strapRequest_inSession, strapRequest_inSession, strapRequest_inSession, strapRequest_inSession, strapRequest_inSession, strapRequest_inSession, strapRequest_inSession⟩,
    fun s h a n d m v ha => ⟨fun q => ?_, fun q hc hs => ?_, fun q hc hs => ?_, fun q hc hs => ?_, fun q => ?_, fun q => ?_, fun q => ?_⟩⟩
  all_goals obtain ⟨nop, read, write, rmw, subscribe, evAck, close⟩ := (Core.serves_admitted q ha).runOp s.ram
  · exact strapRequest_single q (Core.opStalls_of_noAddrs rfl _ _) nop
  · exact strapRequest_single q hs (read a n hc)
  · exact strapRequest_single q hs (write a d hc)
  · exact strapRequest_single q hs (rmw a m v hc)
  · exact strapRequest_single q (Core.opStalls_of_noAddrs rfl _ _) (subscribe n)
  · exact strapRequest_single q (Core.opStalls_of_noAddrs rfl _ _) (evAck n)
  · exact strapRequest_single q (Core.opStalls_of_noAddrs rfl _ _) close

end Sys2Proof.Machine
end

section
/-! SUPPORT. The statement about ARP, ICMP and other frames, the timers of a session, and the host watchdog. -/
namespace Sys2Proof.Machine

/-- A Strap frame of another VLAN is discarded (R68). -/
theorem Core.datagram_otherVlan {c : Core} {h : StrapHdr} (hv : h.src.vlan ≠ c.liveVlan) (ram : Ram) (ops : List StrapOp) : c.datagram ram h ops = c := by
  unfold Core.datagram
  exact if_pos (by simp [hv])

/-- A request of the session waits for an island, or behind one that does (R75, R104). -/
def Core.sessionWaits (c : Core) (sid : Nat) : Bool := c.strapWait.any (fun j => j.sid == sid) || c.strapQ.any (fun w => w.1.session == sid) || c.stalls.any (fun w => w.1 == .strap sid)
/-- The idle timeout of an open session closes it, unless a request of it waits (R75). -/
theorem execSessionIdleTimeout_opened {s : State} {sid : Nat} (hl : (s.core.sessAt sid).live = true) (hh : (s.core.sessAt sid).half = false) :
    execSessionIdleTimeout s sid = .next (if s.core.sessionWaits sid then s else { s with core := s.core.closeSess sid 1 }) := by
  have hcond : ((s.core.sessAt sid).live && !(s.core.sessAt sid).half && !s.core.sessionWaits sid) = !s.core.sessionWaits sid := by rw [hl, hh]; rfl
  cases hw : s.core.sessionWaits sid with
  | true => exact next_core_congr (if_neg (by rw [← Core.sessionWaits, hcond, hw]; decide))
  | false => exact next_core_congr (if_pos (by rw [← Core.sessionWaits, hcond, hw]; decide))

/-- An event frame outstanding is sent again, and after five times given up, its events counted as dropped (R82). -/
theorem execEventRetransmit_outstanding {s : State} {sid q n : Nat} {frame : List Byte} (h : (s.core.sessAt sid).outstanding = some (frame, q, n)) :
    execEventRetransmit s sid = .next { s with core :=
      let x := s.core.sessAt sid
      if x.resent < 5 then (s.core.setSess sid { x with resent := x.resent + 1 }).emit (.strap x.src frame)
      else ((s.core.addSat F.EN_EV_DROPPED_COUNT 0 n).setSess sid { x with outstanding := none, resent := 0 }).pump sid } := by
  unfold execEventRetransmit
  rw [onCore_eq]
  simp only [h]

/-- The parts once the host watchdog has expired: EXPIRED is set and the expiry logged, and the application island has work (R83). -/
def Core.wdExpired (c : Core) : Core := (c.pokeApp.setBit F.EN_HOST_WD_EXPIRED 0 true).log 0x050D noSrc (c.get F.EN_HOST_WD_ACTION 0)

@[simp] theorem Core.get_pokeApp (c : Core) (f : Fld) (i : Nat) : c.pokeApp.get f i = c.get f i := by unfold Core.get; rw [Core.reg_pokeApp]
@[simp] theorem Core.bit_pokeApp (c : Core) (f : Fld) (i : Nat) : c.pokeApp.bit f i = c.bit f i := by unfold Core.bit; rw [Core.get_pokeApp]

/-- The expiry of an armed watchdog, with an application island that runs or has its clock stopped (R83, R106). -/
theorem execHostWdExpiry_armed {s : State} (harmed : s.core.bit F.EN_HOST_WD_ARMED 0 = true) (htimeout : s.core.get F.EN_HOST_WD_TIMEOUT 0 ≠ 0)
    (happ : s.core.islState 0x25 = 0 ∨ s.core.islState 0x25 = 1) : execHostWdExpiry s = .next { s with core := if s.core.wdExpired.isLead then s.core.wdExpired.hostLost else s.core.wdExpired } := by
  have hruns : s.core.pokeApp.runs 0x25 = true := by
    unfold Core.runs
    rw [Core.app_pokeApp]
    rcases happ with h | h <;> simp [h]
  unfold execHostWdExpiry
  rw [onCore_eq]
  simp only [harmed, htimeout, hruns, Core.bit_pokeApp, Core.get_pokeApp, ne_eq, not_false_eq_true, decide_true, decide_false, Bool.and_self, if_true, Bool.not_true, Bool.or_self, Bool.false_eq_true, if_false]
  rfl

/-- Settles O18: each frame and timer is its definition in the case given. -/
theorem networkAndTimers : Obligations.NetworkAndTimers := by
  unfold Obligations.NetworkAndTimers
  refine ⟨fun s src ip ident seq payload => ⟨rfl, fun h rest hv => ?_, fun hr hip => ⟨?_, ?_⟩, fun hip => ⟨?_, ?_⟩⟩,
    fun s sid => ⟨fun hl hh => ?_, fun hl hh => ?_, fun frame q n ho hr => ?_, fun frame q n ho hr => ?_, fun harmed htimeout happ => ⟨fun hlead => ?_, fun hlead => ?_⟩⟩⟩
  · exact next_after_congr (congrArg (Core.goOn · s.ram) (Core.datagram_otherVlan hv s.ram _))
  · exact next_core_congr (if_pos (by simp [hr, hip]))
  · exact next_core_congr (if_pos (by simp [hr, hip]))
  · exact next_core_congr (if_neg (by simp [hip]))
  · exact next_core_congr (if_neg (by simp [hip]))
  · exact next_core_congr (if_pos (by simp [hl, hh]))
  · exact execSessionIdleTimeout_opened hl hh
  · exact (execEventRetransmit_outstanding ho).trans (next_core_congr (if_pos hr))
  · exact (execEventRetransmit_outstanding ho).trans (next_core_congr (if_neg (Nat.not_lt.2 hr)))
  · exact (execHostWdExpiry_armed harmed htimeout happ).trans (next_core_congr (if_neg (ne_true_of_eq_false hlead)))
  · exact (execHostWdExpiry_armed harmed htimeout happ).trans (next_core_congr (if_pos hlead))

end Sys2Proof.Machine
end

section
/-! SUPPORT. Flags and counters that cross between islands, and an access of an island that does not run; then the statement about such accesses. -/
namespace Sys2Proof.Machine

/-! ### Flags and counters from another island (R94, R96, R97) -/

/-- The pulse crossing that a flag of another island is raised over (R96). -/
def Core.flagKey (c : Core) (src : Nat) (f : Fld) (i : Nat) : Nat := crossKey ⟨src, c.holder f.reg i, .pulse, f.line i⟩
/-- The counted crossing that a counter of another island is fed over (R97). -/
def Core.countKey (c : Core) (src : Nat) (f : Fld) (i : Nat) : Nat := crossKey ⟨src, c.holder f.reg i, .counted, f.line i⟩

/-- An event during a round trip waits at the sender (R96). -/
theorem Crossing.pending_pulse {x : Crossing} (h : x.trip = true) : x.pulse.pending = true := by
  cases hp : x.pending <;> simp [Crossing.pulse, h, hp]

/-- A flag of another island is raised over its pulse crossing: at once, or with a later delivery (R96). -/
theorem Core.flag_crosses {c : Core} {src : Nat} {f : Fld} {i : Nat} (h : c.holder f.reg i ≠ src) :
    c.flag src f i =
      if (c.crossAt (c.flagKey src f i)).trip then c.setCross (c.flagKey src f i) (c.crossAt (c.flagKey src f i)).pulse
      else (c.setCross (c.flagKey src f i) (c.crossAt (c.flagKey src f i)).pulse).setBit f i true := if_neg h
/-- An event on a flag's crossing is there, whether or not the flag is set at once. -/
theorem Core.crossAt_flag {c : Core} {src : Nat} {f : Fld} {i : Nat} (h : c.holder f.reg i ≠ src) :
    (c.flag src f i).crossAt (c.flagKey src f i) = (c.crossAt (c.flagKey src f i)).pulse := by
  rw [Core.flag_crosses h]
  split
  · exact Core.crossAt_setCross ..
  · exact Core.crossAt_setCross ..
/-- With no round trip under way a flag of another island is set at once. -/
theorem Core.bit_flag {c : Core} {src : Nat} {f : Fld} {i : Nat} (h : c.holder f.reg i ≠ src) (hw : f.width = 1) (hf : f.lsb + f.width ≤ 32)
    (idle : (c.crossAt (c.flagKey src f i)).trip = false) : (c.flag src f i).bit f i = true := by
  rw [Core.flag_crosses h, if_neg (ne_true_of_eq_false idle)]
  exact Core.bit_setBit _ f i true hf hw

/-- A counter of another island takes what its crossing delivers (R97). -/
theorem Core.count_crosses {c : Core} {src : Nat} {f : Fld} {i : Nat} (h : c.holder f.reg i ≠ src) (n : Nat) :
    c.count src f i n = (c.setCross (c.countKey src f i) ((c.crossAt (c.countKey src f i)).count n).1).addSat f i ((c.crossAt (c.countKey src f i)).count n).2 := if_neg h
/-- Counting leaves a field of the counter's register that does not overlap it. -/
theorem Core.get_count_apart {c : Core} {src : Nat} {f g : Fld} {i : Nat} (h : c.holder f.reg i ≠ src) (n : Nat) (hr : g.reg = f.reg) (hg : g.lsb + g.width ≤ 32)
    (ha : f.lsb + f.width ≤ g.lsb ∨ g.lsb + g.width ≤ f.lsb) : (c.count src f i n).get g i = c.get g i := by
  rw [Core.count_crosses h]
  exact Core.get_set_apart _ f g i _ hr hg ha
/-- Counting leaves every crossing but the counter's. -/
theorem Core.crossAt_count_ne {c : Core} {src : Nat} {f : Fld} {i k : Nat} (h : c.holder f.reg i ≠ src) (n : Nat) (hk : c.countKey src f i ≠ k) : (c.count src f i n).crossAt k = c.crossAt k := by
  rw [Core.count_crosses h]
  exact Core.crossAt_setCross_ne c _ hk

/-- An island's new state leaves every crossing but that of its report (R94, R101). -/
theorem Core.crossAt_setIsl_ne (c : Core) {i k : Nat} (v : Nat) (hk : crossKey ⟨i, 0x23, .level, lineIsland⟩ ≠ k) : (c.setIsl i v).crossAt k = c.crossAt k := by
  unfold Core.setIsl Core.sendLevel
  split
  · rfl
  · exact Core.crossAt_setCross_ne { c with isl := Tab.set 0 c.isl i v } _ hk
/-- An accepted request uses the crossings between the network and the application island alone (R106). -/
theorem Core.crossAt_accepted_ne (c : Core) (p : Path) {k : Nat} (hstate : crossKey ⟨0x25, 0x23, .level, lineIsland⟩ ≠ k) (hevent : crossKey ⟨0x23, 0x25, .pulse, 0⟩ ≠ k) :
    (c.accepted p).crossAt k = c.crossAt k := by
  have hpoke : c.pokeApp.crossAt k = c.crossAt k := by
    unfold Core.pokeApp
    split
    · exact Core.crossAt_setIsl_ne c 0 hstate
    · rfl
  have hsent : (c.pokeApp.sendPulse 0x23 0x25 0).crossAt k = c.crossAt k := (Core.crossAt_setCross_ne c.pokeApp _ hevent).trans hpoke
  cases p with
  | strap sid =>
    unfold Core.accepted
    dsimp only
    split
    · exact hsent
    · exact hsent
  | awl => rfl
  | tansy => rfl

/-! ### An access of an island that does not run (R103) -/

/-- The parts with an access of a stopped island shown in AR_FAULT: the ASLEEP flag, the island, and the count, before the log (R103). -/
def Core.showsAsleep (c : Core) (isl : Nat) : Core := ((c.flag 0x25 F.AR_FAULT_ASLEEP 0).set F.AR_FAULT_ISLAND 0 isl).count 0x25 F.AR_FAULT_COUNT 0 1

/-- After AR_FAULT shows the access, it is at most logged (R103). -/
theorem Core.asleep_logs (c : Core) (isl : Nat) : (c.showsAsleep isl).LogsFrom (c.asleep isl false) := by
  unfold Core.asleep
  dsimp only
  rw [if_neg Bool.false_ne_true]
  split
  · exact .refl _
  · exact Core.LogsFrom.trans ⟨⟨_, _, _, _, rfl⟩, fun _ _ _ _ _ _ _ => rfl⟩ (Core.logFrom_frame _ 0x25 0x0514 isl 0)
/-- AR_FAULT lies in the memory island, not in the application island that reports to it. -/
theorem Core.arFault_apart (c : Core) : c.holder R.AR_FAULT 0 ≠ 0x25 := fun h => absurd (show 0x24 = 0x25 from h) (by decide)

/-- The fields of AR_FAULT above its count are as flag and island leave them. -/
theorem Core.get_asleep (c : Core) (isl : Nat) {f : Fld} (hf : f.reg = R.AR_FAULT) (hlow : 16 ≤ f.lsb) (hhigh : f.lsb + f.width ≤ 32) :
    (c.asleep isl false).get f 0 = ((c.flag 0x25 F.AR_FAULT_ASLEEP 0).set F.AR_FAULT_ISLAND 0 isl).get f 0 := by
  have hlog : (c.asleep isl false).get f 0 = (c.showsAsleep isl).get f 0 := by
    unfold Core.get
    rw [hf, (Core.asleep_logs c isl).2 R.AR_FAULT 0 (by decide) (by decide) (by decide) (by decide) (by decide)]
  exact hlog.trans (Core.get_count_apart (f := F.AR_FAULT_COUNT) (Core.arFault_apart _) 1 hf hhigh (.inl hlow))
/-- Logging uses no crossing. -/
theorem Core.crossAt_asleep (c : Core) (isl k : Nat) : (c.asleep isl false).crossAt k = (c.showsAsleep isl).crossAt k := by
  obtain ⟨⟨_, _, _, _, h⟩, _⟩ := Core.asleep_logs c isl
  rw [h]; rfl

/-- The pulse crossing of AR_FAULT.ASLEEP, from the application to the memory island. -/
def asleepKey : Nat := crossKey ⟨0x25, 0x24, .pulse, F.AR_FAULT_ASLEEP.line 0⟩
theorem faultCount_ne_asleepKey : crossKey ⟨0x25, 0x24, .counted, F.AR_FAULT_COUNT.line 0⟩ ≠ asleepKey := by decide
/-- AR_FAULT names the island of an access that is completed asleep (R103). -/
theorem Core.asleep_island (c : Core) {isl : Nat} (h : isl < 0x40) : (c.asleep isl false).get F.AR_FAULT_ISLAND 0 = isl := by
  rw [Core.get_asleep c isl rfl (by decide) (by decide), Core.get_set _ _ _ _ (by decide)]
  exact Nat.mod_eq_of_lt (Nat.lt_trans h (by decide))
/-- With no round trip under way AR_FAULT.ASLEEP sets at once (R96, R103). -/
theorem Core.asleep_sets {c : Core} (isl : Nat) (idle : (c.crossAt asleepKey).trip = false) : (c.asleep isl false).bit F.AR_FAULT_ASLEEP 0 = true := by
  have hget : (c.asleep isl false).get F.AR_FAULT_ASLEEP 0 = (c.flag 0x25 F.AR_FAULT_ASLEEP 0).get F.AR_FAULT_ASLEEP 0 := by
    rw [Core.get_asleep c isl rfl (by decide) (by decide), Core.get_set_apart _ F.AR_FAULT_ISLAND F.AR_FAULT_ASLEEP 0 isl rfl (by decide) (by decide)]
  unfold Core.bit
  rw [hget]
  exact Core.bit_flag (Core.arFault_apart c) rfl (by decide) idle
/-- During a round trip AR_FAULT.ASLEEP waits at its crossing (R96, R103). -/
theorem Core.asleep_waits {c : Core} (isl : Nat) (busy : (c.crossAt asleepKey).trip = true) : ((c.asleep isl false).crossAt asleepKey).pending = true := by
  have hcross : (c.asleep isl false).crossAt asleepKey = (c.crossAt asleepKey).pulse := by
    rw [Core.crossAt_asleep]
    exact (Core.crossAt_count_ne (f := F.AR_FAULT_COUNT) (Core.arFault_apart _) 1 faultCount_ne_asleepKey).trans (Core.crossAt_flag (Core.arFault_apart c))
  rw [hcross]
  exact Crossing.pending_pulse busy

/-- A read of an address of a stopped island answers 0x0FF00FF0 (R103). -/
theorem Core.access_read_asleep {c : Core} {a : Nat} (stopped : c.runs (c.islandOf a) = false) (ram : Ram) (p : Path) :
    c.access ram p a none [] none = ((c.dropHold p).asleep (c.islandOf a) false).answer (c.downStatus (c.islandOf a)) [0x0FF00FF0] := by
  unfold Core.access Core.readAt
  simp only [stopped, Bool.not_false, if_true]
  rfl
/-- A write of an address of a stopped island is discarded (R103); the SF_ block's refusal comes first (R67). -/
theorem Core.access_write_asleep {c : Core} {a : Nat} (stopped : c.runs (c.islandOf a) = false) (hsf : blockOf a ≠ some 16) (ram : Ram) (p : Path) (v : Word) :
    c.access ram p a (some v) [] none = ((c.dropHold p).asleep (c.islandOf a) false).answer (c.downStatus (c.islandOf a)) [] := by
  unfold Core.access Core.writeAt
  simp only [if_neg hsf, stopped, Bool.not_false, if_true]
  rfl

/-- Settles O10: a request that does not stall is one access, which ends at the stopped island; AR_FAULT is reached over its crossings, which the acceptance of the request does not use. -/
theorem stoppedIslandsAnswerAsleep : Obligations.StoppedIslandsAnswerAsleep := by
  unfold Obligations.StoppedIslandsAnswerAsleep
  intro s p a v heard addr hsf free awake stopped
  have hcross : (s.core.begun p).crossAt asleepKey = s.core.crossAt asleepKey := Core.crossAt_accepted_ne s.core p (by decide) (by decide)
  refine ⟨fun allowed => next_after_congr ?_, fun allowed => next_after_congr ?_, fun idle => Core.asleep_sets _ (by rw [hcross]; exact idle),
    fun busy => Core.asleep_waits _ (by rw [hcross]; exact busy), Core.asleep_island _⟩
  · refine (Core.request_served (wr := none) heard allowed addr free awake s.ram none).trans ?_
    rw [Core.access_read_asleep stopped]
    rfl
  · refine (Core.request_served (wr := some v) heard allowed addr free awake s.ram none).trans ?_
    rw [Core.access_write_asleep stopped hsf]
    rfl

end Sys2Proof.Machine
end

section
/-! SUPPORT. The scheduler's LEVEL, which no power depends on, and the level search; then the statement about the scheduler's events. -/
namespace Sys2Proof.Machine

/-! ### The level in force -/

/-- LEVEL in force reads as it was set, up to its top. -/
theorem Core.level_set (c : Core) {l : Nat} (h : l ≤ 6) : (c.set F.BS_STAT_LEVEL 0 l).get F.BS_STAT_LEVEL 0 = l :=
  (Core.get_set c F.BS_STAT_LEVEL 0 l (by decide)).trans (Nat.mod_eq_of_lt (Nat.lt_of_le_of_lt h (by decide)))
/-- Setting LEVEL leaves every other register. -/
theorem Core.reg_setLevel (c : Core) (v : Nat) {r : Reg} (i : Nat) (hr : r.id < 512) (hne : R.BS_STAT.id ≠ r.id) : (c.set F.BS_STAT_LEVEL 0 v).reg r i = c.reg r i :=
  Core.reg_setReg_of_id c _ (by decide) hr hne
theorem Core.get_setLevel (c : Core) (v : Nat) {f : Fld} (i : Nat) (hr : f.reg.id < 512) (hne : R.BS_STAT.id ≠ f.reg.id) : (c.set F.BS_STAT_LEVEL 0 v).get f i = c.get f i := by
  unfold Core.get; rw [Core.reg_setLevel c v i hr hne]

theorem Core.isStandby_setLevel (c : Core) (v : Nat) : (c.set F.BS_STAT_LEVEL 0 v).isStandby = c.isStandby := by
  unfold Core.isStandby; rw [Core.get_setLevel c v 0 (by decide) (by decide)]
/-- Whether the engines dispatch contexts does not turn on LEVEL, though HOT_SUSPENDED lies in the same register (R287). -/
theorem Core.dispatches_setLevel (c : Core) (v : Nat) : (c.set F.BS_STAT_LEVEL 0 v).dispatches = c.dispatches := by
  have hsusp : (c.set F.BS_STAT_LEVEL 0 v).bit F.BS_STAT_HOT_SUSPENDED 0 = c.bit F.BS_STAT_HOT_SUSPENDED 0 :=
    congrArg (· == 1) (Core.get_set_apart c F.BS_STAT_LEVEL F.BS_STAT_HOT_SUSPENDED 0 v rfl (by decide) (by decide))
  unfold Core.dispatches Core.isHot
  rw [Core.isStandby_setLevel, hsusp]; rfl
theorem Core.engFrame_setLevel (c : Core) (v e : Nat) : (c.set F.BS_STAT_LEVEL 0 v).engFrame e = c.engFrame e := by
  unfold Core.engFrame; rw [Core.get_setLevel c v e (by decide) (by decide)]
/-- An engine's need at a level is the same whatever LEVEL is in force (R274). -/
theorem Core.needAt_setLevel (c : Core) (v e l : Nat) : (c.set F.BS_STAT_LEVEL 0 v).needAt e l = c.needAt e l := by
  have hratio : ∀ k, (c.set F.BS_STAT_LEVEL 0 v).ratio k l = c.ratio k l := fun k => by
    unfold Core.ratio Core.starting; rw [Core.get_setLevel c v k (by decide) (by decide)]; rfl
  have hsto : ∀ k, (c.set F.BS_STAT_LEVEL 0 v).slotSto k = c.slotSto k := fun k => by
    have hg : ∀ g, (c.set F.BS_STAT_LEVEL 0 v).inSto g = c.inSto g := fun g => by
      unfold Core.inSto; rw [Core.get_setLevel c v g (by decide) (by decide)]
    have hs : (c.set F.BS_STAT_LEVEL 0 v).slotGroup k = c.slotGroup k := rfl
    unfold Core.slotSto; rw [hs]; cases c.slotGroup k with
    | none => rfl
    | some g => exact hg g
  unfold Core.needAt
  simp only [hratio, hsto]
  rfl
/-- So is the operating point that a need asks for (R274, R278, R279). -/
theorem Core.opFor_setLevel (c : Core) (v e n : Nat) : (c.set F.BS_STAT_LEVEL 0 v).opFor e n = c.opFor e n := by
  have hneed : (c.set F.BS_STAT_LEVEL 0 v).needOp e n = c.needOp e n := by
    unfold Core.needOp
    rw [Core.dispatches_setLevel, Core.engFrame_setLevel, Core.get_setLevel c v 0 (by decide) (by decide)]; rfl
  have hdebt : (c.set F.BS_STAT_LEVEL 0 v).inDebt e = c.inDebt e := by
    unfold Core.inDebt
    simp only [Core.get_setLevel c v (f := F.BS_ENG_STAT_PERIOD) e (by decide) (by decide), Core.isStandby_setLevel, Core.reg_setLevel c v (r := R.BS_DEBT) _ (by decide) (by decide)]
  unfold Core.opFor
  rw [hneed, hdebt]; rfl
/-- The power at a level is the same whatever LEVEL is in force (R274). -/
theorem Core.powerAt_setLevel (c : Core) (v l : Nat) : (c.set F.BS_STAT_LEVEL 0 v).powerAt l = c.powerAt l := by
  have hruns : ∀ e, (c.set F.BS_STAT_LEVEL 0 v).engRuns e = c.engRuns e := fun _ => rfl
  unfold Core.powerAt
  simp only [hruns, Core.dispatches_setLevel, Core.needAt_setLevel, Core.opFor_setLevel, Core.engFrame_setLevel]

/-! ### The level search (R275) -/

/-- `d` is `c` with LEVEL raised just as far as an allowance needs: below the top the power is within it, and one level lower it was not. -/
structure Core.RaisedTo (c : Core) (allow : Rat) (d : Core) : Prop where
  power : ∀ l, d.powerAt l = c.powerAt l
  rises : c.get F.BS_STAT_LEVEL 0 ≤ d.get F.BS_STAT_LEVEL 0
  capped : d.get F.BS_STAT_LEVEL 0 ≤ 6
  enough : d.get F.BS_STAT_LEVEL 0 < 6 → c.powerAt (d.get F.BS_STAT_LEVEL 0) ≤ allow
  needed : c.get F.BS_STAT_LEVEL 0 < d.get F.BS_STAT_LEVEL 0 → allow < c.powerAt (d.get F.BS_STAT_LEVEL 0 - 1)

/-- A level that is the top, or whose power is within the allowance, stays. -/
theorem Core.RaisedTo.refl {c : Core} {allow : Rat} (h6 : c.get F.BS_STAT_LEVEL 0 ≤ 6) (h : c.get F.BS_STAT_LEVEL 0 < 6 → c.powerAt (c.get F.BS_STAT_LEVEL 0) ≤ allow) : c.RaisedTo allow c :=
  ⟨fun _ => rfl, Nat.le_refl _, h6, h, fun hlt => absurd hlt (Nat.lt_irrefl _)⟩
/-- One level up for a power above the allowance, and then as far as needed. -/
theorem Core.RaisedTo.step {c d : Core} {allow : Rat} (h6 : c.get F.BS_STAT_LEVEL 0 < 6) (hover : allow < c.powerAt (c.get F.BS_STAT_LEVEL 0))
    (h : (c.set F.BS_STAT_LEVEL 0 (c.get F.BS_STAT_LEVEL 0 + 1)).RaisedTo allow d) : c.RaisedTo allow d := by
  obtain ⟨power, rises, capped, enough, needed⟩ := h
  simp only [Core.powerAt_setLevel] at power enough needed
  rw [Core.level_set c h6] at rises needed
  refine ⟨power, Nat.le_of_succ_le rises, capped, enough, fun _ => ?_⟩
  rcases Nat.eq_or_lt_of_le rises with heq | hlt
  · rw [← heq]; exact hover
  · exact needed hlt
/-- A search with a step for every level up to the top raises LEVEL just as far as needed (R275). -/
theorem Core.raiseLevel_raises (allow : Rat) (n : Nat) (c : Core) (h6 : c.get F.BS_STAT_LEVEL 0 ≤ 6) (hn : 6 ≤ c.get F.BS_STAT_LEVEL 0 + n) : c.RaisedTo allow (c.raiseLevel allow n) := by
  induction n generalizing c with
  | zero => exact .refl h6 (fun h => absurd h (Nat.not_lt.2 hn))
  | succ n ih =>
    unfold Core.raiseLevel
    dsimp only
    split
    · next hup =>
      obtain ⟨hlt, hover⟩ : c.get F.BS_STAT_LEVEL 0 < 6 ∧ allow < c.powerAt (c.get F.BS_STAT_LEVEL 0) := by simpa using hup
      have hl := Core.level_set c hlt
      exact .step hlt hover (ih _ (hl.symm ▸ hlt) (by rw [hl]; omega))
    · next hstay =>
      refine .refl h6 (fun hlt => Rat.not_lt.1 fun hover => hstay ?_)
      simp [hlt, hover]

/-! ### The scheduler's events -/

/-- THERMAL_CLEAR finds a die point that still reads 115 °C or more. -/
theorem dieHot_iff (c : Core) : (List.range 6).any (fun i => decide (115 ≤ c.tempOf i)) = true ↔ ∃ i < 6, 115 ≤ c.tempOf i := by simp

/-- Settles O32: each event is its definition in the case given, and the level search is `raiseLevel_raises` from any level up to the top. -/
theorem schedulerEvents : Obligations.SchedulerEvents := by
  unfold Obligations.SchedulerEvents
  refine fun s e he => ⟨fun stopped => ?_, fun runs => ?_, fun c allow h6 => ?_, fun runs cool => ?_, fun i hi hot => ?_, fun changing => ?_, fun settled => ?_⟩
  · exact next_core_congr (if_pos (by rw [stopped]; rfl))
  · dsimp only
    refine next_core_congr ((if_neg (by rw [runs]; decide)).trans ?_)
    rcases hallow : s.core.meanPin.allowance with ⟨heat, cap⟩
    cases cap with
    | none => simp only [hallow]
    | some x => simp only [hallow]
  · obtain ⟨power, rises, capped, enough, needed⟩ := Core.raiseLevel_raises allow 6 c h6 (Nat.le_add_left ..)
    exact ⟨rises, capped, fun h => by rw [power]; exact enough h, fun h => by rw [Core.powerAt_setLevel]; exact needed h⟩
  · have hcool : (List.range 6).any (fun i => decide (115 ≤ s.core.tempOf i)) = false :=
      Bool.eq_false_iff.2 fun h => by
        obtain ⟨i, hi, hot⟩ := (dieHot_iff s.core).1 h
        exact Rat.not_lt.2 hot (cool i hi)
    exact next_core_congr (if_neg (by rw [runs, hcool]; decide))
  · exact next_core_congr (if_pos (by rw [(dieHot_iff s.core).2 ⟨i, hi, hot⟩, Bool.or_true]))
  · exact (inRange_of_lt _ _ he).trans (next_core_congr (if_neg (by rw [changing]; decide)))
  · exact (inRange_of_lt _ _ he).trans (next_core_congr (if_pos (by rw [settled]; rfl)))

end Sys2Proof.Machine
end

section
/-! SUPPORT. What the outcome of a command can do to the SRAM, and what a stored word and a poisoned one read; then the statements about soundness, reset and SRAM. -/
namespace Sys2Proof.Machine

/-! ### The SRAM after a command (R121, R124) -/

/-- Each next state of an outcome has the SRAM of `s`, changed by a list of stores, clearings and poisonings alone. -/
def State.Stores (s : State) (o : Host.Outcome State Fault Refusal) : Prop := ∀ t, o = .next t → ∃ ops, t.ram = s.ram.apply ops

namespace State.Stores
variable {s : State} {o : Host.Outcome State Fault Refusal}

theorem fault (f : Fault) : s.Stores (.fault f) := fun _ h => nomatch h
theorem kept {t : State} (h : t.ram = s.ram) : s.Stores (.next t) := fun u hu => by cases hu; exact ⟨[], h⟩
theorem applied {t : State} {ops : List MemOp} (h : t.ram = s.ram.apply ops) : s.Stores (.next t) := fun u hu => by cases hu; exact ⟨ops, h⟩
theorem inRange {what : String} {i n : Nat} (h : s.Stores o) : s.Stores (inRange what i n o) := fun t ht => h t ((inRange_next ..).1 ht).2
theorem xferRange {x : Xfer} (h : s.Stores o) : s.Stores (xferRange x o) := by
  unfold Machine.xferRange
  split
  · exact h
  · exact fault _
theorem regAccess (p : Path) (r : Reg) (i : Nat) (wr : Option Word) : s.Stores (regAccess s p r i wr) := by
  cases wr <;> exact applied rfl
theorem axParam (p : Path) (regs : List Reg) (slot param : Nat) (v : Word) : s.Stores (axParam s p regs slot param v) := by
  unfold Machine.axParam
  refine inRange ?_
  split
  · exact applied rfl
  · exact fault _
theorem islandQuiesced (isl target : Nat) : s.Stores (execIslandQuiesced s isl target) := by
  unfold execIslandQuiesced
  refine inRange ?_
  split
  · exact kept rfl
  · split
    · exact kept rfl
    · exact fault _
theorem canObjLastRead (p : Path) (ch obj : Nat) : s.Stores (execCanObjLastRead s p ch obj) := by
  unfold execCanObjLastRead objRange
  refine inRange (inRange ?_)
  dsimp only
  split <;> exact applied rfl
theorem powerReqBadTarget (p : Path) (target : Nat) : s.Stores (execPowerReqBadTarget s p target) := by
  unfold execPowerReqBadTarget
  split
  · exact applied rfl
  · exact fault _

end State.Stores

/-- Every command changes the SRAM by stores, clearings and poisonings alone. Named are the commands whose meaning chooses between outcomes; each other one is `onCore` or `onMem` within its ranges. -/
theorem exec_stores (i : Instr) (s : State) : s.Stores (exec i s) := by
  cases i
  case islandQuiesced isl target => exact .islandQuiesced isl target
  case canObjLastRead p ch obj => exact .canObjLastRead p ch obj
  case powerReqBadTarget p target => exact .powerReqBadTarget p target
  case profileParamWrite p slot param v => exact .axParam p _ slot param v
  case loopParamWrite p slot param v => exact .axParam p _ slot param v
  case coefDataAccess p slot wr => exact .inRange (.regAccess p _ slot wr)
  case paDataAccess p slot wr => exact .inRange (.regAccess p _ slot wr)
  case keyDataAccess p wr => exact .regAccess p _ 0 wr
  case bankRequest => exact .inRange (.inRange (.xferRange (.kept rfl)))
  case emergencyTransfer => exact .inRange (.xferRange (.applied rfl))
  all_goals
    dsimp only [exec]
    repeat refine .inRange ?_
    first
      | exact .applied rfl
      | exact .kept rfl

/-- So does every step: on an empty queue the SRAM stays. -/
theorem step_stores (s : State) : s.Stores (step s) := by
  unfold step
  split
  · next i rest _ => exact exec_stores i { s with pending := rest }
  · exact .kept rfl

/-- Settles O5: a step changes the SRAM by operations that each keep its canonical form (`Ram.wf_apply`). -/
theorem stepKeepsSoundness : Obligations.StepKeepsSoundness := by
  intro s t sound stepped
  obtain ⟨ops, hram⟩ := step_stores s t stepped
  unfold State.sound
  rw [hram]
  exact Ram.wf_apply ops sound

/-- Settles O4: the SRAM after reset lists nothing. -/
theorem resetIsSound : Obligations.ResetIsSound := Ram.wf_reset

/-- Settles O3: the register file lists nothing at reset, and the reset values of SF_GRP are STO and STARTUP. -/
theorem resetLeaves : Obligations.ResetLeaves :=
  ⟨fun _ _ => rfl, fun _ => ⟨rfl, rfl⟩, rfl, rfl, by decide, rfl⟩

/-! ### An island's failure lets a write go on (R104) -/

/-- The state that commands lead to, one that faults leaving it as it is. -/
def State.run (s : State) (cmds : List Instr) : State :=
  cmds.foldl (fun s i => match exec i s with | .next t => t | .fault _ | .refused _ => s) s

/-- From reset, the clock of the backup island stops, wake-on-access is enabled, a read of PW_ALARM by the application stalls on that island, and a write of SRAM waits behind it on the same engine. -/
def writeBehindStall : State :=
  State.reset.run [.islandQuiesced 0x29 1, .registerWrite .tansy (⟨R.SYS_WAKE_ON_ACCESS, 0⟩ : Loc).addr 1, .quadLowRead .tansy (⟨R.PW_ALARM_LO, 0⟩ : Loc).addr, .stagingWrite .tansy 0 1]

/-- Refutes O7: `islandFailure` is not among the commands that may store, but what waits for the failed island completes (R104), and with it the write that waited behind: byte 0 of SRAM becomes 1. -/
theorem not_otherCommandsKeepSram : ¬ Obligations.OtherCommandsKeepSram := by
  intro h
  have kept := h (.islandFailure 0x29) writeBehindStall _ rfl rfl
  exact absurd (congrArg (Ram.byte · 0) kept) (by decide +kernel)

/-! ### Stored and poisoned words (R122, R124) -/

/-- A write of bytes leaves every byte below it. -/
theorem Ram.byte_write_below (r : Ram) {a x : Nat} (bs : List Byte) (h : x < a) : (r.write a bs).byte x = r.byte x := by
  induction bs generalizing r a with
  | nil => rfl
  | cons b bs ih =>
    unfold Ram.write
    rw [ih _ (Nat.lt_succ_of_lt h), Ram.byte_set_ne r b _ (Nat.ne_of_gt h)]
/-- A write of bytes leaves every byte above it. -/
theorem Ram.byte_write_above (r : Ram) {a x : Nat} (bs : List Byte) (h : a + bs.length ≤ x) : (r.write a bs).byte x = r.byte x := by
  induction bs generalizing r a with
  | nil => rfl
  | cons b bs ih =>
    rw [List.length_cons] at h
    unfold Ram.write
    rw [ih _ (by omega), Ram.byte_set_ne r b _ (by omega)]
/-- A write of bytes stores each of them. -/
theorem Ram.byte_write (r : Ram) (a : Nat) (bs : List Byte) {i : Nat} (h : i < bs.length) : (r.write a bs).byte (a + i) = bs[i] := by
  induction bs generalizing r a i with
  | nil => exact absurd h (Nat.not_lt_zero i)
  | cons b bs ih =>
    unfold Ram.write
    cases i with
    | zero => exact (Ram.byte_write_below _ bs (Nat.lt_add_one a)).trans (Ram.byte_set_self ..)
    | succ i => rw [← Nat.add_assoc, Nat.add_right_comm, ih _ (a + 1) (Nat.lt_of_succ_lt_succ h), List.getElem_cons_succ]
/-- After a write of bytes those words are poisoned that were and that it did not touch (R124). -/
theorem Ram.mem_poison_write (r : Ram) (a : Nat) (bs : List Byte) (w : Nat) : w ∈ (r.write a bs).poison ↔ w ∈ r.poison ∧ ∀ i < bs.length, w ≠ (a + i) / 4 * 4 := by
  induction bs generalizing r a with
  | nil => simp [Ram.write]
  | cons b bs ih =>
    unfold Ram.write
    rw [ih, List.mem_filter, List.length_cons, Nat.forall_lt_succ_left]
    simp only [decide_eq_true_eq, Nat.add_zero, and_assoc, Nat.add_assoc, Nat.add_comm 1]
theorem Ram.poisoned_iff (r : Ram) (a : Nat) : r.poisoned a = true ↔ a / 4 * 4 ∈ r.poison := by
  unfold Ram.poisoned; exact List.contains_iff_mem
/-- Four bytes written from an aligned address clear the mark of their word. -/
theorem Ram.poisoned_write_word (r : Ram) {a : Nat} (bs : List Byte) (hlen : bs.length = 4) : (r.write a bs).poisoned a = false := by
  rw [Bool.eq_false_iff, Ne, Ram.poisoned_iff, Ram.mem_poison_write]
  exact fun h => h.2 0 (by omega) rfl
/-- They leave the mark of every other word. -/
theorem Ram.poisoned_write_word_ne (r : Ram) {a b : Nat} (bs : List Byte) (hlen : bs.length = 4) (ha : a % 4 = 0) (hb : b < a ∨ a + 4 ≤ b) : (r.write a bs).poisoned b = r.poisoned b := by
  rw [Bool.eq_iff_iff, Ram.poisoned_iff, Ram.poisoned_iff, Ram.mem_poison_write]
  exact and_iff_left fun i hi => by omega
/-- The bytes of a word, highest first, are the word (R1). -/
theorem Word.append_bytes (v : Word) : v.extractLsb' 24 8 ++ v.extractLsb' 16 8 ++ v.extractLsb' 8 8 ++ v.extractLsb' 0 8 = v := by
  rw [BitVec.extractLsb'_append_extractLsb'_eq_extractLsb' (by rfl), BitVec.extractLsb'_append_extractLsb'_eq_extractLsb' (by rfl), BitVec.extractLsb'_append_extractLsb'_eq_extractLsb' (by rfl)]
  exact BitVec.extractLsb'_eq_self
/-- A word written is what its reader gets. -/
theorem Ram.word_write (r : Ram) (a : Nat) (v : Word) : (r.write a v.toBytes).word a = v := by
  have hbyte (i : Nat) (h : i < v.toBytes.length) := Ram.byte_write r a v.toBytes h
  have h0 : (r.write a v.toBytes).byte a = v.extractLsb' 0 8 := hbyte 0 (by decide : 0 < 4)
  have h1 : (r.write a v.toBytes).byte (a + 1) = v.extractLsb' 8 8 := hbyte 1 (by decide : 1 < 4)
  have h2 : (r.write a v.toBytes).byte (a + 2) = v.extractLsb' 16 8 := hbyte 2 (by decide : 2 < 4)
  have h3 : (r.write a v.toBytes).byte (a + 3) = v.extractLsb' 24 8 := hbyte 3 (by decide : 3 < 4)
  unfold Ram.word
  rw [Ram.poisoned_write_word r v.toBytes rfl, if_neg Bool.false_ne_true, h0, h1, h2, h3]
  exact Word.append_bytes v

/-- The poisoned word is listed, and each that was. -/
theorem Ram.mem_poison_doPoison (r : Ram) (a w : Nat) : w ∈ (r.doPoison a).poison ↔ w ∈ r.poison ∨ w = a / 4 * 4 := by
  unfold Ram.doPoison
  split
  · next h => exact ⟨.inl, fun hw => hw.elim id (fun e => e ▸ List.contains_iff_mem.1 h)⟩
  · simp
theorem Ram.poisoned_doPoison (r : Ram) (a : Nat) : (r.doPoison a).poisoned a = true :=
  (Ram.poisoned_iff ..).2 ((Ram.mem_poison_doPoison ..).2 (.inr rfl))
theorem Ram.poisoned_doPoison_ne (r : Ram) {a b : Nat} (h : b / 4 ≠ a / 4) : (r.doPoison a).poisoned b = r.poisoned b := by
  rw [Bool.eq_iff_iff, Ram.poisoned_iff, Ram.poisoned_iff, Ram.mem_poison_doPoison]
  exact or_iff_left fun e => h (by omega)
@[simp] theorem Ram.byte_doPoison (r : Ram) (a b : Nat) : (r.doPoison a).byte b = r.byte b := by
  unfold Ram.doPoison; split <;> rfl

/-- Settles O13: a stored word is its four bytes with its mark cleared, and poisoning adds one mark. -/
theorem sramWords : Obligations.SramWords := by
  unfold Obligations.SramWords
  refine ⟨fun r a v aligned => ?_, fun r a => ?_⟩
  · refine ⟨Ram.word_write r a v, Ram.poisoned_write_word r v.toBytes rfl, fun b hb => ⟨?_, Ram.poisoned_write_word_ne r v.toBytes rfl aligned hb⟩⟩
    rcases hb with hb | hb
    · exact Ram.byte_write_below r v.toBytes hb
    · exact Ram.byte_write_above r v.toBytes hb
  · have hp := Ram.poisoned_doPoison r a
    exact ⟨if_pos hp, hp, Ram.byte_doPoison r a, fun b hb => Ram.poisoned_doPoison_ne r hb⟩

end Sys2Proof.Machine
end

section
/-! SUPPORT. Who wins the decision of a bank, when a lock request is refused, and what a lock's release and an emergency transfer leave; then the statements about the arbiters. -/
namespace Sys2Proof.Machine

/-! ### The best of the requesters that wait (R126) -/

/-- One requester of a decision's order: it takes over from an earlier one of lower priority. -/
def pickBest (asks : Nat → Bool) (prio : Nat → Nat) (r : Option Nat) (rq : Nat) : Option Nat :=
  if !asks rq then r else match r with | none => some rq | some w => if prio w < prio rq then some rq else r

/-- `r` is the best of the first `n` requesters of an order `f`: it asks, and no other that asks has a higher priority, or the same and an earlier place; there is none only where none of them asks. -/
structure BestOf (asks : Nat → Bool) (prio : Nat → Nat) (f : Nat → Nat) (n : Nat) (r : Option Nat) : Prop where
  none_asks : r = none → ∀ i < n, asks (f i) = false
  wins : ∀ w, r = some w → ∃ j < n, w = f j ∧ asks w = true ∧ ∀ i < n, asks (f i) = true → prio (f i) < prio w ∨ prio (f i) = prio w ∧ j ≤ i

section
variable {asks : Nat → Bool} {prio f : Nat → Nat} {n : Nat} {r : Option Nat}

/-- A further requester that does not ask changes nothing. -/
theorem BestOf.skip (h : BestOf asks prio f n r) (hn : asks (f n) = false) : BestOf asks prio f (n + 1) r where
  none_asks hr i hi := by
    rcases Nat.lt_succ_iff_lt_or_eq.1 hi with hi | rfl
    · exact h.none_asks hr i hi
    · exact hn
  wins w hw := by
    obtain ⟨j, hj, hwj, hask, hbest⟩ := h.wins w hw
    refine ⟨j, Nat.lt_succ_of_lt hj, hwj, hask, fun i hi hi' => ?_⟩
    rcases Nat.lt_succ_iff_lt_or_eq.1 hi with hi | rfl
    · exact hbest i hi hi'
    · exact absurd hi' (by simp [hn])
/-- One that asks wins where none before it asks, or the best before it has a lower priority. -/
theorem BestOf.take (h : BestOf asks prio f n r) (hn : asks (f n) = true) (hlow : ∀ w, r = some w → prio w < prio (f n)) : BestOf asks prio f (n + 1) (some (f n)) where
  none_asks hr := nomatch hr
  wins w hw := by
    cases hw
    refine ⟨n, Nat.lt_succ_self n, rfl, hn, fun i hi hi' => ?_⟩
    rcases Nat.lt_succ_iff_lt_or_eq.1 hi with hi | rfl
    · cases r with
      | none => exact absurd hi' (by simp [h.none_asks rfl i hi])
      | some w =>
        obtain ⟨_, _, _, _, hbest⟩ := h.wins w rfl
        have := hbest i hi hi'
        have := hlow w rfl
        exact .inl (by omega)
    · exact .inr ⟨rfl, Nat.le_refl _⟩
/-- Else the earlier one stays the best. -/
theorem BestOf.stay {w : Nat} (h : BestOf asks prio f n (some w)) (hn : prio (f n) ≤ prio w) : BestOf asks prio f (n + 1) (some w) where
  none_asks hr := nomatch hr
  wins x hx := by
    cases hx
    obtain ⟨j, hj, hwj, hask, hbest⟩ := h.wins w rfl
    refine ⟨j, Nat.lt_succ_of_lt hj, hwj, hask, fun i hi hi' => ?_⟩
    rcases Nat.lt_succ_iff_lt_or_eq.1 hi with hi | rfl
    · exact hbest i hi hi'
    · exact (Nat.lt_or_eq_of_le hn).imp id (⟨·, Nat.le_of_lt hj⟩)

end

/-- Picking along an order finds the best of it. -/
theorem foldl_pickBest (asks : Nat → Bool) (prio f : Nat → Nat) (n : Nat) : BestOf asks prio f n (((List.range n).map f).foldl (pickBest asks prio) none) := by
  induction n with
  | zero => exact ⟨fun _ i hi => absurd hi (Nat.not_lt_zero i), fun _ hw => nomatch hw⟩
  | succ n ih =>
    rw [List.range_succ, List.map_append, List.foldl_append]
    generalize ((List.range n).map f).foldl (pickBest asks prio) none = r at ih
    change BestOf asks prio f (n + 1) (pickBest asks prio r (f n))
    unfold pickBest
    cases hask : asks (f n) with
    | false => exact ih.skip hask
    | true =>
      cases r with
      | none => exact ih.take hask (fun _ hw => nomatch hw)
      | some w =>
        by_cases hlt : prio w < prio (f n)
        · simpa [hlt] using ih.take hask (fun _ hw => by cases hw; exact hlt)
        · simpa [hlt] using ih.stay (Nat.not_lt.1 hlt)

/-! ### Decisions (R126, R130, R133) -/

/-- A requester waits at a bank. -/
def Core.waitsAt (c : Core) (b rq : Nat) : Bool := (c.bankAt b).waiting.any (fun x => x.rq == rq)
/-- The requester in a place of the order of a bank's decision, which begins after the last winner. -/
def Core.orderAt (c : Core) (b i : Nat) : Nat := ((c.bankAt b).last + 1 + i) % 12
/-- The best of the requesters that wait at a bank. -/
def Core.bestAt (c : Core) (b : Nat) : Option Nat := ((List.range 12).map (c.orderAt b)).foldl (pickBest (c.waitsAt b) (c.prio b)) none

theorem Core.winner_of_rq9 {c : Core} {b : Nat} (h : c.waitsAt b 9 = true) : c.winner b = some 9 := if_pos h
/-- Without RQ9 the lock's holder wins where it waits. -/
theorem Core.winner_of_holder {c : Core} {b l : Nat} (h9 : ¬c.waitsAt b 9 = true) (hl : (c.bankAt b).lock = some l) (hw : c.waitsAt b l = true) : c.winner b = some l := by
  refine (if_neg h9).trans ?_
  rw [hl]
  exact if_pos hw
/-- Without RQ9 and the lock's holder the best of the others wins. -/
theorem Core.winner_of_others {c : Core} {b : Nat} (h9 : ¬c.waitsAt b 9 = true) (hl : ∀ l, (c.bankAt b).lock = some l → ¬c.waitsAt b l = true) : c.winner b = c.bestAt b := by
  refine (if_neg h9).trans ?_
  cases h : (c.bankAt b).lock with
  | none => rfl
  | some l => exact if_neg (hl l h)

/-- The place of a requester in the order of a bank's decision. -/
def Core.placeOf (c : Core) (b rq : Nat) : Nat := (rq + 12 - ((c.bankAt b).last + 1) % 12) % 12
theorem Core.placeOf_lt (c : Core) (b rq : Nat) : c.placeOf b rq < 12 := Nat.mod_lt _ (by decide)
theorem Core.orderAt_placeOf (c : Core) (b : Nat) {rq : Nat} (h : rq < 12) : c.orderAt b (c.placeOf b rq) = rq := by
  unfold Core.orderAt Core.placeOf; omega
theorem Core.placeOf_orderAt (c : Core) (b : Nat) {i : Nat} (h : i < 12) : c.placeOf b (c.orderAt b i) = i := by
  unfold Core.orderAt Core.placeOf; omega

/-- The best of the requesters that wait: none has a higher priority, and of its priority it has the first place after the last winner. -/
theorem Core.bestAt_spec (c : Core) (b : Nat) :
    (∀ w, c.bestAt b = some w → (w < 12 ∧ c.waitsAt b w = true) ∧ ∀ rq, rq < 12 ∧ c.waitsAt b rq = true → c.prio b rq < c.prio b w ∨ c.prio b rq = c.prio b w ∧ c.placeOf b w ≤ c.placeOf b rq) ∧
    (c.bestAt b = none → ∀ rq, ¬(rq < 12 ∧ c.waitsAt b rq = true)) := by
  obtain ⟨hnone, hwins⟩ : BestOf (c.waitsAt b) (c.prio b) (c.orderAt b) 12 (c.bestAt b) := foldl_pickBest ..
  refine ⟨fun w hw => ?_, fun hn rq ⟨hrq, hask⟩ => ?_⟩
  · obtain ⟨j, hj, rfl, hask, hbest⟩ := hwins w hw
    refine ⟨⟨Nat.mod_lt _ (by decide), hask⟩, fun rq ⟨hrq, hrask⟩ => ?_⟩
    have h := hbest (c.placeOf b rq) (c.placeOf_lt b rq)
    rw [c.orderAt_placeOf b hrq] at h
    rw [c.placeOf_orderAt b hj]
    exact h hrask
  · have h := hnone hn (c.placeOf b rq) (c.placeOf_lt b rq)
    rw [c.orderAt_placeOf b hrq, hask] at h
    exact absurd h (by decide)

/-! ### Locks (R110, R133) -/

/-- The condition under which a lock request is refused. -/
def Core.refusesLock (c : Core) (rq b : Nat) : Prop :=
  (rq ≠ 6 ∧ rq ≠ 7) ∨ lockable b = false ∨ (rq = 6 ∧ 14 ≤ b ∧ c.patternLock = false) ∨ ∃ b' < 16, b ≤ b' ∧ (c.bankAt b').lock = some rq

/-- The parts after an answered lock request. -/
def Core.told (c : Core) (rq b : Nat) (a : LockAnswer) : Core := { c with lockAns := some (rq, b, a) }

/-- The parts after a lock request that is not refused: a free bank is locked, a held one waited for. -/
def Core.takeLock (c : Core) (rq b : Nat) : Core :=
  match (c.bankAt b).lock with
  | none => ((c.setBank b { c.bankAt b with lock := some rq }).set F.AR_LOCK_HELD 0 (c.get F.AR_LOCK_HELD 0 ||| 2 ^ b)).told rq b .granted
  | some _ => (c.setBank b { c.bankAt b with lockWait := (c.bankAt b).lockWait ++ [rq] }).told rq b .waits
theorem Core.takeLock_free {c : Core} {rq b : Nat} (h : (c.bankAt b).lock = none) :
    c.takeLock rq b = ((c.setBank b { c.bankAt b with lock := some rq }).set F.AR_LOCK_HELD 0 (c.get F.AR_LOCK_HELD 0 ||| 2 ^ b)).told rq b .granted := by
  unfold Core.takeLock
  split
  · rfl
  · next hl => exact absurd (h.symm.trans hl) nofun
theorem Core.takeLock_held {c : Core} {rq b o : Nat} (h : (c.bankAt b).lock = some o) :
    c.takeLock rq b = (c.setBank b { c.bankAt b with lockWait := (c.bankAt b).lockWait ++ [rq] }).told rq b .waits := by
  unfold Core.takeLock
  split
  · next hl => exact absurd (h.symm.trans hl) nofun
  · rfl

/-- A lock request at a running memory island is refused, or takes the lock or waits for it. -/
theorem execBankLockReq_runs {s : State} {rq b : Nat} (hrq : rq < 12) (hb : b < 16) (runs : s.core.runs 0x24 = true) [Decidable (s.core.refusesLock rq b)] :
    execBankLockReq s rq b = .next { s with core :=
      (if s.core.refusesLock rq b then ((s.core.setBit F.AR_LOCK_ORDER_REFUSED 0 true).set F.AR_LOCK_RQ 0 rq).told rq b .lockOrder else s.core.takeLock rq b) } := by
  unfold execBankLockReq
  rw [inRange_of_lt _ _ hrq, inRange_of_lt _ _ hb, onCore_eq]
  refine next_core_congr ((if_neg (by rw [runs]; decide)).trans (ite_congr (propext ?_) (fun _ => rfl) fun _ => rfl))
  simp only [Core.refusesLock, Bool.or_eq_true, Bool.and_eq_true, decide_eq_true_eq, Bool.not_eq_true', List.any_eq_true, List.mem_range, beq_iff_eq, and_assoc, or_comm, or_left_comm]

/-- A released lock passes to the first that waits. -/
theorem Core.lock_unlock (c : Core) (b : Nat) : ((c.unlock b).bankAt b).lock = (c.bankAt b).lockWait.head? := by
  have h : ∀ k : Bank, ((c.setBank b k).bankAt b).lock = k.lock := fun k => by rw [Core.bankAt_setBank]
  unfold Core.unlock
  dsimp only
  split <;> exact h _

theorem execBankLockRelease_eq (s : State) {rq b : Nat} (hrq : rq < 12) (hb : b < 16) :
    execBankLockRelease s rq b = .next { s with core := if (s.core.bankAt b).lock = some rq then s.core.unlock b else s.core } := by
  unfold execBankLockRelease
  rw [inRange_of_lt _ _ hrq, inRange_of_lt _ _ hb, onCore_eq]

/-- Settles O21: a decision is `Core.bestAt_spec` behind RQ9 and the lock's holder, and each lock request falls under the case given. -/
theorem banksDecideAndLock : Obligations.BanksDecideAndLock := by
  classical
  unfold Obligations.BanksDecideAndLock
  refine ⟨fun c b => ⟨Core.winner_of_rq9, fun h9 hl => ?_, fun l h9 hl hw => Core.winner_of_holder h9 hl hw⟩, fun s rq b hrq hb => ?_⟩
  · rw [Core.winner_of_others h9 hl]
    exact c.bestAt_spec b
  · refine ⟨fun runs hr => ?_, fun runs hr hk => ?_, fun o runs hr hk => ?_, fun hk => ⟨?_, s.core.lock_unlock b⟩, fun hk => ?_⟩
    · exact (execBankLockReq_runs hrq hb runs).trans (next_core_congr (if_pos hr))
    · exact (execBankLockReq_runs hrq hb runs).trans (next_core_congr ((if_neg hr).trans (Core.takeLock_free hk)))
    · exact (execBankLockReq_runs hrq hb runs).trans (next_core_congr ((if_neg hr).trans (Core.takeLock_held hk)))
    · exact (execBankLockRelease_eq s hrq hb).trans (next_core_congr (if_pos hk))
    · exact (execBankLockRelease_eq s hrq hb).trans (next_core_congr (if_neg hk))

end Sys2Proof.Machine
end

section
/-! SUPPORT. Requests, transfers and emergencies of a bank where the memory island runs, and the line repair; then the statement about transfers and errors. -/
namespace Sys2Proof.Machine

/-! ### Requests and transfers (R118, R126, R134) -/

theorem xferRange_of_ok {x : Xfer} (h : xferOk x = true) (o : Host.Outcome State Fault Refusal) : xferRange x o = o := if_pos h

/-- Table 5.1 gives the requester this transfer: it reads, or it is a writer of the bank. -/
def Core.mayMove (c : Core) (b : Nat) (x : Xfer) : Prop := x.wr.isSome = false ∨ c.mayWrite x.rq b = true
/-- R118 forbids just the writes that it does not give. -/
theorem Core.writesWrongBank_iff (c : Core) (b : Nat) (x : Xfer) : (x.wr.isSome && !c.mayWrite x.rq b) = true ↔ ¬c.mayMove b x := by
  unfold Core.mayMove
  cases x.wr.isSome <;> cases c.mayWrite x.rq b <;> decide

/-- The parts with a request that waits at its bank, its words on their way (R94). -/
def Core.queued (c : Core) (b : Nat) (x : Xfer) : Core :=
  (c.setBank b { c.bankAt b with waiting := (c.bankAt b).waiting ++ [x] }).sendWords (rqIsland x.rq b x.offset) 0x24 (BitVec.ofNat 32 (b * 0x400000 + x.offset) :: x.wr.getD [])

section
variable {s : State} {b : Nat} {x : Xfer} (hb : b < 16) (ok : xferOk x = true) (runs : s.core.runs 0x24 = true)
include hb ok runs

/-- A request at a running memory island is discarded, waits, or has the bank decide. -/
theorem execBankRequest_runs (hrq : x.rq < 12) : execBankRequest s b x =
    .next { s with core := (if (x.wr.isSome && !s.core.mayWrite x.rq b) = true then s.core.wrongBank x.rq b else if (s.core.bankAt b).holder.isSome = true then s.core.queued b x else (s.core.queued b x).decide b) } := by
  unfold execBankRequest
  rw [inRange_of_lt _ _ hb, inRange_of_lt _ _ hrq, xferRange_of_ok ok, onCore_eq]
  exact next_core_congr (if_neg (by rw [runs]; decide))
/-- A write that Table 5.1 does not give is discarded. -/
theorem execBankRequest_wrongBank (hrq : x.rq < 12) (may : ¬s.core.mayMove b x) : execBankRequest s b x = .next { s with core := s.core.wrongBank x.rq b } :=
  (execBankRequest_runs hb ok runs hrq).trans (next_core_congr (if_pos ((s.core.writesWrongBank_iff b x).2 may)))
/-- Another request waits where a transfer is in progress, and else the bank decides. -/
theorem execBankRequest_queued (hrq : x.rq < 12) (may : s.core.mayMove b x) :
    execBankRequest s b x = .next { s with core := (if (s.core.bankAt b).holder.isSome = true then s.core.queued b x else (s.core.queued b x).decide b) } :=
  (execBankRequest_runs hb ok runs hrq).trans (next_core_congr (if_neg fun h => (s.core.writesWrongBank_iff b x).1 h may))

end

/-- The last word of the granted transfer ends it, and the arbiter decides. -/
theorem execTransferEnd_granted {s : State} {b : Nat} {x : Xfer} (hb : b < 16) (runs : s.core.runs 0x24 = true) (holder : (s.core.bankAt b).holder = some x) (ecc : List EccFault) :
    execTransferEnd s b ecc = .next (s.after (((s.core.setBank b { s.core.bankAt b with holder := none }).moveWords s.ram b x ecc).decide b)) := by
  unfold execTransferEnd
  rw [inRange_of_lt _ _ hb, onMem_eq]
  refine next_after_congr ?_
  dsimp only
  split
  · next h => exact absurd (holder.symm.trans h) nofun
  · next y h =>
    cases holder.symm.trans h
    exact if_neg (by rw [runs]; decide)

/-- The grant of an unlocked bank that lasts too long is flagged with its holder. -/
theorem execHoldOverrun_granted {s : State} {b : Nat} {x : Xfer} (hb : b < 16) (unlocked : (s.core.bankAt b).lock = none) (holder : (s.core.bankAt b).holder = some x) :
    execHoldOverrun s b = .next { s with core := (((s.core.setBit F.AR_HOLD_OVERRUN 0 true).set F.AR_HOLD_BANK 0 b).set F.AR_HOLD_RQ 0 x.rq).log 0x0511 b x.rq } := by
  unfold execHoldOverrun
  rw [inRange_of_lt _ _ hb, onCore_eq]
  refine next_core_congr ?_
  dsimp only
  rw [unlocked, holder]
  rfl

/-! ### Emergencies (R131, R132) -/

/-- RQ11's transfer that goes before an emergency transfer of RQ10. -/
def Core.rq11First (c : Core) (b : Nat) (x : Xfer) : Option Xfer := if x.rq = 10 && c.emergent b 11 then (c.bankAt b).waiting.find? (fun y => y.rq == 11) else none
/-- None goes before RQ11's own, nor where RQ11 is below its threshold or does not wait. -/
theorem Core.rq11First_none {c : Core} {b : Nat} {x : Xfer} (h : x.rq = 11 ∨ Tab.get 0 (c.bankAt b).lost 11 < c.starveThr 11 ∨ (c.bankAt b).waiting.any (fun y => y.rq == 11) = false) : c.rq11First b x = none := by
  unfold Core.rq11First Core.emergent
  rcases h with own | below | absent
  · exact if_neg (by simp [own])
  · exact if_neg (by simp [below])
  · split
    · exact List.find?_eq_none.2 fun y hy => by simpa using List.any_eq_false.1 absent y hy
    · rfl
/-- Where RQ11 waits at its threshold, its first transfer goes before RQ10's. -/
theorem Core.rq11First_some {c : Core} {b : Nat} {x y : Xfer} (rq10 : x.rq = 10) (due : c.starveThr 11 ≤ Tab.get 0 (c.bankAt b).lost 11) (hy : (c.bankAt b).waiting.find? (fun y => y.rq == 11) = some y) :
    c.rq11First b x = some y :=
  (if_pos (by simp [rq10, Core.emergent, due])).trans hy
/-- An emergency transfer of RQ10 or RQ11 at its threshold, after RQ11's that goes first. -/
theorem execEmergencyTransfer_due {s : State} {b : Nat} {x : Xfer} (hb : b < 16) (ok : xferOk x = true) (runs : s.core.runs 0x24 = true) (hrq : x.rq = 10 ∨ x.rq = 11)
    (due : s.core.starveThr x.rq ≤ Tab.get 0 (s.core.bankAt b).lost x.rq) (first : Option Xfer) : s.core.rq11First b x = first →
    execEmergencyTransfer s b x = .next (s.after ((match first with | some y => s.core.emergency s.ram b y | none => s.core).emergency s.ram b x)) := by
  rintro rfl
  have hdue : s.core.emergent b x.rq = true := decide_eq_true due
  unfold execEmergencyTransfer
  rw [inRange_of_lt _ _ hb, xferRange_of_ok ok, onMem_eq]
  refine next_after_congr ((if_neg ?_).trans rfl)
  rw [runs, hdue]
  rcases hrq with h | h <;> simp [h]

/-- RQ10's write under a lock is flagged and logged (R132). -/
def Core.flagAwlInLock (c : Core) (b : Nat) (x : Xfer) : Core :=
  if x.rq = 10 ∧ x.wr.isSome = true then match (c.bankAt b).lock with | some l => (c.setBit F.AR_REVOKE_AWL_IN_LOCK 0 true).logFrom 0x23 0x0604 b l | none => c else c
/-- The parts after one emergency transfer that Table 5.1 gives its requester. -/
def Core.moves (c : Core) (ram : Ram) (b : Nat) (x : Xfer) : Core :=
  let c := c.setBank b { (c.bankAt b).granted x.rq with waiting := takeFirst x.rq (c.bankAt b).waiting }
  let c := if (c.bankAt b).holder.isSome then c.addSat F.AR_REVOKE_COUNT 0 1 else c
  (c.flagAwlInLock b x).moveWords ram b x []
/-- What the flag does under each state of the lock. -/
theorem Core.flagAwlInLock_of_lock (c : Core) (b : Nat) (x : Xfer) (o : Option Nat) : (c.bankAt b).lock = o →
    c.flagAwlInLock b x = match o with | some l => if (x.rq = 10 && x.wr.isSome) = true then (c.setBit F.AR_REVOKE_AWL_IN_LOCK 0 true).logFrom 0x23 0x0604 b l else c | none => c := by
  rintro rfl
  unfold Core.flagAwlInLock
  simp only [Bool.and_eq_true, decide_eq_true_eq]
  cases (c.bankAt b).lock with
  | none => exact ite_self c
  | some l => rfl
/-- An emergency transfer that Table 5.1 gives its requester moves: neither its grant nor its count of a revocation changes the bank's holder or lock. -/
theorem Core.emergency_moves {c : Core} {b : Nat} {x : Xfer} (may : c.mayMove b x) (ram : Ram) : c.emergency ram b x = c.moves ram b x := by
  refine (if_neg fun h => (c.writesWrongBank_iff b x).1 h may).trans ?_
  have hholder : ∀ v : Bank, ((c.setBank b v).bankAt b).holder = v.holder := fun v => by rw [Core.bankAt_setBank]
  have hlock : ∀ v : Bank, ∀ i : Bool, ((if i then (c.setBank b v).addSat F.AR_REVOKE_COUNT 0 1 else c.setBank b v).bankAt b).lock = v.lock := fun v i => by
    cases i <;> exact congrArg Bank.lock (Core.bankAt_setBank c b v)
  unfold Core.moves
  dsimp only
  rw [hholder, Core.flagAwlInLock_of_lock _ b x _ (hlock _ _)]
  rfl

/-! ### The repair of the pattern's lines (Table 5.2) -/

/-- Work finds or makes the application island run where it runs or its clock is stopped (R106). -/
theorem Core.runs_pokeApp {c : Core} (h : c.islState 0x25 = 0 ∨ c.islState 0x25 = 1) : c.pokeApp.runs 0x25 = true := by
  unfold Core.runs
  rw [Core.app_pokeApp]
  rcases h with h | h <;> rw [h] <;> rfl

/-- The flash bank whose image has the active digest. -/
def Core.imageBank (c : Core) : Option Nat :=
  [0, 1].find? (fun b => !(Tab.get [] c.patFlash b).isEmpty && digestOf (Tab.get [] c.patFlash b) == (List.range 8).flatMap (fun i => (c.reg R.PT_DIGEST i).toBytes))
/-- The parts after the repair of the line around an address: it is copied again from that bank, or its loss is logged and a Lead with a READY Standby hands over. -/
def Core.repairLine (c : Core) (addr : Nat) : Core :=
  match c.imageBank with
  | some bank => c.store (addr / 64 * 64) (((Tab.get [] c.patFlash bank).drop (addr / 64 * 64 % 0x400000) ++ List.replicate 64 0).take 64)
  | none => (c.log 0x0303 noSrc addr).handOverOr id
/-- A line of the pattern that holds a poisoned word is repaired once the application island runs (R389). -/
theorem execPatternLineRepair_poisoned {s : State} {addr : Nat} (inSram : addr < 0x4000000) (bank15 : addr / 0x400000 = 15) (app : s.core.islState 0x25 = 0 ∨ s.core.islState 0x25 = 1)
    (poisoned : (List.range 16).any (fun i => s.ram.poisoned (addr / 64 * 64 + 4 * i)) = true) : execPatternLineRepair s addr = .next (s.after (s.core.pokeApp.repairLine addr)) := by
  have hpoke : (if (decide (addr / 0x400000 = 15) && (List.range 16).any (fun i => s.ram.poisoned (addr / 64 * 64 + 4 * i))) = true then s.core.pokeApp else s.core) = s.core.pokeApp :=
    if_pos (by rw [bank15, poisoned]; rfl)
  unfold execPatternLineRepair
  rw [inRange_of_lt _ _ inSram, onMem_eq]
  dsimp only
  rw [hpoke]
  refine next_after_congr ((if_neg ?_).trans rfl)
  rw [bank15, poisoned, Core.runs_pokeApp app]
  decide

/-- Settles O22: each command is its definition in the case given; an emergency transfer that Table 5.1 gives is `Core.moves`, and work has made the application island run before the line repair asks for it. -/
theorem transfersAndErrors : Obligations.TransfersAndErrors := by
  unfold Obligations.TransfersAndErrors
  refine ⟨fun s b x ecc hb hrq ok runs => ?_, fun s ecc addr => ⟨fun runs => ?_, fun stopped state active => ?_, fun inSram bank15 app poisoned => ?_⟩⟩
  · refine ⟨execBankRequest_wrongBank hb ok runs hrq, fun may busy => ?_, fun may idle => ?_, fun holder => execTransferEnd_granted hb runs holder ecc, fun unlocked holder => ?_, fun hem due may => ⟨fun alone => ?_, fun y rq10 due11 hy => ?_⟩⟩
    · exact (execBankRequest_queued hb ok runs hrq may).trans (next_core_congr (if_pos busy))
    · exact (execBankRequest_queued hb ok runs hrq may).trans (next_core_congr (if_neg (by rw [idle]; decide)))
    · exact execHoldOverrun_granted hb unlocked holder
    · exact (execEmergencyTransfer_due hb ok runs hem due none (Core.rq11First_none alone)).trans (next_after_congr (Core.emergency_moves may s.ram))
    · exact execEmergencyTransfer_due hb ok runs hem due (some y) (Core.rq11First_some rq10 due11 hy)
  · exact next_after_congr ((if_neg (by rw [runs]; decide)).trans rfl)
  · exact next_after_congr ((if_pos (by rw [stopped]; rfl)).trans (if_pos (by rw [state, active]; rfl)))
  · exact execPatternLineRepair_poisoned inSram bank15 app poisoned

end Sys2Proof.Machine
end

section
/-! SUPPORT. Where a plan's segments are over, and that every plan of a move is made of segments that take time; then the statement about moves. -/
namespace Sys2Proof.Machine

/-- Every segment takes some time or none. -/
def Timed (segs : List Seg) : Prop := ∀ s ∈ segs, 0 ≤ s.dur

theorem timed_nil : Timed [] := fun _ h => nomatch h

/-- Appending a segment keeps a plan timed: one without time is left out. -/
theorem timed_addSeg {plan : List Seg × Int} {dur : Rat} {v0 a : F32} (h : Timed plan.1) : Timed (addSeg plan dur v0 a).1 := by
  unfold addSeg
  split
  · exact h
  · next hpos =>
    intro s hs
    rcases List.mem_append.1 hs with hold | hnew
    · exact h s hold
    · rw [List.mem_singleton.1 hnew]
      exact Rat.le_of_lt (Rat.not_le.1 hpos)

/-- A trapezoid or triangle after a timed plan is timed (R142). -/
theorem timed_trapezoid {plan : List Seg × Int} {v : F32} {target : Int} {vmax acc dec : F32} (h : Timed plan.1) : Timed (trapezoid plan v target vmax acc dec) := by
  unfold trapezoid
  extract_lets d neg D v0 vm a b
  split
  · exact h
  · split
    · exact timed_addSeg (timed_addSeg (timed_addSeg h))
    · split
      · exact timed_addSeg (timed_addSeg (timed_addSeg h))
      · exact timed_addSeg (timed_addSeg h)

/-- A deceleration to rest is timed. -/
theorem timed_planStop {t p : Int} {v dec : F32} : Timed (planStop t p v dec).segs := by
  unfold planStop
  split
  · exact timed_nil
  · exact timed_addSeg timed_nil

/-- What a plan of a move is, however it reaches its target: timed segments, and then rest at the target. -/
structure Traj.MovesTo (tr : Traj) (target : Int) : Prop where
  timed : Timed tr.segs
  endPos : tr.endPos = target
  endVel : tr.endVel = 0

/-- A plan from any position and velocity ends at its target (R145). -/
theorem planToBrake_movesTo (t p : Int) (v : F32) (target : Int) (vmax acc dec brake : F32) : (planToBrake t p v target vmax acc dec brake).1.MovesTo target := by
  unfold planToBrake
  dsimp only
  split
  · exact ⟨timed_trapezoid timed_nil, rfl, rfl⟩
  · split
    · exact ⟨timed_trapezoid timed_planStop, rfl, rfl⟩
    · exact ⟨timed_trapezoid timed_nil, rfl, rfl⟩

/-- The length of a trajectory is the sum of its segments' lengths. -/
theorem Traj.dur_eq_sum (tr : Traj) : tr.dur = (tr.segs.map Seg.dur).sum := by
  unfold Traj.dur
  rw [← List.foldl_map (f := Seg.dur) (g := (· + ·)), ← List.sum_eq_foldl]

/-- Timed segments take some time or none together. -/
theorem Timed.sum_nonneg {segs : List Seg} (h : Timed segs) : 0 ≤ (segs.map Seg.dur).sum := by
  induction segs with
  | nil => exact Rat.le_refl
  | cons s rest ih =>
    rw [List.map_cons, List.sum_cons]
    exact Rat.add_nonneg (h s List.mem_cons_self) (ih fun x hx => h x (List.mem_cons_of_mem _ hx))

/-- From the end of its first segment on, a motion is that of the segments after it. -/
theorem evalSegs_cons_of_le (endPos : Int) (endVel : F32) {s : Seg} {rest : List Seg} {dt : Rat} (h : s.dur ≤ dt) :
    evalSegs endPos endVel (s :: rest) dt = evalSegs endPos endVel rest (dt - s.dur) := if_neg (Rat.not_lt.2 h)

/-- Once timed segments are over, the motion goes on from their end at the end's velocity (R140). -/
theorem evalSegs_over (endPos : Int) (endVel : F32) {segs : List Seg} (h : Timed segs) {dt : Rat} (hdt : (segs.map Seg.dur).sum ≤ dt) :
    evalSegs endPos endVel segs dt = evalSegs endPos endVel [] (dt - (segs.map Seg.dur).sum) := by
  induction segs generalizing dt with
  | nil => rw [List.map_nil, List.sum_nil, Rat.sub_eq_add_neg, Rat.neg_zero, Rat.add_zero]
  | cons s rest ih =>
    have hrest : Timed rest := fun x hx => h x (List.mem_cons_of_mem _ hx)
    rw [List.map_cons, List.sum_cons] at hdt ⊢
    have hfirst := (Rat.add_le_add_left (c := s.dur)).2 hrest.sum_nonneg
    rw [Rat.add_zero] at hfirst
    have hlater : (rest.map Seg.dur).sum ≤ dt - s.dur := Rat.add_le_iff_le_sub.1 (by rw [Rat.add_comm]; exact hdt)
    have hsub : dt - s.dur - (rest.map Seg.dur).sum = dt - (s.dur + (rest.map Seg.dur).sum) := by
      simp only [Rat.sub_eq_add_neg, Rat.neg_add, Rat.add_assoc]
    rw [evalSegs_cons_of_le _ _ (Rat.le_trans hfirst hdt), ih hrest hlater, hsub]

/-- A motion that rests at its end is there, at rest, whenever its timed segments are over. -/
theorem Traj.MovesTo.eval {tr : Traj} {target : Int} (h : tr.MovesTo target) {t : Int} (hend : tr.ended t = true) : tr.eval t = (target, 0, 0) := by
  obtain ⟨timed, endPos, endVel⟩ := h
  have hdur : (tr.segs.map Seg.dur).sum ≤ secsBetween tr.t0 t := by rw [← Traj.dur_eq_sum]; simpa [Traj.ended] using hend
  have hzero : (0 : F32).toRat = 0 := by decide +kernel
  rw [Traj.eval, evalSegs_over _ _ timed hdur, evalSegs, endPos, endVel, hzero, Rat.zero_mul, Rat.zero_mul]
  exact Prod.ext (by simp [ratTrunc]) rfl

/-- Settles O27: every plan is timed segments and then rest at the target, which is what a timed plan shows once its segments are over. -/
theorem movesEndAtTheirTarget : Obligations.MovesEndAtTheirTarget := by
  unfold Obligations.MovesEndAtTheirTarget
  intro t t' pos target v vmax acc dec hend
  exact (planToBrake_movesTo t pos v target vmax acc dec dec).eval hend

end Sys2Proof.Machine
end

section
/-! SUPPORT. What a step of network time does to the time, and a write of a register whose handler acts on what is written; then the statement about changes of time. -/
namespace Sys2Proof.Machine

/-! ### What a write hands to a register's handler (R3, R5) -/

/-- A plain writable register outside the ports that is no part of a 64-bit quantity, and what its handler does. -/
structure Reg.Handled (r : Reg) (f : Handler) : Prop where
  plain : r.plain = true
  writable : r.writable = true
  noSysHandler : sysHandlers.all (fun h => h.1.id != r.id) = true
  noHigh : highOf r = none
  noLow : lowOf r = none
  noPort : r.base / 0x10000 ≠ 0x4030
  handler : (handlers.find? (fun h => h.1.id == r.id)).map (fun h => h.2) = some f

/-- A served write that stores a bit or acts on one reaches the register's handler (R5, R19). -/
theorem Core.request_handled {c : Core} {p : Path} {r : Reg} {i : Nat} {f : Handler} (q : r.Handled f) (hi : i < r.count) (hu : c.unusedSlotReg r i = false) (h : Writes c p ⟨r, i⟩) {v : Word}
    (hv : c.stores p r i ≠ 0 ∨ v &&& r.actMask ≠ 0) (ram : Ram) :
    c.request ram p (⟨r, i⟩ : Loc).addr (some v) none = c.wrote ram p r i v (fun d => f d ram i (d.taken p r i v) (v &&& (c.stores p r i ||| r.actMask))) := by
  obtain ⟨plain, writable, noSys, noHigh, noLow, noPort, handler⟩ := q
  obtain ⟨e, he, rfl⟩ := Option.map_eq_some_iff.1 handler
  rw [Core.wrote_write h plain hi writable]
  refine Core.wrote_congr ?_ ram
  have hbits : (Decidable.decide (c.stores p r i = 0) && Decidable.decide (v &&& (c.stores p r i ||| r.actMask) = 0)) = false := by
    rw [Bool.and_eq_false_imp]
    intro h0
    rw [of_decide_eq_true h0, show (0 : Word) = 0#32 from rfl, BitVec.zero_or]
    exact decide_eq_false (hv.resolve_left (not_not_intro (of_decide_eq_true h0)))
  have hmask : (c.sent p (⟨r, i⟩ : Loc).addr [v]).portMask r i = BitVec.allOnes 32 := by simp only [Core.portMask, Core.portRegApplies_of_base noPort, if_true]; rfl
  unfold Core.effect
  rw [find?_reg_eq_none noSys]
  simp only [Core.pathWrite, noHigh, noLow, Core.applyWrite, Core.unusedSlotReg_sent, hu, Bool.false_eq_true, if_false, hmask, BitVec.and_allOnes, he, Core.stores_sent, hbits, Core.taken]

/-- A field within a mask is within a larger one. -/
theorem Fld.within_or {f : Fld} {m : Word} (h : f.within m = true) (n : Word) : f.within (n ||| m) = true :=
  List.all_eq_true.2 fun k hk => by rw [BitVec.getLsbD_or, Fld.getLsbD_of_within h (List.mem_range.1 hk), Bool.or_true]

/-- A field that a register acts on reaches its handler as it was written. -/
theorem Fld.read_acting {f : Fld} {r : Reg} (h : f.within r.actMask = true) (v store : Word) : f.read (v &&& (store ||| r.actMask)) = f.read v :=
  Fld.read_and (Fld.within_or h store) v

/-! ### Steps of network time (R139, R251) -/

/-- Logging leaves the time as it is. -/
@[simp] theorem Core.time_logFrom (c : Core) (origin code src arg : Nat) : (c.logFrom origin code src arg).time = c.time := by
  obtain ⟨⟨_, _, _, _, h⟩, _⟩ := c.logFrom_frame origin code src arg
  rw [h]

/-- Marking the rings leaves the time as it is. -/
@[simp] theorem Core.time_foldN_setRing (c : Core) (l : List Nat) (f : Core → Nat → Ring) : (foldN l c (fun d k => d.setRing k (f d k))).time = c.time :=
  foldN_keeps (fun d => d.time = c.time) (fun d k => d.setRing k (f d k)) l c rfl (fun _ _ h => h)

/-- A step sets network time, adds to the sum of the steps, and of the rest of the time changes the record of steps alone (R139, R251, R267). -/
theorem Core.time_stepTime (c : Core) (delta : Int) :
    ∃ steps storm, (c.stepTime delta).time = { c.time.setNs (c.netNs + delta) with stepSum := c.time.stepSum + delta, stepTimes := steps, storm := storm } := by
  unfold Core.stepTime
  extract_lets now t recent storm setTo c1 c2 c3 c4
  have h4 : c4.time = c1.time := by
    rw [Core.time_foldN_setRing, Core.time_logFrom, Core.addSat_time, Core.addWrap_time]
  refine ⟨recent.take 8, storm, ?_⟩
  split
  · split
    · exact h4
    · exact (Core.time_logFrom ..).trans h4
  · exact h4

/-- Network time takes a value in its range whole (R249). -/
theorem Time.setNs_ns (t : Time) {n : Int} (h0 : 0 ≤ n) (h : n < 2 ^ 48 * 1000000000) : ((t.setNs n).sec : Int) * 1000000000 + (t.setNs n).ns = n := by
  simp only [Time.setNs, Int.fdiv_eq_ediv_of_nonneg _ (show (0 : Int) ≤ 1000000000 by decide), Int.fmod_eq_emod_of_nonneg _ (show (0 : Int) ≤ 1000000000 by decide)]
  omega

/-- Network time after a step within its range. -/
theorem Core.netNs_stepTime (c : Core) {delta : Int} (h0 : 0 ≤ c.netNs + delta) (h : c.netNs + delta < 2 ^ 48 * 1000000000) : (c.stepTime delta).netNs = c.netNs + delta := by
  obtain ⟨_, _, htime⟩ := c.time_stepTime delta
  rw [Core.netNs, htime]
  exact Time.setNs_ns c.time h0 h

/-- A step within the range of network time leaves profile time continuous (R139). -/
theorem Core.profNs_stepTime (c : Core) {delta : Int} (h0 : 0 ≤ c.netNs + delta) (h : c.netNs + delta < 2 ^ 48 * 1000000000) : (c.stepTime delta).profNs = c.profNs := by
  obtain ⟨_, _, htime⟩ := c.time_stepTime delta
  have hsum : (c.stepTime delta).time.stepSum = c.time.stepSum + delta := by rw [htime]
  rw [Core.profNs, Core.profNs, c.netNs_stepTime h0 h, hsum]
  omega

/-! ### NT_CTRL.SET (R251, R267) -/

/-- The staged value in ns. -/
def Core.stagedNs (c : Core) : Int := ((c.reg R.NT_SET_SEC_LO 0).toNat + (c.get F.NT_SET_SEC_HI_SEC 0) * 2 ^ 32 : Nat) * 1000000000 + (c.reg R.NT_SET_NS 0).toNat

/-- A staged value whose ns are in their range is in that of network time (R249). -/
theorem Core.stagedNs_range {c : Core} (h : (c.reg R.NT_SET_NS 0).toNat < 1000000000) : 0 ≤ c.stagedNs ∧ c.stagedNs < 2 ^ 48 * 1000000000 := by
  have hlo := (c.reg R.NT_SET_SEC_LO 0).isLt
  have hhi : c.get F.NT_SET_SEC_HI_SEC 0 < 2 ^ 16 := Nat.mod_lt _ (by decide)
  unfold Core.stagedNs
  omega

/-- SET leaves profile time continuous, be it refused or a step to the staged value (R139, R251). -/
theorem Core.profNs_ntSet (c : Core) : c.ntSet.profNs = c.profNs := by
  unfold Core.ntSet
  extract_lets ns new d
  split
  · rfl
  · next hns =>
    obtain ⟨h0, h⟩ := Core.stagedNs_range (Nat.not_le.1 hns)
    have hnew : c.netNs + (c.stagedNs - c.netNs) = c.stagedNs := by omega
    exact c.profNs_stepTime (delta := c.stagedNs - c.netNs) (by rw [hnew]; exact h0) (by rw [hnew]; exact h)

theorem ntCtrl_handled : R.NT_CTRL.Handled (fun c _ _ _ act => if acts F.NT_CTRL_SET act then c.ntSet else c) := by
  constructor
  case handler => rfl
  all_goals decide +kernel

/-- A served write of NT_CTRL.SET steps network time, or refuses to (R251, R267). -/
theorem Core.request_ntSet {c : Core} {p : Path} (h : Writes c p ⟨R.NT_CTRL, 0⟩) (ram : Ram) :
    c.request ram p (⟨R.NT_CTRL, 0⟩ : Loc).addr (some (fieldWord F.NT_CTRL_SET 1)) none = c.wrote ram p R.NT_CTRL 0 (fieldWord F.NT_CTRL_SET 1) Core.ntSet := by
  have hstores : c.stores p R.NT_CTRL 0 = R.NT_CTRL.accMask FldDesc.stored := Core.stores_expert (h.expert (by decide)) (by decide)
  rw [Core.request_handled ntCtrl_handled (by decide) (by simp [Core.unusedSlotReg, R.NT_CTRL]) h (.inl ?_)]
  · have hact : acts F.NT_CTRL_SET (fieldWord F.NT_CTRL_SET 1 &&& (c.stores p R.NT_CTRL 0 ||| R.NT_CTRL.actMask)) = true := by rw [hstores]; decide
    simp only [hact, if_true]
  · rw [hstores]
    decide

/-- Settles O38: what a step adds to network time it adds to the sum that profile time leaves out; the other commands are their effect where the time island runs. -/
theorem timeChanges : Obligations.TimeChanges := by
  unfold Obligations.TimeChanges
  refine ⟨fun c delta h0 h => ⟨c.profNs_stepTime h0 h, c.netNs_stepTime h0 h, c.profNs_ntSet⟩, fun s p => ⟨fun h => next_after_congr (Core.request_ntSet h s.ram), fun runs => ?_, rfl⟩⟩
  refine ⟨next_core_congr (if_pos runs), next_core_congr (if_pos runs), next_core_congr (if_pos ?_)⟩
  exact runs

end Sys2Proof.Machine
end

section
/-! SUPPORT. Writes of the registers of an interpolation group, and what waited for a profile tick; then the statement about groups and the tick. -/
namespace Sys2Proof.Machine

/-! ### IG_CTRL and IG_CFG (R149–R151) -/

theorem igCtrl_handled : R.IG_CTRL.Handled (fun c _ g _ act => c.writeIgCtrl g (acts F.IG_CTRL_GO act) (acts F.IG_CTRL_STOP act)) := by
  constructor
  case handler => rfl
  all_goals decide +kernel

theorem igCfg_handled : R.IG_CFG.Handled (fun c _ g w _ => c.writeIgCfg g w) := by
  constructor
  case handler => rfl
  all_goals decide +kernel

/-- A register outside the slots has no slot that the pattern could leave unused (R19). -/
theorem Core.unusedSlotReg_of_base {r : Reg} (h : r.base / 0x10000 ≠ 0x4010) (c : Core) (i : Nat) : c.unusedSlotReg r i = false := by
  simp [Core.unusedSlotReg, h]

/-- A served write of IG_CTRL lets what it asks for wait (R149, R151). -/
theorem Core.request_igCtrl {c : Core} {p : Path} {g : Nat} (hg : g < 16) (h : Writes c p ⟨R.IG_CTRL, g⟩) {v : Word} (hv : v &&& R.IG_CTRL.actMask ≠ 0) (ram : Ram) :
    c.request ram p (⟨R.IG_CTRL, g⟩ : Loc).addr (some v) none = c.wrote ram p R.IG_CTRL g v (fun d => d.writeIgCtrl g (acts F.IG_CTRL_GO v) (acts F.IG_CTRL_STOP v)) := by
  rw [Core.request_handled igCtrl_handled hg (Core.unusedSlotReg_of_base (by decide) c g) h (.inr hv)]
  simp only [acts, Fld.read_acting (f := F.IG_CTRL_GO) (r := R.IG_CTRL) (by decide), Fld.read_acting (f := F.IG_CTRL_STOP) (r := R.IG_CTRL) (by decide)]

theorem Core.writeIgCtrl_go (c : Core) (g : Nat) : c.writeIgCtrl g true false = c.setIg g { c.igAt g with pendGo := true } := by
  simp only [Core.writeIgCtrl, Bool.or_true, Bool.or_false]
theorem Core.writeIgCtrl_stop (c : Core) (g : Nat) : c.writeIgCtrl g false true = c.setIg g { c.igAt g with pendStop := true } := by
  simp only [Core.writeIgCtrl, Bool.or_true, Bool.or_false]

/-- A path stores both fields of IG_CFG, whatever its rights (R5). -/
theorem Core.stores_igCfg (c : Core) (p : Path) (g : Nat) : c.stores p R.IG_CFG g = R.IG_CFG.accMask FldDesc.stored := by
  have hboth : ∀ x, c.storeMask R.IG_CFG g x = R.IG_CFG.accMask FldDesc.stored := fun x => by cases x <;> rfl
  exact hboth _

/-- What a write of IG_CFG does turns on its fields alone (R150). -/
theorem Core.writeIgCfg_congr (c : Core) (g : Nat) {w v : Word} (hm : F.IG_CFG_MASTER.read w = F.IG_CFG_MASTER.read v) (hd : F.IG_CFG_MDIR.read w = F.IG_CFG_MDIR.read v) : c.writeIgCfg g w = c.writeIgCfg g v := by
  simp only [Core.writeIgCfg, hm, hd]

/-- A served write of IG_CFG (R150). -/
theorem Core.request_igCfg {c : Core} {p : Path} {g : Nat} (hg : g < 16) (h : Writes c p ⟨R.IG_CFG, g⟩) (ram : Ram) (v : Word) :
    c.request ram p (⟨R.IG_CFG, g⟩ : Loc).addr (some v) none = c.wrote ram p R.IG_CFG g v (fun d => d.writeIgCfg g v) := by
  rw [Core.request_handled igCfg_handled hg (Core.unusedSlotReg_of_base (by decide) c g) h (.inl (by rw [Core.stores_igCfg]; decide))]
  refine Core.wrote_congr (Core.writeIgCfg_congr _ g ?_ ?_) ram
  · rw [Core.taken, Core.stores_igCfg]; exact Fld.read_taken (by decide) ..
  · rw [Core.taken, Core.stores_igCfg]; exact Fld.read_taken (by decide) ..

/-- A MASTER that R150 refuses: a used slot that is a member of a group or geared. -/
def Core.badMaster (c : Core) (m : Nat) : Prop := m < 128 ∧ (c.pat.slot m).kind ≠ 0 ∧ ((c.pat.slot m).ig < 16 ∨ (c.pat.slot m).gearKind ≠ 0)

theorem Core.badMaster_iff (c : Core) (m : Nat) :
    (m < 128 && (c.pat.slot m).kind ≠ 0 && ((c.pat.slot m).ig < 16 || (c.pat.slot m).gearKind ≠ 0)) = true ↔ c.badMaster m := by
  simp only [Core.badMaster, Bool.and_eq_true, Bool.or_eq_true, decide_eq_true_eq, and_assoc]

theorem Core.writeIgCfg_bad {c : Core} {g : Nat} {v : Word} (h : c.badMaster (F.IG_CFG_MASTER.read v)) : c.writeIgCfg g v = c.setBit F.IG_STAT_CFG_REFUSED g true :=
  if_pos ((c.badMaster_iff _).2 h)
theorem Core.writeIgCfg_good {c : Core} {g : Nat} {v : Word} (h : ¬c.badMaster (F.IG_CFG_MASTER.read v)) :
    c.writeIgCfg g v = (c.set F.IG_CFG_MASTER g (F.IG_CFG_MASTER.read v)).set F.IG_CFG_MDIR g (F.IG_CFG_MDIR.read v) :=
  if_neg (fun hb => h ((c.badMaster_iff _).1 hb))

/-! ### A profile tick (R141) -/

/-- What waited for the tick acts on its group: STOP wins over GO, and a group for which nothing waited stays as it was (R151). -/
theorem Core.igApply_waited (c : Core) (t : Int) (g : Nat) (go stop : Bool) :
    (if go || stop then c.igApply t g go stop else c) = if stop then c.stopPath g t else if go then c.igGo g t else c := by
  cases go <;> cases stop <;> rfl

/-- Settles O29: a write's handler sets what waits or judges MASTER, and a tick's list of what waited is that of its groups in order. -/
theorem interpolationAndTheTick : Obligations.InterpolationAndTheTick := by
  unfold Obligations.InterpolationAndTheTick
  intro s p g v hg
  refine ⟨fun h => ⟨?_, ?_⟩, fun h => ⟨fun hbad => ?_, fun hgood => ?_⟩, fun runs => ?_⟩
  · refine (inRange_of_lt _ _ hg).trans (next_after_congr ((Core.request_igCtrl hg h (by decide) s.ram).trans (Core.wrote_congr ?_ s.ram)))
    exact Core.writeIgCtrl_go _ g
  · refine (inRange_of_lt _ _ hg).trans (next_after_congr ((Core.request_igCtrl hg h (by decide) s.ram).trans (Core.wrote_congr ?_ s.ram)))
    exact Core.writeIgCtrl_stop _ g
  · refine (inRange_of_lt _ _ hg).trans (next_after_congr ((Core.request_igCfg hg h s.ram v).trans (Core.wrote_congr (Core.writeIgCfg_bad ?_) s.ram)))
    rw [Core.badMaster, Core.pat_sent]; exact hbad
  · refine (inRange_of_lt _ _ hg).trans (next_after_congr ((Core.request_igCfg hg h s.ram v).trans (Core.wrote_congr (Core.writeIgCfg_good ?_) s.ram)))
    rw [Core.badMaster, Core.pat_sent]; exact hgood
  · refine next_core_congr ?_
    unfold Core.profileTick
    simp only [runs, Bool.not_true, Bool.false_eq_true, if_false, List.foldl_map, Core.igApply_waited]
    rfl

end Sys2Proof.Machine
end

section
/-! SUPPORT. Writes of AX_CMD and of the two words of AX_TARGET, and what a slot that tracks or is in SS1 refuses; then the statement about slot commands. -/
namespace Sys2Proof.Machine

/-! ### AX_CMD (R141, R146, R155) -/

theorem axCmd_handled : R.AX_CMD.Handled (fun c _ k _ act => c.writeCmd k (F.AX_CMD_CMD.read act)) := by
  constructor
  case handler => rfl
  all_goals decide +kernel

/-- A command of a used slot waits, STOP also as one that wins over a target (R141, R146). -/
theorem Core.writeCmd_waits {c : Core} {k n : Nat} (used : (c.pat.slot k).kind ≠ 0) (h1 : 1 ≤ n) (h4 : n ≤ 4) :
    c.writeCmd k n = c.setProf k { c.profAt k with pendCmd := some n, pendStop := n == 2, cmdFirst := false } := by
  have hok : ¬((c.pat.slot k).kind = 0 || n = 0 || n > 4) = true := by simp [used]; omega
  rw [Core.writeCmd, if_neg hok]
  split
  · next h2 => subst h2; rfl
  · next h2 => rw [beq_false_of_ne h2]

/-- A served write of a command to AX_CMD of a used slot (R141, R146, R155). -/
theorem Core.request_axCmd {c : Core} {p : Path} {k n : Nat} (hk : k < 128) (used : (c.pat.slot k).kind ≠ 0) (h : Writes c p ⟨R.AX_CMD, k⟩) (h1 : 1 ≤ n) (h4 : n ≤ 4) (ram : Ram) :
    c.request ram p (⟨R.AX_CMD, k⟩ : Loc).addr (some (fieldWord F.AX_CMD_CMD n)) none =
      c.wrote ram p R.AX_CMD k (fieldWord F.AX_CMD_CMD n) (fun d => d.setProf k { d.profAt k with pendCmd := some n, pendStop := n == 2, cmdFirst := false }) := by
  have hread (store : Word) : F.AX_CMD_CMD.read (fieldWord F.AX_CMD_CMD n &&& (store ||| R.AX_CMD.actMask)) = n := by
    rw [Fld.read_acting (by decide), Fld.read_fieldWord _ _ (by decide)]
    exact Nat.mod_eq_of_lt (show n < 8 by omega)
  have hbits : fieldWord F.AX_CMD_CMD n &&& R.AX_CMD.actMask ≠ 0 := fun h0 => by
    have hn := hread 0
    rw [show (0 : Word) = 0#32 from rfl, BitVec.zero_or, h0] at hn
    exact absurd hn (by rw [show F.AX_CMD_CMD.read 0 = 0 from rfl]; omega)
  rw [Core.request_handled axCmd_handled hk (Core.unusedSlotReg_of_used used _) h (.inr hbits)]
  refine Core.wrote_congr ?_ ram
  simp only [hread]
  exact Core.writeCmd_waits (by rw [Core.pat_sent]; exact used) h1 h4

/-! ### What an earlier request of the path leaves of the next one's way (R103, R106) -/

/-- Which island holds a register turns on the pattern, the engines' lists and AX_STAT alone (Table 3.1). -/
theorem Core.islandOf_congr {c d : Core} (pat : d.pat = c.pat) (engines : d.engines = c.engines) (stat : ∀ i, d.reg R.AX_STAT i = c.reg R.AX_STAT i) (a : Nat) : d.islandOf a = c.islandOf a := by
  have hget : ∀ i, d.get F.AX_STAT_ENGINE i = c.get F.AX_STAT_ENGINE i := fun i => congrArg F.AX_STAT_ENGINE.read (stat i)
  have heng : ∀ i, d.hostEngine i = c.hostEngine i := fun i => by
    rw [Core.hostEngine, engines, hget i]; rfl
  have hold : ∀ (r : Reg) (i : Nat), d.holder r i = c.holder r i := fun r i => by
    unfold Core.holder Core.hasContext
    rw [pat, heng i]
  simp only [Core.islandOf, hold]

/-- An accepted request leaves the pattern and the engines' lists (R106). -/
theorem Core.islandOf_accepted (c : Core) (p : Path) (a : Nat) : (c.accepted p).islandOf a = c.islandOf a := by
  have hstat : ∀ i, (c.accepted p).reg R.AX_STAT i = c.reg R.AX_STAT i := fun i => Core.reg_accepted c p (by decide) (by decide)
  obtain ⟨_, _, _, e⟩ := c.accepted_frame p
  exact Core.islandOf_congr (by rw [e]) (by rw [e]) hstat a

/-- The parts `d` after a served request of a path on the parts `c`, where nothing waits, so far as they decide whether the path's next request is served. -/
structure Core.Follows (c d : Core) (p : Path) : Prop where
  regs : ∀ (r : Reg) (i : Nat), r.id < 512 → r.id ≠ R.EN_HOST_WD.id → d.reg r i = c.reg r i
  pat : d.pat = c.pat
  engines : d.engines = c.engines
  sessions : d.sessions = c.sessions
  silent : d.silent = c.silent
  isl : d.isl = (c.accepted p).isl
  stalls : d.stalls = []
  strapWait : d.strapWait = none

namespace Core.Follows
variable {c d : Core} {p : Path} (f : c.Follows d p)
include f

theorem islState (i : Nat) : d.islState i = (c.accepted p).islState i := by
  unfold Core.islState
  rw [f.isl]

/-- The application island already runs: accepting the next request leaves the islands (R106). -/
theorem islState_accepted (i : Nat) : (d.accepted p).islState i = (c.accepted p).islState i := by
  rw [← f.islState i]
  cases p with
  | strap sid =>
    have happ : d.islState 0x25 ≠ 1 := by
      rw [f.islState, Core.islState_accepted_strap, Core.app_pokeApp]
      split <;> omega
    rw [Core.islState_accepted_strap, Core.pokeApp, if_neg happ]
  | awl => rfl
  | tansy => rfl

theorem get (g : Fld) (i : Nat) (hr : g.reg.id < 512) (hne : g.reg.id ≠ R.EN_HOST_WD.id) : d.get g i = c.get g i := by
  rw [Core.get, f.regs _ i hr hne]; rfl

theorem sessAt (sid : Nat) : d.sessAt sid = c.sessAt sid := by rw [Core.sessAt, f.sessions]; rfl

theorem expert : d.expert p = c.expert p := by
  cases p with
  | strap sid => simp only [Core.expert, f.sessAt]
  | awl => rfl
  | tansy => rfl

theorem heard (h : c.heard p = true) : d.heard p = true := by
  have hnet : ∀ sid, (c.accepted (.strap sid)).islState 0x23 = c.islState 0x23 := fun sid => by
    rw [Core.islState_accepted_strap, Core.pokeApp]
    split
    · exact Core.islState_setIsl_ne c 0 (by decide)
    · rfl
  cases p with
  | strap sid => rw [← h]; simp only [Core.heard, Core.runs, f.islState, hnet]
  | awl =>
    rw [← h]
    simp only [Core.heard, Core.runs, f.islState, Core.bit, f.get F.SYS_AWL_ENABLE 0 (by decide) (by decide)]
    rfl
  | tansy => rw [← h]; simp only [Core.heard, Core.runs, f.islState]; rfl

theorem allowed {a : Nat} {rd : Bool} (h : c.pathRefusal p a rd = 0) : d.pathRefusal p a rd = 0 := by
  cases p with
  | strap sid =>
    have happ : d.islState 0x25 = 5 ↔ c.islState 0x25 = 5 := by
      rw [f.islState, Core.islState_accepted_strap, Core.app_pokeApp]
      split <;> omega
    rw [← h]
    simp only [Core.pathRefusal, f.sessAt, happ]
  | awl => rfl
  | tansy => rfl

theorem free : (d.accepted p).engineBusy p = false := by
  obtain ⟨_, _, _, e⟩ := d.accepted_frame p
  rw [e]
  simp [Core.engineBusy, f.stalls, f.strapWait]

theorem islandOf (a : Nat) : (d.accepted p).islandOf a = (c.accepted p).islandOf a := by
  rw [Core.islandOf_accepted, Core.islandOf_accepted]
  exact Core.islandOf_congr f.pat f.engines (fun i => f.regs _ i (by decide) (by decide)) a

theorem stallsOn (i : Nat) : (d.accepted p).stallsOn i = (c.accepted p).stallsOn i := by
  have hwake : (d.accepted p).reg R.SYS_WAKE_ON_ACCESS 0 = (c.accepted p).reg R.SYS_WAKE_ON_ACCESS 0 := by
    rw [Core.reg_accepted d p (by decide) (by decide), Core.reg_accepted c p (by decide) (by decide), f.regs _ _ (by decide) (by decide)]
  have hbit : ∀ g : Fld, g.reg = R.SYS_WAKE_ON_ACCESS → (d.accepted p).bit g 0 = (c.accepted p).bit g 0 := fun g hg => by
    rw [Core.bit, Core.bit, Core.get, Core.get, hg, hwake]
  simp only [Core.stallsOn, f.islState_accepted, hbit F.SYS_WAKE_ON_ACCESS_EN rfl, hbit F.SYS_WAKE_ON_ACCESS_PGATED rfl]

/-- A write that the path could make before its earlier request it can make after it. -/
theorem writes {l : Loc} (h : Writes c p l) : Writes d p l where
  heard := f.heard h.heard
  allowed := f.allowed h.allowed
  free := f.free
  awake := by rw [f.islandOf, f.stallsOn]; exact h.awake
  runs := by rw [f.islandOf, Core.runs, f.islState_accepted]; exact h.runs
  acks := by rw [f.silent]; exact h.acks
  entitled := by rw [f.expert]; exact h.entitled
  notMirrored := by
    have hsby : d.isStandby = c.isStandby := by rw [Core.isStandby, f.get F.TW_ROLE_ROLE 0 (by decide) (by decide)]; rfl
    rw [hsby]; exact h.notMirrored

end Core.Follows

/-! ### AX_TARGET (R4, R141, R142) -/

/-- A low word waits on its path, in place of an earlier one (R4). -/
def Core.pendsLow (c : Core) (p : Path) (a : Nat) (lo : Word) : Core := { c with pendLow := c.otherPend p a ++ [(p, a, lo)] }

/-- The low word that waits is the one that the high word applies with. -/
theorem Core.lowWord_of_pendsLow {c d : Core} {p : Path} {lo : Reg} {i : Nat} {w : Word} (h : d.pendLow = (c.pendsLow p (⟨lo, i⟩ : Loc).addr w).pendLow) : d.lowWord p lo i = w := by
  have hnone : (c.otherPend p (⟨lo, i⟩ : Loc).addr).find? (fun e => e.1 = p && e.2.1 = (⟨lo, i⟩ : Loc).addr) = none := by
    rw [List.find?_eq_none]
    intro e he
    have hother := (List.mem_filter.1 he).2
    rw [Bool.not_eq_true', ← Bool.not_eq_true] at hother
    exact hother
  simp [Core.lowWord, h, Core.pendsLow, List.find?_append, hnone]

@[simp] theorem Core.pendLow_sent (c : Core) (p : Path) (a : Nat) (ws : List Word) : (c.sent p a ws).pendLow = c.pendLow := by
  obtain ⟨_, _, _, e⟩ := c.sent_frame p a ws; rw [e]

/-- The path's next request finds what the first one found. -/
theorem Core.follows_sent {c : Core} (q : c.Quiet) (p : Path) (a : Nat) (ws : List Word) : c.Follows (c.sent p a ws) p := by
  have hisl : (c.sent p a ws).isl = (c.accepted p).isl := by
    obtain ⟨_, e⟩ := (c.accepted p).sendWords_frame 0x25 ((c.accepted p).islandOf a) (BitVec.ofNat 32 a :: ws)
    rw [Core.sent, e]; rfl
  obtain ⟨_, _, _, es⟩ := c.sent_frame p a ws
  exact ⟨fun r i hr hne => Core.reg_sent c p a ws hr hne, by rw [es], by rw [es], by rw [es], by rw [es], hisl, (q.sent p a ws).stalls, (q.sent p a ws).strapWait⟩

/-- A low word that waits, the CHANGE record and the reply do not bear on it. -/
theorem Core.Follows.pendsLow {c d : Core} {p : Path} (f : c.Follows d p) (a : Nat) (w : Word) : c.Follows (d.pendsLow p a w) p :=
  ⟨f.regs, f.pat, f.engines, f.sessions, f.silent, f.isl, f.stalls, f.strapWait⟩
theorem Core.Follows.sendChange {c d : Core} {p : Path} (f : c.Follows d p) (r : Reg) (i : Nat) (w : Word) : c.Follows (d.sendChange r i w) p := by
  obtain ⟨_, e⟩ := d.sendChange_frame r i w
  rw [e]
  exact ⟨f.regs, f.pat, f.engines, f.sessions, f.silent, f.isl, f.stalls, f.strapWait⟩
theorem Core.Follows.answer {c d : Core} {p : Path} (f : c.Follows d p) (st : Nat) (ws : List Word) : c.Follows (d.answer st ws) p :=
  ⟨f.regs, f.pat, f.engines, f.sessions, f.silent, f.isl, f.stalls, f.strapWait⟩

@[simp] theorem Core.pendLow_sendChange (c : Core) (r : Reg) (i : Nat) (w : Word) : (c.sendChange r i w).pendLow = c.pendLow := by
  obtain ⟨_, e⟩ := c.sendChange_frame r i w; rw [e]

theorem Core.Quiet.pendsLow {c : Core} (h : c.Quiet) (p : Path) (a : Nat) (w : Word) : (c.pendsLow p a w).Quiet := ⟨h.deferred, h.stalls, h.strapWait⟩

/-- Where nothing is owed or waits, after a served write of a low word that word waits, and the path's next request finds what this one found (R4). -/
theorem Core.wrote_pendsLow {c : Core} (q : c.Quiet) (p : Path) (r : Reg) (i : Nat) (v : Word) (ram : Ram) :
    let d := c.wrote ram p r i v (fun d => d.pendsLow p (⟨r, i⟩ : Loc).addr v)
    c.Follows d p ∧ d.pendLow = (c.pendsLow p (⟨r, i⟩ : Loc).addr v).pendLow := by
  dsimp only
  rw [Core.wrote_quiet ((q.sent p _ [v]).pendsLow p _ v)]
  refine ⟨(((Core.follows_sent q p _ [v]).pendsLow _ v).sendChange r i _).answer 0 [], ?_⟩
  rw [Core.answer_pendLow, Core.pendLow_sendChange, Core.pendsLow, Core.pendsLow, Core.otherPend, Core.otherPend, Core.pendLow_sent]

/-- A served write of AX_TARGET's low word waits on its path (R4). -/
theorem Core.request_targetLow {c : Core} {p : Path} {k : Nat} (hk : k < 128) (h : Writes c p ⟨R.AX_TARGET_LO, k⟩) (ram : Ram) (lo : Word) :
    c.request ram p (⟨R.AX_TARGET_LO, k⟩ : Loc).addr (some lo) none = c.wrote ram p R.AX_TARGET_LO k lo (fun d => d.pendsLow p (⟨R.AX_TARGET_LO, k⟩ : Loc).addr lo) := by
  rw [Core.wrote_write h (by decide +kernel) hk (by decide)]
  exact Core.wrote_congr (Core.effect_low (lo := R.AX_TARGET_LO) (hi := R.AX_TARGET_HI) (by decide) (by decide) (by decide +kernel) ..) ram

/-- A target of a used slot waits for the next tick (R141, R142). -/
theorem Core.writeTarget_waits {c : Core} {k : Nat} (used : (c.pat.slot k).kind ≠ 0) (t : Int) :
    c.writeTarget k t =
      (let d := c.set64 R.AX_TARGET_LO R.AX_TARGET_HI k t
       d.setProf k { d.profAt k with pendTarget := some t, cmdFirst := (d.profAt k).pendCmd.isSome }) := if_neg used

/-- A write of AX_TARGET's high word makes the target whole with the low word, and nothing waits for it any longer (R4, R142). -/
theorem Core.effect_targetHigh {c : Core} {k : Nat} (used : (c.pat.slot k).kind ≠ 0) (ram : Ram) (p : Path) (v store act : Word) :
    c.effect ram p R.AX_TARGET_HI k v store act =
      { c with pendLow := c.otherPend p (⟨R.AX_TARGET_LO, k⟩ : Loc).addr }.writeTarget k (v ++ c.lowWord p R.AX_TARGET_LO k : BitVec 64).toInt := by
  have hsys : sysHandlers.all (fun x => x.1.id != R.AX_TARGET_HI.id) = true := by decide +kernel
  have hhigh : highOf R.AX_TARGET_HI = none := by decide
  have hlow : lowOf R.AX_TARGET_HI = some R.AX_TARGET_LO := by decide
  have hstored : R.AX_TARGET_LO.flds.any FldDesc.stored = true := by decide
  have hused : ∀ l, ({ c with pendLow := l } : Core).unusedSlotReg R.AX_TARGET_LO k = false := fun l => Core.unusedSlotReg_of_used (c := { c with pendLow := l }) used _
  unfold Core.effect Core.lowWord Core.otherPend
  rw [find?_reg_eq_none hsys]
  simp only [Core.pathWrite, hhigh, hlow, hstored, Bool.not_true, Bool.false_eq_true, if_false, Core.writeQuad, hused, if_true]
  cases c.pendLow.find? (fun e => e.1 = p && e.2.1 = (⟨R.AX_TARGET_LO, k⟩ : Loc).addr) <;> rfl

/-- A served write of AX_TARGET's high word (R4, R142). -/
theorem Core.request_targetHigh {c : Core} {p : Path} {k : Nat} (hk : k < 128) (used : (c.pat.slot k).kind ≠ 0) (h : Writes c p ⟨R.AX_TARGET_HI, k⟩) (ram : Ram) (hi : Word) :
    c.request ram p (⟨R.AX_TARGET_HI, k⟩ : Loc).addr (some hi) none = c.wrote ram p R.AX_TARGET_HI k hi (fun d =>
      { d with pendLow := d.otherPend p (⟨R.AX_TARGET_LO, k⟩ : Loc).addr }.writeTarget k (hi ++ d.lowWord p R.AX_TARGET_LO k : BitVec 64).toInt) := by
  rw [Core.wrote_write h (by decide +kernel) hk (by decide)]
  exact Core.wrote_congr (Core.effect_targetHigh (by rw [Core.pat_sent]; exact used) ..) ram

/-- A 64-bit quantity is its high word before its low word. -/
theorem append_words (v : BitVec 64) : v.extractLsb' 32 32 ++ v.extractLsb' 0 32 = v := by
  apply BitVec.eq_of_getLsbD_eq
  intro i hi
  rw [BitVec.getLsbD_append]
  by_cases h : i < 32
  · simp [h]
  · simp [h, show i - 32 < 32 by omega, show 32 + (i - 32) = i by omega]

/-- Where nothing is owed or waits, writes of both words make a target of a used slot wait (R4, R141, R142). -/
theorem Core.request_target {c : Core} {p : Path} {k : Nat} (q : c.Quiet) (hk : k < 128) (used : (c.pat.slot k).kind ≠ 0) (hlo : Writes c p ⟨R.AX_TARGET_LO, k⟩) (hhi : Writes c p ⟨R.AX_TARGET_HI, k⟩)
    (ram : Ram) (v : BitVec 64) :
    (c.request ram p (⟨R.AX_TARGET_LO, k⟩ : Loc).addr (some (v.extractLsb' 0 32)) none).request ram p (⟨R.AX_TARGET_HI, k⟩ : Loc).addr (some (v.extractLsb' 32 32)) none =
      (c.wrote ram p R.AX_TARGET_LO k (v.extractLsb' 0 32) (fun d => d.pendsLow p (⟨R.AX_TARGET_LO, k⟩ : Loc).addr (v.extractLsb' 0 32))).wrote ram p R.AX_TARGET_HI k (v.extractLsb' 32 32) (fun d =>
        let e := ({ d with pendLow := d.otherPend p (⟨R.AX_TARGET_LO, k⟩ : Loc).addr }).set64 R.AX_TARGET_LO R.AX_TARGET_HI k v.toInt
        e.setProf k { e.profAt k with pendTarget := some v.toInt, cmdFirst := (e.profAt k).pendCmd.isSome }) := by
  obtain ⟨f, hpend⟩ := Core.wrote_pendsLow q p R.AX_TARGET_LO k (v.extractLsb' 0 32) ram
  rw [Core.request_targetLow hk hlo, Core.request_targetHigh hk (by rw [f.pat]; exact used) (f.writes hhi)]
  refine Core.wrote_congr ?_ ram
  rw [Core.lowWord_of_pendsLow ((Core.pendLow_sent ..).trans hpend), append_words]
  exact Core.writeTarget_waits (by rw [Core.pat_sent, f.pat]; exact used) v.toInt

/-! ### Slots that track or are in SS1 (R148) -/

/-- A slot in STO_TRACK or SS1 ignores a target (R148). -/
theorem Core.applyTarget_ignored {c : Core} {k : Nat} (h : (c.tracking k || (c.profAt k).ss1) = true) (target t : Int) : c.applyTarget k target t = c.setBit F.AX_PSTAT_TARGET_IGNORED k true := by
  simp only [Core.applyTarget, h, if_true]

/-- A slot in STO_TRACK or SS1 refuses every command (R148). -/
theorem Core.applyCmd_refused {c : Core} {k : Nat} (h : (c.tracking k || (c.profAt k).ss1) = true) {cmd : Nat} (h1 : 1 ≤ cmd) (h4 : cmd ≤ 4) (t : Int) : c.applyCmd k cmd t = c.setBit F.AX_PSTAT_CMD_REFUSED k true := by
  match cmd, h1, h4 with
  | 1, _, _ => simp only [Core.applyCmd, Core.applyJog, h, Bool.true_or, if_true, Core.cmdRefused]
  | 2, _, _ => simp only [Core.applyCmd, Core.applyStop, h, if_true, Core.cmdRefused]
  | 3, _, _ => simp only [Core.applyCmd, Core.applyEngage, h, Bool.true_or, if_true, Core.cmdRefused]
  | 4, _, _ => simp only [Core.applyCmd, Core.applyDisengage, h, Bool.true_or, if_true, Core.cmdRefused]

/-- Settles O26: a command is a write of AX_CMD, a target two writes of which the first leaves the second's way free; a slot that tracks or is in SS1 refuses before it looks at anything else. -/
theorem slotCommands : Obligations.SlotCommands := by
  unfold Obligations.SlotCommands
  refine ⟨fun s p k hk used h => ?_, fun s p k v hk used deferred stalls strapWait hlo hhi => ?_, fun c k t target h => ?_⟩
  · have waits (n : Nat) (h1 : 1 ≤ n) (h4 : n ≤ 4) := (inRange_of_lt "slot" _ hk).trans (next_after_congr (s := s) (Core.request_axCmd hk used h h1 h4 s.ram))
    exact ⟨waits 1 (by decide) (by decide), waits 2 (by decide) (by decide), waits 3 (by decide) (by decide), waits 4 (by decide) (by decide)⟩
  · refine (inRange_of_lt _ _ hk).trans (next_after_congr ?_)
    exact Core.request_target ⟨deferred, stalls, strapWait⟩ hk used hlo hhi s.ram v
  · have hrefuses : (c.tracking k || (c.profAt k).ss1) = true := by simpa using h
    exact ⟨Core.applyTarget_ignored hrefuses target t, fun cmd h1 h4 => Core.applyCmd_refused hrefuses h1 h4 t⟩

end Sys2Proof.Machine
end

section
/-! SUPPORT. Writes of the loop parameters, the coefficient and phase-advance entries, AX_COEF_CTRL and AX_LCFG of a slot, and reads of the entries; then the statement about how loops are tuned. -/
namespace Sys2Proof.Machine

/-! ### Registers that are one whole word (R5, R7) -/

/-- Every bit of the register is RW or RWX; where it has no RWX bit, by which only Expert paths may write it, every bit is RW (R5, R7). -/
structure Reg.Whole (r : Reg) : Prop where
  notCanData : r.id ≠ R.CN_OBJ_DATA.id
  stored : r.accMask FldDesc.stored = BitVec.allOnes 32
  basic : r.accMask (fun f => f.acc = .rwx) ≠ 0 ∨ r.accMask (fun f => f.acc = .rw) = BitVec.allOnes 32

/-- A path that may write a whole register stores every bit of it. -/
theorem Writes.stores_whole {c : Core} {p : Path} {r : Reg} {i : Nat} (h : Writes c p ⟨r, i⟩) (w : r.Whole) : c.stores p r i = BitVec.allOnes 32 := by
  cases he : c.expert p with
  | true => rw [Core.stores_expert he w.notCanData, w.stored]
  | false =>
    have hrwx : r.accMask (fun f => f.acc = .rwx) = 0 := h.entitled.resolve_left (by rw [he]; exact Bool.false_ne_true)
    rw [Core.stores, Core.storeMask, if_neg w.notCanData, he]
    simp only [Bool.false_and, Bool.or_false]
    exact w.basic.resolve_left (not_not_intro hrwx)

/-- The register then takes the word as it was written. -/
theorem Core.taken_whole {c : Core} {p : Path} {r : Reg} {i : Nat} (h : c.stores p r i = BitVec.allOnes 32) (v : Word) : c.taken p r i v = v := by
  rw [Core.taken, h, BitVec.not_allOnes, BitVec.and_zero, BitVec.zero_or, BitVec.and_allOnes]

/-- A served write of a whole register of a used slot hands the word written to the register's handler (R5, R19). -/
theorem Core.request_whole {c : Core} {p : Path} {r : Reg} {k : Nat} {f : Handler} (q : r.Handled f) (w : r.Whole) (hk : k < r.count) (used : (c.pat.slot k).kind ≠ 0) (h : Writes c p ⟨r, k⟩) (ram : Ram) (v : Word) :
    c.request ram p (⟨r, k⟩ : Loc).addr (some v) none = c.wrote ram p r k v (fun d => f d ram k v v) := by
  have hall := h.stores_whole w
  rw [Core.request_handled q hk (Core.unusedSlotReg_of_used used r) h (.inl (by rw [hall]; decide))]
  refine Core.wrote_congr ?_ ram
  rw [Core.taken_whole (by rw [Core.stores_sent, hall]), hall, BitVec.allOnes_or, BitVec.and_allOnes]

/-! ### Loop parameters (R187, R214) -/

/-- In the parameters' list the offset in the AX_ block names the register. -/
theorem paramRegs_find?_offset : ∀ r ∈ paramRegs, paramRegs.find? (fun q => q.base == 0x40100000 + (r.base - 0x40100000)) = some r := by decide +kernel
/-- So does the register's number. -/
theorem paramRegs_find?_id : ∀ r ∈ paramRegs, paramRegs.find? (fun q => q.id == r.id) = some r := by decide +kernel
theorem paramRegs_count : ∀ r ∈ paramRegs, r.count = 128 := by decide +kernel
theorem paramRegs_plain : ∀ r ∈ paramRegs, r.plain = true := by decide +kernel
theorem paramRegs_alone : ∀ r ∈ paramRegs, r.writable = true ∧ sysHandlers.all (fun h => h.1.id != r.id) = true ∧ highOf r = none ∧ lowOf r = none ∧ r.base / 0x10000 ≠ 0x4030 := by decide +kernel
/-- No loop parameter is the register of the slot's loop flags. -/
theorem paramRegs_id : ∀ r ∈ paramRegs, r.id < 512 ∧ r.id ≠ R.AX_LSTAT.id := by decide +kernel

theorem paramReg_whole {r : Reg} (hr : r ∈ paramRegs) : r.Whole := by
  have h : ∀ q ∈ paramRegs, q.id ≠ R.CN_OBJ_DATA.id ∧ q.accMask FldDesc.stored = BitVec.allOnes 32 ∧ (q.accMask (fun f => f.acc = .rwx) ≠ 0 ∨ q.accMask (fun f => f.acc = .rw) = BitVec.allOnes 32) := by decide +kernel
  obtain ⟨notCanData, stored, basic⟩ := h r hr
  exact ⟨notCanData, stored, basic⟩

theorem paramReg_handled {r : Reg} (hr : r ∈ paramRegs) : r.Handled (fun c _ k w _ => c.writeParam k r w) := by
  obtain ⟨writable, noSys, noHigh, noLow, noPort⟩ := paramRegs_alone r hr
  refine ⟨paramRegs_plain r hr, writable, noSys, noHigh, noLow, noPort, ?_⟩
  have hfind : (paramRegs.map (fun q => (q, (fun c _ k w _ => c.writeParam k q w : Handler)))).find? (fun h => h.1.id == r.id) = some (r, fun c _ k w _ => c.writeParam k r w) := by
    rw [List.find?_map, show ((fun h : Reg × Handler => h.1.id == r.id) ∘ fun q => (q, fun c _ k w _ => c.writeParam k q w)) = fun q => q.id == r.id from rfl, paramRegs_find?_id r hr]
    rfl
  simp only [handlers, axHandlers, List.append_assoc, List.find?_append, hfind, Option.some_or, Option.map_some]

/-- LOOP_PARAM_WRITE is a write of the register that its offset names. -/
theorem execLoopParamWrite_reg {r : Reg} (hr : r ∈ paramRegs) {k : Nat} (hk : k < 128) (s : State) (p : Path) (v : Word) :
    execLoopParamWrite s p k (r.base - 0x40100000) v = .next (s.after (s.core.request s.ram p (⟨r, k⟩ : Loc).addr (some v) none)) := by
  rw [execLoopParamWrite, axParam, inRange_of_lt _ _ hk, paramRegs_find?_offset r hr]
  rfl

/-- The value is a finite one of 0 or more that would make VLO reach VHI or VHI reach VLO (R214). -/
def Core.crosses (c : Core) (k : Nat) (r : Reg) (v : Word) : Prop :=
  F32.nonneg v = true ∧ ((r.id = R.AX_SL_VLO.id ∧ F32.le (c.param k R.AX_SL_VHI) v = true) ∨ (r.id = R.AX_SL_VHI.id ∧ F32.le v (c.param k R.AX_SL_VLO) = true))

/-- The guard of a parameter's write says just that. -/
theorem Core.crosses_iff (c : Core) (k : Nat) (r : Reg) (v : Word) :
    ((r.id = R.AX_SL_VLO.id || r.id = R.AX_SL_VHI.id) && F32.nonneg v &&
      F32.le (if r.id = R.AX_SL_VHI.id then v else c.param k R.AX_SL_VHI) (if r.id = R.AX_SL_VLO.id then v else c.param k R.AX_SL_VLO)) = true ↔ c.crosses k r v := by
  have happart : R.AX_SL_VLO.id ≠ R.AX_SL_VHI.id := by decide
  unfold Core.crosses
  by_cases hlo : r.id = R.AX_SL_VLO.id
  · simp [hlo, happart]
  · by_cases hhi : r.id = R.AX_SL_VHI.id
    · simp [hhi, happart.symm]
    · simp [hlo, hhi]

/-- A VLO or VHI that would cross the other is discarded and shown (R214). -/
theorem Core.writeParam_crossing {c : Core} {k : Nat} {r : Reg} {v : Word} (h : c.crosses k r v) : c.writeParam k r v = c.setBit F.AX_LSTAT_CFG_REFUSED k true :=
  if_pos ((c.crosses_iff k r v).2 h)
/-- Any other valid value is stored (R187). -/
theorem Core.writeParam_valid {c : Core} {k : Nat} {r : Reg} {v : Word} (h : ¬c.crosses k r v) (hv : paramValid r v = true) : c.writeParam k r v = c.setReg r k v :=
  (if_neg (fun hc => h ((c.crosses_iff k r v).1 hc))).trans (if_pos hv)
/-- The slot's context keeps a value of a parameter as the last valid one (R187). -/
def Core.keepParam (c : Core) (k : Nat) (r : Reg) (w : Word) : Core := c.setCtx k { c.ctxAt k with valid := Tab.set (BitVec.ofNat 32 r.reset) (c.ctxAt k).valid r.id w }
/-- An invalid value is stored and shown, and what was in force is kept (R187). -/
theorem Core.writeParam_invalid {c : Core} {k : Nat} {r : Reg} {v : Word} (h : ¬c.crosses k r v) (hv : paramValid r v = false) :
    c.writeParam k r v = ((c.setReg r k v).keepParam k r (c.param k r)).setBit F.AX_LSTAT_CFG_REFUSED k true :=
  (if_neg (fun hc => h ((c.crosses_iff k r v).1 hc))).trans (if_neg (ne_true_of_eq_false hv))

/-- What a write that does not cross leaves in the register, in force, and in CFG_REFUSED (R187). -/
theorem Core.writeParam_spec {c : Core} {k : Nat} {r : Reg} {v : Word} (hr : r ∈ paramRegs) (h : ¬c.crosses k r v) :
    let d := c.writeParam k r v
    d.reg r k = v ∧ d.param k r = (if paramValid r v then v else c.param k r) ∧ d.bit F.AX_LSTAT_CFG_REFUSED k = (c.bit F.AX_LSTAT_CFG_REFUSED k || !paramValid r v) := by
  obtain ⟨hid, hne⟩ := paramRegs_id r hr
  dsimp only
  cases hv : paramValid r v with
  | true =>
    rw [Core.writeParam_valid h hv]
    have hreg : (c.setReg r k v).reg r k = v := Core.reg_setReg_self ..
    refine ⟨hreg, ?_, ?_⟩
    · rw [Core.param, hreg, hv, if_pos rfl, if_pos rfl]
    · rw [Bool.not_true, Bool.or_false]
      exact congrArg (fun w => F.AX_LSTAT_CFG_REFUSED.read w == 1) (Core.reg_setReg_of_id c v hid (by decide) hne)
  | false =>
    rw [Core.writeParam_invalid h hv]
    have hreg : (((c.setReg r k v).keepParam k r (c.param k r)).setBit F.AX_LSTAT_CFG_REFUSED k true).reg r k = v :=
      (Core.reg_setReg_of_id _ _ (by decide) hid hne.symm).trans (Core.reg_setReg_self ..)
    have hkept : ((((c.setReg r k v).keepParam k r (c.param k r)).setBit F.AX_LSTAT_CFG_REFUSED k true).ctxAt k).valid = Tab.set (BitVec.ofNat 32 r.reset) ((c.setReg r k v).ctxAt k).valid r.id (c.param k r) :=
      congrArg Context.valid (Core.ctxAt_setCtx (c.setReg r k v) k _)
    refine ⟨hreg, ?_, ?_⟩
    · rw [Core.param, hreg, hv, if_neg Bool.false_ne_true, if_neg Bool.false_ne_true, hkept, Tab.get_set_self]
    · rw [Core.bit_setBit _ _ _ _ (by decide) rfl, Bool.not_false, Bool.or_true]

/-! ### What a request leaves of a slot -/

@[simp] theorem Core.ctxAt_sent (c : Core) (p : Path) (n : Nat) (ws : List Word) (k : Nat) : (c.sent p n ws).ctxAt k = c.ctxAt k := by
  obtain ⟨_, _, _, h⟩ := c.sent_frame p n ws; rw [h]; rfl
theorem Core.get_sent (c : Core) (p : Path) (n : Nat) (ws : List Word) {f : Fld} (i : Nat) (hr : f.reg.id < 512) (hne : f.reg.id ≠ R.EN_HOST_WD.id) : (c.sent p n ws).get f i = c.get f i := by
  rw [Core.get, Core.reg_sent c p n ws hr hne]; rfl

/-- A served read turns on what its effect does to the request as the register finds it. -/
theorem Core.wasRead_congr {c : Core} {p : Path} {r : Reg} {i : Nat} {w : Word} {f g : Core → Core} (h : f (c.sent p (⟨r, i⟩ : Loc).addr []) = g (c.sent p (⟨r, i⟩ : Loc).addr [])) (ram : Ram) :
    c.wasRead ram p r i w f = c.wasRead ram p r i w g := by
  unfold Core.wasRead; rw [h]

/-- A served read of a register that is no low word, on a path that holds nothing, is its word and its effect (R4, R5). -/
theorem Core.request_readPlain {c : Core} {p : Path} {r : Reg} {i : Nat} (h : Reaches c p ⟨r, i⟩ true) (hp : r.plain = true) (hi : i < r.count) (hh : highOf r = none) (hold : ∀ e ∈ c.hold, Prod.fst e ≠ p) (ram : Ram) :
    c.request ram p (⟨r, i⟩ : Loc).addr none none = c.wasRead ram p r i ((c.sent p (⟨r, i⟩ : Loc).addr []).value p r i) (fun d => d.readEffect p r i) :=
  Core.wasRead_read h hp hi ram (by simp only [Core.heldBy, hh]) (find?_hold_eq_none (by simpa using hold))

/-! ### AX_COEF_DATA (R177) -/

theorem coefData_handled : R.AX_COEF_DATA.Handled (fun c _ k w _ => c.writeCoefData k w) := by
  constructor
  case handler => rfl
  all_goals decide +kernel
theorem coefData_whole : R.AX_COEF_DATA.Whole := by constructor <;> decide

theorem Core.value_coefData (c : Core) (p : Path) (k : Nat) : c.value p R.AX_COEF_DATA k = Tab.get 0 (c.ctxAt k).shadow (c.get F.AX_COEF_IDX_IDX k) := rfl
theorem Core.readEffect_coefData (c : Core) (p : Path) (k : Nat) : c.readEffect p R.AX_COEF_DATA k = c.set F.AX_COEF_IDX_IDX k ((c.get F.AX_COEF_IDX_IDX k + 1) % 128) := rfl

/-- A served write of AX_COEF_DATA stores the entry at the index and advances it (R177). -/
theorem Core.request_coefWrite {c : Core} {p : Path} {k : Nat} (hk : k < 128) (used : (c.pat.slot k).kind ≠ 0) (h : Writes c p ⟨R.AX_COEF_DATA, k⟩) (ram : Ram) (v : Word) :
    c.request ram p (⟨R.AX_COEF_DATA, k⟩ : Loc).addr (some v) none = c.wrote ram p R.AX_COEF_DATA k v (fun d =>
      (d.setCtx k { d.ctxAt k with shadow := Tab.set 0 (d.ctxAt k).shadow (c.get F.AX_COEF_IDX_IDX k) v }).set F.AX_COEF_IDX_IDX k ((c.get F.AX_COEF_IDX_IDX k + 1) % 128)) := by
  rw [Core.request_whole coefData_handled coefData_whole hk used h]
  refine Core.wrote_congr ?_ ram
  rw [← Core.get_sent c p (⟨R.AX_COEF_DATA, k⟩ : Loc).addr [v] k (by decide) (by decide)]
  rfl

/-- A served read of AX_COEF_DATA answers the entry at the index and advances it (R177). -/
theorem Core.request_coefRead {c : Core} {p : Path} {k : Nat} (hk : k < 128) (h : Reaches c p ⟨R.AX_COEF_DATA, k⟩ true) (hold : ∀ e ∈ c.hold, Prod.fst e ≠ p) (ram : Ram) :
    c.request ram p (⟨R.AX_COEF_DATA, k⟩ : Loc).addr none none =
      c.wasRead ram p R.AX_COEF_DATA k (Tab.get 0 (c.ctxAt k).shadow (c.get F.AX_COEF_IDX_IDX k)) (fun d => d.set F.AX_COEF_IDX_IDX k ((c.get F.AX_COEF_IDX_IDX k + 1) % 128)) := by
  have hidx := Core.get_sent c p (⟨R.AX_COEF_DATA, k⟩ : Loc).addr [] (f := F.AX_COEF_IDX_IDX) k (by decide) (by decide)
  rw [Core.request_readPlain h coefData_handled.plain hk coefData_handled.noHigh hold, Core.value_coefData, Core.ctxAt_sent, hidx]
  exact Core.wasRead_congr (by rw [Core.readEffect_coefData, hidx]) ram

/-! ### AX_PA_DATA (R209) -/

theorem paData_handled : R.AX_PA_DATA.Handled (fun c _ k w _ => c.writePaData k w) := by
  constructor
  case handler => rfl
  all_goals decide +kernel
theorem paData_whole : R.AX_PA_DATA.Whole := by constructor <;> decide

theorem Core.value_paData (c : Core) (p : Path) (k : Nat) : c.value p R.AX_PA_DATA k = Tab.get 0 (c.ctxAt k).pa (c.get F.AX_PA_WIN_IDX k) := rfl
theorem Core.readEffect_paData (c : Core) (p : Path) (k : Nat) : c.readEffect p R.AX_PA_DATA k = c.set F.AX_PA_WIN_IDX k ((c.get F.AX_PA_WIN_IDX k + 1) % 16) := rfl

/-- An entry of the phase-advance table that is finite and not positive is stored (R209). -/
theorem Core.writePaData_good {v : Word} (hpos : F32.positive v = false) (hfin : F32.finite v = true) (c : Core) (k : Nat) :
    c.writePaData k v = (c.set F.AX_PA_WIN_IDX k ((c.get F.AX_PA_WIN_IDX k + 1) % 16)).setCtx k { c.ctxAt k with pa := Tab.set 0 (c.ctxAt k).pa (c.get F.AX_PA_WIN_IDX k) v } :=
  if_neg (by rw [hpos, hfin]; decide)
/-- Any other is discarded and shown (R209). -/
theorem Core.writePaData_bad {v : Word} (h : F32.positive v = true ∨ F32.finite v = false) (c : Core) (k : Nat) :
    c.writePaData k v = (c.set F.AX_PA_WIN_IDX k ((c.get F.AX_PA_WIN_IDX k + 1) % 16)).setBit F.AX_LSTAT_CFG_REFUSED k true :=
  if_pos (by simpa using h)

/-- A served read of AX_PA_DATA answers the entry at the index and advances it (R209). -/
theorem Core.request_paRead {c : Core} {p : Path} {k : Nat} (hk : k < 128) (h : Reaches c p ⟨R.AX_PA_DATA, k⟩ true) (hold : ∀ e ∈ c.hold, Prod.fst e ≠ p) (ram : Ram) :
    c.request ram p (⟨R.AX_PA_DATA, k⟩ : Loc).addr none none =
      c.wasRead ram p R.AX_PA_DATA k (Tab.get 0 (c.ctxAt k).pa (c.get F.AX_PA_WIN_IDX k)) (fun d => d.set F.AX_PA_WIN_IDX k ((c.get F.AX_PA_WIN_IDX k + 1) % 16)) := by
  have hidx := Core.get_sent c p (⟨R.AX_PA_DATA, k⟩ : Loc).addr [] (f := F.AX_PA_WIN_IDX) k (by decide) (by decide)
  rw [Core.request_readPlain h paData_handled.plain hk paData_handled.noHigh hold, Core.value_paData, Core.ctxAt_sent, hidx]
  exact Core.wasRead_congr (by rw [Core.readEffect_paData, hidx]) ram

/-! ### AX_COEF_CTRL and AX_LCFG (R177, R182) -/

theorem coefCtrl_handled : R.AX_COEF_CTRL.Handled (fun c _ k w act => c.writeCoefCtrl k (F.AX_COEF_CTRL_COMMIT.write w (F.AX_COEF_CTRL_COMMIT.read act))) := by
  constructor
  case handler => rfl
  all_goals decide +kernel
theorem lcfg_handled : R.AX_LCFG.Handled (fun c _ k w _ => c.writeLcfg k (fun d => d.setReg R.AX_LCFG k w)) := by
  constructor
  case handler => rfl
  all_goals decide +kernel

/-- A write with COMMIT waits for the frame start, with its ORDER and its NSTATE held to 1–8 (R177). -/
theorem Core.writeCoefCtrl_commit {v w : Word} (hcommit : F.AX_COEF_CTRL_COMMIT.read w = 1) (hnstate : F.AX_COEF_CTRL_NSTATE.read w = F.AX_COEF_CTRL_NSTATE.read v)
    (horder : F.AX_COEF_CTRL_ORDER.read w = F.AX_COEF_CTRL_ORDER.read v) (c : Core) (k : Nat) :
    c.writeCoefCtrl k w = ((((c.set F.AX_COEF_CTRL_NSTATE k (Min.min 8 (Max.max 1 (F.AX_COEF_CTRL_NSTATE.read v)))).set F.AX_COEF_CTRL_ORDER k (F.AX_COEF_CTRL_ORDER.read v)).setBit F.AX_COEF_CTRL_COMMIT k true).setBit
      F.AX_LSTAT_COEF_PENDING k true) := by
  rw [Core.writeCoefCtrl, hnstate, horder]
  exact if_pos hcommit

/-- A field of AX_COEF_CTRL other than COMMIT reaches the handler as it was given. -/
theorem Fld.read_coefCommit {f : Fld} (hf : f.lsb + f.width ≤ 32) (happart : F.AX_COEF_CTRL_COMMIT.lsb + F.AX_COEF_CTRL_COMMIT.width ≤ f.lsb ∨ f.lsb + f.width ≤ F.AX_COEF_CTRL_COMMIT.lsb)
    (hin : f.within (R.AX_COEF_CTRL.accMask FldDesc.stored) = true) (old v : Word) (n : Nat) :
    f.read (F.AX_COEF_CTRL_COMMIT.write ((old &&& ~~~R.AX_COEF_CTRL.accMask FldDesc.stored) ||| (F.AX_COEF_CTRL_COMMIT.write v 1 &&& R.AX_COEF_CTRL.accMask FldDesc.stored)) n) = f.read v := by
  rw [Fld.read_write_ne _ f _ _ hf happart, Fld.read_taken hin, Fld.read_write_ne _ f _ _ hf happart]

/-- A served write of AX_COEF_CTRL with COMMIT (R177). -/
theorem Core.request_coefCommit {c : Core} {p : Path} {k : Nat} (hk : k < 128) (used : (c.pat.slot k).kind ≠ 0) (h : Writes c p ⟨R.AX_COEF_CTRL, k⟩) (ram : Ram) (v : Word) :
    c.request ram p (⟨R.AX_COEF_CTRL, k⟩ : Loc).addr (some (F.AX_COEF_CTRL_COMMIT.write v 1)) none = c.wrote ram p R.AX_COEF_CTRL k (F.AX_COEF_CTRL_COMMIT.write v 1) (fun d =>
      ((((d.set F.AX_COEF_CTRL_NSTATE k (Min.min 8 (Max.max 1 (F.AX_COEF_CTRL_NSTATE.read v)))).set F.AX_COEF_CTRL_ORDER k (F.AX_COEF_CTRL_ORDER.read v)).setBit F.AX_COEF_CTRL_COMMIT k true).setBit
        F.AX_LSTAT_COEF_PENDING k true)) := by
  have hstores : c.stores p R.AX_COEF_CTRL k = R.AX_COEF_CTRL.accMask FldDesc.stored := Core.stores_expert (h.expert (by decide)) (by decide)
  rw [Core.request_handled coefCtrl_handled hk (Core.unusedSlotReg_of_used used _) h (.inl (by rw [hstores]; decide))]
  refine Core.wrote_congr ?_ ram
  rw [Core.taken, Core.stores_sent, hstores]
  refine Core.writeCoefCtrl_commit ?_ (Fld.read_coefCommit (by decide) (by decide) (by decide) _ v _) (Fld.read_coefCommit (by decide) (by decide) (by decide) _ v _) _ k
  rw [Fld.read_write _ _ _ (by decide), Fld.read_and (by decide), Fld.read_write _ _ _ (by decide)]
  rfl

/-- A served write of AX_LCFG switches manual operation by the fields that it stores (R182). -/
theorem Core.request_lcfg {c : Core} {p : Path} {k : Nat} (hk : k < 128) (used : (c.pat.slot k).kind ≠ 0) (h : Writes c p ⟨R.AX_LCFG, k⟩) (ram : Ram) (v : Word) :
    c.request ram p (⟨R.AX_LCFG, k⟩ : Loc).addr (some v) none = c.wrote ram p R.AX_LCFG k v (fun d => d.writeLcfg k (fun e => e.setReg R.AX_LCFG k (d.taken p R.AX_LCFG k v))) :=
  Core.request_handled lcfg_handled hk (Core.unusedSlotReg_of_used used _) h (.inl (by rw [Core.stores_expert (h.expert (by decide)) (by decide)]; decide)) ram

/-- Settles O31: each command is one access of its register, whose handler takes the word written or its fields; a parameter's write is one of `Core.writeParam_crossing`, `Core.writeParam_valid` and `Core.writeParam_invalid`. -/
theorem loopsAreTuned : Obligations.LoopsAreTuned := by
  unfold Obligations.LoopsAreTuned
  refine ⟨fun s p k v hk used r hr h => ⟨?_, fun c => ⟨Core.writeParam_crossing, Core.writeParam_spec hr⟩⟩,
    fun s p k v hk used => ⟨fun h => ?_, fun h hold => ?_, fun h hpos hfin => ?_, fun h hbad => ?_, fun h hold => ?_, fun h => ?_, fun h => ?_⟩⟩
  · refine (execLoopParamWrite_reg hr hk s p v).trans (next_after_congr ?_)
    exact Core.request_whole (paramReg_handled hr) (paramReg_whole hr) (by rw [paramRegs_count r hr]; exact hk) used h s.ram v
  · exact (inRange_of_lt _ _ hk).trans (next_after_congr (Core.request_coefWrite hk used h s.ram v))
  · exact (inRange_of_lt _ _ hk).trans (next_after_congr (Core.request_coefRead hk h hold s.ram))
  · refine (inRange_of_lt _ _ hk).trans (next_after_congr ((Core.request_whole paData_handled paData_whole hk used h s.ram v).trans (Core.wrote_congr ?_ s.ram)))
    rw [Core.writePaData_good hpos hfin, Core.get_sent s.core p _ _ k (by decide) (by decide)]
  · refine (inRange_of_lt _ _ hk).trans (next_after_congr ((Core.request_whole paData_handled paData_whole hk used h s.ram v).trans (Core.wrote_congr ?_ s.ram)))
    rw [Core.writePaData_bad hbad, Core.get_sent s.core p _ _ k (by decide) (by decide)]
  · exact (inRange_of_lt _ _ hk).trans (next_after_congr (Core.request_paRead hk h hold s.ram))
  · exact (inRange_of_lt _ _ hk).trans (next_after_congr (Core.request_coefCommit hk used h s.ram v))
  · exact (inRange_of_lt _ _ hk).trans (next_after_congr (Core.request_lcfg hk used h s.ram v))

end Sys2Proof.Machine
end

section
/-! SUPPORT. What disabling a lane leaves of the registers, a write of LN_CTRL, and the retry of a sensorless start; then the statement about lanes that stop. -/
namespace Sys2Proof.Machine

/-! ### What a disabled lane takes with it (R157, R219) -/

/-- The registers that disabling a lane can change once the lane's own are latched: those of its group, its slot, the slot's followers and path, and the log. -/
def laneTrail (r : Reg) : Bool :=
  [R.LG_STAT.id, R.AX_SL_STAT.id, R.AX_ICMD.id, R.AX_LSTAT.id, R.AX_PSTAT.id, R.GR_STAT.id, R.IG_STAT.id, R.MG_HEALTH.id, R.MG_LOG_DROPPED.id, R.EN_STRAP_STAT.id, R.EN_EV_DROPPED.id].contains r.id
/-- Every register outside `laneTrail` is kept. -/
def Core.Trails (c d : Core) : Prop := ∀ (r : Reg) (i : Nat), r.id < 512 → laneTrail r = false → d.reg r i = c.reg r i

namespace Core.Trails
variable {c d : Core}

theorem refl (c : Core) : c.Trails c := fun _ _ _ _ => rfl

theorem get (h : c.Trails d) (f : Fld) (i : Nat) (hr : f.reg.id < 512) (hf : laneTrail f.reg = false) : d.get f i = c.get f i := by
  rw [Core.get, Core.get, h f.reg i hr hf]

theorem setReg (h : c.Trails d) (q : Reg) (i : Nat) (w : Word) (hlt : q.id < 512) (hq : laneTrail q = true) : c.Trails (d.setReg q i w) := fun r j hr hj => by
  have hne : q.id ≠ r.id := fun e => by rw [laneTrail, e] at hq; exact Bool.noConfusion (hj.symm.trans hq)
  rw [Core.reg_setReg_of_id d w hlt hr hne, h r j hr hj]

theorem set (h : c.Trails d) (f : Fld) (i v : Nat) (hlt : f.reg.id < 512) (hf : laneTrail f.reg = true) : c.Trails (d.set f i v) := h.setReg _ _ _ hlt hf

theorem setBit (h : c.Trails d) (f : Fld) (i : Nat) (b : Bool) (hlt : f.reg.id < 512) (hf : laneTrail f.reg = true) : c.Trails (d.setBit f i b) := h.set f i _ hlt hf

theorem log (h : c.Trails d) (o n s a : Nat) : c.Trails (d.logFrom o n s a) := fun r i hr hj => by
  refine ((Core.logFrom_frame d o n s a).2 r i hr ?_ ?_ ?_ ?_).trans (h r i hr hj) <;> intro e <;> simp [laneTrail, e] at hj

theorem setProf (h : c.Trails d) (i : Nat) (v : Profile) : c.Trails (d.setProf i v) := h
theorem setIg (h : c.Trails d) (i : Nat) (v : IgPath) : c.Trails (d.setIg i v) := h
theorem setLane (h : c.Trails d) (i : Nat) (v : Lane) : c.Trails (d.setLane i v) := h
theorem setEst (h : c.Trails d) (i : Nat) (v : Estim) : c.Trails (d.setEst i v) := h
theorem setLoop (h : c.Trails d) (i : Nat) (v : Loop) : c.Trails (d.setLoop i v) := h
theorem setSnap (h : c.Trails d) (i : Nat) (v : Snap) : c.Trails (d.setSnap i v) := h

theorem raiseP (h : c.Trails d) (f : Fld) (k arg : Nat) (hlt : f.reg.id < 512) (hf : laneTrail f.reg = true) : c.Trails (d.raiseP f k arg) := by
  unfold Core.raiseP
  split
  · exact h
  · exact (h.setBit f k true hlt hf).log _ _ _ _

theorem mirrorEvent (h : c.Trails d) (what index cause : Nat) : c.Trails (d.mirrorEvent what index cause) := by
  unfold Core.mirrorEvent Core.mirror
  split <;> exact h

/-- A stop may refuse its rate, and plans the slot's own motion (R143). -/
theorem stopSlot (h : c.Trails d) (k : Nat) (t : Int) (ss1 : Bool) : c.Trails (d.stopSlot k t ss1) := by
  have refused : c.Trails (if (d.stopRate k ss1).2 && !(d.profileAt k t).2.1.isZero then d.paramRefused k else d) := by
    split
    · exact h.raiseP _ _ _ (by decide) (by decide)
    · exact h
  exact refused

theorem ungear (h : c.Trails d) (k : Nat) (t : Int) (b : Bool) : c.Trails (d.ungear k t b) := by
  unfold Core.ungear
  split
  split
  · exact h
  · exact h.stopSlot k t false

/-- Every follower shows the loss and stops or runs on (R157). -/
theorem loseMaster (h : c.Trails d) (kind m : Nat) : c.Trails (d.loseMaster kind m) :=
  foldN_keeps c.Trails _ _ _ h (fun _ n hb => (hb.raiseP F.AX_PSTAT_MASTER_LOST n 12 (by decide) (by decide)).ungear _ _ _)

theorem clearLoop (h : c.Trails d) (k : Nat) : c.Trails (d.clearLoop k) :=
  (((h.setLoop k _).setSnap k _).setReg R.AX_ICMD k 0 (by decide) (by decide)).setBit F.AX_LSTAT_INPOS k false (by decide) (by decide)

/-- A slot's path may show that it is broken (R152). -/
theorem breakPath (h : c.Trails d) (k : Nat) (t : Int) : c.Trails (d.breakPath k t) := by
  unfold Core.breakPath
  split
  · exact h
  · dsimp only
    split
    · exact h
    · exact (((h.setProf _ _).setIg _ _).setBit F.IG_STAT_BROKEN _ true (by decide) (by decide)).log _ _ _ _

theorem publishState (h : c.Trails d) (k : Nat) (t : Int) : c.Trails (d.publishState k t) :=
  ((((h.set F.AX_PSTAT_STATE k _ (by decide) (by decide)).setBit F.AX_PSTAT_REVERSING k _ (by decide) (by decide)).setBit F.AX_PSTAT_VCLAMP k _ (by decide) (by decide)).setBit
    F.GR_STAT_ENGAGED k _ (by decide) (by decide)).setBit F.GR_STAT_RAMPING k _ (by decide) (by decide)

theorem holdSlot (h : c.Trails d) (k : Nat) (pos : Int) : c.Trails (d.holdSlot k pos) :=
  (((h.breakPath k d.profNs).setProf k _).setProf k _).publishState k d.profNs

end Core.Trails

/-! ### What disabling a lane latches (R219, R220) -/

/-- The registers of a disabled lane: FAULT with its cause, and the count. -/
def Core.laneLatched (c : Core) (lane cause : Nat) : Core := ((c.setBit F.LN_STAT_FAULT lane true).set F.LN_STAT_CAUSE lane cause).addSat F.LN_FAULTS_COUNT lane 1

theorem Core.bit_laneLatched (c : Core) (lane cause : Nat) : (c.laneLatched lane cause).bit F.LN_STAT_FAULT lane = true := by
  have hcount := Core.get_set_reg ((c.setBit F.LN_STAT_FAULT lane true).set F.LN_STAT_CAUSE lane cause) F.LN_FAULTS_COUNT F.LN_STAT_FAULT lane lane
  have hcause := Core.get_set_apart (c.setBit F.LN_STAT_FAULT lane true) F.LN_STAT_CAUSE F.LN_STAT_FAULT lane cause rfl (by decide) (by decide)
  rw [Core.laneLatched, Core.addSat, Core.bit, hcount _ (by decide) (by decide) (by decide), hcause]
  exact Core.bit_setBit c F.LN_STAT_FAULT lane true (by decide) rfl

theorem Core.cause_laneLatched (c : Core) (lane : Nat) {cause : Nat} (h : cause < 8) : (c.laneLatched lane cause).get F.LN_STAT_CAUSE lane = cause := by
  rw [Core.laneLatched, Core.addSat, Core.get_set_reg _ F.LN_FAULTS_COUNT F.LN_STAT_CAUSE _ _ _ (by decide) (by decide) (by decide), Core.get_set _ F.LN_STAT_CAUSE _ _ (by decide)]
  exact Nat.mod_eq_of_lt h

theorem Core.count_laneLatched (c : Core) (lane cause : Nat) : (c.laneLatched lane cause).get F.LN_FAULTS_COUNT lane = (c.addSat F.LN_FAULTS_COUNT lane 1).get F.LN_FAULTS_COUNT lane := by
  have hcount : ((c.setBit F.LN_STAT_FAULT lane true).set F.LN_STAT_CAUSE lane cause).get F.LN_FAULTS_COUNT lane = c.get F.LN_FAULTS_COUNT lane := by
    rw [Core.get_set_reg _ F.LN_STAT_CAUSE F.LN_FAULTS_COUNT _ _ _ (by decide) (by decide) (by decide)]
    exact Core.get_set_reg c F.LN_STAT_FAULT F.LN_FAULTS_COUNT _ _ _ (by decide) (by decide) (by decide)
  rw [Core.laneLatched, Core.addSat, Core.addSat, Core.get_set _ _ _ _ (by decide), Core.get_set _ _ _ _ (by decide), hcount]

/-- A lane that is not yet disabled, in a group that runs and that this module drives, is disabled: its registers latch, and what follows leaves them. -/
theorem Core.laneLatched_trails {c : Core} {lane cause : Nat} (fault : c.bit F.LN_STAT_FAULT lane = false) (runs : c.runs (0x10 + laneGroup lane) = true) (drives : c.drives (laneGroup lane) = true) :
    (c.laneLatched lane cause).Trails (c.laneDisable lane cause) := by
  have guard : ¬(c.bit F.LN_STAT_FAULT lane || !c.runs (0x10 + laneGroup lane) || (Decidable.decide (cause ≤ 3) && !c.drives (laneGroup lane))) = true := by simp [fault, runs, drives]
  unfold Core.laneDisable
  rw [if_neg guard]
  extract_lets latched bit group logged was idle
  have hidle : (c.laneLatched lane cause).Trails idle := ((((Core.Trails.refl _).set F.LG_STAT_FAULTED _ _ (by decide) (by decide)).log _ _ _ _).mirrorEvent _ _ _).setLane _ _
  split
  · exact hidle
  · next k _ =>
    refine ((Core.Trails.loseMaster ?_ 1 k).clearLoop k).holdSlot k _
    split
    · exact hidle
    · exact (hidle.setEst k _).set F.AX_SL_STAT_STATE k _ (by decide) (by decide)

/-! ### LN_CTRL.CLEAR (R219) -/

theorem lnCtrl_handled : R.LN_CTRL.Handled (fun c _ l _ act => if acts F.LN_CTRL_CLEAR act then c.laneClear l else c) := by
  constructor
  case handler => rfl
  all_goals decide +kernel

/-- A served write of LN_CTRL.CLEAR clears the lane, or is refused. -/
theorem Core.request_laneClear {c : Core} {p : Path} {l : Nat} (hl : l < 96) (h : Writes c p ⟨R.LN_CTRL, l⟩) (ram : Ram) :
    c.request ram p (⟨R.LN_CTRL, l⟩ : Loc).addr (some (fieldWord F.LN_CTRL_CLEAR 1)) none = c.wrote ram p R.LN_CTRL l (fieldWord F.LN_CTRL_CLEAR 1) (fun d => d.laneClear l) := by
  rw [Core.request_handled lnCtrl_handled hl (Core.unusedSlotReg_of_base (by decide) c l) h (.inr (by decide))]
  have hact : acts F.LN_CTRL_CLEAR (fieldWord F.LN_CTRL_CLEAR 1 &&& (c.stores p R.LN_CTRL l ||| R.LN_CTRL.actMask)) = true := by
    rw [acts, Fld.read_acting (f := F.LN_CTRL_CLEAR) (r := R.LN_CTRL) (by decide)]
    decide
  simp only [hact, if_true]

/-- CLEAR is refused while the lane's cause is live, and else waits for the frame start. -/
theorem Core.laneClear_eq (c : Core) (l : Nat) :
    c.laneClear l = if c.bit F.LN_STAT_FAULT l = false then c
      else if (c.get F.LN_STAT_CAUSE l = 1 ∧ c.bit F.LN_STAT_FAULT_N_LIVE l = true) ∨ (c.get F.LN_STAT_CAUSE l = 3 ∧ (c.laneAt l).sdSilent = true) then c.setBit F.LN_STAT_CLEAR_REFUSED l true
      else c.setLane l { c.laneAt l with clearPend := true } := by
  simp only [Core.laneClear, Bool.not_eq_true', Bool.or_eq_true, Bool.and_eq_true, decide_eq_true_eq]

/-! ### The retry of a sensorless start (R215) -/

theorem Tab.erase_erase {α : Type} (t : List (Nat × α)) (n : Nat) : Tab.erase n (Tab.erase n t) = Tab.erase n t := by
  induction t with
  | nil => rfl
  | cons e t ih => by_cases h : e.1 = n <;> simp [Tab.erase, h, ih]

theorem Tab.erase_insert {α : Type} (t : List (Nat × α)) (n : Nat) (v : α) : Tab.erase n (Tab.insert n v t) = Tab.erase n t := by
  induction t with
  | nil => simp [Tab.insert, Tab.erase]
  | cons e t ih => by_cases h : e.1 < n <;> simp [Tab.insert, Tab.erase, h, ih]

/-- Storing at a key replaces what was stored there. -/
theorem Tab.set_set {α : Type} [DecidableEq α] (d : α) (t : List (Nat × α)) (n : Nat) (v w : α) : Tab.set d (Tab.set d t n v) n w = Tab.set d t n w := by
  have herase : Tab.erase n (Tab.set d t n v) = Tab.erase n t := by
    unfold Tab.set
    split
    · exact Tab.erase_erase t n
    · rw [Tab.erase_insert, Tab.erase_erase]
  rw [Tab.set, herase, Tab.set]

theorem Core.setEst_setEst (c : Core) (k : Nat) (v w : Estim) : (c.setEst k v).setEst k w = c.setEst k w := by
  rw [Core.setEst, Core.setEst, Tab.set_set]
  rfl

/-- An attempt that does not catch a turning motor starts with IPD, whatever the estimator held. -/
theorem Core.estBegin_setEst (c : Core) (k : Nat) (e : Estim) :
    (c.setEst k e).estBegin k false =
      ((c.setEst k { e with frame := 0, cfg := c.reg R.AX_SL_CFG k, probe := [], pulses := [], waiting := false, restart := false, again := false, back := 0, backFrames := 0, excess := 0 }).set F.AX_SL_STAT_STATE k 2).addSat
        F.AX_SL_STAT_TRIES k 1 := by
  rw [Core.estBegin, Core.estAt_setEst, Core.setEst_reg, Core.setEst_setEst]
  rfl

/-- Settles O33: each command is its guard decided, a disabled lane's registers are latched before what `Core.Trails` lets follow, and a retry is `Core.estBegin_setEst`. -/
theorem lanesStop : Obligations.LanesStop := by
  unfold Obligations.LanesStop
  refine ⟨fun s l p hl => ⟨fun runs => ?_, fun lane => ?_, fun lane => ?_, fun limit => ?_, fun limit => ?_, fun h => ?_, fun c cause fault runs drives hcause => ?_⟩, fun s k hk waiting startsUp => ?_, fun c k flag => rfl⟩
  · exact (inRange_of_lt _ _ hl).trans (next_core_congr (if_pos runs))
  · exact (inRange_of_lt _ _ hl).trans (next_core_congr (if_neg (by simp [lane])))
  · exact (inRange_of_lt _ _ hl).trans (next_core_congr (if_pos lane))
  · exact (inRange_of_lt _ _ hl).trans (next_core_congr (if_neg (by simp [limit])))
  · exact (inRange_of_lt _ _ hl).trans (next_core_congr (if_pos limit))
  · exact (inRange_of_lt _ _ hl).trans (next_after_congr ((Core.request_laneClear hl h s.ram).trans (Core.wrote_congr (Core.laneClear_eq _ l) s.ram)))
  · have trail := Core.laneLatched_trails (cause := cause) fault runs drives
    refine ⟨?_, ?_, ?_⟩
    · rw [Core.bit, trail.get F.LN_STAT_FAULT l (by decide) (by decide)]
      exact c.bit_laneLatched l cause
    · rw [trail.get F.LN_STAT_CAUSE l (by decide) (by decide), c.cause_laneLatched l hcause]
    · rw [trail.get F.LN_FAULTS_COUNT l (by decide) (by decide), c.count_laneLatched l cause]
  · refine (inRange_of_lt _ _ hk).trans (next_core_congr ?_)
    exact (if_neg (by simp [waiting, startsUp])).trans (Core.estBegin_setEst _ k _)

end Sys2Proof.Machine
end

section
/-! SUPPORT. What a reading that came too late leaves of its serial port, an update of a resolver, and what a repeat output shows; then the statement about ports that read their sensors. -/
namespace Sys2Proof.Machine

/-! ### Serial ports (R231, R233, R234) -/

/-- The slots of a port turn on the pattern alone. -/
theorem Core.portSlots_of_pat {c d : Core} (h : d.pat = c.pat) (p : Nat) : d.portSlots p = c.portSlots p := by
  rw [Core.portSlots, Core.usedSlots, h]
  rfl

/-- What a port keeps of a good reading, its latest one (R231). -/
def Port.keepsReading (q : Port) (n st : Nat) (mt : Int) (em : Nat) (stamp : Int) : Port :=
  { q with st := st, mt := mt, n := n, first := false, prevMt := em, prevSt := st, errRun := 0, good := true, goodT := stamp, goodPos := mt * n + st }

/-- A good reading that came too late is kept, and samples nothing (R231, R234). -/
theorem Core.portAt_goodReading_late (c : Core) (p st : Nat) (mt : Int) (em : Nat) (stamp : Int) :
    (c.goodReading p st mt em stamp true).portAt p = (c.portAt p).keepsReading (2 ^ c.get F.FB_SER_ST_BITS p) st (wrapMt mt).1 em stamp := by
  have kept (d : Core) : ((if (wrapMt mt).2 then d.setBit F.FB_STAT_MT_WRAP p true else d).setBit F.FB_STAT_SLOW p true).portAt p = d.portAt p := by split <;> rfl
  exact (kept _).trans (Core.portAt_setPort ..)

/-- It shows SLOW (R234). -/
theorem Core.slow_goodReading_late (c : Core) (p st : Nat) (mt : Int) (em : Nat) (stamp : Int) : (c.goodReading p st mt em stamp true).bit F.FB_STAT_SLOW p = true :=
  Core.bit_setBit _ F.FB_STAT_SLOW p true (by decide) rfl

/-! ### Resolvers and repeat outputs (R228, R237, R241) -/

/-- An update of 1 µs of a resolver: its sample enters the history, and a zero of the excitation that rises is noted; the angle is demodulated, checked and tracked (R228, R241). -/
def Core.resolverUpdate (c : Core) (p : Nat) (sinS cosS excS : BitVec 16) (zero : Option Int) : Core :=
  let q := c.portAt p
  let hist := ((sinS, cosS, excS) :: q.hist).take 100
  let y := Config.resolverSin hist (c.get F.FB_RES_PHASE p)
  let x := Config.resolverCos hist (c.get F.FB_RES_PHASE p)
  ((c.setPort p { q with hist := hist, excZero := zero }).resolverCheck p (x * x + y * y)).resolverStep p (Config.atan2 (F32.ofInt y) (F32.ofInt x))

/-- The excitation rises through zero at a sample: the one before it was negative (R228). -/
def Port.rises (q : Port) (excS : BitVec 16) : Prop := ∃ h ∈ q.hist.head?, h.2.2.toInt < 0 ∧ 0 ≤ excS.toInt

/-- A resolver that is not stopped takes the update of each 1 µs: a rising zero of its excitation is noted at the present, and else the last one stays (R228, R240). -/
theorem execResolverTrack_runs {s : State} {p : Nat} (hp : p < 56) (resolver : s.core.portType p = 6) (runs : s.core.runs 0x20 = true) (awake : s.core.sleepStopped p = false) (sinS cosS excS : BitVec 16)
    {zero : Option Int} (hrises : (s.core.portAt p).rises excS → zero = some s.core.profNs) (hstill : ¬(s.core.portAt p).rises excS → zero = (s.core.portAt p).excZero) :
    execResolverTrack s p sinS cosS excS = .next { s with core := s.core.resolverUpdate p sinS cosS excS zero } := by
  refine (inRange_of_lt _ _ hp).trans (next_core_congr ((if_neg (by simp [resolver, runs, awake])).trans ?_))
  have hzero : zero = if (match (s.core.portAt p).hist with | (_, _, x) :: _ => decide (x.toInt < 0 ∧ 0 ≤ excS.toInt) | [] => false) = true then some s.core.profNs else (s.core.portAt p).excZero := by
    unfold Port.rises at hrises hstill
    cases hhist : (s.core.portAt p).hist with
    | nil => simpa [hhist] using hstill
    | cons h rest =>
      by_cases hz : h.2.2.toInt < 0 ∧ 0 ≤ excS.toInt
      · simpa [hhist, hz] using hrises
      · simpa [hhist, hz] using hstill
  rw [hzero]
  rfl

/-- OVERRUN of a repeat output stays as its LAG and MODE are shown (R237). -/
theorem Core.overrun_lagShown (c : Core) (q lag : Nat) : ((c.set F.Q_STAT_LAG q lag).setBit F.Q_STAT_MODE q true).bit F.Q_STAT_OVERRUN q = c.bit F.Q_STAT_OVERRUN q := by
  have kept (d : Core) (f : Fld) (v : Nat) (hf : f = F.Q_STAT_LAG ∨ f = F.Q_STAT_MODE) : (d.set f q v).get F.Q_STAT_OVERRUN q = d.get F.Q_STAT_OVERRUN q := by
    rcases hf with rfl | rfl <;> exact Core.get_set_apart _ _ _ _ _ rfl (by decide) (by decide)
  rw [Core.bit, Core.setBit, kept _ _ _ (.inr rfl), kept _ _ _ (.inl rfl)]
  rfl

/-- Settles O36: each command is its guard decided, the transaction's checks and the repeat output's are decisions of the same facts, a resolver takes `Core.resolverUpdate`, and a late reading is `Core.portAt_goodReading_late`. -/
theorem portsReadTheirSensors : Obligations.PortsReadTheirSensors := by
  unfold Obligations.PortsReadTheirSensors
  refine ⟨fun s p r run hp runs => ⟨fun serial hrun => ?_, fun serial awake drives => ?_, fun stopped => ?_, fun free serial => ?_, fun named => ?_, inRange_of_lt _ _ hp⟩,
    fun s p sinS cosS excS runs => ⟨fun hp resolver awake => ⟨fun rises => ?_, fun still => ?_⟩, fun hp repeats serial => ?_⟩, fun c p st em mt stamp _ => ?_⟩
  · refine (inRange_of_lt _ _ hp).trans (next_after_congr ?_)
    simp only [hrun, serial, runs, Bool.not_true, Bool.or_false, Bool.false_eq_true, if_false]
    simp only [Bool.and_eq_true, decide_eq_true_eq, Bool.not_eq_true', and_assoc]
    rfl
  · refine (inRange_of_lt _ _ hp).trans (next_core_congr ((if_neg ?_).trans (ite_congr (propext ?_) (fun _ => rfl) (fun _ => rfl))))
    · rcases drives with standby | drives
      · simp [serial, runs, awake, standby]
      · simp [serial, runs, awake, drives]
    · rw [List.isEmpty_iff, Core.portSlots_of_pat (c := s.core)]
      split <;> rfl
  · exact (inRange_of_lt _ _ hp).trans (next_core_congr (if_pos (by simp [stopped])))
  · exact (inRange_of_lt _ _ (by omega)).trans (next_core_congr (if_pos (by simp [free, serial])))
  · exact (inRange_of_lt _ _ (by omega)).trans (next_core_congr (if_neg (by simp [named])))
  · exact execResolverTrack_runs hp resolver runs awake sinS cosS excS (zero := some s.core.profNs) (fun _ => rfl) (fun still => absurd rises still)
  · exact execResolverTrack_runs hp resolver runs awake sinS cosS excS (zero := (s.core.portAt p).excZero) (fun rises => absurd rises still) (fun _ => rfl)
  · refine (inRange_of_lt _ _ hp).trans (next_core_congr ((if_neg (by simp [repeats, serial, runs])).trans ?_))
    simp only [gt_iff_lt, Bool.and_eq_true, decide_eq_true_eq, Bool.not_eq_true', Core.overrun_lagShown]
    rfl
  · have hport := c.portAt_goodReading_late p st mt em stamp
    exact ⟨congrArg Port.goodPos hport, congrArg Port.goodT hport, congrArg Port.good hport, congrArg Port.errRun hport, c.slow_goodReading_late p st mt em stamp⟩

end Sys2Proof.Machine
end

section
/-! SUPPORT. Writes of CP_ARM and of CP_Q_CTRL, and how a capture or a query that waits ends; then the statement about captures, rings and reconstruction. -/
namespace Sys2Proof.Machine

/-! ### CP_ARM and CP_Q_CTRL (R263–R265) -/

theorem cpArm_handled : R.CP_ARM.Handled (fun c _ k w _ => c.captureArm k w) := by
  constructor
  case handler => rfl
  all_goals decide +kernel
theorem cpQCtrl_handled : R.CP_Q_CTRL.Handled (fun c ram _ w act => if acts F.CP_Q_CTRL_GO act then (c.setReg R.CP_Q_CTRL 0 w).queryGo ram else c.setReg R.CP_Q_CTRL 0 w) := by
  constructor
  case handler => rfl
  all_goals decide +kernel

/-- A register without RWX fields stores the same bits for every path: its RW fields (R5, R7). -/
theorem Core.stores_basic {c : Core} {p : Path} {r : Reg} {i : Nat} (hid : r.id ≠ R.CN_OBJ_DATA.id) (hbasic : r.accMask (fun f => f.acc = .rw || f.acc = .rwx) = r.accMask (fun f => f.acc = .rw)) :
    c.stores p r i = r.accMask (fun f => f.acc = .rw) := by
  rw [Core.stores, Core.storeMask, if_neg hid]
  cases c.expert p with
  | true => simpa using hbasic
  | false => simp

/-- A capture is armed by the three fields of CP_ARM alone (R263, R265). -/
theorem Core.captureArm_congr (c : Core) (k : Nat) {v w : Word} (harm : F.CP_ARM_ARM.read w = F.CP_ARM_ARM.read v) (hsrc : F.CP_ARM_SRC.read w = F.CP_ARM_SRC.read v) (hedge : F.CP_ARM_EDGE.read w = F.CP_ARM_EDGE.read v) :
    c.captureArm k w = c.captureArm k v := by
  rw [Core.captureArm, Core.captureArm, harm, hsrc, hedge]

/-- A served write of CP_ARM arms or disarms its slot's capture by the fields written. -/
theorem Core.request_captureArm {c : Core} {p : Path} {k : Nat} (hk : k < 128) (h : Writes c p ⟨R.CP_ARM, k⟩) (ram : Ram) (v : Word) :
    c.request ram p (⟨R.CP_ARM, k⟩ : Loc).addr (some v) none = c.wrote ram p R.CP_ARM k v (fun d => d.captureArm k v) := by
  have hstores (d : Core) : d.stores p R.CP_ARM k = R.CP_ARM.accMask (fun f => f.acc = .rw) := Core.stores_basic (by decide) (by decide)
  rw [Core.request_handled cpArm_handled hk (Core.unusedSlotReg_of_base (by decide) c k) h (.inl (by rw [hstores]; decide))]
  refine Core.wrote_congr ?_ ram
  rw [Core.taken, hstores]
  exact Core.captureArm_congr _ k (Fld.read_taken (by decide) _ v) (Fld.read_taken (by decide) _ v) (Fld.read_taken (by decide) _ v)

/-- A served write of CP_Q_CTRL with GO stores EPOCH_SET and EPOCH and starts the query (R264). -/
theorem Core.request_queryGo {c : Core} {p : Path} (h : Writes c p ⟨R.CP_Q_CTRL, 0⟩) (ram : Ram) (v : Word) :
    let w := F.CP_Q_CTRL_GO.write v 1
    c.request ram p (⟨R.CP_Q_CTRL, 0⟩ : Loc).addr (some w) none = c.wrote ram p R.CP_Q_CTRL 0 w (fun d => (d.setReg R.CP_Q_CTRL 0 (d.taken p R.CP_Q_CTRL 0 w)).queryGo ram) := by
  have hstores : c.stores p R.CP_Q_CTRL 0 = R.CP_Q_CTRL.accMask (fun f => f.acc = .rw) := Core.stores_basic (by decide) (by decide)
  have hgo : acts F.CP_Q_CTRL_GO (F.CP_Q_CTRL_GO.write v 1 &&& (c.stores p R.CP_Q_CTRL 0 ||| R.CP_Q_CTRL.actMask)) = true := by
    rw [acts, Fld.read_acting (by decide), Fld.read_write _ _ _ (by decide)]
    decide
  dsimp only
  rw [Core.request_handled cpQCtrl_handled (by decide) (Core.unusedSlotReg_of_base (by decide) c 0) h (.inl (by rw [hstores]; decide))]
  simp only [hgo, if_true]

/-! ### Captures and queries that wait (R262, R263) -/

/-- What a reconstruction without a later entry ends with: TOO_OLD where the ring is empty and was emptied after the stamp, and else TIMEOUT (Table 10.4). -/
theorem Core.lateCode_eq (c : Core) (k : Nat) (st : Stamp) : c.lateCode k st = if (c.ringAt k).fill = 0 ∧ st.toNs < (c.ringAt k).emptyT.getD c.time.startNet then 1 else 4 := by
  simp only [Core.lateCode, Bool.and_eq_true, decide_eq_true_eq]

section
variable {s : State} {k : Nat} {st : Stamp} (hk : k < 128) (hcap : (s.core.ringAt k).cap = some st)
include hk hcap

/-- A capture whose later entry exists is done with its reconstruction. -/
theorem execCapture_done {r : Recon} (hrec : s.core.reconstruct s.ram k st = some r) : execCapture s k = .next (s.after (s.core.captureDone k st r)) := by
  refine (inRange_of_lt _ _ hk).trans (next_after_congr ?_)
  simp only [hcap, hrec]

/-- One whose later entry is to come waits. -/
theorem execCapture_waits (hrec : s.core.reconstruct s.ram k st = none) : execCapture s k = .next (s.after s.core) := by
  refine (inRange_of_lt _ _ hk).trans (next_after_congr ?_)
  simp only [hcap, hrec]

/-- After 1 s it is done without one. -/
theorem execReconTimeout_capture (hrec : s.core.reconstruct s.ram k st = none) : execReconTimeout s (some k) = .next (s.after (s.core.captureDone k st { code := s.core.lateCode k st })) := by
  refine (inRange_of_lt _ _ hk).trans (next_after_congr ?_)
  simp only [hcap, hrec, Option.isNone_none, if_true]
end

/-- The query that waits for 1 s ends (R264). -/
theorem execReconTimeout_query {s : State} {q : Query} (hq : s.core.query = some q) :
    execReconTimeout s none = .next (s.after (({ s.core with query := none }.setBit F.CP_Q_STAT_BUSY 0 false).set F.CP_Q_STAT_RESULT 0 (s.core.lateCode q.slot q.stamp))) := by
  refine (inRange_of_lt _ _ (show (none : Option Nat).getD 0 < 128 by decide)).trans (next_after_congr ?_)
  simp only [hq]

/-- Settles O41: the edges and the ticks are their guards decided, the two registers' writes reach their handlers with the fields written, and a capture or query that waits ends as its entry does or does not exist. -/
theorem captures : Obligations.Captures := by
  unfold Obligations.Captures
  refine ⟨fun s port k p v => ⟨fun hport abz runs20 runs22 => ?_, fun hk h => ?_, fun runs22 runs21 => ?_⟩,
    fun s k p v hk => ⟨fun st r hcap hrec => execCapture_done hk hcap hrec, fun st hcap hrec => ⟨execCapture_waits hk hcap hrec, ?_⟩, fun q hq => ?_, fun h => ?_⟩⟩
  · exact (inRange_of_lt _ _ hport).trans (next_core_congr (if_neg (by simp [abz, runs20, runs22])))
  · exact (inRange_of_lt _ _ hk).trans (next_after_congr (Core.request_captureArm hk h s.ram v))
  · exact next_after_congr (if_neg (by simp [runs22, runs21]))
  · refine (execReconTimeout_capture hk hcap hrec).trans (next_after_congr ?_)
    rw [Core.lateCode_eq]
    rfl
  · refine (execReconTimeout_query hq).trans (next_after_congr ?_)
    rw [Core.lateCode_eq]
  · exact next_after_congr (Core.request_queryGo h s.ram v)

end Sys2Proof.Machine
end

section
/-! SUPPORT. What a gPTP frame on E0 reaches, and the servo by the offset it is given; then the statements about storms of steps and about gPTP. -/
namespace Sys2Proof.Machine

/-! ### Storms of steps (R267) -/

/-- Settles O37: the storm mark and its one log entry are what a step leaves to decide after it is made. -/
theorem stepStorms : Obligations.StepStorms := by
  unfold Obligations.StepStorms
  intro c delta now recent stepped counted d
  have made : c.stepTime delta = if 4 < recent.length then (if c.time.storm then d.setBit F.NT_STAT_STEP_STORM 0 true else (d.setBit F.NT_STAT_STEP_STORM 0 true).logFrom 0x22 0x0206 noSrc 0) else d :=
    ite_congr decide_eq_true_eq (fun _ => rfl) (fun _ => rfl)
  refine ⟨fun few => ?_, fun many storm => ?_, fun many calm => ?_, fun refused => if_pos refused⟩
  · rw [made, if_neg (Nat.not_lt.2 few)]
  · rw [made, if_pos many, if_pos storm]
  · rw [made, if_pos many, if_neg (by simp [calm])]

/-! ### Frames on E0 (R253, R255, R256) -/

/-- A frame of domain 0 is taken where gPTP runs (R253). -/
theorem Core.ptpFrame_own {c : Core} (on : c.ptpOn = true) {h : PtpHdr} (own : h.domain = 0) (f : Core → Core) : c.ptpFrame h f = f c := by
  rw [Core.ptpFrame, if_neg (not_not_intro own), if_pos on]

/-- One of another domain is counted (R253). -/
theorem Core.ptpFrame_foreign (c : Core) {h : PtpHdr} (foreign : h.domain ≠ 0) (f : Core → Core) : c.ptpFrame h f = c.addSat F.NT_CNT_FOREIGN 0 1 := if_pos foreign

/-- A Sync of the followed master reaches the servo, or waits where it is two-step (R253, R254). -/
theorem execPtpSync_follows {s : State} (on : s.core.ptpOn = true) {m : PtpSync} (own : m.hdr.domain = 0) (follows : s.core.follows m.hdr.clockId = true) :
    execPtpSync s m = .next { s with core :=
      if m.hdr.twoStep then { s.core with time := { s.core.time with syncPend := some (m.hdr.seq, ratRne (s.core.ingress * 65536)) } } else s.core.syncAt m s.core.ingress m.hdr.corr m.hdr.logInterval } :=
  next_core_congr ((Core.ptpFrame_own on own _).trans (if_neg (by simp [follows])))

/-- A Follow_Up of the followed master completes the Sync of its sequence number (R253). -/
theorem execPtpFollowUp_follows {s : State} (on : s.core.ptpOn = true) {m : PtpSync} (own : m.hdr.domain = 0) (follows : s.core.follows m.hdr.clockId = true) {t : Int}
    (pending : s.core.time.syncPend = some (m.hdr.seq, t)) :
    execPtpFollowUp s m = .next { s with core := { s.core with time := { s.core.time with syncPend := none } }.syncAt m ((t : Rat) / 65536) m.hdr.corr m.hdr.logInterval } := by
  refine next_core_congr ((Core.ptpFrame_own on own _).trans ?_)
  simp only [pending]
  exact if_pos (by simp [follows])

section
variable {s : State} (on : s.core.ptpOn = true) {a : PtpAnnounce} (own : a.hdr.domain = 0)
include on own

/-- An Announce of the master heard, or the first of any, is the master's vector (R255). -/
theorem execPtpAnnounce_takes (master : s.core.time.master = none ∨ s.core.time.masterClock = a.hdr.clockId) :
    execPtpAnnounce s a = .next { s with core := { s.core with time := { s.core.time with master := some (announceVector a), masterClock := a.hdr.clockId } }.bmca } := by
  refine next_core_congr ((Core.ptpFrame_own on own _).trans (congrArg Core.bmca (if_pos ?_)))
  cases h : s.core.time.master with
  | none => rfl
  | some w => simp [master.resolve_left (by simp [h])]

/-- One of another master that is not better leaves the master heard (R255). -/
theorem execPtpAnnounce_leaves {w : List Nat} (master : s.core.time.master = some w) (other : s.core.time.masterClock ≠ a.hdr.clockId) (worse : vectorLt (announceVector a) w = false) :
    execPtpAnnounce s a = .next { s with core := s.core.bmca } := by
  refine next_core_congr ((Core.ptpFrame_own on own _).trans (congrArg Core.bmca (if_neg ?_)))
  simp [master, other, worse]
end

/-- The response of the open request measures the link; without AS_CAPABLE before, there is none to lose (R253, R266). -/
theorem execPdelayRespRx_open {s : State} (on : s.core.ptpOn = true) {d : PtpPdelay} (own : d.hdr.domain = 0) {t1 : Int} (sent : s.core.time.pdelayTx = some t1) (seq : d.hdr.seq = s.core.time.pdelaySeq)
    (capable : s.core.bit F.NT_STAT_AS_CAPABLE 0 = false) :
    let delay : Rat := ((s.core.ingress - (t1 : Rat) / 65536) * s.core.time.rate - (d.hdr.corr : Rat) / 65536) / 2
    let c := { s.core with time := { s.core.time with delay := delay, pdelayTx := none, rate := Config.neighborRate s.core.freeIdx }, freeIdx := s.core.freeIdx + 1 }
    execPdelayRespRx s d = .next { s with core := (c.setReg R.NT_PDELAY 0 (BitVec.ofInt 32 (ratRne delay))).setBit F.NT_STAT_AS_CAPABLE 0 (decide (delay ≤ 800)) } := by
  refine next_core_congr ((Core.ptpFrame_own on own _).trans ?_)
  simp only [sent, seq, capable, ne_eq, not_true_eq_false, Bool.false_and, Bool.false_eq_true, if_false]

/-! ### The servo (R254) -/

/-- The core as it shows an offset. -/
def Core.showOffset (c : Core) (o : Rat) : Core := c.setReg R.NT_OFFSET 0 (BitVec.ofInt 32 (clampInt (ratRne o) (-(2 ^ 31)) (2 ^ 31 - 1)))

@[simp] theorem Core.time_showOffset (c : Core) (o : Rat) : (c.showOffset o).time = c.time := Core.setReg_time ..

/-- Showing the offset leaves every other register. -/
theorem Core.bit_showOffset (c : Core) (o : Rat) {f : Fld} (hf : f.reg.id < 512) (hne : R.NT_OFFSET.id ≠ f.reg.id) : (c.showOffset o).bit f 0 = c.bit f 0 := by
  rw [Core.bit, Core.bit, Core.get, Core.get, Core.showOffset, Core.reg_setReg_of_id _ _ (by decide) hf hne]

/-- The servo steps network time by the offset, is in step no longer, and begins anew. -/
def Core.servoStep (c : Core) (o : Rat) : Core :=
  let d := ((c.stepTime (-(ratRne o))).setBit F.NT_STAT_SYNCED 0 false).setBit F.NT_STAT_TIME_VALID 0 true
  { d with time := { d.time with integ := 0, good := 0 } }

/-- The rate in ppb that the servo asks for at an offset, with its integral. -/
def servoPpb (integ o t : Rat) : Rat :=
  let raw := -(7 / 10 * o + integ) / t
  if raw < -200000 then -200000 else if 200000 < raw then 200000 else raw

/-- The offsets below 1 µs in a row, with one more after `n`. -/
def smallOffsets (n : Nat) (o : Rat) : Nat := if decide (-1000 < o) && decide (o < 1000) then n + 1 else 0

theorem smallOffsets_eq (n : Nat) (o : Rat) : smallOffsets n o = if -1000 < o ∧ o < 1000 then n + 1 else 0 :=
  ite_congr (by simp) (fun _ => rfl) (fun _ => rfl)

/-- In step (R254). -/
def Core.markSynced (c : Core) : Core := (c.setBit F.NT_STAT_SYNCED 0 true).setBit F.NT_STAT_TIME_VALID 0 true

/-- The servo trims the rate, and is in step from the eighth small offset in a row. -/
def Core.servoTrim (c : Core) (o t : Rat) : Core :=
  let integ := c.time.integ + 3 / 10 * o
  let d := c.writeAdj (ratRne (servoPpb integ o t * (3436 / 100)))
  let good := smallOffsets d.time.good o
  let d := { d with time := { d.time with integ := integ, good := Min.min good 8 } }
  if 8 ≤ good then d.markSynced else d

/-- SYNCED and TIME_VALID lie apart in NT_STAT. -/
theorem Core.synced_setTimeValid (c : Core) : (c.setBit F.NT_STAT_TIME_VALID 0 true).bit F.NT_STAT_SYNCED 0 = c.bit F.NT_STAT_SYNCED 0 := by
  rw [Core.bit, Core.bit, Core.setBit, Core.get_set_apart c F.NT_STAT_TIME_VALID F.NT_STAT_SYNCED 0 _ rfl (by decide) (by decide)]

theorem Core.synced_markSynced (c : Core) : c.markSynced.bit F.NT_STAT_SYNCED 0 = true := by
  rw [Core.markSynced, Core.synced_setTimeValid, Core.bit_setBit _ _ _ _ (by decide) rfl]

/-- The mark leaves NT_ADJ. -/
theorem Core.adj_markSynced (c : Core) : c.markSynced.reg R.NT_ADJ 0 = c.reg R.NT_ADJ 0 := by
  have kept (d : Core) (w : Word) : (d.setReg R.NT_STAT 0 w).reg R.NT_ADJ 0 = d.reg R.NT_ADJ 0 := Core.reg_setReg_of_id d w (by decide) (by decide) (by decide)
  exact (kept _ _).trans (kept _ _)

theorem Core.synced_servoStep (c : Core) (o : Rat) : (c.servoStep o).bit F.NT_STAT_SYNCED 0 = false :=
  (Core.synced_setTimeValid _).trans (Core.bit_setBit _ F.NT_STAT_SYNCED 0 false (by decide) rfl)

theorem Core.timeValid_servoStep (c : Core) (o : Rat) : (c.servoStep o).bit F.NT_STAT_TIME_VALID 0 = true :=
  Core.bit_setBit _ F.NT_STAT_TIME_VALID 0 true (by decide) rfl

/-- Of the time a trim changes the integral and the count of small offsets. -/
theorem Core.time_servoTrim (c : Core) (o t : Rat) : (c.servoTrim o t).time = { c.time with integ := c.time.integ + 3 / 10 * o, good := Min.min (smallOffsets c.time.good o) 8 } := by
  unfold Core.servoTrim
  extract_lets integ trimmed good time kept
  split <;> rfl

/-- NT_ADJ holds the rate asked for, within its limits (R248). -/
theorem Core.adj_servoTrim (c : Core) (o t : Rat) :
    (c.servoTrim o t).reg R.NT_ADJ 0 = BitVec.ofInt 32 (clampInt (ratRne (servoPpb (c.time.integ + 3 / 10 * o) o t * (3436 / 100))) (-34359738) 34359738) := by
  unfold Core.servoTrim
  extract_lets integ trimmed good time kept
  have written : kept.reg R.NT_ADJ 0 = BitVec.ofInt 32 (clampInt (ratRne (servoPpb integ o t * (3436 / 100))) (-34359738) 34359738) := Core.reg_setReg_self c R.NT_ADJ 0 _
  split
  · rw [Core.adj_markSynced, written]
  · exact written

theorem Core.synced_servoTrim {c : Core} {o : Rat} (h : 8 ≤ smallOffsets c.time.good o) (t : Rat) : (c.servoTrim o t).bit F.NT_STAT_SYNCED 0 = true := by
  have trimmed : c.servoTrim o t = _ := if_pos h
  rw [trimmed, Core.synced_markSynced]

section
variable {c : Core} (o t : Rat)

/-- Disabled or as grandmaster the servo shows the offset alone. -/
theorem Core.servo_idle (idle : c.bit F.NT_PTP_CFG_SERVO_EN 0 = false ∨ c.bit F.NT_STAT_GM 0 = true) : c.servo o t = c.showOffset o := by
  refine if_pos ?_
  rw [← Core.showOffset, c.bit_showOffset o (by decide) (by decide), c.bit_showOffset o (by decide) (by decide)]
  rcases idle with off | gm
  · rw [off]; rfl
  · rw [gm, Bool.or_true]

variable (enabled : c.bit F.NT_PTP_CFG_SERVO_EN 0 = true) (slave : c.bit F.NT_STAT_GM 0 = false)
include enabled slave

/-- Enabled and not grandmaster it is not idle. -/
theorem Core.showOffset_active : ¬(!(c.showOffset o).bit F.NT_PTP_CFG_SERVO_EN 0 || (c.showOffset o).bit F.NT_STAT_GM 0) = true := by
  rw [c.bit_showOffset o (by decide) (by decide), c.bit_showOffset o (by decide) (by decide), enabled, slave]
  decide

/-- Beyond 1 ms it steps network time, unless the clock was just set. -/
theorem Core.servo_far (far : 1000000 < o ∨ o < -1000000) (unset : c.time.setClk ≠ some c.time.clocks) : c.servo o t = (c.showOffset o).servoStep o := by
  have unset' : (c.showOffset o).time.setClk ≠ some (c.showOffset o).time.clocks := by rwa [Core.time_showOffset]
  exact (if_neg (Core.showOffset_active o enabled slave)).trans ((if_pos (by simpa using far)).trans (if_neg unset'))

/-- Up to 1 ms it trims the rate. -/
theorem Core.servo_near (near : ¬(1000000 < o ∨ o < -1000000)) : c.servo o t = (c.showOffset o).servoTrim o t :=
  (if_neg (Core.showOffset_active o enabled slave)).trans (if_neg (by simpa using near))
end

/-- Settles O39: a frame of domain 0 reaches its command's meaning (`Core.ptpFrame_own`), which decides by the followed master, the pending Sync and the open request; the servo is idle, steps or trims by the offset's size. -/
theorem gptp : Obligations.Gptp := by
  unfold Obligations.Gptp
  refine ⟨fun s m a d on => ⟨fun own follows => ⟨fun oneStep => ?_, fun twoStep => ?_, fun t pending => execPtpFollowUp_follows on own follows pending⟩,
      fun own => ⟨execPtpAnnounce_takes on own, fun w => execPtpAnnounce_leaves on own⟩,
      fun own => next_core_congr (Core.ptpFrame_own on own _), fun foreign => next_core_congr (Core.ptpFrame_foreign _ foreign _), rfl, rfl, next_core_congr (if_pos on)⟩,
    fun s d t1 on => ⟨next_core_congr (if_neg (by simp [on])), fun gm => ⟨next_core_congr (if_neg (by simp [on, gm])), next_core_congr (if_neg (by simp [on, gm]))⟩,
      fun own sent seq capable => execPdelayRespRx_open on own sent seq capable⟩,
    fun c o t => ⟨Core.servo_idle o t, fun enabled slave far unset => ?_, fun enabled slave near => ?_⟩⟩
  · exact (execPtpSync_follows on own follows).trans (next_core_congr (if_neg (by simp [oneStep])))
  · exact (execPtpSync_follows on own follows).trans (next_core_congr (if_pos twoStep))
  · rw [Core.servo_far o t enabled slave far unset]
    exact ⟨rfl, Core.synced_servoStep .., Core.timeValid_servoStep .., rfl, rfl⟩
  · rw [Core.servo_near o t enabled slave near]
    have time := (c.showOffset o).time_servoTrim o t
    have adj := (c.showOffset o).adj_servoTrim o t
    rw [Core.time_showOffset] at time adj
    refine ⟨congrArg Time.integ time, adj, (congrArg Time.good time).trans ?_, fun above below inRow => Core.synced_servoTrim ?_ t⟩
    · rw [smallOffsets_eq, apply_ite (Min.min · 8)]
      rfl
    · rw [Core.time_showOffset, smallOffsets_eq, if_pos ⟨above, below⟩]
      omega

end Sys2Proof.Machine
end

section
/-! SUPPORT. The input of an edge once it is known that the edge counts, and a write of CP_DI_STAT; then the statement about direct inputs that stamp their edges. -/
namespace Sys2Proof.Machine

/-! ### CP_DI_STAT (R261, R269) -/

theorem diStat_handled : R.CP_DI_STAT.Handled (fun c _ n _ act => let c := if acts F.CP_DI_STAT_OVERRUN act then c.setBit F.CP_DI_STAT_OVERRUN n false else c; if acts F.CP_DI_STAT_POP act then c.diPop n else c) := by
  constructor
  case handler => rfl
  all_goals decide +kernel

/-- A served write of POP takes the oldest stamp, and leaves OVERRUN (R261). -/
theorem Core.request_diPop {c : Core} {p : Path} {n : Nat} (hn : n < 16) (h : Writes c p ⟨R.CP_DI_STAT, n⟩) (ram : Ram) :
    c.request ram p (⟨R.CP_DI_STAT, n⟩ : Loc).addr (some (fieldWord F.CP_DI_STAT_POP 1)) none = c.wrote ram p R.CP_DI_STAT n (fieldWord F.CP_DI_STAT_POP 1) (fun d => d.diPop n) := by
  rw [Core.request_handled diStat_handled hn (Core.unusedSlotReg_of_base (by decide) c n) h (.inr (by decide))]
  have pops : acts F.CP_DI_STAT_POP (fieldWord F.CP_DI_STAT_POP 1 &&& (c.stores p R.CP_DI_STAT n ||| R.CP_DI_STAT.actMask)) = true := by
    rw [acts, Fld.read_acting (by decide)]
    decide
  have keeps : acts F.CP_DI_STAT_OVERRUN (fieldWord F.CP_DI_STAT_POP 1 &&& (c.stores p R.CP_DI_STAT n ||| R.CP_DI_STAT.actMask)) = false := by
    rw [acts, Fld.read_acting (by decide)]
    decide
  simp only [pops, keeps, if_true, Bool.false_eq_true, if_false]

/-! ### Edges (R261, R263, R315, R323) -/

theorem Core.setDi_setDi (c : Core) (n : Nat) (v w : DirIn) : (c.setDi n v).setDi n w = c.setDi n w := by
  rw [Core.setDi, Core.setDi, Tab.set_set]
  rfl

theorem Core.get_setDi (c : Core) (n : Nat) (v : DirIn) (f : Fld) (i : Nat) : (c.setDi n v).get f i = c.get f i := rfl
theorem Core.bit_setDi (c : Core) (n : Nat) (v : DirIn) (f : Fld) (i : Nat) : (c.setDi n v).bit f i = c.bit f i := rfl
theorem Core.runs_setDi (c : Core) (n : Nat) (v : DirIn) (i : Nat) : (c.setDi n v).runs i = c.runs i := rfl
theorem Core.stampBefore_setDi (c : Core) (n : Nat) (v : DirIn) (ns : Nat) (rising : Bool) : (c.setDi n v).stampBefore ns rising = c.stampBefore ns rising := rfl

/-- The input after an edge: it takes the level, and where the edge is selected and there is room, its stamp (R261). -/
def DirIn.takes (d : DirIn) (level sel : Bool) (st : Stamp) : DirIn :=
  { d with raw := level, level := level, fifo := if sel && !decide (4 ≤ d.fifo.length) then d.fifo ++ [st] else d.fifo }

/-- There is room where the FIFO holds fewer than 4 stamps. -/
theorem DirIn.takes_eq (d : DirIn) (level sel : Bool) (st : Stamp) :
    d.takes level sel st = { d with raw := level, level := level, fifo := if sel && decide (d.fifo.length < 4) then d.fifo ++ [st] else d.fifo } := by
  simp only [DirIn.takes, ← Nat.not_le, decide_not]

/-- What follows the input's taking of an edge: OVERRUN of a full FIFO, the limits, and of a stamped edge the captures and the wake (R261, R263, R318, R402). -/
def Core.diStamped (c : Core) (n : Nat) (sel full : Bool) (st : Stamp) : Core :=
  let c := (if sel && full then c.setBit F.CP_DI_STAT_OVERRUN n true else c).refreshLimits
  let c := if sel then (c.captureFrom 0 (c.mapped 0 n 1) st).captureFrom 1 (c.mapped 0 n 2) st else c
  if sel && (c.get F.PW_WAKE_DI_MASK 0).testBit n then c.wakeBy 8 else c

/-- An edge that counts, of an input that was `d` (R261, R315). -/
def Core.diEdge (c : Core) (n : Nat) (d : DirIn) (level : Bool) : Core :=
  let lv := level != c.bit F.FI_DI_CFG_INV n
  let st := c.stampBefore (diFilter (c.get F.FI_DI_CFG_FILT n) + c.get F.CP_DI_CFG_COMP n) lv
  let sel := edgeSelected (c.get F.CP_DI_CFG_EDGE n) lv
  (c.setDi n (d.takes level sel st)).diStamped n sel (Decidable.decide (4 ≤ d.fifo.length)) st

/-- What the input was before is in `d` alone. -/
theorem Core.diEdge_setDi (c : Core) (n : Nat) (v d : DirIn) (level : Bool) : (c.setDi n v).diEdge n d level = c.diEdge n d level := by
  simp only [Core.diEdge, Core.bit_setDi, Core.get_setDi, Core.stampBefore_setDi, Core.setDi_setDi]

/-- Where the time island runs, an edge is noted with the supply missing or the level known, and else counts (R261, R323). -/
theorem execDiEdge_runs {s : State} {n : Nat} (hn : n < 16) (runs : s.core.runs 0x22 = true) (level : Bool) :
    let d := s.core.diAt n
    let noted := s.core.setDi n { d with raw := level }
    execDiEdge s n level = .next { s with
      core := if s.core.bit F.FI_SUPPLY_MISSING 0 then noted else if level == d.level then noted else s.core.diEdge n d level } := by
  intro d noted
  have awake : ¬(!noted.runs 0x22) = true := by simp [noted, Core.runs_setDi, runs]
  rw [← Core.diEdge_setDi s.core n { d with raw := level }]
  exact (inRange_of_lt _ _ hn).trans (next_core_congr (if_neg awake))

/-- Settles O40: an edge is noted or counts (`execDiEdge_runs`), and POP reaches its handler. -/
theorem directInputsStamp : Obligations.DirectInputsStamp := by
  unfold Obligations.DirectInputsStamp
  intro s n level p hn d lv
  refine ⟨fun runs missing => ?_, fun runs supplied same => ?_, fun runs supplied edge => ?_, fun h => ?_⟩
  · exact (execDiEdge_runs hn runs level).trans (next_core_congr (if_pos missing))
  · exact (execDiEdge_runs hn runs level).trans (next_core_congr ((if_neg (ne_true_of_eq_false supplied)).trans (if_pos (beq_iff_eq.2 same))))
  · refine (execDiEdge_runs hn runs level).trans (next_core_congr ((if_neg (ne_true_of_eq_false supplied)).trans ((if_neg (mt beq_iff_eq.1 edge)).trans ?_)))
    rw [Core.diEdge, DirIn.takes_eq]
    rfl
  · exact (inRange_of_lt _ _ hn).trans (next_after_congr (Core.request_diPop hn h s.ram))

end Sys2Proof.Machine
end

section
/-! SUPPORT. Whether a command completes or faults, by what it names; then the statements about every command and about a step. -/
namespace Sys2Proof.Machine

/-- An outcome of a command that names what the part has, or does not: a next state with the queue as it was, or a fault by that name. -/
def State.Completes (s : State) (named : Bool) (o : Host.Outcome State Fault Refusal) : Prop :=
  (named = true → ∃ t, o = .next t ∧ t.pending = s.pending) ∧ (named = false → ∃ what n, o = .fault (.noSuch what n))

namespace State.Completes
variable {s : State} {named : Bool} {o : Host.Outcome State Fault Refusal}

theorem next {t : State} (h : t.pending = s.pending) : s.Completes true (.next t) := ⟨fun _ => ⟨t, rfl, h⟩, nofun⟩
theorem fault (what : String) (n : Nat) : s.Completes false (.fault (.noSuch what n)) := ⟨nofun, fun _ => ⟨what, n, rfl⟩⟩

theorem inRange {what : String} {i n : Nat} (h : s.Completes named o) : s.Completes (decide (i < n) && named) (inRange what i n o) := by
  by_cases hi : i < n
  · rw [inRange_of_lt _ _ hi, decide_eq_true hi]
    exact h
  · rw [inRange_of_ge _ _ hi, decide_eq_false hi]
    exact fault what i
/-- An index alone names what the command needs. -/
theorem index {what : String} {i n : Nat} (h : s.Completes true o) : s.Completes (decide (i < n)) (Machine.inRange what i n o) :=
  Bool.and_true (decide (i < n)) ▸ h.inRange
theorem xferRange {x : Xfer} (h : s.Completes true o) : s.Completes (xferOk x) (xferRange x o) := by
  by_cases ok : xferOk x = true
  · rw [ok, xferRange_of_ok ok]
    exact h
  · rw [eq_false_of_ne_true ok, show Machine.xferRange x o = .fault (.noSuch "transfer" x.words) from if_neg ok]
    exact fault ..

/-- One access of a register completes. -/
theorem regAccess (p : Path) (r : Reg) (i : Nat) (wr : Option Word) : s.Completes true (regAccess s p r i wr) := by
  cases wr <;> exact next rfl
/-- A parameter is named by its offset in a slot's registers. -/
theorem axParam (p : Path) {regs : List Reg} (hregs : ∀ r ∈ regs, 0x40100000 ≤ r.base) (slot param : Nat) (v : Word) :
    s.Completes (decide (slot < 128) && (regs.map (fun r => r.base - 0x40100000)).contains param) (axParam s p regs slot param v) := by
  refine inRange ?_
  have offset : ∀ r ∈ regs, (r.base == 0x40100000 + param) = (param == r.base - 0x40100000) := fun r hr => by
    have := hregs r hr
    exact Bool.eq_iff_iff.2 (by simp only [beq_iff_eq]; omega)
  cases hf : regs.find? (fun r => r.base == 0x40100000 + param) with
  | some r =>
    have hr := List.mem_of_find?_eq_some hf
    have found : (r.base == 0x40100000 + param) = true := List.find?_some (p := fun r : Reg => r.base == 0x40100000 + param) hf
    have named : r.base - 0x40100000 = param := (beq_iff_eq.1 ((offset r hr).symm.trans found)).symm
    have listed : (regs.map (fun r => r.base - 0x40100000)).contains param = true := List.contains_iff_mem.2 (List.mem_map.2 ⟨r, hr, named⟩)
    rw [listed]
    exact next rfl
  | none =>
    have missing : (regs.map (fun r => r.base - 0x40100000)).contains param = false := eq_false_of_ne_true fun h => by
      obtain ⟨r, hr, rfl⟩ := List.mem_map.1 (List.contains_iff_mem.1 h)
      exact List.find?_eq_none.1 hf r hr ((offset r hr).trans (beq_self_eq_true _))
    rw [missing]
    exact fault ..
theorem islandQuiesced (isl target : Nat) : s.Completes (decide (isl < 0x2A) && (target == 1 || target == 2 || target == 3)) (execIslandQuiesced s isl target) := by
  refine inRange ?_
  by_cases stops : target = 1 ∨ target = 2
  · rw [if_pos (by simpa using stops), show (target == 1 || target == 2 || target == 3) = true by simp [stops]]
    exact next rfl
  · rw [if_neg (by simpa using stops)]
    by_cases resets : target = 3
    · rw [if_pos resets, resets]
      exact next rfl
    · rw [if_neg resets, show (target == 1 || target == 2 || target == 3) = false by simpa [not_or] using ⟨not_or.1 stops, resets⟩]
      exact fault ..
theorem canObjLastRead (p : Path) (ch obj : Nat) : s.Completes (decide (ch < 4) && decide (obj < 512)) (execCanObjLastRead s p ch obj) := by
  refine inRange (index ?_)
  dsimp only
  split <;> exact next rfl
theorem powerReqBadTarget (p : Path) (target : Nat) : s.Completes (decide (5 ≤ target) && decide (target ≤ 7)) (execPowerReqBadTarget s p target) := by
  unfold execPowerReqBadTarget
  cases decide (5 ≤ target) && decide (target ≤ 7)
  · exact fault ..
  · exact next rfl

end State.Completes

/-- Every command completes where it is well formed and else faults by what it names. Named are the commands whose meaning chooses between outcomes; each other one is `onCore` or `onMem` within at most two ranges. -/
theorem exec_completes (i : Instr) (s : State) : s.Completes i.wellFormed (exec i s) := by
  cases i
  case islandQuiesced isl target => exact .islandQuiesced isl target
  case canObjLastRead p ch obj => exact .canObjLastRead p ch obj
  case powerReqBadTarget p target => exact .powerReqBadTarget p target
  case profileParamWrite p slot param v => exact .axParam p (regs := [R.AX_VMAX, R.AX_ACCEL, R.AX_DECEL, R.AX_SS1_DEC]) (by decide) slot param v
  case loopParamWrite p slot param v => exact .axParam p (regs := paramRegs) (by decide) slot param v
  case coefDataAccess p slot wr => exact .index (.regAccess p _ slot wr)
  case paDataAccess p slot wr => exact .index (.regAccess p _ slot wr)
  case keyDataAccess p wr => exact .regAccess p _ 0 wr
  case bankRequest bank x =>
    dsimp only [Instr.wellFormed]
    rw [Bool.and_assoc]
    exact .inRange (.inRange (.xferRange (.next rfl)))
  case emergencyTransfer => exact .inRange (.xferRange (.next rfl))
  all_goals
    dsimp only [exec, Instr.wellFormed]
    first
      | exact .inRange (.index (.next rfl))
      | exact .index (.next rfl)
      | exact .next rfl

/-- Settles O6: `exec_completes`, and an outcome that is a next state belongs to a well-formed command. -/
theorem wellFormedCommandsComplete : Obligations.WellFormedCommandsComplete := by
  refine ⟨fun i s => ⟨fun named => ?_, (exec_completes i s).2⟩, fun i s t ht => ?_⟩
  · obtain ⟨t, ht, -⟩ := (exec_completes i s).1 named
    exact ⟨t, ht⟩
  · cases named : i.wellFormed with
    | true =>
      obtain ⟨u, hu, kept⟩ := (exec_completes i s).1 named
      cases ht.symm.trans hu
      exact kept
    | false =>
      obtain ⟨what, n, hf⟩ := (exec_completes i s).2 named
      cases ht.symm.trans hf

/-- Settles O1: `step` takes the front command off the queue. -/
theorem stepRunsTheFrontCommand : Obligations.StepRunsTheFrontCommand := fun _ _ _ => rfl

end Sys2Proof.Machine
end

section
/-! SUPPORT. Fields that a write of another field and a log entry leave; then the statement about humidity. -/
namespace Sys2Proof.Machine

/-! ### Fields apart (R2) -/

/-- Two fields share no bit: they lie in different registers, or in one register side by side. -/
def Fld.apart (f g : Fld) : Bool :=
  decide (f.reg.id < 512) && decide (g.reg.id < 512) &&
    (decide (f.reg.id ≠ g.reg.id) || (decide (g.reg = f.reg) && decide (g.lsb + g.width ≤ 32) && (decide (f.lsb + f.width ≤ g.lsb) || decide (g.lsb + g.width ≤ f.lsb))))

/-- Setting a field leaves every field that it shares no bit with. -/
theorem Core.get_set_of_apart {f g : Fld} (h : f.apart g = true) (c : Core) (i j v : Nat) : (c.set f i v).get g j = c.get g j := by
  simp only [Fld.apart, Bool.and_eq_true, Bool.or_eq_true, decide_eq_true_eq] at h
  obtain ⟨⟨hf, hg⟩, hid | ⟨⟨hreg, hfits⟩, hside⟩⟩ := h
  · exact Core.get_set_reg c f g i j v hf hg hid
  · by_cases hij : i = j
    · exact hij ▸ Core.get_set_apart c f g i v hreg hfits hside
    · exact Core.get_set_inst c f g v hreg hf hij
theorem Core.get_setBit_of_apart {f g : Fld} (h : f.apart g = true) (c : Core) (i j : Nat) (b : Bool) : (c.setBit f i b).get g j = c.get g j := Core.get_set_of_apart h ..
theorem Core.get_addSat_of_apart {f g : Fld} (h : f.apart g = true) (c : Core) (i j n : Nat) : (c.addSat f i n).get g j = c.get g j := Core.get_set_of_apart h ..
theorem Core.bit_set_of_apart {f g : Fld} (h : f.apart g = true) (c : Core) (i j v : Nat) : (c.set f i v).bit g j = c.bit g j := by
  rw [Core.bit, Core.bit, Core.get_set_of_apart h]
theorem Core.bit_setBit_of_apart {f g : Fld} (h : f.apart g = true) (c : Core) (i j : Nat) (b : Bool) : (c.setBit f i b).bit g j = c.bit g j := Core.bit_set_of_apart h ..

/-- The fields that logging an event can set (R82, R437). -/
def logFlds : List Fld := [F.MG_HEALTH_LOG_DROPPED, F.MG_LOG_DROPPED_COUNT, F.EN_STRAP_STAT_EVENT_LOST, F.EN_EV_DROPPED_COUNT]

/-- Entering a log entry leaves a field apart from those. -/
theorem Core.get_enqueue {g : Fld} (h : ∀ f ∈ logFlds, f.apart g = true) (c : Core) (e : LogEntry) (j : Nat) : (c.enqueue e).get g j = c.get g j := by
  have drops (x : Saddler) : ((({ c with sad := x } : Core).setBit F.MG_HEALTH_LOG_DROPPED 0 true).addSat F.MG_LOG_DROPPED_COUNT 0 1).get g j = c.get g j := by
    rw [Core.get_addSat_of_apart (h F.MG_LOG_DROPPED_COUNT (by decide)), Core.get_setBit_of_apart (h F.MG_HEALTH_LOG_DROPPED (by decide))]
    rfl
  unfold Core.enqueue
  dsimp only
  (repeat' split) <;> first
    | rfl
    | exact drops _
/-- So does the sending of an event to a session. -/
theorem Core.get_deliver {g : Fld} (h : ∀ f ∈ logFlds, f.apart g = true) (c : Core) (e : LogEntry) (sid j : Nat) : (c.deliver e sid).get g j = c.get g j := by
  have pumps : ∀ d : Core, (d.pump sid).get g j = d.get g j := fun d => by
    unfold Core.pump
    dsimp only
    split <;> rfl
  unfold Core.deliver
  dsimp only
  split
  · rfl
  · split
    · rw [Core.get_addSat_of_apart (h F.EN_EV_DROPPED_COUNT (by decide)), Core.get_setBit_of_apart (h F.EN_STRAP_STAT_EVENT_LOST (by decide))]
      rfl
    · rw [pumps]
      rfl
/-- Logging leaves a field apart from those that it can set. -/
theorem Core.get_logFrom {g : Fld} (h : logFlds.all (·.apart g) = true) (c : Core) (origin code src arg j : Nat) : (c.logFrom origin code src arg).get g j = c.get g j := by
  have apart := List.all_eq_true.1 h
  unfold Core.logFrom
  dsimp only
  split
  · exact Core.get_enqueue apart ..
  · exact foldN_keeps (fun d : Core => d.get g j = c.get g j) _ _ _ (Core.get_enqueue apart ..) (fun d sid hd => (Core.get_deliver apart d _ sid j).trans hd)
theorem Core.bit_logFrom {g : Fld} (h : logFlds.all (·.apart g) = true) (c : Core) (origin code src arg j : Nat) : (c.logFrom origin code src arg).bit g j = c.bit g j := by
  rw [Core.bit, Core.bit, Core.get_logFrom h]

/-! ### Reads of a point (R427, R429) -/

/-- A point that goes STALE leaves every field that neither STALE nor logging can set. -/
theorem Core.get_goStale {g : Fld} {p : Nat} (hs : (staleFld p).1.apart g = true) (h : logFlds.all (·.apart g) = true) (c : Core) (j : Nat) : (c.goStale p).get g j = c.get g j := by
  unfold Core.goStale
  dsimp only
  split
  · rfl
  · rw [Core.get_logFrom h, Core.get_setBit_of_apart hs]
    rfl

/-- The point of a valid reading (R427). -/
def Core.pointTaken (c : Core) (p : Nat) (v : Int) : Point :=
  let x := c.pointAt p
  let mates := ((rowMates p).filter (fun m => (c.pointAt m).seen)).map (fun m => (m, (c.pointAt m).raw))
  let x := if x.seen && v = x.raw then
      let far := x.marks.any (fun a => Decidable.decide (32 ≤ (a.2 - (c.pointAt a.1).raw).natAbs))
      { x with same := Min.min 300 (x.same + 1), moved := x.moved || far }
    else { x with same := 1, moved := false, marks := mates }
  { x with raw := v, seen := true, fails := 0, good := Min.min 10 (x.good + 1) }
/-- What a valid reading shows (R427, R429). -/
def Core.pointShown (c : Core) (p : Nat) (v : Int) : Core :=
  let c := if p = 14 then c.set F.MG_RH_RH 0 v.toNat else c.set F.MG_TEMP_TEMP p (BitVec.ofInt 16 v).toNat
  if p = 14 && v < 80 then c.setBit F.MG_HEALTH_HUMIDITY_HIGH 0 false else c
/-- What becomes of STALE after a reading that left the point as `x`. -/
def Core.pointJudged (c : Core) (p : Nat) (first : Bool) (x : Point) : Core :=
  if x.same = 300 && x.moved then c.goStale p
  else if first || x.good = 10 then c.setBit (staleFld p).1 (staleFld p).2 false else c

/-- A valid reading of a point whose segment is not isolated is taken, shown, and judged. -/
theorem Core.pointRead_valid {c : Core} {p : Nat} {v : Int} (joined : (c.get F.MG_HEALTH_ISOLATED 0).testBit (segmentOf p) = false) (valid : pointValid p v = true) :
    c.pointRead p (some v) = ((c.setPoint p (c.pointTaken p v)).pointShown p v).pointJudged p (!(c.pointAt p).seen) (c.pointTaken p v) := by
  exact (if_neg (ne_true_of_eq_false joined)).trans (if_neg (by simp [valid]))

/-- Judging STALE leaves every field that neither STALE nor logging can set. -/
theorem Core.get_pointJudged {g : Fld} {p : Nat} (hs : (staleFld p).1.apart g = true) (h : logFlds.all (·.apart g) = true) (c : Core) (first : Bool) (x : Point) (j : Nat) :
    (c.pointJudged p first x).get g j = c.get g j := by
  unfold Core.pointJudged
  split
  · exact Core.get_goStale hs h c j
  · split
    · exact Core.get_setBit_of_apart hs ..
    · rfl

theorem Core.get_setPoint (c : Core) (p : Nat) (x : Point) (f : Fld) (i : Nat) : (c.setPoint p x).get f i = c.get f i := rfl

/-- Settles O55: the flag is set once, and a valid reading of RH reaches `Core.pointShown`. -/
theorem humidityIsFlagged : Obligations.HumidityIsFlagged := by
  unfold Obligations.HumidityIsFlagged
  intro s rh runs
  refine ⟨fun clear => next_core_congr (if_neg (by simp [runs, clear])), fun high => next_core_congr (if_pos (by simp [high])), fun c v h0 h100 joined => ?_⟩
  rw [Core.pointRead_valid (p := 14) joined (by simp [pointValid, h0, h100]), Core.bit, Core.get_pointJudged (by decide) (by decide), Core.get_pointJudged (by decide) (by decide), Core.pointShown, if_pos rfl]
  by_cases low : v < 80
  · rw [if_pos (by simp [low]), Core.get_setBit_of_apart (by decide), Core.get_set _ _ _ _ (by decide)]
    refine ⟨Nat.mod_eq_of_lt (by show v.toNat < 256; omega), (Core.bit_setBit _ F.MG_HEALTH_HUMIDITY_HIGH 0 false (by decide) rfl).trans ?_⟩
    rw [decide_eq_false (by omega), Bool.and_false]
  · rw [if_neg (by simp [low]), Core.get_set _ _ _ _ (by decide), Core.get_set_of_apart (by decide), Core.get_setPoint, decide_eq_true (by omega), Bool.and_true]
    exact ⟨Nat.mod_eq_of_lt (by show v.toNat < 256; omega), rfl⟩

end Sys2Proof.Machine
end

section
/-! SUPPORT. Reads of the sensors, and what a retry of the isolated segments leaves isolated; then the statement about sensors and their bus. -/
namespace Sys2Proof.Machine

/-! ### Reads (R426–R428, R430, R431) -/

/-- The point, rail or input current of a read, before MG_HEALTH.STALE_ANY follows. -/
def Core.sensed (c : Core) (point : Nat) (bus : BusCheck) (r : Option Int) : Core :=
  if point < 15 then c.busRead point bus r
  else match r with
    | none => c
    | some v =>
      let c := if point < 25 then c.railRead (point - 15) v.toNat else c.set F.MG_IIN_MA 0 (Min.min 0xFFFF v.toNat)
      if point = 15 || point = 25 then { c with sched := { c.sched with pinSum := c.sched.pinSum + c.pinNow, pinN := c.sched.pinN + 1 } } else c
/-- STALE_ANY says whether a point is STALE. -/
def Core.showStale (c : Core) : Core := c.setBit F.MG_HEALTH_STALE_ANY 0 ((List.range 15).any (fun p => c.bit (staleFld p).1 (staleFld p).2))

theorem execSensorRead_runs {s : State} (runs : s.core.runs 0x28 = true) {point : Nat} (h : point < 26) (bus : BusCheck) (r : Option Int) :
    execSensorRead s point bus r = .next { s with core := (s.core.sensed point bus r).showStale } :=
  (inRange_of_lt _ _ h).trans (next_core_congr (if_neg (by simp [runs])))

theorem Core.sensed_point (c : Core) {point : Nat} (h : point < 15) (bus : BusCheck) (r : Option Int) : c.sensed point bus r = c.busRead point bus r := if_pos h
/-- A point of an isolated segment is not read (R431). -/
theorem Core.busRead_isolated {c : Core} {point : Nat} (h : (c.get F.MG_HEALTH_ISOLATED 0).testBit (segmentOf point) = true) (bus : BusCheck) (r : Option Int) : c.busRead point bus r = c := if_pos h
theorem Core.busRead_joined {c : Core} {point : Nat} (h : (c.get F.MG_HEALTH_ISOLATED 0).testBit (segmentOf point) = false) (bus : BusCheck) (r : Option Int) :
    c.busRead point bus r = match bus with
      | .free => c.pointRead point r
      | .recovered => (c.addSat F.MG_I2C_RECOVERIES 0 1).pointRead point r
      | .held => (c.pointRead point none).isolate (segmentOf point) := if_neg (ne_true_of_eq_false h)
/-- A read of the converter that failed shows nothing. -/
theorem Core.sensed_failed (c : Core) {point : Nat} (h : 15 ≤ point) (bus : BusCheck) : c.sensed point bus none = c := if_neg (Nat.not_lt.2 h)
theorem Core.sensed_rail (c : Core) {rail : Nat} (h : rail < 10) (bus : BusCheck) (v : Int) :
    c.sensed (15 + rail) bus (some v) =
      if rail = 0 then { c.railRead rail v.toNat with sched := { (c.railRead rail v.toNat).sched with pinSum := (c.railRead rail v.toNat).sched.pinSum + (c.railRead rail v.toNat).pinNow, pinN := (c.railRead rail v.toNat).sched.pinN + 1 } }
      else c.railRead rail v.toNat := by
  unfold Core.sensed
  simp only [show ¬15 + rail < 15 by omega, show 15 + rail < 25 by omega, if_false, if_true, Nat.add_sub_cancel_left]
  by_cases h0 : rail = 0
  · rw [if_pos h0, if_pos (by simp [h0])]
  · rw [if_neg h0, if_neg (by simp [h0]; omega)]

/-! ### A point's trust (R427) -/

/-- A reading outside the valid range makes the point STALE. -/
theorem Core.pointRead_invalid {c : Core} {p : Nat} {v : Int} (joined : (c.get F.MG_HEALTH_ISOLATED 0).testBit (segmentOf p) = false) (invalid : pointValid p v = false) :
    c.pointRead p (some v) = (c.setPoint p { c.pointAt p with fails := 0 }).goStale p :=
  (if_neg (ne_true_of_eq_false joined)).trans (if_pos (by simp [invalid]))
/-- So does the third read in a row that fails. -/
theorem Core.pointRead_thirdFail {c : Core} {p : Nat} (joined : (c.get F.MG_HEALTH_ISOLATED 0).testBit (segmentOf p) = false) (failed : 2 ≤ (c.pointAt p).fails) :
    c.pointRead p none = (c.setPoint p { c.pointAt p with fails := Min.min 3 ((c.pointAt p).fails + 1), good := 0 }).goStale p :=
  (if_neg (ne_true_of_eq_false joined)).trans (if_pos (by omega))

theorem staleFld_temp {p : Nat} (h : p < 14) : staleFld p = (F.MG_TEMP_STALE, p) := if_neg (by omega)
/-- A temperature point that goes STALE shows it. -/
theorem Core.stale_goStale {p : Nat} (h : p < 14) (c : Core) : (c.goStale p).bit F.MG_TEMP_STALE p = true := by
  unfold Core.goStale
  rw [staleFld_temp h]
  dsimp only
  split
  · next stale => exact stale
  · rw [Core.bit_logFrom (by decide)]
    exact Core.bit_setBit _ F.MG_TEMP_STALE p true (by decide) rfl

/-! ### Rails (R428) -/

/-- A rail read shows its value, and its FAULT where it stays out of range. -/
theorem Core.railRead_spec (c : Core) (rail mv : Nat) :
    (c.railRead rail mv).get F.MG_RAIL_MV rail = Min.min 0xFFFF mv ∧ (c.railRead rail mv).bit F.MG_RAIL_FAULT rail = (c.bit F.MG_RAIL_FAULT rail && !railOk rail mv) := by
  let shown : Core := c.set F.MG_RAIL_MV rail (Min.min 0xFFFF mv)
  let vin : Core := if rail = 0 then shown.set F.PW_SUPPLY_VIN 0 (Min.min 0xFFFF (mv / 10)) else shown
  let cell : Core := if rail = 9 then (vin.set F.PW_CELL_CELL_MV 0 (Min.min 0xFFFF mv)).setBit F.PW_CELL_CELL_LOW 0 (Decidable.decide (mv < 2500)) else vin
  have keeps (g : Fld) (hv : F.PW_SUPPLY_VIN.apart g = true) (hm : F.PW_CELL_CELL_MV.apart g = true) (hl : F.PW_CELL_CELL_LOW.apart g = true) : cell.get g rail = shown.get g rail := by
    have hvin : vin.get g rail = shown.get g rail := by
      by_cases h : rail = 0
      · rw [show vin = _ from if_pos h, Core.get_set_of_apart hv]
      · rw [show vin = _ from if_neg h]
    by_cases h : rail = 9
    · rw [show cell = _ from if_pos h, Core.get_setBit_of_apart hl, Core.get_set_of_apart hm, hvin]
    · rw [show cell = _ from if_neg h, hvin]
  have ends : c.railRead rail mv = (if railOk rail mv then cell.setBit F.MG_RAIL_FAULT rail false else cell).setBit F.MG_HEALTH_RAIL_FAULT 0
      ((List.range 10).any (fun i => (if railOk rail mv then cell.setBit F.MG_RAIL_FAULT rail false else cell).bit F.MG_RAIL_FAULT i)) := rfl
  have value : cell.get F.MG_RAIL_MV rail = Min.min 0xFFFF mv := by
    rw [keeps F.MG_RAIL_MV (by decide) (by decide) (by decide), Core.get_set _ _ _ _ (by decide)]
    exact Nat.mod_eq_of_lt (by show Min.min 0xFFFF mv < 65536; omega)
  have fault : cell.bit F.MG_RAIL_FAULT rail = c.bit F.MG_RAIL_FAULT rail := by
    rw [Core.bit, keeps F.MG_RAIL_FAULT (by decide) (by decide) (by decide), Core.get_set_of_apart (by decide)]
    rfl
  rw [ends, Core.get_setBit_of_apart (by decide), Core.bit_setBit_of_apart (by decide)]
  cases railOk rail mv with
  | true => exact ⟨(Core.get_setBit_of_apart (by decide) ..).trans value, (Core.bit_setBit _ F.MG_RAIL_FAULT rail false (by decide) rfl).trans (by simp)⟩
  | false => exact ⟨value, fault.trans (by simp)⟩

/-! ### The check of the isolated segments (R431, R432) -/

/-- The check of one isolated segment. -/
def retrySegment (pass recovered : BitVec 4) (c : Core) (n : Nat) : Core :=
  if pass.getLsbD n = false then c
  else (((if recovered.getLsbD n then c.addSat F.MG_I2C_RECOVERIES 0 1 else c).set F.MG_HEALTH_ISOLATED 0 (c.get F.MG_HEALTH_ISOLATED 0 &&& (15 - 2 ^ n))).setBit F.MG_HEALTH_I2C_TRUNK 0 false).logFrom 0x28 0x0702 n 0

theorem Core.segmentRetry_eq (c : Core) (pass recovered : BitVec 4) :
    c.segmentRetry pass.toNat recovered.toNat = foldN (bitsOf 4 (c.get F.MG_HEALTH_ISOLATED 0)) c (retrySegment pass recovered) := by
  unfold Core.segmentRetry
  congr 1
  funext d n
  have isolated : (if recovered.getLsbD n then d.addSat F.MG_I2C_RECOVERIES 0 1 else d).get F.MG_HEALTH_ISOLATED 0 = d.get F.MG_HEALTH_ISOLATED 0 := by
    split
    · exact Core.get_addSat_of_apart (by decide) ..
    · rfl
  unfold retrySegment
  have read : pass.toNat.testBit n = pass.getLsbD n := rfl
  rw [read, ← isolated]
  cases pass.getLsbD n <;> rfl

theorem testBit_fifteen_sub {n : Nat} (h : n < 4) (k : Nat) : (15 - 2 ^ n).testBit k = (decide (k < 4) && decide (k ≠ n)) := by
  have : 15 - 2 ^ n = 2 ^ 4 - (2 ^ n + 1) := by omega
  rw [this, Nat.testBit_two_pow_sub_succ (Nat.pow_lt_pow_right (by decide) h), Nat.testBit_two_pow]
  by_cases hk : n = k <;> simp [hk, eq_comm]

/-- A check takes back the segment if it passes, and no other. -/
theorem isolated_retrySegment (pass recovered : BitVec 4) (c : Core) {n seg : Nat} (hn : n < 4) (hs : seg < 4) :
    ((retrySegment pass recovered c n).get F.MG_HEALTH_ISOLATED 0).testBit seg = ((c.get F.MG_HEALTH_ISOLATED 0).testBit seg && !(decide (seg = n) && pass.getLsbD n)) := by
  unfold retrySegment
  cases hp : pass.getLsbD n with
  | false => simp
  | true =>
    rw [if_neg (by decide), Core.get_logFrom (by decide), Core.get_setBit_of_apart (by decide), Core.get_set _ _ _ _ (by decide), Nat.testBit_mod_two_pow, Nat.testBit_and, testBit_fifteen_sub hn]
    by_cases h : seg = n <;> simp [h, hs, show n < F.MG_HEALTH_ISOLATED.width from hn, show seg < F.MG_HEALTH_ISOLATED.width from hs]

/-- The segments of a list that pass are taken back. -/
theorem isolated_foldN_retrySegment (pass recovered : BitVec 4) {seg : Nat} (hs : seg < 4) (l : List Nat) (hl : ∀ n ∈ l, n < 4) (c : Core) :
    ((foldN l c (retrySegment pass recovered)).get F.MG_HEALTH_ISOLATED 0).testBit seg = ((c.get F.MG_HEALTH_ISOLATED 0).testBit seg && !(decide (seg ∈ l) && pass.getLsbD seg)) := by
  induction l generalizing c with
  | nil => simp [foldN]
  | cons n l ih =>
    refine (ih (fun m hm => hl m (List.mem_cons_of_mem _ hm)) (retrySegment pass recovered c n)).trans ?_
    rw [isolated_retrySegment pass recovered c (hl n (List.mem_cons_self ..)) hs]
    by_cases h : seg = n
    · subst h
      cases pass.getLsbD seg <;> simp
    · simp [h]

theorem mem_bitsOf {n m k : Nat} : k ∈ bitsOf n m ↔ k < n ∧ m.testBit k = true := by simp [bitsOf]

/-- A retry takes back the isolated segments that pass (R432). -/
theorem isolated_retry (pass recovered : BitVec 4) {seg : Nat} (hs : seg < 4) (c : Core) :
    ((foldN (bitsOf 4 (c.get F.MG_HEALTH_ISOLATED 0)) c (retrySegment pass recovered)).get F.MG_HEALTH_ISOLATED 0).testBit seg = ((c.get F.MG_HEALTH_ISOLATED 0).testBit seg && !pass.getLsbD seg) := by
  rw [isolated_foldN_retrySegment pass recovered hs _ (fun n hn => (mem_bitsOf.1 hn).1)]
  cases isolated : (c.get F.MG_HEALTH_ISOLATED 0).testBit seg <;> simp [mem_bitsOf, hs, isolated]

/-- A served write of MG_I2C.RETRY has the outcome that the environment gives (R432). -/
theorem Core.request_i2cRetry {c : Core} {p : Path} (h : Writes c p ⟨R.MG_I2C, 0⟩) (ram : Ram) (f : Core → Core) :
    c.request ram p (⟨R.MG_I2C, 0⟩ : Loc).addr (some (fieldWord F.MG_I2C_RETRY 1)) (some f) = c.wrote ram p R.MG_I2C 0 (fieldWord F.MG_I2C_RETRY 1) f := by
  rw [Core.wrote_hook h (by decide +kernel) (by decide) (by decide)]
  refine Core.wrote_congr (if_neg fun none => ?_) ram
  have asked := congrArg F.MG_I2C_RETRY.read none
  rw [Fld.read_acting (by decide)] at asked
  exact absurd asked (by decide)

/-- Settles O56: a read reaches `Core.sensed`, a point's trust turns on `Core.goStale`, and a retry is `retrySegment` along the isolated segments. -/
theorem sensorsAndTheirBus : Obligations.SensorsAndTheirBus := by
  unfold Obligations.SensorsAndTheirBus
  intro s p point rail mv seg v r pass recovered hrail hseg isolated anyStale summed gives stuck back
  have back_eq (c : Core) : back c = c.segmentRetry pass.toNat recovered.toNat := (Core.segmentRetry_eq ..).symm
  refine ⟨fun runs => ?_, fun h => ?_, fun c => isolated_retry pass recovered hseg c, fun c => c.railRead_spec rail mv, fun c h joined => ⟨fun valid => ?_, fun invalid => ?_, fun failed => ?_⟩⟩
  · have reads {n : Nat} (h : n < 26) (bus : BusCheck) (x : Option Int) : exec (.sensorRead n bus x) s = .next { s with core := anyStale (s.core.sensed n bus x) } := execSensorRead_runs runs h bus x
    refine ⟨fun h joined => ?_, fun h apart bus => ?_, fun bus h15 h26 => ?_, fun bus => ?_, fun bus => reads (by decide) bus (some v), fun bad => ?_, fun ok => ?_, fun joined => ?_, fun apart => ?_, ?_⟩
    · have joins (bus : BusCheck) := (reads (by omega) bus r).trans (next_core_congr (congrArg anyStale ((Core.sensed_point s.core h bus r).trans (Core.busRead_joined joined bus r))))
      exact ⟨joins .free, joins .recovered, joins .held⟩
    · exact (reads (by omega) bus r).trans (next_core_congr (congrArg anyStale ((Core.sensed_point s.core h bus r).trans (Core.busRead_isolated apart bus r))))
    · exact (reads h26 bus none).trans (next_core_congr (congrArg anyStale (Core.sensed_failed s.core h15 bus)))
    · exact (reads (by omega) bus (some v)).trans (next_core_congr (congrArg anyStale (Core.sensed_rail s.core hrail bus v)))
    · exact (inRange_of_lt _ _ hrail).trans (next_core_congr (if_neg (by simp [runs, bad])))
    · exact (inRange_of_lt _ _ hrail).trans (next_core_congr (if_pos (by simp [ok])))
    · exact (inRange_of_lt _ _ hseg).trans (next_core_congr ((if_pos runs).trans (if_neg (ne_true_of_eq_false joined))))
    · exact (inRange_of_lt _ _ hseg).trans (next_core_congr ((if_pos runs).trans (if_pos apart)))
    · exact next_core_congr ((if_pos runs).trans (back_eq s.core).symm)
  · exact next_after_congr ((Core.request_i2cRetry h s.ram _).trans (Core.wrote_congr (back_eq _).symm s.ram))
  · rw [Core.pointRead_valid joined valid, Core.get_pointJudged (by rw [staleFld_temp h]; exact (by decide : F.MG_TEMP_STALE.apart F.MG_TEMP_TEMP = true)) (by decide), Core.pointShown,
      if_neg (show ¬point = 14 by omega), if_neg (by simp [show ¬point = 14 by omega]), Core.get_set _ _ _ _ (by decide)]
    exact Nat.mod_eq_of_lt (BitVec.isLt _)
  · rw [Core.pointRead_invalid joined invalid]
    exact Core.stale_goStale h _
  · rw [Core.pointRead_thirdFail joined failed]
    exact Core.stale_goStale h _

end Sys2Proof.Machine
end

section
/-! SUPPORT. Writes of registers whose handler acts and stores nothing, and what is written to flash next; then the statement about the log. -/
namespace Sys2Proof.Machine

/-! ### Writes that act (R5, R7, R74) -/

/-- A write that acts on something reaches a register's handler (R5). -/
theorem Core.effect_sysHandler_acting {r : Reg} {e : Reg × (Core → Ram → Path → Word → Word → Core)} (he : sysHandlers.find? (fun x => x.1.id == r.id) = some e) {v act : Word} (ha : v &&& act ≠ 0)
    (c : Core) (ram : Ram) (p : Path) (i : Nat) (store : Word) : c.effect ram p r i v store act = e.2 c ram p ((c.reg r i &&& ~~~store) ||| (v &&& store)) (v &&& (store ||| act)) := by
  have hbits : (Decidable.decide (v &&& (store ||| act) = 0) && Decidable.decide (store = 0)) = false := by
    rw [Bool.and_comm, Bool.and_eq_false_imp]
    intro h0
    rw [of_decide_eq_true h0, show (0 : Word) = 0#32 from rfl, BitVec.zero_or]
    exact decide_eq_false ha
  unfold Core.effect
  rw [he]
  simp only [hbits, Bool.false_and, Bool.false_eq_true, if_false]

/-- A served write of a plain register that acts on something (R5). -/
theorem Core.request_acting {c : Core} {p : Path} {r : Reg} {i : Nat} {e : Reg × (Core → Ram → Path → Word → Word → Core)} (h : Writes c p ⟨r, i⟩) (hp : r.plain = true) (hi : i < r.count) (hw : r.writable = true)
    (he : sysHandlers.find? (fun x => x.1.id == r.id) = some e) {v : Word} (hv : v &&& r.actMask ≠ 0) (ram : Ram) :
    c.request ram p (⟨r, i⟩ : Loc).addr (some v) none = c.wrote ram p r i v (fun d => e.2 d ram p (d.taken p r i v) (v &&& (d.stores p r i ||| r.actMask))) := by
  rw [Core.wrote_write h hp hi hw]
  exact Core.wrote_congr (Core.effect_sysHandler_acting he hv ..) ram

/-- A write that changes no RWX field is refused on no path (R7, R74). -/
theorem Core.writeReg_unchanged {c : Core} {p : Path} {r : Reg} {i : Nat} {v : Word} (hv : v &&& r.accMask (fun f => f.acc = .rwx) = (c.dropHold p).value p r i &&& r.accMask (fun f => f.acc = .rwx))
    (hm : mirrored r = false) (hw : r.writable = true) (ram : Ram) :
    c.writeReg ram p ⟨r, i⟩ v none =
      (0, ((c.dropHold p).effect ram p r i v ((c.dropHold p).stores p r i) r.actMask).sendChange r i ((c.dropHold p).taken p r i v ||| (v &&& r.actMask))) := by
  unfold Core.writeReg Core.taken Core.stores
  simp only [hm, hw, hv, Bool.false_and, Bool.true_or, Bool.not_true, Bool.or_self, Bool.false_eq_true, decide_true, Bool.or_true, if_false, if_true]

/-- A served write of a plain register that changes no RWX field, on any path. -/
theorem Core.request_unchanged {c : Core} {p : Path} {r : Reg} {i : Nat} {v : Word} (h : Reaches c p ⟨r, i⟩ false) (hp : r.plain = true) (hi : i < r.count) (hw : r.writable = true) (hm : mirrored r = false)
    (hv : v &&& r.accMask (fun f => f.acc = .rwx) = (c.sent p (⟨r, i⟩ : Loc).addr [v]).value p r i &&& r.accMask (fun f => f.acc = .rwx)) (ram : Ram) :
    c.request ram p (⟨r, i⟩ : Loc).addr (some v) none = c.wrote ram p r i v (fun d => d.effect ram p r i v (d.stores p r i) r.actMask) := by
  obtain ⟨named, outside, inBlock, outsideSf⟩ := Reg.plain_loc hp hi
  have check : opCheck (⟨r, i⟩ : Loc).addr 1 = 0 := opCheck_loc named inBlock
  have allowed : c.pathRefusal p (⟨r, i⟩ : Loc).addr false = 0 := h.allowed
  have acks : c.silent.contains (⟨r, i⟩ : Loc).addr = false := h.acks
  unfold Core.request Core.command
  simp only [h.heard, Bool.not_true, Bool.false_eq_true, if_false, Option.isNone_some, allowed, ne_eq, not_true_eq_false, check, h.free, h.awake, Bool.or_self]
  unfold Core.access Core.writeAt
  simp only [if_neg outsideSf, h.runs, Core.silent_accepted, acks, Bool.not_true, Bool.false_eq_true, if_false, named, if_neg outside]
  rw [Core.writeReg_unchanged hv hm hw]
  rfl

/-! ### The log's registers (R436, R450, R473) -/

theorem sysHandlers_logCtrl : sysHandlers.find? (fun x => x.1.id == R.MG_LOG_CTRL.id) =
    some (R.MG_LOG_CTRL, fun c _ _ _ act => c.logCtrl (acts F.MG_LOG_CTRL_READ act) (acts F.MG_LOG_CTRL_READ_PIN act) (acts F.MG_LOG_CTRL_PIN_CLEAR act) (F.MG_LOG_CTRL_KEY.read act)) := rfl
theorem sysHandlers_led : sysHandlers.find? (fun x => x.1.id == R.SYS_LED.id) =
    some (R.SYS_LED, fun c _ _ _ act => if acts F.SYS_LED_LOCATE act && !c.rst.held then { c with sad := { c.sad with locate := true } } else c) := rfl

/-- A read of the log is asked for (R450). -/
def Core.asksEntry (c : Core) (pin : Bool) (n : Nat) : Core := { c with sad := { c.sad with readReq := some (pin, n) } }.setBit F.MG_LOG_STAT_BUSY 0 true
/-- The pinned region is erased from now on (R436). -/
def Core.erasesPins (c : Core) (key : Byte) : Core := if key = 0x5A then { c with sad := { c.sad with pinErasing := true } } else c

theorem Core.logCtrl_clear (c : Core) (key : Byte) : c.logCtrl false false true key.toNat = c.erasesPins key := by
  have hkey : key.toNat = 0x5A ↔ key = 0x5A := BitVec.toNat_inj (y := (0x5A : Byte))
  unfold Core.logCtrl Core.erasesPins
  simp only [Bool.false_eq_true, if_false, Bool.true_and, hkey, decide_eq_true_eq]

/-- A write of READ or READ_PIN reaches the log on any path: KEY and PIN_CLEAR stay as they are (R7, R450). -/
theorem Core.request_logRead {c : Core} {p : Path} (h : Reaches c p ⟨R.MG_LOG_CTRL, 0⟩ false) (clear : c.reg R.MG_LOG_CTRL 0 = 0) {v : Word} (hv : v &&& R.MG_LOG_CTRL.accMask (fun f => f.acc = .rwx) = 0)
    (ha : v &&& R.MG_LOG_CTRL.actMask ≠ 0) (ram : Ram) :
    c.request ram p (⟨R.MG_LOG_CTRL, 0⟩ : Loc).addr (some v) none = c.wrote ram p R.MG_LOG_CTRL 0 v (fun d => d.logCtrl (acts F.MG_LOG_CTRL_READ v) (acts F.MG_LOG_CTRL_READ_PIN v) false 0) := by
  have word : (c.sent p (⟨R.MG_LOG_CTRL, 0⟩ : Loc).addr [v]).reg R.MG_LOG_CTRL 0 = 0 := (Core.reg_sent c p _ _ (by decide) (by decide)).trans clear
  have shows : (c.sent p (⟨R.MG_LOG_CTRL, 0⟩ : Loc).addr [v]).value p R.MG_LOG_CTRL 0 = 0 := by
    rw [show (c.sent p (⟨R.MG_LOG_CTRL, 0⟩ : Loc).addr [v]).value p R.MG_LOG_CTRL 0 = (c.sent p (⟨R.MG_LOG_CTRL, 0⟩ : Loc).addr [v]).reg R.MG_LOG_CTRL 0 &&& _ from rfl, word]
    exact BitVec.zero_and
  rw [Core.request_unchanged h (by decide +kernel) (by decide) (by decide) (by decide) (by rw [shows, hv]; decide)]
  refine Core.wrote_congr ?_ ram
  rw [Core.effect_sysHandler_acting sysHandlers_logCtrl ha]
  have idle (f : Fld) (hf : f.within (R.MG_LOG_CTRL.accMask (fun f => f.acc = .rwx)) = true) (m : Word) : f.read (v &&& m) = 0 := by
    have zero : f.read v = 0 := by
      rw [← Fld.read_and hf, hv]
      exact (by simp [Fld.read] : f.read 0 = 0)
    exact Fld.read_and_zero zero m
  simp only [acts, Fld.read_acting (f := F.MG_LOG_CTRL_READ) (r := R.MG_LOG_CTRL) (by decide), Fld.read_acting (f := F.MG_LOG_CTRL_READ_PIN) (r := R.MG_LOG_CTRL) (by decide),
    idle F.MG_LOG_CTRL_PIN_CLEAR (by decide), idle F.MG_LOG_CTRL_KEY (by decide), show Decidable.decide (0 = 1) = false from rfl]

/-- A served write of PIN_CLEAR with a key (R436). -/
theorem Core.request_pinClear {c : Core} {p : Path} (h : Writes c p ⟨R.MG_LOG_CTRL, 0⟩) (key : Byte) (ram : Ram) :
    c.request ram p (⟨R.MG_LOG_CTRL, 0⟩ : Loc).addr (some (F.MG_LOG_CTRL_KEY.write (fieldWord F.MG_LOG_CTRL_PIN_CLEAR 1) key.toNat)) none =
      c.wrote ram p R.MG_LOG_CTRL 0 (F.MG_LOG_CTRL_KEY.write (fieldWord F.MG_LOG_CTRL_PIN_CLEAR 1) key.toNat) (fun d => d.erasesPins key) := by
  rw [Core.request_sysHandler h (by decide +kernel) (by decide) (by decide) (by decide) (by decide) sysHandlers_logCtrl (by decide)]
  refine Core.wrote_congr ?_ ram
  have apart (f : Fld) (hf : f.lsb + f.width ≤ 32) (hk : F.MG_LOG_CTRL_KEY.lsb + F.MG_LOG_CTRL_KEY.width ≤ f.lsb ∨ f.lsb + f.width ≤ F.MG_LOG_CTRL_KEY.lsb)
      (hin : f.within (R.MG_LOG_CTRL.accMask FldDesc.stored ||| R.MG_LOG_CTRL.actMask) = true) :
      f.read (F.MG_LOG_CTRL_KEY.write (fieldWord F.MG_LOG_CTRL_PIN_CLEAR 1) key.toNat &&& (R.MG_LOG_CTRL.accMask FldDesc.stored ||| R.MG_LOG_CTRL.actMask)) = f.read (fieldWord F.MG_LOG_CTRL_PIN_CLEAR 1) := by
    rw [Fld.read_and hin, Fld.read_write_ne _ _ _ _ hf hk]
  dsimp only
  rw [acts, acts, acts, apart F.MG_LOG_CTRL_READ (by decide) (by decide) (by decide), apart F.MG_LOG_CTRL_READ_PIN (by decide) (by decide) (by decide),
    apart F.MG_LOG_CTRL_PIN_CLEAR (by decide) (by decide) (by decide), Fld.read_and (by decide), Fld.read_write _ _ _ (by decide)]
  rw [show key.toNat % 2 ^ F.MG_LOG_CTRL_KEY.width = key.toNat from Nat.mod_eq_of_lt key.isLt]
  exact Core.logCtrl_clear _ key

/-- A served write of LOCATE (R473). -/
theorem Core.request_locate {c : Core} {p : Path} (h : Writes c p ⟨R.SYS_LED, 0⟩) (ram : Ram) :
    c.request ram p (⟨R.SYS_LED, 0⟩ : Loc).addr (some (fieldWord F.SYS_LED_LOCATE 1)) none =
      c.wrote ram p R.SYS_LED 0 (fieldWord F.SYS_LED_LOCATE 1) (fun d => if d.rst.held then d else { d with sad := { d.sad with locate := true } }) := by
  rw [Core.request_acting h (by decide +kernel) (by decide) (by decide) sysHandlers_led (by decide)]
  refine Core.wrote_congr ?_ ram
  have asked : acts F.SYS_LED_LOCATE (fieldWord F.SYS_LED_LOCATE 1 &&& ((c.sent p (⟨R.SYS_LED, 0⟩ : Loc).addr [fieldWord F.SYS_LED_LOCATE 1]).stores p R.SYS_LED 0 ||| R.SYS_LED.actMask)) = true := by
    rw [acts, Fld.read_acting (by decide)]
    decide
  dsimp only
  rw [asked]
  cases (c.sent p (⟨R.SYS_LED, 0⟩ : Loc).addr [fieldWord F.SYS_LED_LOCATE 1]).rst.held <;> rfl

/-! ### What goes to flash (R436, R437) -/

/-- The head of the pinned queue goes to flash: to the pinned region while it has room, else to the ring. -/
def Saddler.pinned (d : Saddler) (e : LogEntry) : Saddler :=
  let d := if d.pins.length < 2048 then { d with pins := d.pins ++ [e] } else d.toRing { e with overflow := true }
  { d with qPin := d.qPin.drop 1 }
/-- The head of the ring queue goes to flash. -/
def Saddler.ringed (d : Saddler) (e : LogEntry) : Saddler := { d.toRing e with qRing := d.qRing.drop 1 }
/-- Of the heads that may be written, the older one goes to flash. -/
def Saddler.flashed (d : Saddler) (pin ring : Option LogEntry) : Saddler :=
  match pin, ring with
  | some e, some f => if olderLseq e.lseq f.lseq then d.pinned e else d.ringed f
  | some e, none => d.pinned e
  | none, some f => d.ringed f
  | none, none => d

theorem Saddler.pinned_eq (d : Saddler) (e : LogEntry) :
    d.pinned e = if d.pins.length < 2048 then { d with pins := d.pins ++ [e], qPin := d.qPin.drop 1 } else { d.toRing { e with overflow := true } with qPin := d.qPin.drop 1 } := by
  unfold Saddler.pinned
  split <;> rfl
theorem Saddler.dropped_pinned (d : Saddler) (e : LogEntry) : (d.pinned e).dropped = d.dropped := by
  unfold Saddler.pinned
  split <;> rfl
theorem Saddler.dropped_flashed (d : Saddler) (pin ring : Option LogEntry) : (d.flashed pin ring).dropped = d.dropped := by
  unfold Saddler.flashed
  split
  · split
    · exact d.dropped_pinned _
    · rfl
  · exact d.dropped_pinned _
  · rfl
  · rfl

/-- The pinned queue waits while the pinned region is erased (R436). -/
def Saddler.pinHead (d : Saddler) : Option LogEntry := if d.pinErasing then none else d.qPin.head?

/-- After a write to flash, dropped entries are logged once the ring queue has room, and the registers follow the log (R437). -/
def Core.owesDrops (c : Core) : Core :=
  (if 0 < c.sad.dropped && c.sad.qRing.length < 1024 then ({ c with sad := { c.sad with dropped := 0 } } : Core).logFrom 0x28 0x0709 noSrc c.sad.dropped else c).logShow

theorem Core.logWrite_eq (c : Core) : c.logWrite = ({ c with sad := c.sad.flashed c.sad.pinHead c.sad.qRing.head? } : Core).owesDrops := rfl
/-- Where no dropped entry is owed, the registers follow at once. -/
theorem Core.logWrite_kept {c : Core} (h : c.sad.dropped = 0) : c.logWrite = ({ c with sad := c.sad.flashed c.sad.pinHead c.sad.qRing.head? } : Core).logShow := by
  rw [Core.logWrite_eq]
  refine congrArg Core.logShow (if_neg ?_)
  rw [show ({ c with sad := c.sad.flashed c.sad.pinHead c.sad.qRing.head? } : Core).sad.dropped = 0 from (Saddler.dropped_flashed ..).trans h]
  simp

/-- A running Saddler with no dropped entry owed writes one entry, and a sector that failed is shown (R437, R439). -/
theorem execLogFlashWrite_runs {s : State} (runs : s.core.runs 0x28 = true) (owed : s.core.sad.dropped = 0) (failed : Bool) {x : Saddler} (hx : s.core.sad.flashed s.core.sad.pinHead s.core.sad.qRing.head? = x) :
    execLogFlashWrite s failed = .next { s with core := if failed then ({ s.core with sad := x } : Core).logShow.setBit F.MG_HEALTH_FLASH_RETIRED 0 true else ({ s.core with sad := x } : Core).logShow } := by
  subst hx
  refine next_core_congr ((if_neg (by simp [runs])).trans ?_)
  rw [Core.logWrite_kept owed]

/-! ### Reads of the log (R450) -/

/-- MG_LOG_DATA takes eight words. -/
theorem Core.reg_logData (c : Core) (w : Nat → Word) {i : Nat} (hi : i < 8) : (foldN (List.range 8) c (fun c i => c.setReg R.MG_LOG_DATA i (w i))).reg R.MG_LOG_DATA i = w i :=
  foldN_establishes (fun _ => True) (fun i d => d.reg R.MG_LOG_DATA i = w i) _ (fun _ _ _ => trivial) _ (fun d n _ _ => Core.reg_setReg_self d R.MG_LOG_DATA n (w n))
    (fun d m n _ hd => by
      by_cases hmn : n = m
      · exact hmn ▸ Core.reg_setReg_self d R.MG_LOG_DATA n (w n)
      · exact (Core.reg_setReg_of_inst d (w n) (by decide) hmn).trans hd) c trivial i (List.mem_range.2 hi)

/-- Settles O57: a write to flash is `Saddler.flashed`, and the commands of MG_LOG_CTRL and SYS_LED reach their handlers. -/
theorem theLog : Obligations.TheLog := by
  unfold Obligations.TheLog
  intro s p key seq failed pin stored d pinned ringed writes shows
  have flashes {x : Saddler} (hx : d.flashed d.pinHead d.qRing.head? = x) : writes x := fun owed runs => execLogFlashWrite_runs runs owed failed hx
  have waits (h : d.qPin = [] ∨ d.pinErasing = true) : d.pinHead = none := by
    unfold Saddler.pinHead
    rcases h with empty | erasing
    · rw [empty]
      exact ite_self none
    · exact if_pos erasing
  have heads {e : LogEntry} (idle : d.pinErasing = false) (he : d.qPin.head? = some e) : d.pinHead = some e := (if_neg (ne_true_of_eq_false idle)).trans he
  refine ⟨fun e h he => flashes ?_, fun e idle he noRing => flashes ?_, fun e f idle he hf => flashes ?_, fun noPin noRing => flashes ?_, fun h clear => ⟨?_, ?_⟩, fun h => ?_, fun asked => ?_, fun unasked => ?_, fun erasing => ?_,
    fun idle => ?_, fun h => ?_, rfl⟩
  · rw [waits h, he]
    rfl
  · rw [heads idle he, noRing]
    exact d.pinned_eq e
  · rw [heads idle he, hf]
    exact if_congr Iff.rfl (d.pinned_eq e) rfl
  · rw [waits (.inl noPin), noRing]
    rfl
  · exact next_after_congr (Core.request_logRead h clear (by decide) (by decide) s.ram)
  · exact next_after_congr (Core.request_logRead h clear (by decide) (by decide) s.ram)
  · exact next_after_congr (Core.request_pinClear h key s.ram)
  · refine ⟨next_core_congr ?_, fun i hi => Core.reg_logData _ _ hi⟩
    simp only [show s.core.sad.readReq = some (pin, seq) from asked]
    rfl
  · exact next_core_congr (by simp only [show s.core.sad.readReq = none from unasked])
  · exact next_core_congr (if_neg (by simp [show s.core.sad.pinErasing = true from erasing]))
  · exact next_core_congr (if_pos (by simp [show s.core.sad.pinErasing = false from idle]))
  · exact next_after_congr (Core.request_locate h s.ram)

end Sys2Proof.Machine
end

section
/-! SUPPORT. The commands of MG_IMG_CTRL for a path that may run them, and writes of MG_IMG_DATA; then the statement about firmware images. -/
namespace Sys2Proof.Machine

/-! ### Commands (R445–R448) -/

/-- A path may run a command: it owns the sequence or no other does, and no command runs (R445). -/
def Core.imgFree (c : Core) (p : Path) : Bool := !c.sad.imgOwner.any (· ≠ p) && c.get F.MG_IMG_CTRL_CMD 0 = 0
/-- The sequence is the path's. -/
def Core.imgOwns (c : Core) (p : Path) : Core := { c with sad := { c.sad with imgOwner := some p } }.set F.MG_IMG_STAT_RESULT 0 0
/-- OPEN erases the spare bank (R445). -/
def Core.imgOpens (c : Core) (p : Path) : Core :=
  let d : Core := { c.imgOwns p with imgFlash := Tab.set [] c.imgFlash c.spareBank [] }
  ((({ d with sad := { d.sad with imgVerified := false } }.setReg R.MG_IMG_LINK c.spareBank 0).setReg R.MG_IMG_SECVER c.spareBank 0).set F.MG_IMG_STAT_PHASE 0 1).set F.MG_IMG_CTRL_CMD 0 1
/-- ACTIVATE starts a trial, where nothing of R446 refuses it. -/
def Core.imgActivates (c : Core) (p : Path) : Core :=
  if c.twin.takeover || c.loading || c.get F.PT_STAT_PHASE 0 = 4 then c.imgRefuse 7
  else if !c.sad.imgVerified || c.get F.MG_IMG_LINK_STATE c.spareBank ≠ 2 then c.imgRefuse 8
  else if c.isLead && !c.readyPartner && !c.allSto then c.imgRefuse 9
  else
    let d := ((c.imgOwns p).set F.MG_IMG_LINK_STATE c.spareBank 3).logFrom 0x28 0x0705 noSrc c.spareBank
    { d with sad := { d.sad with imgTrial := true, imgTrialBank := c.spareBank = 1, imgTrialBoots := 0, imgOwner := none }, deferred := some (.reset 2 0x0A false) }
/-- What a command of a path that may run it does. -/
def Core.imgRuns (c : Core) (p : Path) : Nat → Core
  | 1 => c.imgOpens p
  | 2 => ((c.imgOwns p).set F.MG_IMG_STAT_PHASE 0 2).set F.MG_IMG_CTRL_CMD 0 2
  | 3 => c.imgActivates p
  | 4 => (c.imgOwns p).imgConfirm
  | _ => { c with sad := { c.sad with imgOwner := none } }.set F.MG_IMG_STAT_PHASE 0 0

theorem Core.imgFree_not (c : Core) (p : Path) : (c.sad.imgOwner.any (· ≠ p) || Decidable.decide (c.get F.MG_IMG_CTRL_CMD 0 ≠ 0)) = !c.imgFree p := by
  simp [Core.imgFree]
/-- A command runs for a path that may run it, and is refused with BUSY for another. -/
theorem Core.imgCtrl_eq (c : Core) (p : Path) {n : Nat} (h1 : 1 ≤ n) (h5 : n ≤ 5) : c.imgCtrl p n = if c.imgFree p then c.imgRuns p n else c.imgRefuse 7 := by
  have named : ¬(Decidable.decide (n = 0) || Decidable.decide (5 < n)) = true := by simp; omega
  have gate : c.imgCtrl p n = if (c.sad.imgOwner.any (· ≠ p) || Decidable.decide (c.get F.MG_IMG_CTRL_CMD 0 ≠ 0)) = true then c.imgRefuse 7 else c.imgRuns p n := by
    refine (if_neg named).trans (if_congr Iff.rfl rfl ?_)
    match n, h1, h5 with
    | 1, _, _ | 2, _, _ | 3, _, _ | 4, _, _ | 5, _, _ => rfl
  rw [gate, Core.imgFree_not]
  cases c.imgFree p <;> rfl

theorem sysHandlers_imgCtrl : sysHandlers.find? (fun x => x.1.id == R.MG_IMG_CTRL.id) = some (R.MG_IMG_CTRL, fun c _ p _ act => c.imgCtrl p (F.MG_IMG_CTRL_CMD.read act)) := rfl
theorem sysHandlers_imgData : sysHandlers.find? (fun x => x.1.id == R.MG_IMG_DATA.id) = some (R.MG_IMG_DATA, fun c _ p w _ => c.imgData p w) := rfl

/-- A served command of MG_IMG_CTRL. -/
theorem Core.request_imgCtrl {c : Core} {p : Path} (h : Writes c p ⟨R.MG_IMG_CTRL, 0⟩) {n : Nat} (h1 : 1 ≤ n) (h5 : n ≤ 5) (ram : Ram) :
    c.request ram p (⟨R.MG_IMG_CTRL, 0⟩ : Loc).addr (some (fieldWord F.MG_IMG_CTRL_CMD n)) none =
      c.wrote ram p R.MG_IMG_CTRL 0 (fieldWord F.MG_IMG_CTRL_CMD n) (fun d => if d.imgFree p then d.imgRuns p n else d.imgRefuse 7) := by
  rw [Core.request_sysHandler h (by decide +kernel) (by decide) (by decide) (by decide) (by decide) sysHandlers_imgCtrl (by decide)]
  refine Core.wrote_congr ?_ ram
  dsimp only
  rw [Fld.read_and (by decide), Fld.read_fieldWord _ _ (by decide), show n % 2 ^ F.MG_IMG_CTRL_CMD.width = n from Nat.mod_eq_of_lt (by show n < 16; omega)]
  exact Core.imgCtrl_eq _ p h1 h5

/-! ### The image's words (R445) -/

theorem imgData_whole : R.MG_IMG_DATA.Whole := by constructor <;> decide

/-- A word of the image reaches the spare bank, and the address advances. -/
def Core.imgWord (c : Core) (v : Word) : Core :=
  let o := c.get F.MG_IMG_ADDR_OFFSET 0
  let d := { c with imgFlash := Tab.set [] c.imgFlash c.spareBank (putWord (Tab.get [] c.imgFlash c.spareBank) (4 * o) v), sad := { c.sad with imgVerified := false } }.set F.MG_IMG_LINK_STATE c.spareBank 1
  (d.setReg R.MG_IMG_DATA 0 v).set F.MG_IMG_ADDR_OFFSET 0 (o + 1)
/-- It is taken from the owner in the write phase, while no command runs. -/
theorem Core.imgData_eq (c : Core) (p : Path) (v : Word) :
    c.imgData p v = if c.sad.imgOwner = some p ∧ c.get F.MG_IMG_STAT_PHASE 0 = 1 ∧ c.get F.MG_IMG_CTRL_CMD 0 = 0 then c.imgWord v else c := by
  by_cases h : c.sad.imgOwner = some p ∧ c.get F.MG_IMG_STAT_PHASE 0 = 1 ∧ c.get F.MG_IMG_CTRL_CMD 0 = 0
  · obtain ⟨owner, phase, idle⟩ := h
    rw [if_pos ⟨owner, phase, idle⟩]
    exact if_neg (by simp [owner, phase, idle])
  · rw [if_neg h]
    exact if_pos (by simpa only [ne_eq, or_assoc, not_and_or, Bool.or_eq_true, decide_eq_true_eq] using h)

/-- A served write of MG_IMG_DATA. -/
theorem Core.request_imgData {c : Core} {p : Path} (h : Writes c p ⟨R.MG_IMG_DATA, 0⟩) (ram : Ram) (v : Word) :
    c.request ram p (⟨R.MG_IMG_DATA, 0⟩ : Loc).addr (some v) none =
      c.wrote ram p R.MG_IMG_DATA 0 v (fun d => if d.sad.imgOwner = some p ∧ d.get F.MG_IMG_STAT_PHASE 0 = 1 ∧ d.get F.MG_IMG_CTRL_CMD 0 = 0 then d.imgWord v else d) := by
  rw [Core.request_sysHandler h (by decide +kernel) (by decide) (by decide) (by decide) (by decide) sysHandlers_imgData (by decide)]
  refine Core.wrote_congr ?_ ram
  dsimp only
  rw [imgData_whole.stored, BitVec.not_allOnes, BitVec.and_zero, BitVec.zero_or, BitVec.and_allOnes]
  exact Core.imgData_eq _ p v

/-- A trial that has been started once is confirmed (R447). -/
theorem Core.imgConfirm_trial {c : Core} (trial : c.sad.imgTrial = true) (boots : c.sad.imgTrialBoots = 1) :
    c.imgConfirm =
      (let n := if c.sad.imgTrialBank then 1 else 0
       let c := ({ c with sad := { c.sad with imgTrial := false } }.setBit F.MG_IMG_STAT_TRIAL 0 false).setBit F.MG_HEALTH_IMG_TRIAL 0 false
       let c := (c.set F.MG_IMG_STAT_BOOT 0 n).set F.MG_IMG_LINK_STATE n 2
       (c.setReg R.MG_IMG_FLOOR 0 (c.reg R.MG_IMG_SECVER n)).logFrom 0x28 0x0706 noSrc n) := if_neg (by simp [trial, boots])
theorem Core.imgConfirm_noTrial {c : Core} (none : c.sad.imgTrial = false) : c.imgConfirm = c := if_pos (by simp [none])

/-- Settles O59: a command of MG_IMG_CTRL runs where `Core.imgFree` lets it, and a word of the image reaches `Core.imgWord`. -/
theorem imagesUpdate : Obligations.ImagesUpdate := by
  unfold Obligations.ImagesUpdate
  intro s p v b img free refuse own runs
  have served (h : Writes s.core p ⟨R.MG_IMG_CTRL, 0⟩) {n : Nat} (h1 : 1 ≤ n) (h5 : n ≤ 5) := next_after_congr (s := s) (Core.request_imgCtrl h h1 h5 s.ram)
  refine ⟨fun h => ⟨served h (by decide) (by decide), served h (by decide) (by decide), served h (by decide) (by decide), served h (by decide) (by decide), served h (by decide) (by decide)⟩,
    fun h => next_after_congr (Core.request_imgData h s.ram v), fun erasing => next_core_congr (if_pos erasing), fun other => next_core_congr (if_neg other),
    fun verifying => next_core_congr (if_neg (not_not_intro verifying)), fun other => next_core_congr (if_pos other), fun lead run trial boots => ?_, fun none => ?_, fun other => ?_,
    fun trial => next_core_congr (if_pos trial), fun none => next_core_congr (if_neg (ne_true_of_eq_false none))⟩
  · exact next_core_congr ((if_pos (by simp [lead, run])).trans (Core.imgConfirm_trial trial boots))
  · refine next_core_congr ?_
    show (if (s.core.isLead && decide (s.core.get F.PW_STAT_STATE 0 = 0)) = true then s.core.imgConfirm else s.core) = s.core
    rw [Core.imgConfirm_noTrial none]
    exact ite_self s.core
  · exact next_core_congr (if_neg (by rcases other with other | other <;> simp [other]))

end Sys2Proof.Machine
end

section
/-! SUPPORT. Replies of a field string; then the statement about field strings. -/
namespace Sys2Proof.Machine

/-! ### Accepted replies (R329, R330) -/

/-- An accepted reply of a block that is not LOST, or is again not. -/
def Core.fsAnswer (c : Core) (f b : Nat) (bytes : List Byte) (back : Bool) : Core :=
  let i := f * 4 + b
  let old := c.reg R.FI_FS_IN i
  let new := BitVec.ofNat 32 (natOfBytes ((bytes.drop 3).take 4))
  let c := (c.set F.FI_FS_DIAG_BSTAT i (bytes.getD 2 0).toNat).set F.FI_FS_DIAG_OUTF i (natOfBytes ((bytes.drop 7).take 2))
  let k := c.fsBlock f b
  let host := c.fsHostBits f b
  let new := if back then new else (new &&& ~~~host) ||| (if c.bit F.FI_FS_CFG_SUBST f then old &&& host else 0)
  let c := c.setReg R.FI_FS_IN i new
  let c := c.setFsBlock f b { missRun := 0, okRun := (if back then 0 else k.okRun + 1), lost := !back }
  let c := if back then (c.set F.FI_FS_STAT_LOST f (c.get F.FI_FS_STAT_LOST f &&& (15 - 2 ^ b))).set F.FI_FS_STAT_PRESENT f (c.get F.FI_FS_STAT_PRESENT f ||| 2 ^ b) else c
  let st := c.strAt f
  let c := if old = new then c else c.setReg R.FI_FS_STAMP i (BitVec.ofNat 32 (st.stampSec * 1000000000 + st.stampNs))
  let c := if back then foldN (bitsOf 32 (old ^^^ new).toNat) c (fun c p =>
      c.captureFrom 1 (c.mapped 2 (f * 128 + b * 32 + p) 2) ⟨st.stampSec, st.stampNs, new.getLsbD p, st.epoch, false⟩) else c
  c.refreshLimits
theorem Core.fsReply_eq (c : Core) (f b : Nat) (bytes : List Byte) : c.fsReply f b bytes = c.fsAnswer f b bytes (!(c.fsBlock f b).lost || 4 ≤ (c.fsBlock f b).okRun + 1) := rfl
/-- A block that is not LOST is taken at once. -/
theorem Core.fsReply_of_joined {c : Core} {f b : Nat} (joined : (c.fsBlock f b).lost = false) (bytes : List Byte) : c.fsReply f b bytes = c.fsAnswer f b bytes true := by
  rw [Core.fsReply_eq, joined, Bool.not_false, Bool.true_or]

/-! ### Replies that are not accepted (R329) -/

theorem Core.fsBlock_setFsBlock (c : Core) (f b : Nat) (v : FsBlock) : (c.setFsBlock f b v).fsBlock f b = v := by
  rw [Core.fsBlock, Core.setFsBlock, Core.strAt_setStr, Tab.get_set_self]
theorem Core.fsBlock_of_strings {c d : Core} (h : c.strings = d.strings) (f b : Nat) : c.fsBlock f b = d.fsBlock f b := by
  rw [Core.fsBlock, Core.fsBlock, Core.strAt, Core.strAt, h]
theorem Core.strings_logFrom (c : Core) (origin code src arg : Nat) : (c.logFrom origin code src arg).strings = c.strings := by
  obtain ⟨⟨_, _, _, _, h⟩, -⟩ := Core.logFrom_frame c origin code src arg
  rw [h]
/-- The limit bits follow the inputs and leave the strings. -/
theorem Core.strings_refreshLimits (c : Core) : c.refreshLimits.strings = c.strings := by
  refine List.foldlRecOn (motive := fun d : Core => d.strings = c.strings) _ _ rfl fun d hd e _ => ?_
  dsimp only
  split
  · exact hd
  · split
    · exact (Core.strings_logFrom ..).trans hd
    · exact hd

/-- The counts of a reply that is not accepted. -/
def Core.fsCounted (c : Core) (f : Nat) (bad : Bool) : Core :=
  let c := c.addSat F.FI_FS_CNT_MISSES f 1
  if bad then c.addSat F.FI_FS_CNT_CRC_ERR f 1 else c
theorem Core.strings_fsCounted (c : Core) (f : Nat) (bad : Bool) : (c.fsCounted f bad).strings = c.strings := by cases bad <;> rfl
theorem Core.missMax_fsCounted (c : Core) (f : Nat) (bad : Bool) : (c.fsCounted f bad).get F.FI_FS_CFG_MISS_MAX f = c.get F.FI_FS_CFG_MISS_MAX f := by
  have misses := Core.get_addSat_of_apart (f := F.FI_FS_CNT_MISSES) (g := F.FI_FS_CFG_MISS_MAX) (by decide) c f f 1
  cases bad
  · exact misses
  · exact (Core.get_addSat_of_apart (by decide) ..).trans misses

/-- The block is lost: flagged, its host-only inputs 0 unless SUBST holds them, and logged. -/
def Core.fsLose (c : Core) (f b : Nat) : Core :=
  let c := c.setFsBlock f b { c.fsBlock f b with missRun := (c.fsBlock f b).missRun + 1, okRun := 0, lost := true }
  let c := (c.set F.FI_FS_STAT_LOST f (c.get F.FI_FS_STAT_LOST f ||| 2 ^ b)).set F.FI_FS_STAT_LOST_SEEN f (c.get F.FI_FS_STAT_LOST_SEEN f ||| 2 ^ b)
  let c := c.set F.FI_FS_STAT_PRESENT f (c.get F.FI_FS_STAT_PRESENT f &&& (15 - 2 ^ b))
  let c := if c.bit F.FI_FS_CFG_SUBST f then c else c.setReg R.FI_FS_IN (f * 4 + b) (c.reg R.FI_FS_IN (f * 4 + b) &&& ~~~(c.fsHostBits f b))
  (c.logFrom 0x22 0x0508 (f * 4 + b) 0).refreshLimits
theorem Core.fsMiss_eq (c : Core) (f b : Nat) (bad : Bool) :
    c.fsMiss f b bad =
      (let c := c.fsCounted f bad
       let k := c.fsBlock f b
       if k.lost then c.setFsBlock f b { k with okRun := 0 }
       else if k.missRun + 1 < c.get F.FI_FS_CFG_MISS_MAX f then c.setFsBlock f b { k with missRun := k.missRun + 1, okRun := 0 }
       else c.fsLose f b) := rfl
theorem Core.lost_fsLose (c : Core) (f b : Nat) : ((c.fsLose f b).fsBlock f b).lost = true := by
  unfold Core.fsLose
  dsimp only
  rw [Core.fsBlock_of_strings ((Core.strings_refreshLimits _).trans (Core.strings_logFrom ..)), apply_ite (fun d : Core => d.fsBlock f b)]
  exact (ite_self _).trans (Core.fsBlock_setFsBlock ..) ▸ rfl

/-- MISS_MAX of them in a row lose the block. -/
theorem Core.lost_fsMiss (c : Core) (f b : Nat) (bad : Bool) :
    ((c.fsMiss f b bad).fsBlock f b).lost = ((c.fsBlock f b).lost || Decidable.decide (c.get F.FI_FS_CFG_MISS_MAX f ≤ (c.fsBlock f b).missRun + 1)) := by
  rw [← Core.missMax_fsCounted c f bad, ← Core.fsBlock_of_strings (c.strings_fsCounted f bad) f b, Core.fsMiss_eq]
  generalize c.fsCounted f bad = d
  dsimp only
  by_cases lost : (d.fsBlock f b).lost = true
  · rw [if_pos lost, Core.fsBlock_setFsBlock, lost, Bool.true_or]
  · rw [if_neg lost, Bool.eq_false_of_not_eq_true lost, Bool.false_or]
    by_cases below : (d.fsBlock f b).missRun + 1 < d.get F.FI_FS_CFG_MISS_MAX f
    · rw [if_pos below, Core.fsBlock_setFsBlock, decide_eq_false (Nat.not_le.2 below)]
    · rw [if_neg below, Core.lost_fsLose, decide_eq_true (Nat.not_lt.1 below)]

/-- The CRC of a reply is good. -/
def fsGood (bytes : List Byte) : Bool := natOfBytes ((bytes.drop 9).take 2) == (Crypto.crc16 (bytes.take 9)).toNat && bytes.length == 11
/-- A reply of an expected block: taken with good CRC, ADDR and SEQ. -/
theorem execStringReply_expected {s : State} {f b : Nat} (hf : f < 2) (hb : b < 4) (expected : s.core.fsExpected f b = true) (bytes : List Byte) :
    execStringReply s f b bytes = .next { s with core :=
        (if fsGood bytes = false then s.core.fsMiss f b true
        else if (bytes.getD 0 0).toNat = b ∧ (bytes.getD 1 0).toNat = s.core.get F.FI_FS_STAT_SEQ f then s.core.fsReply f b bytes
        else s.core.fsMiss f b false) } := by
  refine (inRange_of_lt _ _ hf).trans ((inRange_of_lt _ _ hb).trans (next_core_congr ((if_neg (by simp [expected])).trans ?_)))
  by_cases good : fsGood bytes = true
  · rw [if_neg (ne_false_of_eq_true good)]
    refine (if_neg (show ¬(!fsGood bytes) = true by simp [good])).trans ?_
    by_cases named : (bytes.getD 0 0).toNat = b ∧ (bytes.getD 1 0).toNat = s.core.get F.FI_FS_STAT_SEQ f
    · rw [if_pos named]
      exact if_neg (by simpa [-List.getD_eq_getElem?_getD] using named)
    · rw [if_neg named]
      exact if_pos (by simpa [-List.getD_eq_getElem?_getD, imp_iff_not_or] using named)
  · rw [if_pos (Bool.eq_false_of_not_eq_true good)]
    exact if_pos (show (!fsGood bytes) = true by simpa using good)

/-- Settles O45: a reply that is taken reaches `Core.fsAnswer`, another `Core.fsMiss`. -/
theorem fieldStrings : Obligations.FieldStrings := by
  unfold Obligations.FieldStrings
  intro s f b bytes crcBad hf hb crc named
  refine ⟨fun runs expect valid sleep off => (inRange_of_lt _ _ hf).trans (next_core_congr (if_neg (by simp [runs, expect, valid, sleep, off]))), fun expected => ?_, fun unexpected => ?_, Core.lost_fsMiss ..⟩
  · have reply := execStringReply_expected hf hb expected bytes
    refine ⟨fun good name joined => reply.trans (next_core_congr ?_), fun good name => reply.trans (next_core_congr ?_), fun good other => reply.trans (next_core_congr ?_), fun bad => reply.trans (next_core_congr (if_pos bad)), ?_⟩
    · exact (if_neg (ne_false_of_eq_true good)).trans ((if_pos name).trans (Core.fsReply_of_joined joined bytes))
    · exact (if_neg (ne_false_of_eq_true good)).trans (if_pos name)
    · exact (if_neg (ne_false_of_eq_true good)).trans (if_neg other)
    · exact (inRange_of_lt _ _ hf).trans ((inRange_of_lt _ _ hb).trans (next_core_congr (if_pos expected)))
  · exact ⟨(inRange_of_lt _ _ hf).trans ((inRange_of_lt _ _ hb).trans (next_core_congr (if_pos (by simp [unexpected])))),
      (inRange_of_lt _ _ hf).trans ((inRange_of_lt _ _ hb).trans (next_core_congr (if_neg (ne_true_of_eq_false unexpected))))⟩

end Sys2Proof.Machine
end

section
/-! SUPPORT. Requests, latches and their clearing in Bridle; then the statement about the safety inputs. -/
namespace Sys2Proof.Machine

/-! ### Bits of a list -/

/-- The number with the bits of a list set has them. -/
theorem testBit_ofBits (l : List Nat) (k : Nat) : (ofBits l).testBit k = Decidable.decide (k ∈ l) := by
  have folded (a : Nat) : (l.foldl (fun a i => a ||| 2 ^ i) a).testBit k = (a.testBit k || Decidable.decide (k ∈ l)) := by
    induction l generalizing a with
    | nil => simp
    | cons n l ih => rw [List.foldl_cons, ih, Nat.testBit_or, Nat.testBit_two_pow, Bool.or_assoc, ← Bool.decide_or, decide_eq_decide.2 (show n = k ∨ k ∈ l ↔ k ∈ n :: l by rw [List.mem_cons, eq_comm])]
  rw [ofBits, folded, Nat.zero_testBit, Bool.false_or]

/-! ### Inputs (R343) -/

/-- A pair asks for nothing only with channel A energised and channel B energised, or not energised in antivalent mode. -/
theorem showsRequest_eq_zero : ∀ antivalent a b : Bool, showsRequest antivalent a b = 0 ↔ a = true ∧ b = !antivalent := by decide

/-- What the inputs ask for, seen after the XB-2, which leaves them. -/
theorem Core.stoIn_xb2 (c : Core) : c.xb2.stoIn = (Decidable.decide (c.bridle.sto ≠ 0) || c.bridle.discrep.getLsbD 0) := by
  obtain ⟨_, h⟩ := c.xb2_frame
  rw [h]; rfl
theorem Core.ss1In_xb2 (c : Core) : c.xb2.ss1In = (Decidable.decide (c.bridle.ss1 ≠ 0) || c.bridle.discrep.getLsbD 1) := by
  obtain ⟨_, h⟩ := c.xb2_frame
  rw [h]; rfl
theorem Core.doorIn_xb2 (c : Core) : c.xb2.doorIn = (Decidable.decide (c.bridle.door ≠ 0) || c.bridle.discrep.getLsbD 2) := by
  obtain ⟨_, h⟩ := c.xb2_frame
  rw [h]; rfl
/-- A pair that shows a request asks, and one that shows none asks only for its discrepancy. -/
theorem asks_of_shows {v : BitVec 2} (h : v ≠ 0) (b : Bool) : (Decidable.decide (v ≠ 0) || b) = true := by rw [decide_eq_true h, Bool.true_or]
theorem not_asks_of_agreeing {v : BitVec 2} (h : v = 0) {d : BitVec 3} (agree : d = 0) (n : Nat) : ¬(Decidable.decide (v ≠ 0) || d.getLsbD n) = true := by simp [h, agree]

/-! ### STO and SS1 (R350, R351) -/

theorem Core.get_of_reg {c d : Core} {f : Fld} {i : Nat} (h : d.reg f.reg i = c.reg f.reg i) : d.get f i = c.get f i := by rw [Core.get, Core.get, h]
/-- Every group is taken to STO. -/
def Core.stoAll (c : Core) (cause : Nat) : Core := foldN (List.range 16) c (fun c g => c.enterSto g cause false)
/-- Each group is in STO with the cause. -/
theorem Core.stoAll_spec (c : Core) {cause g : Nat} (hc : cause < 16) (hg : g < 16) : (c.stoAll cause).inSto g = true ∧ (c.stoAll cause).get F.SF_GRP_CAUSE g = cause := by
  have entered (d : Core) (n : Nat) : (d.enterSto n cause false).inSto n = true ∧ (d.enterSto n cause false).get F.SF_GRP_CAUSE n = cause := by
    obtain ⟨hin, hcause, -⟩ := d.enterSto_spec n cause false
    exact ⟨hin, hcause.trans (Nat.mod_eq_of_lt hc)⟩
  refine foldN_establishes (fun _ => True) (fun m d => d.inSto m = true ∧ d.get F.SF_GRP_CAUSE m = cause) _ (fun _ _ _ => trivial) _ (fun d n _ _ => entered d n) (fun d m n _ hm => ?_) c trivial g (List.mem_range.2 hg)
  by_cases hmn : m = n
  · subst hmn; exact entered d m
  · obtain ⟨_, _, frame⟩ := d.enterSto_spec n cause false
    have reg := (frame.others m hmn).2
    exact ⟨(congrArg (· == 2) (Core.get_of_reg (f := F.SF_GRP_STATE) reg)).trans hm.1, (Core.get_of_reg (f := F.SF_GRP_CAUSE) reg).trans hm.2⟩

theorem Core.requestSs1_of_run {c : Core} {g : Nat} (run : c.get F.SF_GRP_STATE g = 0) (free : (c.bg g).ss1Pend = 0) (cause : Nat) :
    c.requestSs1 g cause = c.setBg g { c.bg g with ss1Pend := cause } := by
  rw [Core.requestSs1, if_pos run, if_pos free]
theorem Core.requestSs1_of_stopped {c : Core} {g : Nat} (stopped : c.get F.SF_GRP_STATE g ≠ 0) (cause : Nat) : c.requestSs1 g cause = (c.cancelRelease g).set F.SF_GRP_CAUSE g cause := if_neg stopped

/-! ### Latches (R357, R359) -/

/-- A latch of a cause of the backup domain joins those of its group. -/
theorem Core.latches_latch (c : Core) (g m k : Nat) {cause : Nat} (kept : cause ≠ 12 ∧ cause ≠ 14) :
    ((c.latch g cause).latches m).testBit k = ((c.latches m).testBit k || (Decidable.decide (m = g) && Decidable.decide (k = cause))) := by
  unfold Core.latch
  by_cases held : (c.latches g).testBit cause = true
  · rw [if_pos held]
    by_cases same : m = g ∧ k = cause
    · obtain ⟨rfl, rfl⟩ := same
      rw [held, Bool.true_or]
    · rw [← Bool.decide_and, decide_eq_false same, Bool.or_false]
  · rw [if_neg held, if_neg (by simp [kept])]
    obtain ⟨⟨_, _, _, _, h⟩, -⟩ := Core.logFrom_frame { c with latchRec := Tab.set 0 c.latchRec g (Tab.get 0 c.latchRec g ||| 2 ^ cause) } 0x27 0x0002 g cause
    rw [h]
    show (Tab.get 0 (Tab.set 0 c.latchRec g (Tab.get 0 c.latchRec g ||| 2 ^ cause)) m ||| (c.bg m).latch).testBit k = ((Tab.get 0 c.latchRec m ||| (c.bg m).latch).testBit k || _)
    by_cases hmg : m = g
    · subst hmg
      rw [Tab.get_set_self, Nat.testBit_or, Nat.testBit_or, Nat.testBit_or, Nat.testBit_two_pow, decide_eq_true rfl, Bool.true_and, decide_eq_decide.2 (eq_comm (a := cause)), Bool.or_right_comm]
    · rw [Tab.get_set_ne _ _ _ (Ne.symm hmg), decide_eq_false hmg, Bool.false_and, Bool.or_false]

/-- The XB-2 leaves the latches. -/
theorem Core.latches_xb2 (c : Core) (g : Nat) : c.xb2.latches g = c.latches g := by
  refine foldN_keeps (fun d : Core => d.latches g = c.latches g) Core.xb2Group _ _ rfl fun d n hd => Eq.trans ?_ hd
  show Tab.get 0 d.latchRec g ||| ((d.xb2Group n).bg g).latch = Tab.get 0 d.latchRec g ||| (d.bg g).latch
  by_cases hn : n = g
  · subst hn
    rw [Core.xb2Group, Core.bg_setBg]
    exact congrArg _ (by dsimp only; rw [Core.bg_setBg])
  · rw [Core.bg_xb2Group_ne d hn]

/-- A discrepancy latches cause 10 on the groups of its pair. -/
theorem Core.latches_latchAll (c : Core) (gs : List Nat) {cause : Nat} (kept : cause ≠ 12 ∧ cause ≠ 14) : ∀ g ∈ gs, ((foldN gs c (fun c g => c.latch g cause)).latches g).testBit cause = true := by
  refine foldN_establishes (fun _ => True) (fun g (d : Core) => (d.latches g).testBit cause = true) _ (fun _ _ _ => trivial) gs (fun d n _ _ => ?_) (fun d m n _ hm => ?_) c trivial
  · rw [Core.latches_latch d n n cause kept, decide_eq_true rfl, decide_eq_true rfl, Bool.and_true, Bool.or_true]
  · rw [Core.latches_latch d n m cause kept, hm, Bool.true_or]

/-! ### SRST_N (R357) -/

/-- A group's latches whose condition is absent clear, and its trip. -/
def Core.srstGroup (c : Core) (g : Nat) : Core :=
  let c := { c with latchRec := Tab.set 0 c.latchRec g (ofBits ((bitsOf 16 (Tab.get 0 c.latchRec g)).filter (fun k => !c.causeAbsent g k))) }
  c.setBg g { c.bg g with htrip := false }

/-- The latches and trips of a core alone differ from another's. -/
structure Core.SrstFrame (c d : Core) : Prop where
  rest : ∃ l t, d = { c with latchRec := l, bridle := { c.bridle with grp := t } }
  rb : ∀ g, (d.bg g).rb = (c.bg g).rb

/-- The conditions of the causes look at neither. -/
theorem Core.SrstFrame.causeAbsent {c d : Core} (h : c.SrstFrame d) (g k : Nat) : d.causeAbsent g k = c.causeAbsent g k := by
  obtain ⟨⟨l, t, rfl⟩, rb⟩ := h
  unfold Core.causeAbsent
  split
  case h_4 => rw [rb]
  all_goals rfl
theorem Core.SrstFrame.srstGroup {c d : Core} (h : c.SrstFrame d) (n : Nat) : c.SrstFrame (d.srstGroup n) := by
  obtain ⟨⟨l, t, hd⟩, rb⟩ := h
  refine ⟨⟨_, _, by rw [hd]; rfl⟩, fun g => Eq.trans ?_ (rb g)⟩
  by_cases hn : n = g
  · subst hn; rw [Core.srstGroup, Core.bg_setBg]; rfl
  · rw [Core.srstGroup, Core.bg_setBg_ne _ _ hn]; rfl

theorem Core.latchRec_srstGroup_self (d : Core) (g : Nat) {k : Nat} (hk : k < 16) :
    (Tab.get 0 (d.srstGroup g).latchRec g).testBit k = ((Tab.get 0 d.latchRec g).testBit k && !d.causeAbsent g k) := by
  show (Tab.get 0 (Tab.set 0 d.latchRec g _) g).testBit k = _
  rw [Tab.get_set_self, testBit_ofBits]
  simp [bitsOf, hk, Bool.and_comm]
theorem Core.latchRec_srstGroup_ne (d : Core) {g n : Nat} (h : n ≠ g) : Tab.get 0 (d.srstGroup n).latchRec g = Tab.get 0 d.latchRec g := Tab.get_set_ne _ _ _ h
theorem Core.htrip_srstGroup_self (d : Core) (g : Nat) : ((d.srstGroup g).bg g).htrip = false := by rw [Core.srstGroup, Core.bg_setBg]

/-- An accepted low period clears the trips and the latches whose condition is absent. -/
theorem Core.srstGroups_spec (c : Core) {g : Nat} (hg : g < 16) :
    ((foldN (List.range 16) c Core.srstGroup).bg g).htrip = false ∧
      ∀ k < 16, (Tab.get 0 (foldN (List.range 16) c Core.srstGroup).latchRec g).testBit k = ((Tab.get 0 c.latchRec g).testBit k && !c.causeAbsent g k) := by
  let bit (d : Core) (g k : Nat) : Bool := (Tab.get 0 d.latchRec g).testBit k
  let P (d : Core) : Prop := c.SrstFrame d ∧ ∀ g, ∀ k < 16, (bit d g k && !c.causeAbsent g k) = (bit c g k && !c.causeAbsent g k)
  let Q (g : Nat) (d : Core) : Prop := (d.bg g).htrip = false ∧ ∀ k < 16, bit d g k = (bit c g k && !c.causeAbsent g k)
  have own (d : Core) (n : Nat) (hd : P d) : Q n (d.srstGroup n) :=
    ⟨d.htrip_srstGroup_self n, fun k hk => (d.latchRec_srstGroup_self n hk).trans (by rw [hd.1.causeAbsent]; exact hd.2 n k hk)⟩
  refine foldN_establishes P Q Core.srstGroup (fun d n hd => ⟨hd.1.srstGroup n, fun m k hk => ?_⟩) _ (fun d n _ hd => own d n hd) (fun d m n hd hm => ?_) c
    ⟨⟨⟨_, _, rfl⟩, fun _ => rfl⟩, fun _ _ _ => rfl⟩ g (List.mem_range.2 hg)
  · by_cases hn : n = m
    · subst hn
      rw [(own d n hd).2 k hk, Bool.and_assoc, Bool.and_self]
    · rw [show bit (d.srstGroup n) m k = bit d m k from congrArg (·.testBit k) (d.latchRec_srstGroup_ne hn)]
      exact hd.2 m k hk
  · by_cases hn : n = m
    · exact hn ▸ own d n hd
    · refine ⟨?_, fun k hk => (congrArg (·.testBit k) (d.latchRec_srstGroup_ne hn)).trans (hm.2 k hk)⟩
      rw [Core.srstGroup, Core.bg_setBg_ne _ _ hn]
      exact hm.1

/-- Settles O46: the inputs ask by `Core.stoIn` and its kin, and SRST_N clears group by group (`Core.srstGroup`). -/
theorem safetyInputs : Obligations.SafetyInputs := by
  unfold Obligations.SafetyInputs
  intro s a b lowMs x v c0 c1 c2 allSto differ
  refine ⟨showsRequest_eq_zero _ a b, fun asks => ⟨?_, ?_, ?_⟩, fun none agree => ⟨?_, ?_, ?_⟩, fun c cause hc g hg => c.stoAll_spec hc hg, fun c g cause hg hc => ⟨fun run free => ?_, fun stopped => ?_⟩,
    rfl, rfl, rfl, rfl, rfl, rfl, fun g hg => ?_, fun outside => next_core_congr (if_pos (by simpa using outside)), fun low high => ⟨next_core_congr (if_neg (by simp; omega)), fun g hg => s.core.srstGroups_spec hg⟩⟩
  · exact next_core_congr (if_pos ((Core.stoIn_xb2 _).trans (asks_of_shows asks _)))
  · exact next_core_congr (if_pos ((Core.ss1In_xb2 _).trans (asks_of_shows asks _)))
  · exact next_core_congr (if_pos ((Core.doorIn_xb2 _).trans (asks_of_shows asks _)))
  · exact next_core_congr (if_neg ((Core.stoIn_xb2 _).symm ▸ not_asks_of_agreeing none agree 0))
  · exact next_core_congr (if_neg ((Core.ss1In_xb2 _).symm ▸ not_asks_of_agreeing none agree 1))
  · exact next_core_congr (if_neg ((Core.doorIn_xb2 _).symm ▸ not_asks_of_agreeing none agree 2))
  · rw [Core.requestSs1_of_run run free, Core.bg_setBg]
  · rw [Core.requestSs1_of_stopped stopped]
    exact (Core.get_set _ F.SF_GRP_CAUSE g cause (by decide)).trans (Nat.mod_eq_of_lt hc)
  · rw [Core.latches_xb2]
    exact Core.latches_latchAll _ _ (by decide) g (List.mem_range.2 hg)

end Sys2Proof.Machine
end

section
/-! SUPPORT. The words of the CAN objects: their addresses (Table 12.3), and what a served access of one does. -/
namespace Sys2Proof.Machine

/-! ### Addresses (Table 12.3) -/

/-- The address of a word of an object. -/
def canAddr (ch o w : Nat) : Nat := 0x40601000 + ch * 0x10000 + o * 0x50 + 4 * w

/-- Division by 2^16 takes a word's address apart, and division by 0x50 its place in the channel. -/
theorem canOffset (ch : Nat) {x : Nat} (h : x < 0x10000) : (ch * 0x10000 + x) / 0x10000 = ch ∧ (ch * 0x10000 + x) % 0x10000 = x := by omega
theorem objOffset (o : Nat) {x : Nat} (h : x < 0x50) : (o * 0x50 + x) / 0x50 = o ∧ (o * 0x50 + x) % 0x50 = x := by omega
theorem canAddr_eq (ch o w : Nat) : canAddr ch o w = (0x4060 + ch) * 0x10000 + (0x1000 + (o * 0x50 + 4 * w)) := by unfold canAddr; omega
theorem canAddr_sub (ch o : Nat) {n w : Nat} (h : n ≤ w) : canAddr ch o w - (0x40601000 + 4 * n) = ch * 0x10000 + (o * 0x50 + 4 * (w - n)) := by unfold canAddr; omega

/-- A register that holds no word of an object: it lies outside the CAN blocks, or in the first 4 KiB of each. -/
def Reg.offCan (q : Reg) : Bool :=
  decide (q.last < 0x40601000) || decide (0x4063C000 ≤ q.base) || (q.place == .lin 0x10000 && decide (q.base % 0x10000 < 0x1000))
theorem Reg.offCan_instAt {q : Reg} (h : q.offCan = true) {ch o w : Nat} (hch : ch < 4) (ho : o < 512) (hw : w < 20) : q.instAt (canAddr ch o w) = none := by
  cases hq : q.instAt (canAddr ch o w) with
  | none => rfl
  | some j =>
    exfalso
    obtain ⟨above, below⟩ := Reg.instAt_bounds hq
    have place := (canOffset (0x4060 + ch) (x := 0x1000 + (o * 0x50 + 4 * w)) (by omega)).2
    rw [← canAddr_eq] at place
    simp only [Reg.offCan, Bool.or_eq_true, Bool.and_eq_true, decide_eq_true_eq, beq_iff_eq] at h
    rcases h with (h | h) | ⟨hlin, hlow⟩
    · unfold canAddr at above below; omega
    · unfold canAddr at above below; omega
    · rw [Reg.instAt_lin hlin (by decide) hq, Nat.add_mul_mod_self_right] at place
      omega

/-- The registers that come before the objects. -/
theorem offCan_before : (allRegs.take 225).all Reg.offCan = true := by decide +kernel
/-- The registers of the objects' words. -/
def canRegs : List Reg := [R.CN_OBJ_W0, R.CN_OBJ_W1, R.CN_OBJ_W2, R.CN_OBJ_W3, R.CN_OBJ_DATA]
theorem canRegs_after : allRegs.drop 225 = canRegs ++ allRegs.drop 230 := by decide +kernel

/-- Word `n` of the objects names no later word of one. -/
theorem instAt_canWord_ne {r : Reg} {n ch o w : Nat} (base : r.base = 0x40601000 + 4 * n) (place : r.place = .canWord n) (ho : o < 512) (hw : w < 20) (h : n < w) : r.instAt (canAddr ch o w) = none := by
  obtain ⟨-, inCh⟩ := canOffset ch (x := o * 0x50 + 4 * (w - n)) (by omega)
  obtain ⟨-, inObj⟩ := objOffset o (x := 4 * (w - n)) (by omega)
  simp only [Reg.instAt, base, place, canAddr_sub ch o (Nat.le_of_lt h), inCh, inObj]
  rw [if_neg (by unfold canAddr; omega), if_neg (by simp; omega)]
theorem instAt_canWord {r : Reg} {n ch o : Nat} (base : r.base = 0x40601000 + 4 * n) (place : r.place = .canWord n) (hch : ch < 4) (ho : o < 512) : r.instAt (canAddr ch o n) = some (ch * 512 + o) := by
  obtain ⟨channel, inCh⟩ := canOffset ch (x := o * 0x50 + 4 * (n - n)) (by omega)
  obtain ⟨object, inObj⟩ := objOffset o (x := 4 * (n - n)) (by omega)
  simp only [Reg.instAt, base, place, canAddr_sub ch o (Nat.le_refl n), channel, inCh, object, inObj]
  rw [if_neg (by unfold canAddr; omega), if_pos (by simp [hch, ho])]
theorem instAt_canData {r : Reg} {ch o w : Nat} (base : r.base = 0x40601000 + 4 * 4) (place : r.place = .canData) (hch : ch < 4) (ho : o < 512) (h4 : 4 ≤ w) (hw : w < 20) :
    r.instAt (canAddr ch o w) = some ((ch * 512 + o) * 16 + (w - 4)) := by
  obtain ⟨channel, inCh⟩ := canOffset ch (x := o * 0x50 + 4 * (w - 4)) (by omega)
  obtain ⟨object, inObj⟩ := objOffset o (x := 4 * (w - 4)) (by omega)
  simp only [Reg.instAt, base, place, canAddr_sub ch o h4, channel, inCh, object, inObj]
  rw [if_neg (by unfold canAddr; omega), if_pos (by simp [hch, ho]; omega), Nat.mul_div_cancel_left _ (by decide)]

/-- The address of a word of an object names it. -/
theorem locAt_canAddr {ch o w : Nat} (hch : ch < 4) (ho : o < 512) (hw : w < 20) {l : Loc}
    (h : canRegs.findSome? (fun r => (r.instAt (canAddr ch o w)).map (fun i => (⟨r, i⟩ : Loc))) = some l) :
    locAt (canAddr ch o w) = some l := by
  have before : (allRegs.take 225).findSome? (fun r => (r.instAt (canAddr ch o w)).map (fun i => (⟨r, i⟩ : Loc))) = none :=
    List.findSome?_eq_none_iff.2 fun q hq => by rw [Reg.offCan_instAt (List.all_eq_true.1 offCan_before q hq) hch ho hw]; rfl
  rw [locAt, if_neg (by unfold canAddr; omega), ← List.take_append_drop 225 allRegs, List.findSome?_append, before, Option.none_or, canRegs_after, List.findSome?_append, h]
  rfl

/-- What an access of an object's word needs of its address. -/
structure CanLoc (l : Loc) : Prop where
  named : locAt l.addr = some l
  outside : ¬l.addr < 0x4000000
  inBlock : (blockOf l.addr).isSome = true
  outsideSf : blockOf l.addr ≠ some 16
theorem canLoc_of_addr {l : Loc} {ch o w : Nat} (hch : ch < 4) (ho : o < 512) (hw : w < 20) (address : l.addr = canAddr ch o w) (named : locAt (canAddr ch o w) = some l) : CanLoc l := by
  have block : blockOf l.addr = some 13 := by
    obtain ⟨channel, -⟩ := canOffset (0x4060 + ch) (x := 0x1000 + (o * 0x50 + 4 * w)) (by omega)
    rw [← canAddr_eq] at channel
    rw [address, blockOf, if_neg (by unfold canAddr; omega), if_neg (by unfold canAddr; omega)]
    simp only [channel]
    interval_cases ch <;> rfl
  exact ⟨by rw [address, named], by rw [address]; unfold canAddr; omega, by rw [block]; rfl, by rw [block]; decide⟩

theorem canLoc_w0 {ch o : Nat} (hch : ch < 4) (ho : o < 512) : CanLoc ⟨R.CN_OBJ_W0, ch * 512 + o⟩ := by
  refine canLoc_of_addr (w := 0) hch ho (by decide) ?_ (locAt_canAddr hch ho (by decide) ?_)
  · simp only [Loc.addr, R.CN_OBJ_W0, canAddr]; omega
  · rw [canRegs, List.findSome?_cons, instAt_canWord rfl rfl hch ho]; rfl
theorem canLoc_w3 {ch o : Nat} (hch : ch < 4) (ho : o < 512) : CanLoc ⟨R.CN_OBJ_W3, ch * 512 + o⟩ := by
  refine canLoc_of_addr (w := 3) hch ho (by decide) ?_ (locAt_canAddr hch ho (by decide) ?_)
  · simp only [Loc.addr, R.CN_OBJ_W3, canAddr]; omega
  · rw [canRegs, List.findSome?_cons, instAt_canWord_ne (n := 0) rfl rfl ho (by decide) (by decide), Option.map_none, List.findSome?_cons, instAt_canWord_ne (n := 1) rfl rfl ho (by decide) (by decide), Option.map_none,
      List.findSome?_cons, instAt_canWord_ne (n := 2) rfl rfl ho (by decide) (by decide), Option.map_none, List.findSome?_cons, instAt_canWord rfl rfl hch ho]
    rfl
theorem canLoc_data {ch o w : Nat} (hch : ch < 4) (ho : o < 512) (h4 : 4 ≤ w) (hw : w < 20) : CanLoc ⟨R.CN_OBJ_DATA, (ch * 512 + o) * 16 + (w - 4)⟩ := by
  refine canLoc_of_addr hch ho hw ?_ (locAt_canAddr hch ho hw ?_)
  · simp only [Loc.addr, R.CN_OBJ_DATA, canAddr]; omega
  · have words (r : Reg) (n : Nat) (base : r.base = 0x40601000 + 4 * n) (place : r.place = .canWord n) (h : n < 4) : r.instAt (canAddr ch o w) = none :=
      instAt_canWord_ne base place ho hw (by omega)
    simp only [canRegs, List.findSome?_cons, words R.CN_OBJ_W0 0 rfl rfl (by decide), words R.CN_OBJ_W1 1 rfl rfl (by decide), words R.CN_OBJ_W2 2 rfl rfl (by decide), words R.CN_OBJ_W3 3 rfl rfl (by decide),
      instAt_canData (r := R.CN_OBJ_DATA) rfl rfl hch ho h4 hw, Option.map_none, Option.map_some]

/-! ### Reads of a word (R299) -/

/-- A served read of an object's word, on a path that holds nothing. -/
theorem Core.request_canRead {c : Core} {p : Path} {r : Reg} {i : Nat} (h : Reaches c p ⟨r, i⟩ true) (loc : CanLoc ⟨r, i⟩) (hh : highOf r = none) (hold : ∀ e ∈ c.hold, Prod.fst e ≠ p) (ram : Ram) :
    c.request ram p (⟨r, i⟩ : Loc).addr none none = c.wasRead ram p r i ((c.sent p (⟨r, i⟩ : Loc).addr []).value p r i) (fun d => d.readEffect p r i) := by
  have live : ((c.accepted p).sendWords 0x25 ((c.accepted p).islandOf (⟨r, i⟩ : Loc).addr) [BitVec.ofNat 32 (⟨r, i⟩ : Loc).addr]).readReg p ⟨r, i⟩ =
      ((c.sent p (⟨r, i⟩ : Loc).addr []).value p r i, (c.sent p (⟨r, i⟩ : Loc).addr []).readEffect p r i) := by
    rw [Core.readReg_live (by simpa using hold)]
    simp only [Core.readReg.fresh, Core.heldBy, hh, List.isEmpty_nil, if_true]
    rfl
  rw [Core.request_read h loc.named loc.outside loc.inBlock ram none]
  simp only [live]
  rfl

/-- A request as its register finds it leaves the objects. -/
@[simp] theorem Core.canObjAt_sent (c : Core) (p : Path) (n : Nat) (ws : List Word) (i : Nat) : (c.sent p n ws).canObjAt i = c.canObjAt i := by
  obtain ⟨_, _, _, h⟩ := c.sent_frame p n ws
  rw [h]; rfl
@[simp] theorem Core.objWord_sent (c : Core) (p : Path) (n : Nat) (ws : List Word) (ch o : Nat) : (c.sent p n ws).objWord ch o = c.objWord ch o := by
  funext w
  unfold Core.objWord
  simp only [Core.pat_sent, Core.reg_sent c p n ws (r := R.CN_OBJ_W0) (by decide) (by decide), Core.reg_sent c p n ws (r := R.CN_OBJ_W1) (by decide) (by decide), Core.reg_sent c p n ws (r := R.CN_OBJ_W2) (by decide) (by decide),
    Core.reg_sent c p n ws (r := R.CN_OBJ_W3) (by decide) (by decide), Core.reg_sent c p n ws (r := R.CN_OBJ_DATA) (by decide) (by decide)]

/-- A read of a word of a present object that is not locked: word 0 locks it. -/
theorem Core.canRead_locks {c : Core} {ch o : Nat} (present : (c.pat.obj ch o).present = true) (free : (c.canObjAt (objAt ch o)).lock = none) (p : Path) :
    c.canRead p ch o 0 = (c.objWord ch o 0, c.setCanObj (objAt ch o) { c.canObjAt (objAt ch o) with lock := some p, frozen := (List.range 20).map (c.objWord ch o) }) := by
  simp only [Core.canRead, present, free, Bool.not_true, Bool.false_eq_true, if_false, if_true]
theorem Core.canRead_free {c : Core} {ch o w : Nat} (present : (c.pat.obj ch o).present = true) (free : (c.canObjAt (objAt ch o)).lock = none) (p : Path) (hw : w ≠ 0) :
    c.canRead p ch o w = (c.objWord ch o w, c) := by
  simp only [Core.canRead, present, free, Bool.not_true, Bool.false_eq_true, if_false, hw]
/-- The holder's read of the last word of a locked object releases it. -/
theorem Core.canRead_releases {c : Core} {ch o : Nat} {p : Path} (present : (c.pat.obj ch o).present = true) (held : (c.canObjAt (objAt ch o)).lock = some p) :
    c.canRead p ch o (c.pat.obj ch o).lastWord = ((c.canObjAt (objAt ch o)).frozen.getD (c.pat.obj ch o).lastWord 0, c.canRelease ch o false) := by
  simp only [Core.canRead, present, held, Bool.not_true, Bool.false_eq_true, if_false, decide_true, Bool.and_self, if_true]
/-- Any other read of a locked object shows its frozen copy alone. -/
theorem Core.canRead_frozen {c : Core} {ch o w : Nat} {p q : Path} (present : (c.pat.obj ch o).present = true) (held : (c.canObjAt (objAt ch o)).lock = some q) (other : p ≠ q ∨ w ≠ (c.pat.obj ch o).lastWord) :
    c.canRead p ch o w = ((c.canObjAt (objAt ch o)).frozen.getD w 0, c) := by
  have not_last : (Decidable.decide (p = q) && Decidable.decide (w = (c.pat.obj ch o).lastWord)) = false := by simpa [imp_iff_not_or] using other
  simp only [Core.canRead, present, held, Bool.not_true, Bool.false_eq_true, if_false, not_last]

/-- A served read of word `w` of an object. -/
theorem Core.request_canWord {c : Core} {p : Path} {l : Loc} {ch o w : Nat} (h : Reaches c p l true) (loc : CanLoc l) (hh : highOf l.reg = none) (hold : ∀ e ∈ c.hold, Prod.fst e ≠ p)
    (value : ∀ d : Core, d.value p l.reg l.inst = (d.canRead p ch o w).1) (effect : ∀ d : Core, d.readEffect p l.reg l.inst = (d.canRead p ch o w).2) {v : Word} {f : Core → Core}
    (read : (c.sent p l.addr []).canRead p ch o w = (v, f (c.sent p l.addr []))) (ram : Ram) : c.request ram p l.addr none none = c.wasRead ram p l.reg l.inst v f := by
  rw [Core.request_canRead (r := l.reg) (i := l.inst) h loc hh hold ram, value, read]
  exact Core.wasRead_congr ((effect _).trans (by rw [read])) ram

end Sys2Proof.Machine
end

section
/-! SUPPORT. Frames that a channel receives; then the statement about frames and objects. -/
namespace Sys2Proof.Machine

/-! ### Reception (R298, R300, R303) -/

/-- The channel hears frames: its island runs, and it is active, error-passive or monitors. -/
def Core.canHears (c : Core) (ch : Nat) : Prop := c.runs 0x23 = true ∧ (c.get F.CN_STAT_STATE ch = 1 ∨ c.get F.CN_STAT_STATE ch = 2 ∨ c.get F.CN_STAT_STATE ch = 4)
theorem Core.canHears.test {c : Core} {ch : Nat} (h : c.canHears ch) :
    ¬(!c.runs 0x23 || !(Decidable.decide (c.get F.CN_STAT_STATE ch = 1) || Decidable.decide (c.get F.CN_STAT_STATE ch = 2) || Decidable.decide (c.get F.CN_STAT_STATE ch = 4))) = true := by
  obtain ⟨runs, state⟩ := h
  rcases state with state | state | state <;> simp [runs, state]

/-- A stored frame: counted, put into the object or its shadow, and reported. -/
def Core.canStore (c : Core) (ram : Ram) (ch o : Nat) (r : CanObjRec) (f : CanFrame) : Core :=
  let i := ch * 512 + o
  let b := c.canObjAt i
  let bs := fitBytes (dlcLen r.dlc) (f.data.take (dlcLen f.dlc))
  let buf (lost : Bool) : CanBuf := { full := true, frame := bs, dlc := f.dlc, esi := f.esi && f.fdf, mism := Decidable.decide (dlcLen f.dlc ≠ dlcLen r.dlc), lost := lost, stamp := (c.canStamp ch).toNat % 2 ^ 32, sec := (c.canStamp ch).toNat / 1000000000 % 65536 }
  let d := (c.addSat F.CN_CNT_RX_COUNT ch 1).addWrap F.CN_OBJ_W3_COUNT i 1
  let d := if b.lock.isSome then d.setCanObj i { b with shadow := buf b.shadow.full } else d.putFrame ch o (buf (c.bit F.CN_OBJ_W0_NEW i))
  let d := if r.slot < 128 && (r.layout % 128 = 8 || r.layout % 128 = 9) then d.canReport ram ch o bs else d
  let d := if d.bit F.EN_HOST_WD_CAN_FEED 0 && d.get F.EN_HOST_WD_CAN_CH 0 = ch && d.get F.EN_HOST_WD_CAN_OBJ 0 = o then d.setBit F.EN_HOST_WD_ARMED 0 true else d
  if d.get F.PW_CANWAKE_CH 0 = ch && d.get F.PW_CANWAKE_OBJ 0 = o then d.wakeBy 3 else d

/-- The receive object that a frame matches. -/
def Core.canHit (c : Core) (ch : Nat) (f : CanFrame) : Option (Nat × CanObjRec) :=
  c.pat.canObj.find? (fun e : Nat × CanObjRec => e.1 / 512 == ch && !e.2.tx && e.2.id == f.id && e.2.ide == f.ide && e.2.fdf == f.fdf)

/-- A channel that hears a frame counts it as unmatched where no receive object matches it, or it is a remote frame. -/
theorem execCanFrameRx_unmatched {s : State} {ch : Nat} {f : CanFrame} (hch : ch < 4) (hears : s.core.canHears ch) (un : s.core.canHit ch f = none ∨ f.rtr = true) :
    execCanFrameRx s ch f = .next (s.after (s.core.addSat F.CN_CNT_UNMATCHED_COUNT ch 1)) := by
  refine (inRange_of_lt _ _ hch).trans (next_after_congr ((if_neg hears.test).trans ?_))
  dsimp only
  rcases un with unmatched | remote
  · rw [show List.find? _ s.core.pat.canObj = _ from unmatched]
  · split
    · rfl
    · exact if_pos remote
/-- One that a receive object matches, at or after the start of the profile time, is stored. -/
theorem execCanFrameRx_stored {s : State} {ch o : Nat} {r : CanObjRec} {f : CanFrame} (hch : ch < 4) (ho : o < 512) (hears : s.core.canHears ch) (hit : s.core.canHit ch f = some (ch * 512 + o, r)) (data : f.rtr = false)
    (since : s.core.time.startNet ≤ s.core.canStamp ch - s.core.time.stepSum) (runs : s.core.runs 0x22 = true) : execCanFrameRx s ch f = .next (s.after (s.core.canStore s.ram ch o r f)) := by
  have place : (ch * 512 + o) % 512 = o := by omega
  refine (inRange_of_lt _ _ hch).trans (next_after_congr ((if_neg hears.test).trans ?_))
  dsimp only
  rw [show List.find? _ s.core.pat.canObj = _ from hit]
  refine (if_neg (ne_true_of_eq_false data)).trans ((if_neg (by simpa [runs] using since)).trans ?_)
  rw [place]
  unfold Core.canStore
  cases locked : (s.core.canObjAt (ch * 512 + o)).lock.isSome
  · simp only [locked, Bool.false_eq_true, if_false]
    rfl
  · simp only [locked, if_true]
    rfl

/-! ### Locks (R299–R301) -/

/-- A frame becomes the contents of an object, whose lock stays. -/
theorem Core.canObjs_putFrame (c : Core) (ch o : Nat) (b : CanBuf) : (c.putFrame ch o b).canObjs = c.canObjs := by
  unfold Core.putFrame Core.putData
  exact foldN_keeps (fun d : Core => d.canObjs = c.canObjs) _ _ _ rfl (fun _ _ h => h)
/-- A released object is not locked. -/
theorem Core.lock_canRelease (c : Core) (ch o : Nat) (timeout : Bool) : ((c.canRelease ch o timeout).canObjAt (objAt ch o)).lock = none := by
  have cleared (d : Core) (i : Nat) : (Core.canRelease.clearFlags d i).canObjs = d.canObjs := rfl
  have unlocked (d : Core) (b : CanObj) (free : b.lock = none) : ((d.setCanObj (objAt ch o) b).canObjAt (objAt ch o)).lock = none := by rw [Core.canObjAt_setCanObj, free]
  have keeps {d e : Core} (h : d.canObjs = e.canObjs) (i : Nat) : d.canObjAt i = e.canObjAt i := by rw [Core.canObjAt, Core.canObjAt, h]
  unfold Core.canRelease
  dsimp only
  refine Eq.trans (congrArg CanObj.lock (keeps (e := c.setCanObj (objAt ch o) { c.canObjAt (objAt ch o) with lock := none, frozen := [], shadow := {} }) ?_ _)) (unlocked c _ rfl)
  cases timeout <;> cases (c.canObjAt (objAt ch o)).shadow.full
  case false.true | true.true => exact Core.canObjs_putFrame ..
  all_goals rfl

/-! ### Reads of an object by a path (R299, R300) -/

theorem dlcLen_le (d : Nat) : dlcLen d ≤ 64 := by
  have listed : ∀ x ∈ [0, 1, 2, 3, 4, 5, 6, 7, 8, 12, 16, 20, 24, 32, 48, 64], x ≤ 64 := by decide
  unfold dlcLen
  rw [List.getD_eq_getElem?_getD]
  cases h : [0, 1, 2, 3, 4, 5, 6, 7, 8, 12, 16, 20, 24, 32, 48, 64][d]? with
  | none => exact Nat.zero_le _
  | some x => exact listed x (List.mem_of_getElem? h)
theorem lastWord_bounds (r : CanObjRec) : 3 ≤ r.lastWord ∧ r.lastWord < 20 := by
  have := dlcLen_le r.dlc
  unfold CanObjRec.lastWord
  omega
/-- The place of word `w` of an object, of the last on. -/
def canLast (i w : Nat) : Loc := if w ≤ 3 then ⟨R.CN_OBJ_W3, i⟩ else ⟨R.CN_OBJ_DATA, i * 16 + (w - 4)⟩

/-- A served read of word 0. -/
theorem execCanObjWord0Read_served {s : State} {p : Path} {ch o : Nat} (hch : ch < 4) (ho : o < 512) (reach : Reaches s.core p ⟨R.CN_OBJ_W0, ch * 512 + o⟩ true) (hold : ∀ e ∈ s.core.hold, Prod.fst e ≠ p) {v : Word} {g : Core → Core}
    (read : (s.core.sent p (⟨R.CN_OBJ_W0, ch * 512 + o⟩ : Loc).addr []).canRead p ch o 0 = (v, g (s.core.sent p (⟨R.CN_OBJ_W0, ch * 512 + o⟩ : Loc).addr []))) :
    execCanObjWord0Read s p ch o = .next (s.after (s.core.wasRead s.ram p R.CN_OBJ_W0 (ch * 512 + o) v g)) := by
  have channel : (ch * 512 + o) / 512 = ch := by omega
  have object : (ch * 512 + o) % 512 = o := by omega
  refine (inRange_of_lt _ _ hch).trans ((inRange_of_lt _ _ ho).trans (next_after_congr (Core.request_canWord (ch := ch) (o := o) (w := 0) reach (canLoc_w0 hch ho) (show highOf R.CN_OBJ_W0 = none by decide) hold (fun d => ?_) (fun d => ?_) read s.ram)))
  · show (d.canRead p ((ch * 512 + o) / 512) ((ch * 512 + o) % 512) 0).1 = _
    rw [channel, object]
  · show (d.canRead p ((ch * 512 + o) / 512) ((ch * 512 + o) % 512) 0).2 = _
    rw [channel, object]
/-- A served read of the last word. -/
theorem execCanObjLastRead_served {s : State} {p : Path} {ch o w : Nat} (hch : ch < 4) (ho : o < 512) (hw : w = (s.core.pat.obj ch o).lastWord) (reach : Reaches s.core p (canLast (ch * 512 + o) w) true)
    (hold : ∀ e ∈ s.core.hold, Prod.fst e ≠ p) {v : Word} {g : Core → Core}
    (read : (s.core.sent p (canLast (ch * 512 + o) w).addr []).canRead p ch o w = (v, g (s.core.sent p (canLast (ch * 512 + o) w).addr []))) :
    execCanObjLastRead s p ch o = .next (s.after (s.core.wasRead s.ram p (canLast (ch * 512 + o) w).reg (canLast (ch * 512 + o) w).inst v g)) := by
  obtain ⟨above, below⟩ := lastWord_bounds (s.core.pat.obj ch o)
  refine (inRange_of_lt _ _ hch).trans ((inRange_of_lt _ _ ho).trans ?_)
  rw [← hw] at above below ⊢
  dsimp only
  by_cases short : w ≤ 3
  · obtain rfl : w = 3 := Nat.le_antisymm short above
    have channel : (ch * 512 + o) / 512 = ch := by omega
    have object : (ch * 512 + o) % 512 = o := by omega
    refine next_after_congr (Core.request_canWord (ch := ch) (o := o) (w := 3) reach (canLoc_w3 hch ho) (show highOf R.CN_OBJ_W3 = none by decide) hold (fun d => ?_) (fun d => ?_) read s.ram)
    · show (d.canRead p ((ch * 512 + o) / 512) ((ch * 512 + o) % 512) 3).1 = _
      rw [channel, object]
    · show (d.canRead p ((ch * 512 + o) / 512) ((ch * 512 + o) % 512) 3).2 = _
      rw [channel, object]
  · have channel : ((ch * 512 + o) * 16 + (w - 4)) / 16 / 512 = ch := by omega
    have object : ((ch * 512 + o) * 16 + (w - 4)) / 16 % 512 = o := by omega
    have word : ((ch * 512 + o) * 16 + (w - 4)) % 16 + 4 = w := by omega
    rw [show canLast (ch * 512 + o) w = ⟨R.CN_OBJ_DATA, (ch * 512 + o) * 16 + (w - 4)⟩ from if_neg short] at reach read ⊢
    rw [if_neg short]
    refine next_after_congr (Core.request_canWord (ch := ch) (o := o) (w := w) reach (canLoc_data hch ho (by omega) below) (show highOf R.CN_OBJ_DATA = none by decide) hold (fun d => ?_) (fun d => ?_) read s.ram)
    · show (d.canRead p (((ch * 512 + o) * 16 + (w - 4)) / 16 / 512) (((ch * 512 + o) * 16 + (w - 4)) / 16 % 512) (((ch * 512 + o) * 16 + (w - 4)) % 16 + 4)).1 = _
      rw [channel, object, word]
    · show (d.canRead p (((ch * 512 + o) * 16 + (w - 4)) / 16 / 512) (((ch * 512 + o) * 16 + (w - 4)) / 16 % 512) (((ch * 512 + o) * 16 + (w - 4)) % 16 + 4)).2 = _
      rw [channel, object, word]

/-- Settles O42: a frame reaches `Core.canStore`, and a read of a word `Core.canRead`. -/
theorem canFrames : Obligations.CanFrames := by
  unfold Obligations.CanFrames
  intro s p ch o f hch ho i r b st hears hit last
  obtain ⟨above, -⟩ := lastWord_bounds r
  have present_sent (n : Nat) (h : r.present = true) : ((s.core.sent p n []).pat.obj ch o).present = true := by rw [Core.pat_sent]; exact h
  have lock_sent (n : Nat) {l : Option Path} (h : b.lock = l) : ((s.core.sent p n []).canObjAt (objAt ch o)).lock = l := by rw [Core.canObjAt_sent]; exact h
  refine ⟨fun hears un => execCanFrameRx_unmatched hch hears un, fun hears matched data since runs => execCanFrameRx_stored hch ho hears matched data since runs,
    fun present reach hold => ⟨fun free => execCanObjWord0Read_served hch ho reach hold ?_, fun locked => execCanObjWord0Read_served hch ho reach hold ?_⟩,
    fun present reach hold => ⟨fun held => execCanObjLastRead_served hch ho rfl reach hold ?_, fun q held other => execCanObjLastRead_served hch ho rfl reach hold ?_, fun free => execCanObjLastRead_served hch ho rfl reach hold ?_⟩,
    fun locked => (inRange_of_lt _ _ hch).trans ((inRange_of_lt _ _ ho).trans (next_core_congr (if_pos locked))), fun c timeout => c.lock_canRelease ch o timeout⟩
  · rw [Core.canRead_locks (present_sent _ present) (lock_sent _ free), Core.objWord_sent, Core.canObjAt_sent]
    rfl
  · obtain ⟨q, held⟩ := Option.isSome_iff_exists.1 locked
    rw [Core.canRead_frozen (present_sent _ present) (lock_sent _ held) (.inr (by rw [Core.pat_sent]; exact Nat.ne_of_lt (Nat.lt_of_lt_of_le (by decide) above))), Core.canObjAt_sent]
    rfl
  · have released := Core.canRead_releases (present_sent (canLast i r.lastWord).addr present) (lock_sent _ held)
    rw [Core.pat_sent, Core.canObjAt_sent] at released
    exact released
  · rw [Core.canRead_frozen (present_sent _ present) (lock_sent _ held) (.inl (Ne.symm other)), Core.canObjAt_sent]
    rfl
  · rw [Core.canRead_free (present_sent _ present) (lock_sent _ free) p (Nat.ne_of_gt (Nat.lt_of_lt_of_le (by decide) above)), Core.objWord_sent]
    rfl

end Sys2Proof.Machine
end

section
/-! SUPPORT. Transmission and the commands of a channel; then the statement about the channels. -/
namespace Sys2Proof.Machine

/-! ### Transmit requests (R306, R309) -/

/-- A served write of TX_REQ reaches the object. -/
theorem Core.request_txReq {c : Core} {p : Path} {ch o : Nat} (hch : ch < 4) (ho : o < 512) (h : Writes c p ⟨R.CN_OBJ_W3, ch * 512 + o⟩) (ram : Ram) :
    c.request ram p (⟨R.CN_OBJ_W3, ch * 512 + o⟩ : Loc).addr (some (fieldWord F.CN_OBJ_W3_TX_REQ 1)) none =
      c.wrote ram p R.CN_OBJ_W3 (ch * 512 + o) (fieldWord F.CN_OBJ_W3_TX_REQ 1) (fun d => d.canTxWrite ch o) := by
  have channel : (ch * 512 + o) / 512 = ch := by omega
  have object : (ch * 512 + o) % 512 = o := by omega
  obtain ⟨named, outside, inBlock, outsideSf⟩ := canLoc_w3 hch ho
  rw [Core.request_write h named outside inBlock outsideSf (by decide) ram]
  refine Core.wrote_congr ?_ ram
  generalize c.sent p (⟨R.CN_OBJ_W3, ch * 512 + o⟩ : Loc).addr [fieldWord F.CN_OBJ_W3_TX_REQ 1] = d
  have acting (store : Word) : fieldWord F.CN_OBJ_W3_TX_REQ 1 &&& (store ||| R.CN_OBJ_W3.actMask) ≠ 0 := fun none => by
    have read := Fld.read_acting (f := F.CN_OBJ_W3_TX_REQ) (r := R.CN_OBJ_W3) (by decide) (fieldWord F.CN_OBJ_W3_TX_REQ 1) store
    rw [none] at read
    exact absurd read (by decide)
  have actsTx (store : Word) : acts F.CN_OBJ_W3_TX_REQ (fieldWord F.CN_OBJ_W3_TX_REQ 1 &&& (store ||| R.CN_OBJ_W3.actMask)) = true := by
    rw [acts, Fld.read_acting (f := F.CN_OBJ_W3_TX_REQ) (r := R.CN_OBJ_W3) (by decide)]
    decide
  have mask : d.portMask R.CN_OBJ_W3 (ch * 512 + o) = BitVec.allOnes 32 := by simp only [Core.portMask, Core.portRegApplies_of_base (r := R.CN_OBJ_W3) (by decide), if_true]; rfl
  have handler : handlers.find? (fun x => x.1.id == R.CN_OBJ_W3.id) = some (R.CN_OBJ_W3, fun c _ i _ act => if acts F.CN_OBJ_W3_TX_REQ act then c.canTxWrite (i / 512) (i % 512) else c) := rfl
  have high : highOf R.CN_OBJ_W3 = none := by decide
  have low : lowOf R.CN_OBJ_W3 = none := by decide
  unfold Core.effect
  rw [find?_reg_eq_none (by decide +kernel)]
  simp only [Core.pathWrite, high, low, Core.applyWrite, Core.unusedSlotReg_of_base (r := R.CN_OBJ_W3) (by decide), Bool.false_eq_true, if_false, mask, BitVec.and_allOnes, handler, acting, decide_false, Bool.and_false, actsTx, if_true, channel, object]

/-- The bytes that an object's host has staged. -/
def Core.staged (c : Core) (ch o : Nat) : List Byte := (List.range (dlcLen (c.pat.obj ch o).dlc)).map (fun n => Tab.get 0 (c.canObjAt (objAt ch o)).staging n)
/-- TX_REQ concerns a host-only transmit object, present and of no slot; on the Lead its frame is queued. -/
theorem Core.canTxWrite_eq (c : Core) (ch o : Nat) :
    c.canTxWrite ch o = if (c.pat.obj ch o).present = false ∨ (c.pat.obj ch o).tx = false ∨ (c.pat.obj ch o).slot < 128 then c
      else if c.isLead = false then c.setBit F.CN_STAT_NOT_LEAD ch true
      else (if (c.canObjAt (objAt ch o)).txPend.isSome then c.setBit F.CN_OBJ_W0_TX_LATE (objAt ch o) true else c).canQueue ch o (c.staged ch o) := by
  unfold Core.canTxWrite
  simp only [Bool.or_eq_true, Bool.not_eq_true', decide_eq_true_eq, or_assoc]
  rfl
theorem Core.canTxWrite_host {c : Core} {ch o : Nat} (present : (c.pat.obj ch o).present = true) (tx : (c.pat.obj ch o).tx = true) (host : 128 ≤ (c.pat.obj ch o).slot) :
    c.canTxWrite ch o = if c.isLead = false then c.setBit F.CN_STAT_NOT_LEAD ch true
      else (if (c.canObjAt (objAt ch o)).txPend.isSome then c.setBit F.CN_OBJ_W0_TX_LATE (objAt ch o) true else c).canQueue ch o (c.staged ch o) :=
  (c.canTxWrite_eq ch o).trans (if_neg (by simp [present, tx, host]))

/-- A queued frame waits in its object, and the object in its channel's queue. -/
theorem Core.txPend_canQueue (c : Core) (ch o : Nat) (fr : List Byte) : ((c.canQueue ch o fr).canObjAt (objAt ch o)).txPend = some fr := by
  have stored (d : Core) (h : d.canObjs = (c.setCanObj (objAt ch o) { c.canObjAt (objAt ch o) with txPend := some fr }).canObjs) : (d.canObjAt (objAt ch o)).txPend = some fr := by
    rw [Core.canObjAt, h]
    exact congrArg CanObj.txPend (Core.canObjAt_setCanObj ..)
  unfold Core.canQueue
  dsimp only
  split <;> exact stored _ rfl
theorem Core.mem_canQueue (c : Core) (ch o : Nat) (fr : List Byte) : o ∈ ((c.canQueue ch o fr).canChAt ch).queue := by
  unfold Core.canQueue
  dsimp only
  split
  · next queued => exact List.contains_iff_mem.1 queued
  · rw [Core.canChAt_setCanCh]
    exact List.mem_append_right _ (List.mem_singleton_self o)

/-! ### The frame that arbitration puts first (R306) -/

/-- The better of two by a rank, the first of equals. -/
def firstBy (rank : Nat → Nat) (a b : Nat) : Nat := if rank b < rank a then b else a
theorem foldl_firstBy_stays {rank : Nat → Nat} {o : Nat} {l : List Nat} (h : ∀ x ∈ l, rank o ≤ rank x) : l.foldl (firstBy rank) o = o := by
  induction l with
  | nil => rfl
  | cons x l ih =>
    rw [List.foldl_cons, firstBy, if_neg (Nat.not_lt.2 (h x (List.mem_cons_self ..)))]
    exact ih fun y hy => h y (List.mem_cons_of_mem _ hy)
/-- What is better than all before it, and no worse than any after it, comes first. -/
theorem foldl_firstBy {rank : Nat → Nat} {a o : Nat} {before after : List Nat} (first : rank o < rank a) (hb : ∀ x ∈ before, rank o < rank x) (ha : ∀ x ∈ after, rank o ≤ rank x) :
    (before ++ o :: after).foldl (firstBy rank) a = o := by
  induction before generalizing a with
  | nil =>
    rw [List.nil_append, List.foldl_cons, firstBy, if_pos first]
    exact foldl_firstBy_stays ha
  | cons x l ih =>
    rw [List.cons_append, List.foldl_cons]
    refine ih ?_ fun y hy => hb y (List.mem_cons_of_mem _ hy)
    unfold firstBy
    split
    · exact hb x (List.mem_cons_self ..)
    · exact first

/-- The frame of an object has been sent: it leaves its channel's queue and its object, is stamped, counted and emitted. -/
def Core.canSent (c : Core) (ch o : Nat) (fr : List Byte) : Core :=
  let i := ch * 512 + o
  let t := c.canStamp ch
  let d := (c.setCanCh ch { c.canChAt ch with queue := (c.canChAt ch).queue.filter (· ≠ o) }).setCanObj i { c.canObjAt i with txPend := none }
  let d := ((d.setBit F.CN_OBJ_W0_TX_PENDING i false).setReg R.CN_OBJ_W1 i (BitVec.ofNat 32 (t.toNat % 2 ^ 32))).set F.CN_OBJ_W0_SEC_IDX i (t.toNat / 1000000000)
  ((d.addSat F.CN_CNT_TX_COUNT ch 1).addWrap F.CN_OBJ_W3_COUNT i 1).emit (.can ch o fr)
/-- The first of the queue by arbitration is the one sent. -/
theorem execCanTxDone_first {s : State} {ch a o : Nat} {rest : List Nat} {fr : List Byte} (hch : ch < 4) (runs : s.core.runs 0x23 = true) (active : s.core.get F.CN_STAT_STATE ch = 1 ∨ s.core.get F.CN_STAT_STATE ch = 2)
    (queue : (s.core.canChAt ch).queue = a :: rest) (first : rest.foldl (firstBy fun x => (s.core.pat.obj ch x).order) a = o) (pend : (s.core.canObjAt (ch * 512 + o)).txPend = some fr) :
    execCanTxDone s ch = .next { s with core := s.core.canSent ch o fr } := by
  refine (inRange_of_lt _ _ hch).trans (next_core_congr ?_)
  dsimp only
  rw [queue]
  refine (if_neg (by rcases active with active | active <;> simp [runs, active])).trans ?_
  rw [show rest.foldl (fun a b => if (s.core.pat.obj ch b).order < (s.core.pat.obj ch a).order then b else a) a = o from first]
  show (match (s.core.canObjAt (ch * 512 + o)).txPend with | some fr => _ | none => _) = _
  rw [pend]
  unfold Core.canSent
  rw [queue]
  rfl

/-! ### Commands of a channel (R310, R313) -/

theorem cnCtrl_handled : R.CN_CTRL.Handled (fun c _ ch _ act =>
    let c := if acts F.CN_CTRL_RECOVER act then c.canRecoverCh ch else c
    if acts F.CN_CTRL_RESTART act then c.canRestartCh ch else c) := by
  constructor
  case handler => rfl
  all_goals decide +kernel
/-- A served write of CN_CTRL recovers and restarts the channel as it asks for. -/
theorem Core.request_cnCtrl {c : Core} {p : Path} {ch : Nat} (hch : ch < 4) (h : Writes c p ⟨R.CN_CTRL, ch⟩) {v : Word} (hv : v &&& R.CN_CTRL.actMask ≠ 0) (ram : Ram) :
    c.request ram p (⟨R.CN_CTRL, ch⟩ : Loc).addr (some v) none = c.wrote ram p R.CN_CTRL ch v (fun d =>
      let d := if acts F.CN_CTRL_RECOVER v then d.canRecoverCh ch else d
      if acts F.CN_CTRL_RESTART v then d.canRestartCh ch else d) := by
  rw [Core.request_handled cnCtrl_handled hch (Core.unusedSlotReg_of_base (by decide) c ch) h (.inr hv)]
  simp only [acts, Fld.read_acting (f := F.CN_CTRL_RECOVER) (r := R.CN_CTRL) (by decide), Fld.read_acting (f := F.CN_CTRL_RESTART) (r := R.CN_CTRL) (by decide)]
  rfl

/-- A restart of a channel that runs, of a module whose role is known, integrates it again. -/
theorem Core.canRestartCh_eq (c : Core) (ch : Nat) :
    c.canRestartCh ch = if (c.pat.ch ch).mode = 0 ∨ c.bit F.PT_BOOT_NO_PATTERN 0 = true ∨ c.get F.TW_ROLE_ROLE 0 = 0 then c
      else ((c.setCanCh ch { c.canChAt ch with recovering := false }).canTiming ch).set F.CN_STAT_STATE ch 5 := by
  unfold Core.canRestartCh
  simp only [Bool.or_eq_true, decide_eq_true_eq, or_assoc]

/-! ### Errors and loss (R310, R311) -/

/-- A channel with error counters, on an island that runs, takes them and follows them. -/
theorem execCanError_active {s : State} {ch : Nat} (hch : ch < 4) (runs : s.core.runs 0x23 = true) (active : s.core.get F.CN_STAT_STATE ch = 1 ∨ s.core.get F.CN_STAT_STATE ch = 2) (tec rec : Nat) :
    execCanError s ch tec rec = .next { s with core :=
        (let c := (s.core.set F.CN_STAT_TEC ch (Min.min tec 255)).set F.CN_STAT_REC ch (Min.min rec 255)
        if 255 < tec then c.busOff ch
        else if 127 < tec || 127 < rec then
          if s.core.get F.CN_STAT_STATE ch = 2 then c else ((c.set F.CN_STAT_STATE ch 2).logFrom 0x23 0x0503 ch 0).addSat F.CN_CNT_ERR_PASSIVE ch 1
        else c.set F.CN_STAT_STATE ch 1) } :=
  (inRange_of_lt _ _ hch).trans (next_core_congr (if_neg (by rcases active with active | active <;> simp [runs, active])))

/-- A receive object of a slot that is not lost yet. -/
def Core.canLosable (c : Core) (ch o : Nat) : Bool := (c.pat.obj ch o).present && !(c.pat.obj ch o).tx && Decidable.decide ((c.pat.obj ch o).slot < 128) && !(c.canObjAt (ch * 512 + o)).lost
/-- It is lost: flagged, logged, and holds its slot. -/
def Core.canLoses (c : Core) (ch o : Nat) : Core :=
  let r := c.pat.obj ch o
  let i := objAt ch o
  let d := (((c.setCanObj i { c.canObjAt i with lost := true, posFirst := true }).setBit F.CN_OBJ_W0_RX_TIMEOUT i true).setBit F.CN_STAT_RX_LOST ch true).logFrom 0x23 0x0505 r.slot 0
  ((d.loseMaster 1 r.slot).clearLoop r.slot).holdSlot r.slot (if (d.ctxAt r.slot).actKnown then (d.ctxAt r.slot).actPos else (d.profileAt r.slot d.profNs).1)
theorem Core.canLosable_test (c : Core) (ch o : Nat) :
    (!(c.pat.obj ch o).present || (c.pat.obj ch o).tx || Decidable.decide (128 ≤ (c.pat.obj ch o).slot) || (c.canObjAt (objAt ch o)).lost) = !c.canLosable ch o := by
  simp only [Core.canLosable, Bool.not_and, Bool.not_not, ← decide_not, Nat.not_lt]
  rfl
theorem Core.canLose_losable {c : Core} {ch o : Nat} (h : c.canLosable ch o = true) : c.canLose ch o = c.canLoses ch o := by
  unfold Core.canLose Core.canLoses
  dsimp only
  rw [Core.canLosable_test, h, if_neg (by decide)]
theorem Core.canLose_other {c : Core} {ch o : Nat} (h : c.canLosable ch o = false) : c.canLose ch o = c := by
  unfold Core.canLose
  dsimp only
  rw [Core.canLosable_test, h]
  rfl

/-- Settles O43: TX_REQ reaches `Core.canTxWrite`, a sent frame `Core.canSent`, and a lost object `Core.canLose`. -/
theorem canChannels : Obligations.CanChannels := by
  unfold Obligations.CanChannels
  intro s p ch o tec rec hch ho i st q
  have served {f : Core → Core} {d : Core} (h : f s.core = d) : inRange "CAN channel" ch 4 (onCore s f) = .next { s with core := d } := (inRange_of_lt _ _ hch).trans (next_core_congr h)
  refine ⟨fun h => ?_, fun c present tx host => ⟨fun standby => ?_, fun lead => ?_⟩, fun fr before after runs active queue hb ha pend => ?_, fun runs active => ⟨fun off => ?_, fun below above normal => ?_, fun lowT lowR => ?_⟩,
    fun off auto calm => served (if_pos (by simp [show s.core.get F.CN_STAT_STATE ch = 3 from off, auto, show (s.core.canChAt ch).storm = false from calm])), fun h => ⟨?_, ?_⟩,
    fun off rec => served (if_pos (by simp [show s.core.get F.CN_STAT_STATE ch = 3 from off, show (s.core.canChAt ch).recovering = true from rec])),
    fun integ runs => served (if_neg (by simp [show s.core.get F.CN_STAT_STATE ch = 5 from integ, runs])), fun runs lossT => ?_, fun none => ?_⟩
  · refine (inRange_of_lt _ _ hch).trans ((inRange_of_lt _ _ ho).trans (next_after_congr ((Core.request_txReq hch ho h s.ram).trans (Core.wrote_congr ?_ s.ram))))
    exact Core.canTxWrite_eq _ ch o
  · rw [Core.canTxWrite_host present tx host, if_pos standby]
  · rw [Core.canTxWrite_host present tx host, if_neg (ne_false_of_eq_true lead)]
    exact ⟨Core.txPend_canQueue .., Core.mem_canQueue ..⟩
  · cases before with
    | nil => exact execCanTxDone_first hch runs active queue (foldl_firstBy_stays ha) pend
    | cons a l => exact execCanTxDone_first hch runs active queue (foldl_firstBy (hb a (List.mem_cons_self ..)) (fun x hx => hb x (List.mem_cons_of_mem _ hx)) ha) pend
  · exact (execCanError_active hch runs active tec rec).trans (next_core_congr (if_pos off))
  · exact (execCanError_active hch runs active tec rec).trans (next_core_congr ((if_neg (by omega)).trans ((if_pos (by simpa using above)).trans (if_neg (by rw [show s.core.get F.CN_STAT_STATE ch = 1 from normal]; decide)))))
  · exact (execCanError_active hch runs active tec rec).trans (next_core_congr ((if_neg (by omega)).trans (if_neg (by simp; omega))))
  · exact (inRange_of_lt _ _ hch).trans (next_after_congr (Core.request_cnCtrl hch h (by decide) s.ram))
  · refine (inRange_of_lt _ _ hch).trans (next_after_congr ((Core.request_cnCtrl hch h (by decide) s.ram).trans (Core.wrote_congr ?_ s.ram)))
    exact Core.canRestartCh_eq _ ch
  · refine (inRange_of_lt _ _ hch).trans ((inRange_of_lt _ _ ho).trans ((next_core_congr (if_neg (by simp [runs, lossT]))).trans ?_))
    show Host.Outcome.next { s with core := s.core.canLose ch o } = .next (if s.core.canLosable ch o then { s with core := s.core.canLoses ch o } else s)
    cases losable : s.core.canLosable ch o
    · rw [Core.canLose_other losable]; rfl
    · rw [Core.canLose_losable losable]; rfl
  · exact (inRange_of_lt _ _ hch).trans ((inRange_of_lt _ _ ho).trans (next_core_congr (if_pos (by simp [none]))))

end Sys2Proof.Machine
end

section
/-! SUPPORT. Wake sources and the supply-fail shutdown; then the statement about both. -/
namespace Sys2Proof.Machine

/-! ### Wake sources (R398, R402) -/

/-- A wake starts: the transition to Run runs, and where it came from is recorded. -/
def Core.wakeStarts (c : Core) (st : Nat) : Core := (c.set F.PW_STAT_ACTIVE 0 0).set F.PW_WAKE_SRC_FROM 0 st
/-- An enabled source that wakes the state is recorded; it abandons an entry, or starts the wake, which waits or is refused. -/
def Core.wokenBy (c : Core) (src : Nat) : Core :=
  let d := c.set F.PW_WAKE_SRC_SRC 0 (c.get F.PW_WAKE_SRC_SRC 0 ||| 2 ^ src)
  let a := c.get F.PW_STAT_ACTIVE 0
  if 1 ≤ a ∧ a ≤ 4 then (d.set F.PW_STAT_RESULT 0 5).wakeStarts (c.get F.PW_STAT_STATE 0)
  else if a ≠ 7 then d
  else if d.pwHeld then d.pwPend 0
  else if d.islState 0x26 = 5 ∨ d.islState 0x25 = 5 then d.pwDeny 3 0
  else d.wakeStarts (c.get F.PW_STAT_STATE 0)

theorem Core.wakeBy_acts {c : Core} {src : Nat} (enabled : c.wakeEnabled src = true) (column : wakes src c.wakeColumn = true) : c.wakeBy src = c.wokenBy src := by
  have kept (g : Fld) (h : F.PW_WAKE_SRC_SRC.apart g = true) := Core.get_set_of_apart h c 0 0 (c.get F.PW_WAKE_SRC_SRC 0 ||| 2 ^ src)
  have active := kept F.PW_STAT_ACTIVE (by decide)
  have state := kept F.PW_STAT_STATE (by decide)
  unfold Core.wakeBy Core.wokenBy
  rw [if_neg (by simp [enabled, column])]
  dsimp only
  rw [active, state]
  by_cases entering : 1 ≤ c.get F.PW_STAT_ACTIVE 0 ∧ c.get F.PW_STAT_ACTIVE 0 ≤ 4
  · rw [if_pos (by simpa using entering), if_pos entering]
    rfl
  · rw [if_neg (by simpa using entering), if_neg entering]
    by_cases idle : c.get F.PW_STAT_ACTIVE 0 = 7
    · rw [if_pos idle, if_neg (not_not_intro idle)]
      simp only [Core.hostFailed, Bool.or_eq_true, decide_eq_true_eq]
      rfl
    · rw [if_neg idle, if_pos idle]
theorem Core.wakeBy_other {c : Core} {src : Nat} (other : c.wakeEnabled src = false ∨ wakes src c.wakeColumn = false) : c.wakeBy src = c := by
  refine if_pos ?_
  rcases other with other | other <;> simp [other]

/-! ### The supply-fail shutdown (R407) -/

/-- The domains of the main islands and Saddler are gated. -/
def Core.gateAll (c : Core) : Core := foldN mainAndSaddler c (fun c i => c.setIsl i 2)
theorem Core.rst_gateAll (c : Core) : c.gateAll.rst = c.rst := foldN_keeps (fun d : Core => d.rst = c.rst) _ _ c rfl (fun d n h => by rw [Core.setIsl_rst, h])
theorem Core.islState_gateAll (c : Core) {j : Nat} (h : j < 0x29) : c.gateAll.islState j = 2 := by
  refine foldN_establishes (fun _ => True) (fun i (d : Core) => d.islState i = 2) _ (fun _ _ _ => trivial) _ (fun d n hn _ => Core.islState_setIsl d 2 (Nat.le_of_lt (List.mem_range.1 hn))) (fun d m n _ hm => ?_) c trivial j (List.mem_range.2 h)
  by_cases hmn : n = m
  · subst hmn
    by_cases hn : n ≤ 0x29
    · exact Core.islState_setIsl d 2 hn
    · simp [Core.islState, hn] at hm
  · rw [Core.islState_setIsl_ne d 2 hmn, hm]

/-- The clamps engage, and the supply holds the reset until it returns. -/
def Core.clamped (c : Core) : Core :=
  { c with twin := { c.twin with failOut := false }, power := { c.power with clamps := true, supply := false }, rst := { c.rst with supply := true, kind := 4 } }
/-- The end of the shutdown: a power-on reset is held, with the domains gated and the clamps engaged. -/
theorem Core.clamped_spec (c : Core) :
    let d := (c.assertReset 4 3).gateAll.clamped
    d.power.clamps = true ∧ d.rst.held = true ∧ d.rst.supply = true ∧ ∀ j < 0x29, d.islState j = 2 := by
  obtain ⟨held, -⟩ := c.assertReset_holds 4 3
  have gated (j : Nat) (hj : j < 0x29) : (c.assertReset 4 3).gateAll.islState j = 2 := Core.islState_gateAll _ hj
  have kept : (c.assertReset 4 3).gateAll.rst.held = true := by rw [Core.rst_gateAll, held]
  generalize (c.assertReset 4 3).gateAll = d at gated kept
  exact ⟨rfl, kept, rfl, gated⟩

/-- Settles O53: a source acts by `Core.wokenBy`, and the shutdown ends in `Core.clamped`. -/
theorem wakesAndSupply : Obligations.WakesAndSupply := by
  unfold Obligations.WakesAndSupply
  intro s k noCell woken acts cut
  have wake {i : Instr} {src : Nat} (h : exec i s = .next { s with core := s.core.wakeBy src }) : acts i src :=
    ⟨fun enabled column => h.trans (next_core_congr (Core.wakeBy_acts enabled column)), fun other => h.trans (next_core_congr (Core.wakeBy_other other))⟩
  have absent : noCell.bit F.PW_CELL_CELL_ABSENT 0 = s.core.bit F.PW_CELL_CELL_ABSENT 0 := Core.bit_setBit_of_apart (by decide) ..
  refine ⟨wake rfl, fun hk => wake (inRange_of_lt _ _ hk), fun hk => wake (inRange_of_lt _ _ hk), fun set => wake (next_core_congr (if_neg (by simpa [imp_iff_not_or] using set))), fun lo hi => next_core_congr (if_pos (by simp [lo, hi])),
    fun gone => next_core_congr (if_pos (absent.trans gone)), fun first => next_core_congr (if_neg (ne_true_of_eq_false (absent.trans first))), rfl, rfl, rfl, fun live => ⟨next_core_congr (if_neg ?_), next_core_congr (if_neg ?_)⟩,
    fun seen => Core.clamped_spec _, rfl⟩
  all_goals rcases live with live | live <;> simp [live]

end Sys2Proof.Machine
end

section
/-! SUPPORT. What a Standby takes from each record; then the statement about the records. -/
namespace Sys2Proof.Machine

/-! ### Records that a Standby takes (R368, R380) -/

/-- A record with a poison mark, on a Standby that mirrors or resynchronises, starts a full resync. -/
theorem Core.poisonedRecord_of_standby {c : Core} (standby : c.isStandby = true) :
    c.poisonedRecord = if c.link = 5 ∨ c.link = 6 then { c with twin := { c.twin with recLost := true } }.judge.startResync else c := by
  simp only [Core.poisonedRecord, standby, Bool.true_and, Bool.or_eq_true, decide_eq_true_eq]

/-- What turns other modules' records away. -/
theorem record_turned_away {a b : Bool} (h : a = false ∨ b = false) : (!a || !b) = true := by
  rcases h with h | h <;> simp [h]
theorem record_taken {a b : Bool} (ha : a = true) (hb : b = true) : ¬(!a || !b) = true := by simp [ha, hb]

/-! ### SLOT (R370, R371) -/

/-- The flags of a SLOT record as the registers show them. -/
def Core.recordShown (c : Core) (r : SlotRec) : Core :=
  let k := r.slot
  let c := (if r.late then c.setBit F.AX_STAT_LATE k true else c).setBit F.AX_STAT_UNPLACED k r.unplaced
  (((c.set F.AX_SL_STAT_STATE k r.est).set F.AX_SL_STAT_TRIES k r.tries).setBit F.AX_PSTAT_DONE k r.pdone).setBit F.AX_PSTAT_REVERSING k r.reversing
/-- The motion that a SLOT record goes on from. -/
def Core.recordPlan (c : Core) (r : SlotRec) (t : Int) : Motion × Traj :=
  let k := r.slot
  let still := Traj.rest t r.ppos
  match r.pstate with
  | 1 => (.move, match c.moveLimits k with | some (v, a, d) => (planTo t r.ppos r.pvel r.rtarget v a d).1 | none => Traj.uniform t r.ppos r.pvel)
  | 2 => (.jog, Traj.uniform t r.ppos r.pvel)
  | 5 => (.stopping, match (c.stopRate k true).1 with | some d => planStop t r.ppos r.pvel d | none => still)
  | 7 => (.stopping, match (c.stopRate k false).1 with | some d => planStop t r.ppos r.pvel d | none => still)
  | _ => (.rest, still)
theorem Core.adoptMotion_eq (c : Core) (r : SlotRec) (t : Int) :
    c.adoptMotion r.slot r t = c.setProf r.slot { c.profAt r.slot with engaged := false, traj := (c.recordPlan r t).2, motion := (c.recordPlan r t).1, target := r.rtarget, jogVel := r.pvel, limPlan := false, ss1 := r.pstate = 5, held := r.pstate = 6 && !c.slotSto r.slot } := rfl
theorem Core.igAt_adoptMotion (c : Core) (r : SlotRec) (t : Int) (g : Nat) : (c.adoptMotion r.slot r t).igAt g = c.igAt g := by
  rw [Core.adoptMotion_eq]
  rfl
theorem Core.leavePath_of_none {c : Core} {k : Nat} (h : c.pathOf k = none) : c.leavePath k = c := by rw [Core.leavePath, h]

/-- The own motion of a slot of no path. -/
theorem Core.adoptProfile_own {c : Core} {r : SlotRec} (t : Int) (h3 : r.pstate ≠ 3) (h4 : r.pstate ≠ 4) (alone : c.pathOf r.slot = none) : c.adoptProfile r.slot r t = c.adoptMotion r.slot r t := by
  rw [Core.adoptProfile, if_neg h3, if_neg h4, Core.leavePath_of_none alone]
/-- An engaged follower that shows no offset of its own rests there. -/
theorem Core.adoptProfile_follower {c : Core} {r : SlotRec} (t : Int) (h3 : r.pstate = 3) (alone : c.pathOf r.slot = none) (engaged : (c.profAt r.slot).engaged = true) (rests : r.rtarget = r.ppos) (port : (c.pat.slot r.slot).gearKind ≠ 1) :
    c.adoptProfile r.slot r t = c.setProf r.slot { c.profAt r.slot with sup := Traj.rest t r.ppos, supMotion := .rest, supTarget := r.rtarget } := by
  rw [Core.adoptProfile, if_pos h3, Core.leavePath_of_none alone, Core.adoptOffset, if_pos engaged]
  dsimp only
  rw [if_neg (not_not_intro rests), if_neg (by simp [port])]
/-- A member of a path that brings it to the record's target stays on it. -/
theorem Core.adoptProfile_path {c : Core} {r : SlotRec} {m : Nat × Int × Int} (t : Int) (h4 : r.pstate = 4) (grouped : (c.pat.slot r.slot).ig < 16) (moving : (c.igAt (c.pat.slot r.slot).ig).moving = true)
    (member : (c.igAt (c.pat.slot r.slot).ig).members.find? (fun x => x.1 == r.slot) = some m) (ends : (c.igAt (c.pat.slot r.slot).ig).memberEnd m = r.rtarget) : c.adoptProfile r.slot r t = c.adoptMotion r.slot r t := by
  rw [Core.adoptProfile, if_neg (by rw [h4]; decide), if_pos h4, Core.adoptPath]
  dsimp only
  rw [if_neg (Nat.not_le.2 grouped), if_pos moving, member]
  dsimp only
  rw [if_pos ends]

/-- The integrators and the last outputs of a SLOT record; a step slot has counts instead. -/
def Core.recordOutputs (c : Core) (r : SlotRec) (kind n : Nat) (ran : Int) : Core :=
  let k := r.slot
  let c := if kind = 2 then ((c.setReg R.SP_COUNT n r.iVel).set F.SP_STAT_LAG n r.iD.toNat).setStep n { c.stepAt n with steps := r.iVel.toInt, owed := r.ppos.fdiv 65536 - (if r.pvel.neg then -(r.iD.toNat : Int) else r.iD.toNat) } else
    let i := if kind = 1 then park (c.laneCurrent n) r.thetaE else (0, 0)
    c.setLoop k { c.loopAt k with iVel := r.iVel, iD := r.iD, iQ := r.iQ, vCmd := r.vcmd, iCmd := r.icmd, vd := r.vd, vq := r.vq, id := i.1, iq := i.2, dutyU := dutyOfWord r.dutyU, dutyV := dutyOfWord r.dutyV, dutyW := dutyOfWord r.dutyW, hasDuty := true, tCur := some ran, tVel := some ran }
  c.set F.AX_COMM_STAT_THETA_E k r.thetaE.toNat
/-- The estimator of a Standby that is not hot follows the record's angle. -/
def Core.recordAngle (c : Core) (r : SlotRec) : Core :=
  let k := r.slot
  let e := c.estAt k
  let len := (c.gridAt (c.slotPeriod k)).len
  let fe := if len = 0 then e.fe else F32.div (F32.ofInt (wrapTo e.theta r.thetaE)) (F32.mul 0x47800000 (F32.ofRat (len / 1000000000)))
  if c.isHot then c else c.setEst k { e with theta := r.thetaE, fe := fe, obsTheta := r.thetaE, hfiTheta := r.thetaE, obsFreq := fe, hfiFreq := fe }

/-- The instant at which the loops of a record's slot last ran. -/
def Core.recordRan (c : Core) (k : Nat) (t : Int) : Int := if c.hasContext k then (c.gridAt (c.slotPeriod k)).start else t
/-- A SLOT record as a Standby takes it. -/
def Core.recordSlot (c : Core) (r : SlotRec) : Core :=
  (((c.recordShown r).adoptProfile r.slot r (c.recordT r.slot)).recordOutputs r (c.pat.slot r.slot).kind (c.pat.slot r.slot).res ((c.recordShown r).recordRan r.slot (c.recordT r.slot))).recordAngle r
theorem execSlotRecord_taken {s : State} {r : SlotRec} (hk : r.slot < 128) (standby : s.core.isStandby = true) (trained : s.core.trained = true) (used : (s.core.pat.slot r.slot).kind ≠ 0) (sound : r.poisoned = false) :
    execSlotRecord s r = .next { s with core := (s.core.recordSlot r).publishState r.slot (s.core.recordSlot r).profNs } := by
  refine (inRange_of_lt _ _ hk).trans (next_core_congr ((if_neg (by simp [standby, trained, used])).trans ((if_neg (ne_true_of_eq_false sound)).trans ?_)))
  rfl

/-- A Standby's pattern stays, whatever a record's flags show. -/
theorem Core.pat_recordShown (c : Core) (r : SlotRec) : (c.recordShown r).pat = c.pat := by
  unfold Core.recordShown
  cases r.late <;> rfl
theorem Core.loopAt_set (c : Core) (f : Fld) (i v k : Nat) : (c.set f i v).loopAt k = c.loopAt k := rfl
/-- Of any slot but a step slot the record gives the loops. -/
theorem Core.loopAt_recordOutputs (c : Core) (r : SlotRec) {kind : Nat} (lanes : kind ≠ 2) (n : Nat) (ran : Int) :
    let l := (c.recordOutputs r kind n ran).loopAt r.slot
    l.iVel = r.iVel ∧ l.vCmd = r.vcmd ∧ l.iCmd = r.icmd ∧ l.vd = r.vd ∧ l.vq = r.vq := by
  unfold Core.recordOutputs
  dsimp only
  rw [if_neg lanes]
  simp only [Core.loopAt_set, Core.loopAt_setLoop, and_self]
theorem Core.loopAt_recordAngle (c : Core) (r : SlotRec) (k : Nat) : (c.recordAngle r).loopAt k = c.loopAt k := by
  unfold Core.recordAngle
  dsimp only
  split <;> rfl

/-! ### GRID, GROUP and CHANGE (R368, R369) -/

/-- A GRID record's frame start and counters. -/
def Core.recordGrid (c : Core) (g : GridRec) : Core :=
  let q := g.period
  let start := (g.startNs : Int) - c.time.stepSum
  let old := c.gridAt q
  let c := (((c.setReg R.BS_FCNT q g.fcnt).set F.BS_FEPOCH_WRAPS q g.fepoch).setReg R.BS_DEBT q (BitVec.ofNat 32 g.debt)).setReg R.BS_SHIFT q (BitVec.ofNat 32 g.shift)
  let c := c.set F.BS_STAT_LEVEL 0 g.level
  let len := frameLength (periodNs q) g.debt
  c.setGrid q { old with running := true, start := start, nominal := start - g.debt, len := len, prevPlan := (if old.running then old.len else len), prevLen := (if old.running then (start - old.start).toNat else len.floor.toNat), level := g.level }
/-- The registers of a grid. -/
def gridRegs : List Nat := [R.BS_FCNT.id, R.BS_FEPOCH.id, R.BS_DEBT.id, R.BS_SHIFT.id, R.BS_STAT.id]
/-- A GRID record leaves the registers of no grid. -/
theorem Core.reg_recordGrid (c : Core) (g : GridRec) {q : Reg} (i : Nat) (hq : q.id < 512) (other : gridRegs.all (· ≠ q.id) = true) : (c.recordGrid g).reg q i = c.reg q i := by
  simp only [gridRegs, List.all_cons, List.all_nil, Bool.and_true, Bool.and_eq_true, decide_eq_true_eq] at other
  obtain ⟨fcnt, fepoch, debt, shift, level⟩ := other
  unfold Core.recordGrid
  dsimp only [Core.setGrid_reg, Core.set, F.BS_STAT_LEVEL, F.BS_FEPOCH_WRAPS]
  rw [Core.reg_setReg_of_id _ _ (by decide) hq level, Core.reg_setReg_of_id _ _ (by decide) hq shift, Core.reg_setReg_of_id _ _ (by decide) hq debt, Core.reg_setReg_of_id _ _ (by decide) hq fepoch, Core.reg_setReg_of_id _ _ (by decide) hq fcnt]
theorem Core.link_recordGrid (c : Core) (g : GridRec) : (c.recordGrid g).link = c.link := Core.get_of_reg (f := F.TW_ROLE_LINK) (c.reg_recordGrid g 0 (by decide) (by decide))
theorem Core.fcnt_recordGrid (c : Core) (g : GridRec) : (c.recordGrid g).reg R.BS_FCNT g.period = g.fcnt := by
  unfold Core.recordGrid
  dsimp only [Core.setGrid_reg, Core.set, F.BS_STAT_LEVEL, F.BS_FEPOCH_WRAPS]
  rw [Core.reg_setReg_of_id _ _ (by decide) (by decide) (by decide), Core.reg_setReg_of_id _ _ (by decide) (by decide) (by decide), Core.reg_setReg_of_id _ _ (by decide) (by decide) (by decide),
    Core.reg_setReg_of_id _ _ (by decide) (by decide) (by decide), Core.reg_setReg_self]
theorem Core.start_recordGrid (c : Core) (g : GridRec) : ((c.recordGrid g).gridAt g.period).start = (g.startNs : Int) - c.time.stepSum :=
  congrArg Grid.start (Core.gridAt_setGrid ..)

/-- A frame of a grid during a resync, counted where it was complete. -/
def Core.countComplete (c : Core) (g : GridRec) : Core :=
  { c with twin := { c.twin with complete := Tab.set 0 c.twin.complete g.period (if g.complete then Tab.get 0 c.twin.complete g.period + 1 else 0) } }
/-- Complete frames of every grid end a resync. -/
def Core.recordResync (c : Core) (g : GridRec) : Core :=
  let c := c.countComplete g
  if ((List.range 6).filter c.gridUsed).all (fun x => 2 ≤ Tab.get 0 c.twin.complete x) then c.resynced else c
theorem execGridRecord_taken {s : State} {g : GridRec} (hq : g.period < 6) (standby : s.core.isStandby = true) (trained : s.core.trained = true) (sound : g.poisoned = false) :
    execGridRecord s g = .next { s with core :=
      (let c := s.core.recordGrid g
       if s.core.link = 6 then (if g.complete then c else c.lostRecord) else if s.core.link = 5 && s.core.twin.snapshots then c.recordResync g else c) } := by
  refine (inRange_of_lt _ _ hq).trans (next_core_congr ((if_neg (record_taken standby trained)).trans ((if_neg (ne_true_of_eq_false sound)).trans ?_)))
  have link := Core.link_recordGrid s.core g
  dsimp only
  rw [← link]
  rfl

/-- A GROUP record's state and cause, with its XSTO and XSS1. -/
def Core.recordGroup (c : Core) (b : GroupRec) : Core :=
  let n := b.group
  let old := c.bg n
  let xss1 := b.state = 1 || (b.state = 2 && old.xss1)
  let inSto := c.inSto n
  let c := (c.setGrp n b.state).set F.SF_GRP_CAUSE n b.cause
  let c := { c with latchRec := Tab.set 0 c.latchRec n (b.latches.toNat &&& 0x0F80) }
  let t := c.profNs / 4294967296 * 4294967296 + (b.ss1Start : Int)
  c.setBg n { old with xsto := b.state = 2 && (xstoCause b.cause || (inSto && old.xsto)), xss1 := xss1, xss1Timer := xss1, xss1Expired := xss1 && old.xss1Expired, v0 := b.v0, brakeOn := b.brakeOn,
                       ss1T := (if b.state = 1 then (if c.profNs < t then t - 4294967296 else t) else old.ss1T), ss1Pend := (if b.state = 0 then old.ss1Pend else 0) }
theorem execGroupRecord_taken {s : State} {b : GroupRec} (hn : b.group < 16) (standby : s.core.isStandby = true) (trained : s.core.trained = true) (sound : b.poisoned = false) :
    execGroupRecord s b = .next { s with core :=
      (let c := s.core.recordGroup b
       (if b.state = 2 && !s.core.inSto b.group then foldN (c.groupSlots b.group) c Core.stoSlot else c).xb2) } :=
  (inRange_of_lt _ _ hn).trans (next_core_congr ((if_neg (record_taken standby trained)).trans (if_neg (ne_true_of_eq_false sound))))
/-- The group's state and cause are the record's. -/
theorem Core.state_recordGroup (c : Core) {b : GroupRec} (hs : b.state < 4) : (c.recordGroup b).get F.SF_GRP_STATE b.group = b.state := by
  show (((c.set F.SF_GRP_STATE b.group b.state).sendLevel 0x27 (0x10 + b.group) lineStop b.state).set F.SF_GRP_CAUSE b.group b.cause).get F.SF_GRP_STATE b.group = b.state
  rw [Core.get_set_of_apart (by decide), Core.get, Core.reg_sendLevel]
  exact (Core.get_set _ F.SF_GRP_STATE b.group b.state (by decide)).trans (Nat.mod_eq_of_lt hs)
theorem Core.cause_recordGroup (c : Core) {b : GroupRec} (hc : b.cause < 16) : (c.recordGroup b).get F.SF_GRP_CAUSE b.group = b.cause :=
  (Core.get_set _ F.SF_GRP_CAUSE b.group b.cause (by decide)).trans (Nat.mod_eq_of_lt hc)

/-- A CHANGE record as a Standby takes it. -/
def Core.recordChange (c : Core) (ram : Ram) (r : ChangeRec) : Core :=
  match r with
  | .poisoned => c.poisonedRecord
  | .write addr v =>
    match locAt addr with
    | none => c
    | some l =>
      if !mirrored l.reg then c
      else if (highOf l.reg).isSome || (lowOf l.reg).isSome then c.setReg l.reg l.inst v
      else c.applyWrite ram l.reg l.inst v (c.storeMask l.reg l.inst true) 0
  | .laneFault lane cause => if lane < 96 then c.adoptLane lane cause else c
  | .laneClear lane => if lane < 96 then c.adoptLane lane 0 else c
  | .portFault port cause => if port < 56 then c.adoptPort port cause else c
  | .portClear port => if port < 56 then c.adoptPort port 0 else c
theorem execChangeRecord_taken {s : State} (standby : s.core.isStandby = true) (trained : s.core.trained = true) (r : ChangeRec) : execChangeRecord s r = .next (s.after (s.core.recordChange s.ram r)) :=
  next_after_congr (if_neg (record_taken standby trained))

theorem Core.recordChange_write {c : Core} {ram : Ram} {addr : Nat} {l : Loc} (named : locAt addr = some l) (v : Word) :
    c.recordChange ram (.write addr v) = if !mirrored l.reg then c
      else if (highOf l.reg).isSome || (lowOf l.reg).isSome then c.setReg l.reg l.inst v
      else c.applyWrite ram l.reg l.inst v (c.storeMask l.reg l.inst true) 0 := by
  simp only [Core.recordChange, named]

/-! ### SNAPSHOT (R380) -/

theorem execSnapshotRecord_taken {s : State} (standby : s.core.isStandby = true) (trained : s.core.trained = true) {r : SnapRec} (sound : r ≠ .poisoned) :
    execSnapshotRecord s r = .next { s with core :=
      (let c := ({ s.core with twin := { s.core.twin with snapshots := true } } : Core).adoptSnapshot r
       if c.link = 5 && !(List.range 6).any c.gridUsed then c.resynced else c) } :=
  next_core_congr ((if_neg (record_taken standby trained)).trans (if_neg sound))
theorem execSnapshotRecord_gives {s : State} (standby : s.core.isStandby = true) (trained : s.core.trained = true) {r : SnapRec} (sound : r ≠ .poisoned) {d : Core}
    (h : ({ s.core with twin := { s.core.twin with snapshots := true } } : Core).adoptSnapshot r = d) :
    execSnapshotRecord s r = .next { s with core := (if d.link = 5 && !(List.range 6).any d.gridUsed then d.resynced else d) } := by
  rw [execSnapshotRecord_taken standby trained sound, h]

/-- Settles O50: a record with no poison mark reaches `Core.recordSlot` and its kin, and its loops are the record's. -/
theorem standbyRecords : Obligations.StandbyRecords := by
  unfold Obligations.StandbyRecords
  intro s r g b ch sn hr hq hb
  refine ⟨fun other => ?_, fun standby trained => ⟨⟨fun used => ?_, ?_, ?_, ?_, ?_⟩, fun sound used => ⟨fun h3 h4 alone => ?_, fun h3 alone engaged rests port => ?_, fun h4 path m grouped found moving member ends => ?_, ?_, fun lanes => ?_⟩,
    fun sound => ⟨fun up => ?_, fun resync snapped => ?_, fun before => ?_, s.core.fcnt_recordGrid g, s.core.start_recordGrid g⟩, fun sound => ⟨?_, fun hs hc => ⟨Core.state_recordGroup _ hs, Core.cause_recordGroup _ hc⟩⟩,
    fun reg i v named => ⟨fun plain => ?_, fun mir wide => ?_, fun mir high low => ?_⟩, fun lane cause hl => ⟨?_, ?_⟩, fun port cause hp => ⟨?_, ?_⟩, ?_⟩⟩
  · have turned := record_turned_away other
    refine ⟨(inRange_of_lt _ _ hr).trans (next_core_congr (if_pos (by rw [turned, Bool.true_or]))), (inRange_of_lt _ _ hq).trans (next_core_congr (if_pos turned)), (inRange_of_lt _ _ hb).trans (next_core_congr (if_pos turned)),
      next_after_congr (if_pos turned), next_core_congr (if_pos turned)⟩
  · exact (inRange_of_lt _ _ hr).trans (next_core_congr ((if_neg (by simp [standby, trained, used])).trans ((if_pos rfl).trans (Core.poisonedRecord_of_standby standby))))
  · exact (inRange_of_lt _ _ hq).trans (next_core_congr ((if_neg (record_taken standby trained)).trans ((if_pos rfl).trans (Core.poisonedRecord_of_standby standby))))
  · exact (inRange_of_lt _ _ hb).trans (next_core_congr ((if_neg (record_taken standby trained)).trans ((if_pos rfl).trans (Core.poisonedRecord_of_standby standby))))
  · exact (execChangeRecord_taken standby trained .poisoned).trans (next_after_congr (Core.poisonedRecord_of_standby standby))
  · exact next_core_congr ((if_neg (record_taken standby trained)).trans ((if_pos rfl).trans (Core.poisonedRecord_of_standby standby)))
  · exact (Core.adoptProfile_own (c := s.core.recordShown r) _ h3 h4 alone).trans (Core.adoptMotion_eq ..)
  · exact Core.adoptProfile_follower (c := s.core.recordShown r) _ h3 alone engaged rests (by rw [Core.pat_recordShown]; exact port)
  · have pat := Core.pat_recordShown s.core r
    subst found
    have stays := Core.adoptProfile_path (c := s.core.recordShown r) (s.core.recordT r.slot) h4 (by rw [pat]; exact grouped) (by rw [pat]; exact moving) (by rw [pat]; exact member) (by rw [pat]; exact ends)
    exact (congrArg (fun d : Core => d.igAt (s.core.pat.slot r.slot).ig) stays).trans (Core.igAt_adoptMotion ..)
  · exact execSlotRecord_taken hr standby trained used sound
  · have loops := Core.loopAt_recordOutputs ((s.core.recordShown r).adoptProfile r.slot r (s.core.recordT r.slot)) r lanes (s.core.pat.slot r.slot).res ((s.core.recordShown r).recordRan r.slot (s.core.recordT r.slot))
    rw [← Core.loopAt_recordAngle] at loops
    exact loops
  · exact (execGridRecord_taken hq standby trained sound).trans (next_core_congr (if_pos up))
  · exact (execGridRecord_taken hq standby trained sound).trans (next_core_congr ((if_neg (by rw [resync]; decide)).trans (if_pos (by simp [resync, snapped]))))
  · exact (execGridRecord_taken hq standby trained sound).trans (next_core_congr ((if_neg (by rcases before with h | h <;> omega)).trans (if_neg (by rcases before with h | h <;> simp [h]))))
  · exact execGroupRecord_taken hb standby trained sound
  · exact (execChangeRecord_taken standby trained _).trans (next_after_congr ((Core.recordChange_write named v).trans (if_pos (by rw [plain]; rfl))))
  · exact (execChangeRecord_taken standby trained _).trans (next_after_congr ((Core.recordChange_write named v).trans ((if_neg (by rw [mir]; decide)).trans (if_pos (by simpa using wide)))))
  · exact (execChangeRecord_taken standby trained _).trans (next_after_congr ((Core.recordChange_write named v).trans ((if_neg (by rw [mir]; decide)).trans (if_neg (by rw [high, low]; decide)))))
  · exact (execChangeRecord_taken standby trained (.laneFault lane cause)).trans (next_after_congr (if_pos hl))
  · exact (execChangeRecord_taken standby trained (.laneClear lane)).trans (next_after_congr (if_pos hl))
  · exact (execChangeRecord_taken standby trained (.portFault port cause)).trans (next_after_congr (if_pos hp))
  · exact (execChangeRecord_taken standby trained (.portClear port)).trans (next_after_congr (if_pos hp))
  · intro c gives
    have given {x : SnapRec} (sound : x ≠ .poisoned) {d : Core} (h : c.adoptSnapshot x = d) : gives x d := execSnapshotRecord_gives standby trained sound h
    refine ⟨fun k x hk port => given (by simp) ((if_neg (Nat.not_le.2 hk)).trans ?_), fun k x hk port => given (by simp) ((if_neg (Nat.not_le.2 hk)).trans ?_), fun n x hn => given (by simp) (if_neg (Nat.not_le.2 hn)),
      fun k arm hk => given (by simp) (if_neg (Nat.not_le.2 hk)), fun l cause hl => given (by simp) (if_neg (Nat.not_le.2 hl)), fun q cause hq => given (by simp) (if_neg (Nat.not_le.2 hq)),
      fun h o n hh ho cyc => given (by simp) (if_neg (by simp [cyc]; omega)), fun h o fr hh ho => given (by simp) (if_neg (by simp; omega)), fun f seq outs hf => given (by simp) (if_neg (Nat.not_le.2 hf))⟩
    · rw [Core.adoptGear, if_neg port]
    · rw [Core.adoptGear, if_pos port]

end Sys2Proof.Machine
end

section
/-! SUPPORT. The place of each register in the address map (R63, Table 3.1); then the statement about the addresses of their copies. -/
namespace Sys2Proof.Machine

/-- The addresses of a register with a stride, or of the field strings' words, are its own: they are aligned (R64), each copy of the register has one, the register stands in the map under its number, and no earlier register shares an address with it. -/
def Reg.placed (r : Reg) : Bool :=
  (match r.place with
    | .lin s => (s != 0 || decide (r.count ≤ 1)) && r.base % 4 == 0 && s % 4 == 0
    | .fieldString => r.count == 8 && r.base % 4 == 0
    | _ => true) &&
  allRegs[r.id]? == some r && (allRegs.take r.id).all (r.apart ·)

theorem allRegs_placed : allRegs.all (fun r => match r.place with | .lin _ | .fieldString => r.placed | _ => true) = true := by decide +kernel

/-- A copy of a register with a stride is found at its address, and alone there. -/
theorem Reg.instAt_addr_lin {r : Reg} {i s : Nat} (hs : r.place = .lin s) (hi : i < r.count) (apart : s ≠ 0 ∨ r.count ≤ 1) : r.instAt (⟨r, i⟩ : Loc).addr = some i := by
  have addr : (⟨r, i⟩ : Loc).addr = r.base + i * s := by simp only [Loc.addr, hs]
  rw [addr, Reg.instAt, if_neg (by omega), hs, Nat.add_sub_cancel_left]
  cases s with
  | zero =>
    have first : i = 0 := by omega
    subst first
    rfl
  | succ n =>
    simp only [Nat.mul_mod_left, Nat.mul_div_cancel _ n.succ_pos, hi, decide_true, Bool.and_self, if_true]

/-- A word of the field strings is found at its address: two strings of four words. -/
theorem Reg.instAt_addr_fieldString {r : Reg} {i : Nat} (hs : r.place = .fieldString) (hi : i < 8) : r.instAt (⟨r, i⟩ : Loc).addr = some i := by
  have addr : (⟨r, i⟩ : Loc).addr = r.base + (i / 4 * 0x80 + i % 4 * 0x10) := by simp only [Loc.addr, hs, Nat.add_assoc]
  rw [addr, Reg.instAt, if_neg (by omega), hs, Nat.add_sub_cancel_left]
  dsimp only
  have string : (i / 4 * 0x80 + i % 4 * 0x10) / 0x80 = i / 4 := by omega
  have word : (i / 4 * 0x80 + i % 4 * 0x10) % 0x80 = i % 4 * 0x10 := by omega
  rw [string, word, Nat.mul_mod_left, Nat.mul_div_cancel _ (by decide : 0 < 0x10), if_pos (by simp; omega)]
  exact congrArg some (by omega)

/-- The address of a copy of a placed register is aligned and names it. -/
theorem Reg.placed_loc {r : Reg} {i : Nat} (h : r.placed = true) (hp : (∃ s, r.place = .lin s) ∨ r.place = .fieldString) (hi : i < r.count) : locAt (⟨r, i⟩ : Loc).addr = some ⟨r, i⟩ := by
  rw [Reg.placed, Bool.and_eq_true, Bool.and_eq_true, beq_iff_eq] at h
  obtain ⟨⟨place, numbered⟩, alone⟩ := h
  rcases hp with ⟨s, hs⟩ | hs
  · simp only [hs, Bool.and_eq_true, Bool.or_eq_true, bne_iff_ne, decide_eq_true_eq, beq_iff_eq] at place
    obtain ⟨⟨apart, base⟩, stride⟩ := place
    have addr : (⟨r, i⟩ : Loc).addr = r.base + i * s := by simp only [Loc.addr, hs]
    refine locAt_addr (.inl ⟨s, hs⟩) hi numbered alone ?_ (Reg.instAt_addr_lin hs hi apart)
    rw [addr, Nat.add_mod, Nat.mul_mod, base, stride, Nat.mul_zero]
  · simp only [hs, Bool.and_eq_true, beq_iff_eq] at place
    obtain ⟨eight, base⟩ := place
    refine locAt_addr (.inr ⟨hs, eight⟩) hi numbered alone ?_ (Reg.instAt_addr_fieldString hs (eight ▸ hi))
    simp only [Loc.addr, hs]
    omega

/-- The address of a register's copy is not below the register's. -/
theorem Loc.base_le_addr (l : Loc) : l.reg.base ≤ l.addr := by
  unfold Loc.addr
  split <;> omega

/-- Settles O8: no earlier register of the map shares an address with a placed one (`allRegs_placed`), so a copy's address names it. -/
theorem everyRegisterHasItsAddress : Obligations.EveryRegisterHasItsAddress := by
  unfold Obligations.EveryRegisterHasItsAddress
  intro r hr hp i hi
  have placed : r.placed = true := by
    have h := List.all_eq_true.1 allRegs_placed r hr
    rcases hp with ⟨s, hs⟩ | hs <;> simpa only [hs] using h
  have outside : 0x4000000 ≤ r.base := of_decide_eq_true (List.all_eq_true.1 regs_outsideSram r hr)
  exact ⟨Reg.placed_loc placed hp hi, outside.trans (Loc.base_le_addr ⟨r, i⟩)⟩

end Sys2Proof.Machine
end

section
/-! SUPPORT. What a latch, an SS1 cause, an STO with XSTO and the XB-2 leave of Bridle and of a lane group; then the statement about the faults that Bridle finds. -/
namespace Sys2Proof.Machine

/-! ### Bridle outside its groups -/

/-- Of Bridle, the state of the lane groups alone may differ. -/
def Core.BridleFrame (c d : Core) : Prop := d.bridle = { c.bridle with grp := d.bridle.grp }

theorem Core.BridleFrame.refl (c : Core) : c.BridleFrame c := rfl
theorem Core.BridleFrame.trans {c d e : Core} (h : c.BridleFrame d) (k : d.BridleFrame e) : c.BridleFrame e := by
  rw [Core.BridleFrame] at *
  rw [k, h]
theorem Core.BridleFrame.foldN {c : Core} {f : Core → Nat → Core} (l : List Nat) (h : ∀ (d : Core) (n : Nat), d.BridleFrame (f d n)) : c.BridleFrame (foldN l c f) :=
  foldN_keeps (fun d => c.BridleFrame d) f l c (.refl c) fun d n hd => hd.trans (h d n)
theorem Core.LogsFrom.bridle {c d : Core} (h : c.LogsFrom d) : c.BridleFrame d := by
  obtain ⟨⟨_, _, _, _, rfl⟩, -⟩ := h; rfl
theorem Core.JudgesTo.bridle {c d : Core} (h : c.JudgesTo d) : c.BridleFrame d := by
  obtain ⟨⟨_, _, _, _, rfl⟩, -⟩ := h; rfl
theorem Core.bridle_xb2 (c : Core) : c.BridleFrame c.xb2 := by
  obtain ⟨_, h⟩ := c.xb2_frame
  rw [h]; rfl

/-! ### SS1 (R351) -/

/-- A release that ends changes its group and the registers alone (R357). -/
theorem Core.cancelRelease_frame (c : Core) (g : Nat) : ∃ r t, c.cancelRelease g = { c with regs := r, bridle := { c.bridle with grp := t } } := by
  unfold Core.cancelRelease
  dsimp only
  split
  · split <;> exact ⟨_, _, rfl⟩
  · exact ⟨_, _, rfl⟩
/-- An SS1 cause changes its group and the registers alone (R351). -/
theorem Core.requestSs1_frame (c : Core) (g cause : Nat) : ∃ r t, c.requestSs1 g cause = { c with regs := r, bridle := { c.bridle with grp := t } } := by
  unfold Core.requestSs1
  split
  · split <;> exact ⟨_, _, rfl⟩
  · obtain ⟨r, t, h⟩ := c.cancelRelease_frame g
    rw [h]
    exact ⟨_, _, rfl⟩
theorem Core.bridle_requestSs1s (c : Core) (gs : List Nat) (cause : Nat) : c.BridleFrame (c.requestSs1s gs cause) :=
  .foldN gs fun d n => by
    obtain ⟨_, _, h⟩ := d.requestSs1_frame n cause
    rw [h]; rfl

/-! ### Seal faults (R348) -/

/-- Both channels see the live bank, an XB-2 without supply nothing (R345). -/
def Core.seesSeal (c : Core) (live : BitVec 40) : Core := { c with bridle := { c.bridle with sealP := live, xSeal := if c.bridle.supplied then live else c.bridle.xSeal } }
theorem execSealFault_runs {s : State} (runs : s.core.runs 0x27 = true) (live : BitVec 40) : execSealFault s live = .next { s with core := (s.core.seesSeal live).sealFault } := next_core_congr (if_pos runs)
theorem execSealFault_gated {s : State} (gated : s.core.runs 0x27 = false) (live : BitVec 40) :
    execSealFault s live = .next { s with core := { s.core.seesSeal live with bridle := { (s.core.seesSeal live).bridle with xSealLatch := s.core.bridle.xSealLatch || s.core.bridle.supplied } }.xb2 } :=
  next_core_congr (if_neg (ne_true_of_eq_false gated))

/-- Groups that a seal fault asks are those claimed when it came; logging leaves the claims. -/
theorem Core.sealFault_eq (c : Core) :
    c.sealFault = if c.bridle.sealLatch && c.bridle.xSealLatch then c
      else (({ c with bridle := { c.bridle with sealLatch := true, xSealLatch := true } }.logFrom 0x27 0x0003 noSrc 13).requestSs1s (bitsOf 16 c.bridle.own.toNat) 13).xb2.judge := by
  have own : ({ c with bridle := { c.bridle with sealLatch := true, xSealLatch := true } }.logFrom 0x27 0x0003 noSrc 13).bridle.own = c.bridle.own := by
    rw [(Core.logFrom_frame ..).bridle]
  rw [← own]
  rfl

/-- After a seal fault SEAL is latched in both channels. -/
theorem Core.sealFault_latched (c : Core) : c.sealFault.bridle.sealLatch = true ∧ c.sealFault.bridle.xSealLatch = true := by
  unfold Core.sealFault
  by_cases latched : (c.bridle.sealLatch && c.bridle.xSealLatch) = true
  · rw [if_pos latched]
    exact Bool.and_eq_true_iff.1 latched
  · rw [if_neg latched]
    have after (b d : Core) (set : b.bridle.sealLatch = true ∧ b.bridle.xSealLatch = true) (frame : b.BridleFrame d) : d.bridle.sealLatch = true ∧ d.bridle.xSealLatch = true := by
      rw [frame]; exact set
    exact after _ _ ⟨rfl, rfl⟩ ((((Core.logFrom_frame ..).bridle.trans (Core.bridle_requestSs1s ..)).trans (Core.bridle_xb2 _)).trans (Core.judge_frame _).bridle)

/-! ### Latches (R357, R359) -/

/-- A cause joins the latches of a group: the group's own, or those of the backup domain (R421). -/
def Core.withLatch (c : Core) (g cause : Nat) : Core :=
  if cause = 12 || cause = 14 then c.setBg g { c.bg g with latch := (c.bg g).latch ||| 2 ^ cause } else { c with latchRec := Tab.set 0 c.latchRec g (Tab.get 0 c.latchRec g ||| 2 ^ cause) }
theorem Core.latch_new {c : Core} {g cause : Nat} (h : (c.latches g).testBit cause = false) : c.latch g cause = (c.withLatch g cause).logFrom 0x27 0x0002 g cause :=
  if_neg (ne_true_of_eq_false h)
theorem Core.latch_held {c : Core} {g cause : Nat} (h : (c.latches g).testBit cause = true) : c.latch g cause = c := if_pos h

/-- What latching a cause for a group leaves: the register file but for what logging takes, all of Bridle but that group's own latches, and the latches of the other groups; the cause is then latched. -/
structure Core.LatchFrame (c d : Core) (g cause : Nat) : Prop where
  bridle : c.BridleFrame d
  others : ∀ m, m ≠ g → d.bg m = c.bg m ∧ d.latches m = c.latches m
  group : d.bg g = { c.bg g with latch := (d.bg g).latch }
  states : ∀ m, d.reg R.SF_GRP m = c.reg R.SF_GRP m
  latched : (d.latches g).testBit cause = true

theorem Core.withLatch_frame (c : Core) (g cause : Nat) : c.LatchFrame (c.withLatch g cause) g cause := by
  unfold Core.withLatch
  split
  · refine ⟨rfl, fun m hm => ?_, by rw [Core.bg_setBg], fun _ => rfl, ?_⟩
    · rw [Core.latches, Core.bg_setBg_ne _ _ hm.symm]
      exact ⟨rfl, rfl⟩
    · rw [Core.latches, Core.bg_setBg]
      simp [Nat.testBit_or]
  · refine ⟨rfl, fun m hm => ⟨rfl, congrArg (· ||| (c.bg m).latch) (Tab.get_set_ne _ _ _ hm.symm)⟩, rfl, fun _ => rfl, ?_⟩
    show ((Tab.get 0 (Tab.set 0 c.latchRec g _) g) ||| (c.bg g).latch).testBit cause = true
    rw [Tab.get_set_self]
    simp [Nat.testBit_or]
theorem Core.latch_frame (c : Core) (g cause : Nat) : c.LatchFrame (c.latch g cause) g cause := by
  cases held : (c.latches g).testBit cause with
  | true =>
    rw [Core.latch_held held]
    exact ⟨rfl, fun _ _ => ⟨rfl, rfl⟩, rfl, fun _ => rfl, held⟩
  | false =>
    rw [Core.latch_new held]
    obtain ⟨bridle, others, group, states, latched⟩ := c.withLatch_frame g cause
    have logs := (c.withLatch g cause).logFrom_frame 0x27 0x0002 g cause
    have kept (m : Nat) := logs.2 R.SF_GRP m (by decide) (by decide) (by decide) (by decide) (by decide)
    obtain ⟨⟨_, _, _, _, h⟩, -⟩ := logs
    rw [h] at kept ⊢
    exact ⟨bridle, others, group, fun m => (kept m).trans (states m), latched⟩

/-! ### STO with XSTO (R350) -/

/-- Asserting XSTO changes that of its group alone. -/
theorem Core.latches_assertXsto (c : Core) (g m : Nat) : (c.assertXsto g).latches m = c.latches m := by
  by_cases h : g = m
  · subst h
    rw [Core.assertXsto, Core.latches, Core.bg_setBg]; rfl
  · rw [Core.assertXsto, Core.latches, Core.bg_setBg_ne _ _ h]; rfl
/-- Taking a group to STO leaves every group's latches. -/
theorem Core.latches_enterSto (c : Core) (g cause : Nat) (e : Bool) (m : Nat) : (c.enterSto g cause e).latches m = c.latches m := by
  obtain ⟨-, -, frame⟩ := c.enterSto_spec g cause e
  have own : ((c.enterSto g cause e).bg m).latch = (c.bg m).latch := by
    by_cases h : m = g
    · subst h; exact frame.latch
    · rw [(frame.others m h).1]
  have backup : (c.enterSto g cause e).latchRec = c.latchRec := by
    obtain ⟨_, _, _, _, _, _, _, _, _, _, rest⟩ := frame.rest
    rw [rest]
  rw [Core.latches, Core.latches, own, backup]

/-- What the XB-2 drives is no part of a group's XSTO. -/
theorem Core.xsto_xb2 (c : Core) (g : Nat) : (c.xb2.bg g).xsto = (c.bg g).xsto := by
  refine foldN_keeps (fun d : Core => (d.bg g).xsto = (c.bg g).xsto) Core.xb2Group _ _ rfl fun d n hd => Eq.trans ?_ hd
  by_cases hn : n = g
  · subst hn
    rw [Core.xb2Group, Core.bg_setBg]
    dsimp only
    rw [Core.bg_setBg]
  · rw [Core.bg_xb2Group_ne d hn]
theorem Core.reg_xb2 (c : Core) (r : Reg) (i : Nat) : c.xb2.reg r i = c.reg r i := by
  obtain ⟨_, h⟩ := c.xb2_frame
  rw [h]; rfl

/-- After an STO with XSTO the group is in STO with the cause and XSTO, and every latch is as it was. -/
theorem Core.stoWithX_spec (c : Core) (g : Nat) {cause : Nat} (hc : cause < 16) :
    (c.stoWithX g cause).inSto g = true ∧ (c.stoWithX g cause).get F.SF_GRP_CAUSE g = cause ∧ ((c.stoWithX g cause).bg g).xsto = true ∧ ∀ m, (c.stoWithX g cause).latches m = c.latches m := by
  obtain ⟨inSto, hcause, frame⟩ := (c.assertXsto g).enterSto_spec g cause false
  refine ⟨?_, ?_, ?_, fun m => ?_⟩
  · exact (congrArg (· == 2) (Core.get_of_reg (f := F.SF_GRP_STATE) (Core.reg_xb2 ..))).trans inSto
  · exact (Core.get_of_reg (f := F.SF_GRP_CAUSE) (Core.reg_xb2 ..)).trans (hcause.trans (Nat.mod_eq_of_lt hc))
  · exact (Core.xsto_xb2 ..).trans (frame.xsto.trans (by rw [Core.assertXsto, Core.bg_setBg]))
  · exact (Core.latches_xb2 ..).trans ((Core.latches_enterSto ..).trans (Core.latches_assertXsto ..))

/-! ### The XB-2's link and supply (R15, R358) -/

/-- The STO that a lost link asks of a group. -/
def Core.linkSto (c : Core) (g : Nat) : Core := ((c.assertXsto g).latch g 12).enterSto g 12 false
/-- A group is in STO with cause 12, latched, and with XSTO. -/
structure Core.LinkStopped (c : Core) (g : Nat) : Prop where
  inSto : c.inSto g = true
  cause : c.get F.SF_GRP_CAUSE g = 12
  latched : (c.latches g).testBit 12 = true
  xsto : (c.bg g).xsto = true

theorem Core.linkStopped_linkSto (c : Core) (g : Nat) : (c.linkSto g).LinkStopped g := by
  obtain ⟨inSto, cause, frame⟩ := ((c.assertXsto g).latch g 12).enterSto_spec g 12 false
  have latch := (c.assertXsto g).latch_frame g 12
  refine ⟨inSto, cause, ?_, frame.xsto.trans ?_⟩
  · rw [Core.linkSto, Core.latches_enterSto]
    exact latch.latched
  · rw [latch.group, Core.assertXsto, Core.bg_setBg]
theorem Core.LinkStopped.linkSto {c : Core} {g : Nat} (h : c.LinkStopped g) (n : Nat) : (c.linkSto n).LinkStopped g := by
  by_cases hn : g = n
  · exact hn ▸ c.linkStopped_linkSto n
  · obtain ⟨-, -, frame⟩ := ((c.assertXsto n).latch n 12).enterSto_spec n 12 false
    have latch := (c.assertXsto n).latch_frame n 12
    have reg : (c.linkSto n).reg R.SF_GRP g = c.reg R.SF_GRP g := (frame.others g hn).2.trans (latch.states g)
    refine ⟨(congrArg (· == 2) (Core.get_of_reg (f := F.SF_GRP_STATE) reg)).trans h.inSto, (Core.get_of_reg (f := F.SF_GRP_CAUSE) reg).trans h.cause, ?_, ?_⟩
    · rw [Core.linkSto, Core.latches_enterSto, (latch.others g hn).2, Core.latches_assertXsto]
      exact h.latched
    · rw [Core.linkSto, (frame.others g hn).1, (latch.others g hn).1, Core.assertXsto, Core.bg_setBg_ne _ _ (Ne.symm hn)]
      exact h.xsto
/-- A lost link takes every group to STO (R358). -/
theorem Core.linkStopped_all (c : Core) {g : Nat} (hg : g < 16) : (foldN (List.range 16) c Core.linkSto).LinkStopped g :=
  foldN_establishes (fun _ => True) (fun g d => d.LinkStopped g) _ (fun _ _ _ => trivial) _ (fun d n _ _ => d.linkStopped_linkSto n) (fun _ _ n _ h => h.linkSto n) c trivial g (List.mem_range.2 hg)

/-- The XB-2 drives the second brake path of an even group with its GEN_B, and of no other (R339). -/
theorem Core.path2_xb2 (c : Core) {g : Nat} (hg : g < 16) : (c.xb2.bg g).path2 = ((c.xb2.bg g).genB && g % 2 == 0) := by
  have own (d : Core) (n : Nat) : ((d.xb2Group n).bg n).path2 = (((d.xb2Group n).bg n).genB && n % 2 == 0) := by rw [Core.xb2Group, Core.bg_setBg]
  refine foldN_establishes (fun _ => True) (fun g (d : Core) => (d.bg g).path2 = ((d.bg g).genB && g % 2 == 0)) Core.xb2Group (fun _ _ _ => trivial) _ (fun d n _ _ => own d n) (fun d m n _ hm => ?_) c trivial g (List.mem_range.2 hg)
  by_cases hn : n = m
  · exact hn ▸ own d n
  · rw [Core.bg_xb2Group_ne d hn]
    exact hm

/-! ### Watch lines (R352) -/

theorem execWatchLineTrip_silent {s : State} {g : Nat} (hg : g < 16) (h : s.core.bridle.supplied = false ∨ sealCode s.core.bridle.xRef g = 0) : execWatchLineTrip s g = .next s := by
  refine (inRange_of_lt _ _ hg).trans (next_core_congr (d := s.core) (if_pos ?_))
  rcases h with h | h <;> simp [h]
theorem execWatchLineTrip_trips {s : State} {g : Nat} (hg : g < 16) (supplied : s.core.bridle.supplied = true) (watched : sealCode s.core.bridle.xRef g ≠ 0) :
    execWatchLineTrip s g = .next { s with core := s.core.watchTrip g } :=
  (inRange_of_lt _ _ hg).trans (next_core_congr (if_neg (by simp [supplied, watched])))

/-! ### The XB-2's status (R338, R348, R352) -/

/-- Bridle-P takes a report of the XB-2: its seal values, and the trips that are new to it. -/
def Core.takesStatus (c : Core) (st : Xb2Status) : Core :=
  let c := { c with bridle := { c.bridle with linkSeen := true, xSeal := st.sealLive, xRef := st.sealRef, refStored := true, xSealLatch := c.bridle.xSealLatch || st.sealLatch } }
  let c := foldN (bitsOf 16 st.htrip.toNat) c (fun c g => if (c.bg g).htrip then c else c.watchTrip g)
  { c with bridle := { c.bridle with agreed := c.bridle.agreed || (c.pat.valid && c.sealAgrees) } }
theorem execXb2Status_supplied {s : State} (supplied : s.core.bridle.supplied = true) (st : Xb2Status) :
    execXb2Status s st = .next { s with core := if (s.core.takesStatus st).sealAgrees && !st.sealLatch then (s.core.takesStatus st).xb2 else (s.core.takesStatus st).sealFault } :=
  next_core_congr (if_neg (by rw [supplied]; decide))
theorem execXb2Status_unsupplied {s : State} (unsupplied : s.core.bridle.supplied = false) (st : Xb2Status) : execXb2Status s st = .next s :=
  next_core_congr (d := s.core) (if_pos (by rw [unsupplied]; rfl))

/-- Settles O47: each command is its definition in the case given; SEAL is latched by `Core.sealFault`, and a lost link stops group by group (`Core.linkSto`). -/
theorem bridleFaults : Obligations.BridleFaults := by
  unfold Obligations.BridleFaults
  intro s live r g st hg x sealed d lost trip off
  have faults (c : Core) : c.sealFault = sealed c := c.sealFault_eq
  have latched := Core.sealFault_latched d
  rw [faults] at latched
  have dark : (off.bg g).genB = false := Core.genB_xb2 rfl hg
  refine ⟨fun runs => (execSealFault_runs runs live).trans (next_core_congr (faults d)), fun gated => execSealFault_gated gated live, latched.1, latched.2, rfl, fun g hg => ?_, rfl, fun c => ?_,
    fun supplied watched => execWatchLineTrip_trips hg supplied watched, fun unwatched => execWatchLineTrip_silent hg (.inr unwatched), fun unpowered => execWatchLineTrip_silent hg (.inl unpowered),
    rfl, dark, ?_, rfl, fun unpowered => execXb2Status_unsupplied unpowered st, fun supplied => (execXb2Status_supplied supplied st).trans (next_core_congr (congrArg (ite _ _) (faults _)))⟩
  · obtain ⟨inSto, cause, latch, xsto⟩ := Core.linkStopped_all { s.core with bridle := { x with linkLost := true } } hg
    exact ⟨inSto, cause, latch, xsto⟩
  · obtain ⟨inSto, -, -, latches⟩ := (c.latch g 11).stoWithX_spec g (cause := 11) (by decide)
    exact ⟨inSto, (latches g) ▸ (c.latch_frame g 11).latched⟩
  · exact (Core.path2_xb2 _ hg).trans (by rw [dark, Bool.false_and])

end Sys2Proof.Machine
end

section
/-! SUPPORT. What the operations of motion and of Bridle leave of the role, of the last takeover's kind and of the claims. -/
namespace Sys2Proof.Machine

/-! ### Fields kept -/

/-- Some fields, the pattern, and of Bridle all but the state of the lane groups, are as they were. -/
structure Keeps (l : List Fld) (c d : Core) : Prop where
  flds : ∀ g ∈ l, ∀ j, d.get g j = c.get g j
  bridle : c.BridleFrame d
  pat : d.pat = c.pat

namespace Keeps

variable {l : List Fld} {c d e : Core}

theorem refl (c : Core) : Keeps l c c := ⟨fun _ _ _ => rfl, rfl, rfl⟩
theorem trans (h : Keeps l c d) (k : Keeps l d e) : Keeps l c e :=
  ⟨fun g hg j => (k.flds g hg j).trans (h.flds g hg j), h.bridle.trans k.bridle, k.pat.trans h.pat⟩
theorem fold {f : Core → Nat → Core} (h : Keeps l c d) (ns : List Nat) (hf : ∀ (b : Core) (n : Nat), Keeps l b (f b n)) : Keeps l c (foldN ns d f) :=
  foldN_keeps (fun b => Keeps l c b) f ns d h fun b n hb => hb.trans (hf b n)
/-- Other parts than registers, Bridle and the pattern changed. -/
theorem of_eq (h : Keeps l c d) (regs : e.regs = d.regs) (bridle : e.bridle = d.bridle) (pat : e.pat = d.pat) : Keeps l c e := by
  refine h.trans ⟨fun g _ j => ?_, ?_, pat⟩
  · rw [Core.get, Core.get, Core.reg, Core.reg, regs]
  · rw [Core.BridleFrame, bridle]
theorem setBg (h : Keeps l c d) (g : Nat) (v : BGroup) : Keeps l c (d.setBg g v) := h.trans ⟨fun _ _ _ => rfl, rfl, rfl⟩
theorem setProf (h : Keeps l c d) (k : Nat) (v : Profile) : Keeps l c (d.setProf k v) := h.of_eq rfl rfl rfl
theorem setIg (h : Keeps l c d) (k : Nat) (v : IgPath) : Keeps l c (d.setIg k v) := h.of_eq rfl rfl rfl
theorem setLoop (h : Keeps l c d) (k : Nat) (v : Loop) : Keeps l c (d.setLoop k v) := h.of_eq rfl rfl rfl
theorem setSnap (h : Keeps l c d) (k : Nat) (v : Snap) : Keeps l c (d.setSnap k v) := h.of_eq rfl rfl rfl
theorem setEst (h : Keeps l c d) (k : Nat) (v : Estim) : Keeps l c (d.setEst k v) := h.of_eq rfl rfl rfl
theorem withTwin (h : Keeps l c d) (t : Twin) : Keeps l c { d with twin := t } := h.of_eq rfl rfl rfl
theorem sendLevel (h : Keeps l c d) (a b n v : Nat) : Keeps l c (d.sendLevel a b n v) := h.of_eq (Core.sendLevel_regs ..) (Core.sendLevel_bridle ..) (Core.sendLevel_pat ..)
theorem xb2 (h : Keeps l c d) : Keeps l c d.xb2 := by
  obtain ⟨_, frame⟩ := d.xb2_frame
  rw [frame]
  exact h.trans ⟨fun _ _ _ => rfl, rfl, rfl⟩
theorem set (h : Keeps l c d) (f : Fld) (i v : Nat) (apart : l.all (f.apart ·) = true) : Keeps l c (d.set f i v) :=
  h.trans ⟨fun g hg j => Core.get_set_of_apart (List.all_eq_true.1 apart g hg) d i j v, rfl, rfl⟩
theorem setBit (h : Keeps l c d) (f : Fld) (i : Nat) (b : Bool) (apart : l.all (f.apart ·) = true) : Keeps l c (d.setBit f i b) := h.set f i _ apart
theorem addSat (h : Keeps l c d) (f : Fld) (i n : Nat) (apart : l.all (f.apart ·) = true) : Keeps l c (d.addSat f i n) := h.set f i _ apart
theorem setReg (h : Keeps l c d) (r : Reg) (i : Nat) (w : Word) (hr : r.id < 512) (other : l.all (fun g => decide (g.reg.id < 512) && decide (r.id ≠ g.reg.id)) = true) : Keeps l c (d.setReg r i w) := by
  refine h.trans ⟨fun g hg j => ?_, rfl, rfl⟩
  have apart := List.all_eq_true.1 other g hg
  simp only [Bool.and_eq_true, decide_eq_true_eq] at apart
  exact Core.get_of_reg (Core.reg_setReg_of_id d w hr apart.1 apart.2)

theorem clearLoop (h : Keeps l c d) (k : Nat) (current : l.all (fun g => decide (g.reg.id < 512) && decide (R.AX_ICMD.id ≠ g.reg.id)) = true) (inPos : l.all (F.AX_LSTAT_INPOS.apart ·) = true) : Keeps l c (d.clearLoop k) :=
  (((h.setLoop _ _).setSnap _ _).setReg R.AX_ICMD k 0 (by decide) current).setBit F.AX_LSTAT_INPOS k false inPos
theorem canTakeover (h : Keeps l c d) (apart : l.all (F.CN_STAT_STATE.apart ·) = true) : Keeps l c d.canTakeover := by
  refine h.fold _ fun b ch => ?_
  split
  · exact refl b
  · exact (refl b).set F.CN_STAT_STATE ch 5 apart

end Keeps

/-- The fields that judging READY can set itself (R372, R447). -/
def judgeFlds : List Fld := [F.TW_NOTREADY_CAUSES, F.TW_ROLE_READY, F.MG_IMG_STAT_TRIAL, F.MG_HEALTH_IMG_TRIAL, F.MG_IMG_STAT_BOOT, F.MG_IMG_LINK_STATE]
/-- Neither logging nor judging READY sets a field of a list. -/
structure Steady (l : List Fld) : Prop where
  logs : logFlds.all (fun f => l.all (f.apart ·)) = true
  judges : judgeFlds.all (fun f => l.all (f.apart ·)) = true
  floor : l.all (fun g => decide (g.reg.id < 512) && decide (R.MG_IMG_FLOOR.id ≠ g.reg.id)) = true

namespace Keeps

variable {l : List Fld} {c d : Core}

theorem log (h : Keeps l c d) (q : Steady l) (o n s a : Nat) : Keeps l c (d.logFrom o n s a) := by
  have apart (g : Fld) (hg : g ∈ l) : logFlds.all (·.apart g) = true := List.all_eq_true.2 fun f hf => List.all_eq_true.1 (List.all_eq_true.1 q.logs f hf) g hg
  have logs := Core.logFrom_frame d o n s a
  refine h.trans ⟨fun g hg j => Core.get_logFrom (apart g hg) d o n s a j, logs.bridle, ?_⟩
  obtain ⟨⟨_, _, _, _, frame⟩, -⟩ := logs
  rw [frame]
theorem imgConfirm (h : Keeps l c d) (q : Steady l) : Keeps l c d.imgConfirm := by
  have apart (f : Fld) (hf : f ∈ judgeFlds) : l.all (f.apart ·) = true := List.all_eq_true.1 q.judges f hf
  unfold Core.imgConfirm
  split
  · exact h
  · exact ((((((h.of_eq (e := { d with sad := { d.sad with imgTrial := false } }) rfl rfl rfl).setBit F.MG_IMG_STAT_TRIAL 0 false (apart _ (by decide))).setBit F.MG_HEALTH_IMG_TRIAL 0 false (apart _ (by decide))).set
      F.MG_IMG_STAT_BOOT 0 _ (apart _ (by decide))).set F.MG_IMG_LINK_STATE _ 2 (apart _ (by decide))).setReg R.MG_IMG_FLOOR 0 _ (by decide) q.floor).log q _ _ _ _
theorem judge (h : Keeps l c d) (q : Steady l) : Keeps l c d.judge := by
  have apart (f : Fld) (hf : f ∈ judgeFlds) : l.all (f.apart ·) = true := List.all_eq_true.1 q.judges f hf
  have causes := h.set F.TW_NOTREADY_CAUSES 0 d.notReady (apart _ (by decide))
  unfold Core.judge
  dsimp only
  split
  · exact causes
  · have shown (b : Bool) := (causes.setBit F.TW_ROLE_READY 0 b (apart _ (by decide))).log q
    split
    · exact (shown _ _ _ _ _).imgConfirm q
    · exact shown _ _ _ _ _

end Keeps

/-! ### The role, and the kind of the last takeover -/

/-- TW_ROLE.ROLE and TW_LAST.KIND. -/
def roleFlds : List Fld := [F.TW_ROLE_ROLE, F.TW_LAST_KIND]
theorem roleFlds_steady : Steady roleFlds := by constructor <;> decide

/-- The role, the last takeover's kind, the claims and the pattern are as they were. -/
abbrev KeepsRole (c d : Core) : Prop := Keeps roleFlds c d

namespace Keeps

variable {c d : Core}

theorem logs (h : KeepsRole c d) (o n s a : Nat) : KeepsRole c (d.logFrom o n s a) := h.log roleFlds_steady o n s a
theorem raiseP (h : KeepsRole c d) (f : Fld) (k arg : Nat) (apart : roleFlds.all (f.apart ·) = true) : KeepsRole c (d.raiseP f k arg) := by
  unfold Core.raiseP
  split
  · exact h
  · exact (h.setBit f k true apart).logs _ _ _ _
theorem publishState (h : KeepsRole c d) (k : Nat) (t : Int) : KeepsRole c (d.publishState k t) :=
  ((((h.set F.AX_PSTAT_STATE k _ (by decide)).setBit F.AX_PSTAT_REVERSING k _ (by decide)).setBit F.AX_PSTAT_VCLAMP k _ (by decide)).setBit F.GR_STAT_ENGAGED k _ (by decide)).setBit F.GR_STAT_RAMPING k _ (by decide)
theorem breakPath (h : KeepsRole c d) (k : Nat) (t : Int) : KeepsRole c (d.breakPath k t) := by
  unfold Core.breakPath
  split
  · exact h
  · dsimp only
    split
    · exact (h.setProf _ _).setIg _ _
    · exact (((h.setProf _ _).setIg _ _).setBit F.IG_STAT_BROKEN _ true (by decide)).logs _ _ _ _
theorem stopPath (h : KeepsRole c d) (g : Nat) (t : Int) : KeepsRole c (d.stopPath g t) := by
  unfold Core.stopPath
  dsimp only
  split
  · exact h.setIg _ _
  · exact h
theorem stopSlot (h : KeepsRole c d) (k : Nat) (t : Int) (ss1 : Bool) : KeepsRole c (d.stopSlot k t ss1) := by
  unfold Core.stopSlot
  dsimp only
  split
  · exact (h.raiseP F.AX_PSTAT_PARAM_REFUSED k 10 (by decide)).setProf _ _
  · exact h.setProf _ _
theorem ungear (h : KeepsRole c d) (k : Nat) (t : Int) (b : Bool) : KeepsRole c (d.ungear k t b) := by
  unfold Core.ungear
  dsimp only
  split
  · exact h.setProf _ _
  · exact h.stopSlot _ _ _
theorem loseMaster (h : KeepsRole c d) (kind m : Nat) : KeepsRole c (d.loseMaster kind m) :=
  h.fold _ fun b k => ((Keeps.refl b).raiseP F.AX_PSTAT_MASTER_LOST k 12 (by decide)).ungear _ _ _
theorem trackSlot (h : KeepsRole c d) (k : Nat) : KeepsRole c (d.trackSlot k) := ((h.breakPath k d.profNs).setProf k _).setProf k _
theorem stoSlot (h : KeepsRole c d) (k : Nat) : KeepsRole c (d.stoSlot k) := by
  have cleared := ((h.trackSlot k).clearLoop k (by decide) (by decide)).setEst k { ((d.trackSlot k).clearLoop k).estAt k with hallRef := none }
  unfold Core.stoSlot
  dsimp only
  split
  · exact cleared.publishState _ _
  · exact ((cleared.setEst _ _).set F.AX_SL_STAT_STATE k 0 (by decide)).publishState _ _
theorem hostStop (h : KeepsRole c d) (k : Nat) : KeepsRole c (d.hostStop k) := by
  have dropped := h.setProf k { d.profAt k with pendTarget := none, pendCmd := none, pendStop := false }
  unfold Core.hostStop
  dsimp only
  split
  · exact dropped
  · split
    · exact dropped.stopPath _ _
    · split
      · exact dropped
      · exact (dropped.stopSlot _ _ _).publishState _ _
theorem cancelRelease (h : KeepsRole c d) (g : Nat) : KeepsRole c (d.cancelRelease g) := by
  unfold Core.cancelRelease
  dsimp only
  split
  · split
    · exact (h.setBg _ _).set F.LG_REL_RESULT_RESULT 0 4 (by decide)
    · exact h.setBg _ _
  · exact h
theorem requestSs1 (h : KeepsRole c d) (g cause : Nat) : KeepsRole c (d.requestSs1 g cause) := by
  unfold Core.requestSs1
  split
  · split
    · exact h.setBg _ _
    · exact h
  · exact (h.cancelRelease g).set F.SF_GRP_CAUSE g cause (by decide)
theorem setGrp (h : KeepsRole c d) (g v : Nat) : KeepsRole c (d.setGrp g v) := (h.set F.SF_GRP_STATE g v (by decide)).sendLevel _ _ _ _
theorem enterSto (h : KeepsRole c d) (g cause : Nat) (e : Bool) : KeepsRole c (d.enterSto g cause e) := by
  unfold Core.enterSto
  split
  · exact (h.cancelRelease g).set F.SF_GRP_CAUSE g cause (by decide)
  · have shown := ((((h.setBg g { d.bg g with genA := false, path1 := false, ss1Pend := 0, brakeLead := false, relCheck := false, relPend := false, brakePend := false, still := 0 }).setGrp g 2).set
      F.SF_GRP_CAUSE g cause (by decide)).addSat F.SF_CNT_STO 0 1 (by decide)).logs 0x27 0x0000 g cause
    refine fold ?_ _ fun b k => (Keeps.refl b).stoSlot k
    split
    · exact shown
    · exact shown.fold _ fun b k => (Keeps.refl b).loseMaster 1 k

end Keeps

end Sys2Proof.Machine
end

section
/-! SUPPORT. Becoming Lead, the takeovers, and the statement about claims, handover and takeover. -/
namespace Sys2Proof.Machine

/-! ### What a new Lead starts (R238, R313, R371, R376) -/

namespace Keeps

variable {l : List Fld} {c d : Core}

theorem emit (h : Keeps l c d) (e : Emission) : Keeps l c (d.emit e) := h.of_eq rfl rfl rfl
theorem setRep (h : Keeps l c d) (q : Nat) (v : Repeat) : Keeps l c (d.setRep q v) := h.of_eq rfl rfl rfl
theorem setPort (h : Keeps l c d) (q : Nat) (v : Port) : Keeps l c (d.setPort q v) := h.of_eq rfl rfl rfl
theorem emitAll (h : Keeps l c d) {α : Type} (es : List α) (f : α → Emission) : Keeps l c (es.foldl (fun b e => b.emit (f e)) d) := by
  induction es generalizing d with
  | nil => exact h
  | cons e es ih => exact ih (h.emit (f e))
theorem emitSteps (h : Keeps l c d) (q : Nat) (start n : Int) : Keeps l c (d.emitSteps q start n) := by
  unfold Core.emitSteps
  split
  · exact h
  · dsimp only
    split
    · exact h.emit _
    · exact (h.emit _).fold _ fun b _ => (refl b).emit _
theorem driveRepeats (h : Keeps l c d) : Keeps l c d.driveRepeats := by
  refine h.fold _ fun b q => ?_
  have reset := (refl (l := l) b).setRep q { b.repAt q with gap := [], owed := 0 }
  dsimp only
  split
  · exact (reset.emit _).emitSteps _ _ _
  · split
    · exact reset
    · exact reset.emitAll _ _
theorem exciteStart (h : Keeps l c d) (p : Nat) : Keeps l c (d.exciteStart p) := by
  unfold Core.exciteStart
  dsimp only
  split
  · exact h
  · exact (h.setPort _ _).emit _
theorem canTiming (h : KeepsRole c d) (ch : Nat) : KeepsRole c (d.canTiming ch) := by
  have timed : KeepsRole c (d.setCanCh ch { d.canChAt ch with nsp := d.get F.CN_CFG_NSP ch, dsp := d.get F.CN_CFG_DSP ch, comp := d.get F.CN_CFG_COMP ch }) := h.of_eq rfl rfl rfl
  exact (timed.setReg R.CN_BT_NOM ch _ (by decide) (by decide)).setReg R.CN_BT_DATA ch _ (by decide) (by decide)
theorem canGo (h : KeepsRole c d) : KeepsRole c d.canGo := by
  refine h.fold _ fun b ch => ?_
  have cleared : KeepsRole b (b.setCanCh ch { b.canChAt ch with recovering := false }) := (refl b).of_eq rfl rfl rfl
  unfold Core.canRestartCh
  split
  · split
    · exact refl b
    · exact (cleared.canTiming ch).set F.CN_STAT_STATE ch 5 (by decide)
  · exact refl b
theorem hostLost (h : KeepsRole c d) : KeepsRole c d.hostLost := by
  unfold Core.hostLost
  split
  · exact h
  · exact h.fold _ fun b k => (refl b).hostStop k
  · exact h.fold _ fun b g => (refl b).requestSs1 g 3

end Keeps

/-! ### Claims of a Lead (R373) -/

/-- A Lead that claims the groups of a mask. -/
structure Core.Leads (c : Core) (groups : Nat) : Prop where
  role : c.isLead = true
  own : c.bridle.own = BitVec.ofNat 16 groups

theorem Core.Leads.keeps {l : List Fld} {c d : Core} {groups : Nat} (h : c.Leads groups) (k : Keeps l c d) (hl : F.TW_ROLE_ROLE ∈ l) : d.Leads groups :=
  ⟨(congrArg (· == 1) (k.flds _ hl 0)).trans h.role, (congrArg Bridle.own k.bridle).trans h.own⟩
theorem Core.Leads.role_kept {c d : Core} {groups : Nat} (h : c.Leads groups) (k : KeepsRole c d) : d.Leads groups := h.keeps k (by decide)
/-- Claiming keeps the role and takes the groups of the pattern. -/
theorem Core.leads_claim {c : Core} (lead : c.isLead = true) : c.claim.Leads c.pat.groupMask := by
  let claimed : Core := { c.suppressPorts with bridle := { c.bridle with own := BitVec.ofNat 16 c.pat.groupMask, ownT := if c.bridle.own = 0 then c.profNs else c.bridle.ownT } }
  have base : claimed.Leads c.pat.groupMask := ⟨lead, rfl⟩
  exact base.role_kept (((Keeps.refl claimed).sendLevel 0x25 0x27 lineClaim c.pat.groupMask).xb2)
theorem Keeps.ownT {l : List Fld} {c d : Core} (h : Keeps l c d) : d.bridle.ownT = c.bridle.ownT := (congrArg Bridle.ownT h.bridle :)
theorem Keeps.pownT {l : List Fld} {c d : Core} (h : Keeps l c d) : d.bridle.pownT = c.bridle.pownT := (congrArg Bridle.pownT h.bridle :)
/-- A new Lead claims the groups of its pattern (R363, R376). -/
theorem Core.leads_becomeLead (c : Core) : c.becomeLead.Leads c.pat.groupMask := by
  let fresh : Core := { c with twin := { c.twin with won := false, lossPend := false, coldPend := false } }
  let shown : Core := (fresh.set F.TW_ROLE_ROLE 0 1).setBit F.TW_ROLE_READY 0 false
  have lead : shown.isLead = true := by
    have apart := Core.get_set_apart (fresh.set F.TW_ROLE_ROLE 0 1) F.TW_ROLE_READY F.TW_ROLE_ROLE 0 0 rfl (by decide) (by decide)
    exact congrArg (· == 1) (apart.trans (Core.get_set fresh F.TW_ROLE_ROLE 0 1 (by decide)))
  have go : KeepsRole shown shown.canGo := (Keeps.refl shown).canGo
  have claims : shown.canGo.claim.Leads c.pat.groupMask := by
    have pat : shown.canGo.pat.groupMask = c.pat.groupMask := congrArg Pattern.groupMask go.pat
    exact pat ▸ Core.leads_claim ((congrArg (· == 1) (go.flds F.TW_ROLE_ROLE (by decide) 0)).trans lead)
  have driven := ((Keeps.refl (l := roleFlds) shown.canGo.claim).judge roleFlds_steady).driveRepeats
  have excited := driven.fold (List.range 56) (f := fun c p => if (c.portAt p).excZero.isSome then c.exciteStart p else c) fun b p => by
    split
    · exact (Keeps.refl b).exciteStart p
    · exact Keeps.refl b
  refine claims.role_kept ?_
  unfold Core.becomeLead
  dsimp only
  split
  · exact excited.hostLost
  · exact excited

/-! ### Takeovers (R376, R377) -/

/-- A module becomes Lead by a takeover: it is counted and its kind shown. -/
def Core.leadsBy (c : Core) (kind : Nat) : Core := (c.becomeLead.addSat F.TW_CNT_TAKEOVERS 0 1).set F.TW_LAST_KIND 0 kind
theorem Core.leads_leadsBy (c : Core) (kind : Nat) : (c.leadsBy kind).Leads c.pat.groupMask :=
  c.leads_becomeLead.keeps (((Keeps.refl (l := [F.TW_ROLE_ROLE]) c.becomeLead).addSat F.TW_CNT_TAKEOVERS 0 1 (by decide)).set F.TW_LAST_KIND 0 kind (by decide)) (by decide)
theorem Core.kind_leadsBy (c : Core) {kind : Nat} (hk : kind < 8) : (c.leadsBy kind).get F.TW_LAST_KIND 0 = kind :=
  (Core.get_set _ F.TW_LAST_KIND 0 kind (by decide)).trans (Nat.mod_eq_of_lt (Nat.lt_trans hk (by decide)))
/-- What a READY Standby adds to it keeps the role, the claims and the kind (R376). -/
theorem Core.takeOver_keeps (c : Core) (kind : Nat) : KeepsRole (c.leadsBy kind) (c.takeOver kind) := by
  have begun := (Keeps.refl (l := roleFlds) (c.leadsBy kind)).withTwin { (c.leadsBy kind).twin with takeover := true, takeoverAt := (c.leadsBy kind).profNs, driven := false }
  unfold Core.takeOver
  refine (Keeps.canTakeover (Keeps.fold (Keeps.fold begun _ fun b k => ?_) _ fun b g => ?_) (by decide)).xb2
  · have warm : KeepsRole b (if c.isHot then b else b.warmSlot k) := by
      unfold Core.warmSlot
      split
      · exact Keeps.refl b
      · dsimp only
        split
        · exact (Keeps.refl b).setLoop _ _
        · exact Keeps.refl b
    have estimating (d : Core) (hd : KeepsRole b d) : KeepsRole b (if d.starting k then d.setEst k { d.estAt k with cfg := d.reg R.AX_SL_CFG k, frame := 0, restart := false, again := true, probe := [], pulses := [] } else d) := by
      split
      · exact hd.setEst _ _
      · exact hd
    exact estimating _ warm
  · dsimp only
    split
    · exact (Keeps.refl b).setBg _ _
    · exact Keeps.refl b

/-! ### The cold takeover (R377) -/

/-- A group is in STO with cause STARTUP. -/
structure Core.StoppedCold (c : Core) (g : Nat) : Prop where
  inSto : c.inSto g = true
  cause : c.get F.SF_GRP_CAUSE g = 0
/-- STATE and CAUSE of the lane groups. -/
def stoFlds : List Fld := [F.SF_GRP_STATE, F.SF_GRP_CAUSE]
theorem Core.StoppedCold.keeps {c d : Core} {g : Nat} (h : c.StoppedCold g) (k : Keeps stoFlds c d) : d.StoppedCold g :=
  ⟨(congrArg (· == 2) (k.flds F.SF_GRP_STATE (by decide) g)).trans h.inSto, (k.flds F.SF_GRP_CAUSE (by decide) g).trans h.cause⟩
/-- A cold takeover stops a group. -/
def Core.stopCold (c : Core) (g : Nat) : Core := (c.enterSto g 0 false).set F.SF_GRP_CAUSE g 0
theorem Core.stoppedCold_stopCold (c : Core) (g : Nat) : (c.stopCold g).StoppedCold g := by
  obtain ⟨inSto, -, -⟩ := c.enterSto_spec g 0 false
  exact ⟨(congrArg (· == 2) (Core.get_set_apart _ F.SF_GRP_CAUSE F.SF_GRP_STATE g 0 rfl (by decide) (by decide))).trans inSto, Core.get_set _ F.SF_GRP_CAUSE g 0 (by decide)⟩
theorem Core.StoppedCold.stopCold {c : Core} {g : Nat} (h : c.StoppedCold g) (n : Nat) : (c.stopCold n).StoppedCold g := by
  by_cases hn : g = n
  · exact hn ▸ c.stoppedCold_stopCold g
  · obtain ⟨-, -, frame⟩ := c.enterSto_spec n 0 false
    have reg : (c.stopCold n).reg R.SF_GRP g = c.reg R.SF_GRP g := (Core.reg_setReg_of_inst _ _ (by decide) (Ne.symm hn)).trans (frame.others g hn).2
    exact ⟨(congrArg (· == 2) (Core.get_of_reg (f := F.SF_GRP_STATE) reg)).trans h.inSto, (Core.get_of_reg (f := F.SF_GRP_CAUSE) reg).trans h.cause⟩
theorem Core.stoppedCold_all (c : Core) {g : Nat} (hg : g < 16) : (foldN (List.range 16) c Core.stopCold).StoppedCold g :=
  foldN_establishes (fun _ => True) (fun g (d : Core) => d.StoppedCold g) _ (fun _ _ _ => trivial) _ (fun d n _ _ => d.stoppedCold_stopCold n) (fun _ _ n _ h => h.stopCold n) c trivial g (List.mem_range.2 hg)
theorem stoFlds_steady : Steady stoFlds := by constructor <;> decide
/-- What a cold takeover does once the groups are stopped. -/
def Core.coldRest (c : Core) : Core := ((foldN c.usedSlots c (fun c k => c.clearLoop k)).canTakeover.logFrom 0x23 0x0101 noSrc 4).xb2
theorem Core.coldRest_keeps {l : List Fld} (q : Steady l) (current : l.all (fun g => Decidable.decide (g.reg.id < 512) && Decidable.decide (R.AX_ICMD.id ≠ g.reg.id)) = true) (inPos : l.all (F.AX_LSTAT_INPOS.apart ·) = true)
    (can : l.all (F.CN_STAT_STATE.apart ·) = true) (c : Core) : Keeps l c c.coldRest :=
  ((((Keeps.refl c).fold c.usedSlots fun b k => (Keeps.refl b).clearLoop k current inPos).canTakeover can).log q 0x23 0x0101 noSrc 4).xb2
theorem Core.takeCold_eq {c : Core} (loaded : c.bit F.PT_BOOT_NO_PATTERN 0 = false) (valid : c.pat.valid = true) (saved : c.bit F.RST_STAT_INCARN_UNSAVED 0 = false) :
    c.takeCold = (foldN (List.range 16) (c.leadsBy 4) Core.stopCold).coldRest := if_neg (by simp [loaded, valid, saved])
theorem Core.stopCold_keeps (c : Core) (g : Nat) : KeepsRole c (c.stopCold g) := ((Keeps.refl c).enterSto g 0 false).set F.SF_GRP_CAUSE g 0 (by decide)
/-- A cold takeover keeps the role, the claims and the kind of its Lead. -/
theorem Core.coldSteps_keep (c : Core) : KeepsRole c (foldN (List.range 16) c Core.stopCold).coldRest :=
  ((Keeps.refl c).fold _ Core.stopCold_keeps).trans (Core.coldRest_keeps roleFlds_steady (by decide) (by decide) (by decide) _)
theorem Core.coldSteps_stop (c : Core) {g : Nat} (hg : g < 16) : (foldN (List.range 16) c Core.stopCold).coldRest.StoppedCold g :=
  (c.stoppedCold_all hg).keeps (Core.coldRest_keeps stoFlds_steady (by decide) (by decide) (by decide) _)

/-! ### The request of a handover (R375) -/

theorem twCtrl_handled : R.TW_CTRL.Handled (fun c _ _ _ act => if acts F.TW_CTRL_REQ act then c.handoverWrite else c) := by
  constructor
  case handler => rfl
  all_goals decide +kernel
theorem Core.request_handover {c : Core} {p : Path} (h : Writes c p ⟨R.TW_CTRL, 0⟩) (ram : Ram) :
    c.request ram p (⟨R.TW_CTRL, 0⟩ : Loc).addr (some (fieldWord F.TW_CTRL_REQ 1)) none = c.wrote ram p R.TW_CTRL 0 (fieldWord F.TW_CTRL_REQ 1) Core.handoverWrite := by
  have hstores : c.stores p R.TW_CTRL 0 = R.TW_CTRL.accMask FldDesc.stored := Core.stores_expert (h.expert (by decide)) (by decide)
  rw [Core.request_handled twCtrl_handled (by decide) (by simp [Core.unusedSlotReg, R.TW_CTRL]) h (.inl (by rw [hstores]; decide))]
  have hact : acts F.TW_CTRL_REQ (fieldWord F.TW_CTRL_REQ 1 &&& (c.stores p R.TW_CTRL 0 ||| R.TW_CTRL.actMask)) = true := by rw [hstores]; decide
  simp only [hact, if_true]

/-! ### A claim of both (R374) -/

/-- What a dual claim does to its group (R26, R374). -/
def Core.dualStop (c : Core) (g : Nat) : Core := ((c.logFrom 0x27 0x0004 g 15).stoWithX g 15).set F.SF_GRP_CAUSE g 15
theorem Core.dualStop_keeps (c : Core) (g : Nat) : KeepsRole c (c.dualStop g) :=
  ((((Keeps.refl c).logs 0x27 0x0004 g 15).setBg g { (c.logFrom 0x27 0x0004 g 15).bg g with xsto := true }).enterSto g 15 false).xb2.set F.SF_GRP_CAUSE g 15 (by decide)
theorem Core.claimedLater_dualStop (c : Core) (g : Nat) :
    (c.dualStop g).claimedLater g = (Decidable.decide (0 < c.bridle.ownT - Tab.get 0 c.bridle.pownT g) || (Decidable.decide ((c.bridle.ownT - Tab.get 0 c.bridle.pownT g).natAbs ≤ 5000) && Decidable.decide ((c.dualStop g).position = 1))) := by
  rw [Core.claimedLater, (c.dualStop_keeps g).ownT, (c.dualStop_keeps g).pownT]
theorem execDualClaim_both {s : State} {g ns : Nat} (hg : g < 16) (hns : ns ≤ 10000) (own : s.core.bridle.own.getLsbD g = true) (partner : s.core.bridle.pown.getLsbD g = true) :
    execDualClaim s g ns = .next { s with core := if (s.core.dualStop g).claimedLater g then (s.core.dualStop g).giveWay.gapFrom ns else s.core.dualStop g } :=
  (inRange_of_lt _ _ hg).trans ((inRange_of_lt _ _ (Nat.lt_succ_of_le hns)).trans (next_core_congr (if_neg (by simp [own, partner]))))
theorem execDualClaim_single {s : State} {g ns : Nat} (hg : g < 16) (hns : ns ≤ 10000) (single : s.core.bridle.own.getLsbD g = false ∨ s.core.bridle.pown.getLsbD g = false) :
    execDualClaim s g ns = .next s := by
  refine (inRange_of_lt _ _ hg).trans ((inRange_of_lt _ _ (Nat.lt_succ_of_le hns)).trans (next_core_congr (d := s.core) (if_pos ?_)))
  rcases single with h | h <;> simp [h]

/-! ### The partner's OWN lines (R26, R363, R375) -/

/-- A line of the partner falls. -/
def Core.pownFalls (c : Core) (g : Nat) : Core := { c with bridle := { c.bridle with pown := c.bridle.pown &&& ~~~(BitVec.ofNat 16 (2 ^ g)) } }
theorem Core.pown_xb2 (c : Core) : c.xb2.bridle.pown = c.bridle.pown := by
  obtain ⟨_, h⟩ := c.xb2_frame
  rw [h]
theorem Core.twin_xb2 (c : Core) : c.xb2.twin = c.twin := by
  obtain ⟨_, h⟩ := c.xb2_frame
  rw [h]

theorem execPownLineChange_falls {s : State} {g : Nat} (hg : g < 16) (still : (s.core.pownFalls g).bridle.pown ≠ 0) : execPownLineChange s g false = .next { s with core := (s.core.pownFalls g).xb2.judge } := by
  refine (inRange_of_lt _ _ hg).trans (next_core_congr (if_neg (fun h => still ?_)))
  simp only [Bool.not_false, Bool.true_and, decide_eq_true_eq] at h
  exact (s.core.pownFalls g).pown_xb2.symm.trans h
/-- What the last line's fall means to a module (R375). -/
def Core.lastFell (c : Core) : Core :=
  if c.twin.lossPend then c.leadGone true 1
  else if c.twin.coldPend && !c.trained then { c with twin := { c.twin with coldPend := false } }.leadGoneNow false 1
  else c
theorem execPownLineChange_last {s : State} {g : Nat} (hg : g < 16) (last : (s.core.pownFalls g).bridle.pown = 0) : execPownLineChange s g false = .next { s with core := (s.core.pownFalls g).xb2.lastFell } := by
  refine (inRange_of_lt _ _ hg).trans (next_core_congr (if_pos ?_))
  simp only [Bool.not_false, Bool.true_and, decide_eq_true_eq]
  exact (s.core.pownFalls g).pown_xb2.trans last
theorem execPownLineChange_rises {s : State} {g : Nat} (hg : g < 16) : execPownLineChange s g true = .next { s with core :=
    ({ s.core with bridle := { s.core.bridle with pown := s.core.bridle.pown ||| BitVec.ofNat 16 (2 ^ g), pownT := if s.core.bridle.pown.getLsbD g then s.core.bridle.pownT else Tab.set 0 s.core.bridle.pownT g s.core.profNs } } : Core).followLead.xb2.judge } := by
  refine (inRange_of_lt _ _ hg).trans (next_core_congr ?_)
  cases h : s.core.bridle.pown.getLsbD g <;> simp [h]

/-! ### The commands -/

/-- A Standby whose Lead is gone (R375, R377, R382). -/
theorem Core.leadGoneNow_eq (c : Core) (wasReady : Bool) (kind : Nat) : c.leadGoneNow wasReady kind =
    if c.isStandby = false then c
    else if wasReady then c.takeOver kind
    else if c.loading || c.get F.PT_STAT_PHASE 0 = 4 || c.get F.PT_STAT_PHASE 0 = 5 then { c with twin := { c.twin with coldPend := true } }
    else c.takeCold := by
  unfold Core.leadGoneNow
  simp only [Bool.not_eq_true']
theorem Core.handoverWrite_eq (c : Core) : c.handoverWrite =
    let refuse (n : Nat) : Core := (c.set F.TW_CTRL_RESULT 0 n).setBit F.TW_CTRL_REQ 0 false
    if c.isLead = false then refuse 1
    else if c.readyPartner = false then refuse 2
    else if c.twin.release.isSome || c.twin.takeover || c.loading || c.get F.PT_STAT_PHASE 0 = 5 then refuse 3
    else
      let tick := (c.netNs / 10000 + 1) * 10000 - c.time.stepSum
      ({ c with twin := { c.twin with release := some (c.releaseInstant (tick + 50000)), handoverSeen := false, copies := 4 } }.setBit F.TW_CTRL_REQ 0 true).set F.TW_CTRL_RESULT 0 0 := by
  unfold Core.handoverWrite
  simp only [Bool.not_eq_true']
theorem execHandoverRecord_acts {s : State} {h : HandoverRec} (standby : s.core.isStandby = true) (ready : s.core.bit F.TW_ROLE_READY 0 = true) (new : s.core.twin.handover ≠ some h.firstSeq) :
    execHandoverRecord s h = .next { s with core := { s.core with twin := { s.core.twin with handover := some h.firstSeq, release := some ((h.relSec.toNat : Int) * 1000000000 + h.relNs.toNat - s.core.time.stepSum) } } } :=
  next_core_congr (if_neg (by simp [standby, ready, new]))
theorem execHandoverRecord_ignores {s : State} {h : HandoverRec} (seen : s.core.isStandby = false ∨ s.core.bit F.TW_ROLE_READY 0 = false ∨ s.core.twin.handover = some h.firstSeq) : execHandoverRecord s h = .next s := by
  refine next_core_congr (d := s.core) (if_pos ?_)
  rcases seen with h | h | h <;> simp [h]
/-- The release instant of a module's own handover, or of its Lead's (R375, R378). -/
def Core.releases (c : Core) : Core :=
  if c.isLead then
    let d := ({ c with twin := { c.twin with release := none, handoverSeen := false, copies := 0 } } : Core).setBit F.TW_CTRL_REQ 0 false
    if c.twin.handoverSeen then ((d.set F.TW_CTRL_RESULT 0 0).becomeStandby.setBit F.TW_ROLE_PARTNER_READY 0 false).setLink 4 else d.set F.TW_CTRL_RESULT 0 2
  else if c.bit F.TW_ROLE_READY 0 then ((({ c with twin := { c.twin with release := none } } : Core).takeOver 3).setLink 4).sendImage
  else { c with twin := { c.twin with release := none } }
theorem execHandoverRelease_due {s : State} {i : Int} (due : s.core.twin.release = some i) : execHandoverRelease s = .next { s with core := s.core.releases } := next_core_congr (if_neg (by simp [due]))
theorem execHandoverRelease_none {s : State} (none : s.core.twin.release = none) : execHandoverRelease s = .next s := next_core_congr (d := s.core) (if_pos (by simp [none]))
theorem execTakeoverOwnTimeout_expires {s : State} (pending : s.core.twin.lossPend = true ∨ s.core.twin.coldPend = true) (claimed : s.core.bridle.pown ≠ 0) : execTakeoverOwnTimeout s =
    .next { s with core := ({ s.core.dropGaps with twin := { s.core.dropGaps.twin with lossPend := false, coldPend := false } }.logFrom 0x23 0x0104 noSrc s.core.dropGaps.bridle.pown.toNat).judge } :=
  next_core_congr (if_neg (by rcases pending with h | h <;> simpa [h] using claimed))
theorem Core.dropGaps_frame (c : Core) : ∃ r, c.dropGaps = { c with reps := r } :=
  foldN_keeps (fun d : Core => ∃ r, d = { c with reps := r }) _ _ _ ⟨_, rfl⟩ fun b q hb => by obtain ⟨r, rfl⟩ := hb; exact ⟨_, rfl⟩
/-- The end of a takeover is logged. -/
def Core.logsTakeover (c : Core) : Core := ({ c with twin := { c.twin with takeover := false, handover := none } } : Core).logFrom 0x23 0x0100 noSrc (c.get F.TW_LAST_KIND 0)
theorem Core.rst_logsTakeover (c : Core) : c.logsTakeover.rst = c.rst := by
  obtain ⟨⟨_, _, _, _, frame⟩, -⟩ := Core.logFrom_frame { c with twin := { c.twin with takeover := false, handover := none } } 0x23 0x0100 noSrc (c.get F.TW_LAST_KIND 0)
  rw [Core.logsTakeover, frame]
/-- A warm reset that waited begins (R412). -/
def Core.startsWarm (c : Core) (source : Nat) : Core := if source = 0 then c else { c with rst := { c.rst with warmPend := 0 } }.assertReset 1 source
theorem execTakeoverComplete_eq {s : State} (taking : s.core.twin.takeover = true) : execTakeoverComplete s = .next { s with core := s.core.logsTakeover.startsWarm s.core.rst.warmPend } :=
  (next_core_congr (d := s.core.logsTakeover.startsWarm s.core.logsTakeover.rst.warmPend) (if_neg (by simp [taking]))).trans (next_core_congr (congrArg _ (congrArg ResetSt.warmPend s.core.rst_logsTakeover)))
theorem execOwnRefresh_lead {s : State} (lead : s.core.isLead = true) (runs : s.core.runs 0x27 = true) (free : s.core.rst.held = false) : execOwnRefresh s = .next s :=
  next_core_congr (d := s.core) (if_pos (by simp [lead, runs, free]))
theorem execOwnRefresh_idle {s : State} (idle : s.core.isLead = false) (claims : s.core.bridle.own ≠ 0) : execOwnRefresh s = .next { s with core := s.core.releaseClaims.xb2 } :=
  (next_core_congr (if_neg (by simp [idle]))).trans (next_core_congr (if_neg claims))

/-- Settles O51: a takeover makes a Lead with its claims (`Core.leads_leadsBy`) and keeps them so; each command is its definition in the case given. -/
theorem handoverAndTakeover : Obligations.HandoverAndTakeover := by
  unfold Obligations.HandoverAndTakeover
  intro s p g h hg tw x failed seeded bit up down
  have dual := s.core.dualStop_keeps g
  refine ⟨next_core_congr (seeded.leadGoneNow_eq _ 2), fun c kind hk => ?_, fun c loaded valid saved => ?_, fun w => next_after_congr ?_, execHandoverRecord_acts, execHandoverRecord_ignores, fun i due => ?_, execHandoverRelease_none, fun pending claimed => ?_,
    execTakeoverComplete_eq, execOwnRefresh_lead, execOwnRefresh_idle, fun own partner => ⟨fun ns hns => ?_, ?_, ?_⟩, fun single ns hns => execDualClaim_single hg hns single, execPownLineChange_rises hg, execPownLineChange_falls hg, fun last => ⟨fun loss => ?_, fun noLoss noCold => ?_⟩⟩
  · have lead := (c.leads_leadsBy kind).role_kept (c.takeOver_keeps kind)
    exact ⟨lead.role, lead.own, ((c.takeOver_keeps kind).flds _ (by decide) 0).trans (c.kind_leadsBy hk)⟩
  · rw [Core.takeCold_eq loaded valid saved]
    have kept := (c.leadsBy 4).coldSteps_keep
    exact ⟨((c.leads_leadsBy 4).role_kept kept).role, (kept.flds _ (by decide) 0).trans (c.kind_leadsBy (by decide)), fun n hn => ⟨((c.leadsBy 4).coldSteps_stop hn).inSto, ((c.leadsBy 4).coldSteps_stop hn).cause⟩⟩
  · exact (Core.request_handover w s.ram).trans (Core.wrote_congr (Core.handoverWrite_eq _) s.ram)
  · have releases := execHandoverRelease_due due
    refine ⟨fun lead unseen => releases.trans (next_core_congr ?_), fun lead seen => releases.trans (next_core_congr ?_), fun idle ready => releases.trans (next_core_congr ?_), fun idle unready => releases.trans (next_core_congr ?_)⟩
    · exact (if_pos lead).trans (if_neg (by rw [unseen]; decide))
    · exact (if_pos lead).trans (if_pos seen)
    · exact (if_neg (by rw [idle]; decide)).trans (if_pos ready)
    · exact (if_neg (by rw [idle]; decide)).trans (if_neg (by rw [unready]; decide))
  · refine (execTakeoverOwnTimeout_expires pending claimed).trans (next_core_congr ?_)
    obtain ⟨_, dropped⟩ := s.core.dropGaps_frame
    rw [dropped]
  · refine (execDualClaim_both hg hns own partner).trans (next_core_congr ?_)
    rw [s.core.claimedLater_dualStop g]
    exact if_congr (by simp only [Bool.or_eq_true, Bool.and_eq_true, decide_eq_true_eq]; rfl) rfl rfl
  · obtain ⟨inSto, -, -, -⟩ := (s.core.logFrom 0x27 0x0004 g 15).stoWithX_spec g (cause := 15) (by decide)
    exact (congrArg (· == 2) (Core.get_set_apart _ F.SF_GRP_CAUSE F.SF_GRP_STATE g 15 rfl (by decide) (by decide))).trans inSto
  · obtain ⟨-, -, xsto, -⟩ := (s.core.logFrom 0x27 0x0004 g 15).stoWithX_spec g (cause := 15) (by decide)
    exact xsto
  · exact (execPownLineChange_last hg last).trans (next_core_congr (if_pos ((congrArg Twin.lossPend down.twin_xb2).trans loss)))
  · refine (execPownLineChange_last hg last).trans (next_core_congr ((if_neg ?_).trans (if_neg ?_)))
    · rw [Core.twin_xb2]
      exact fun h => Bool.false_ne_true (noLoss.symm.trans h)
    · rw [Core.twin_xb2]
      exact fun h => Bool.false_ne_true (noCold.symm.trans (Bool.and_eq_true_iff.1 h).1)

end Sys2Proof.Machine
end

section
/-! SUPPORT. The tick of the Latigo link, its ordered sets, its heartbeats and its losses; then the statement about the link. -/
namespace Sys2Proof.Machine

/-! ### A tick's records (R366–R368) -/

/-- Gathering records changes only what is queued and owed. -/
def Core.Gathers (c d : Core) : Prop := ∃ q o, d = { c with twin := { c.twin with txq := q, snapOwed := o } }
theorem Core.Gathers.refl (c : Core) : c.Gathers c := ⟨_, _, rfl⟩
theorem Core.Gathers.mirror {c d : Core} (h : c.Gathers d) (kind : Nat) (body : List Nat) : c.Gathers (d.mirror kind body) := by
  obtain ⟨_, _, rfl⟩ := h
  unfold Core.mirror
  split <;> exact ⟨_, _, rfl⟩
theorem Core.Gathers.mirrorAll {c d : Core} (h : c.Gathers d) (bodies : List (List Nat)) (kind : Nat) : c.Gathers (bodies.foldl (fun c b => c.mirror kind b) d) := by
  induction bodies generalizing d with
  | nil => exact h
  | cons b bs ih => exact ih (h.mirror kind b)
theorem Core.Gathers.sendSnapshots {c d : Core} (h : c.Gathers d) (p : Nat) : c.Gathers (d.sendSnapshots p) := by
  unfold Core.sendSnapshots
  split
  · exact h
  · refine Core.Gathers.mirrorAll ?_ _ _
    obtain ⟨_, _, rfl⟩ := h
    exact ⟨_, _, rfl⟩
theorem Core.Gathers.sendVirtual {c d : Core} (h : c.Gathers d) : c.Gathers d.sendVirtual := foldN_keeps (fun b => c.Gathers b) _ _ _ h fun _ _ hb => hb.mirror _ _
theorem Core.gathers_tickRecords (c : Core) : c.Gathers c.tickRecords := by
  unfold Core.tickRecords
  split
  · exact ((Core.Gathers.refl c).sendSnapshots 6).sendVirtual
  · exact .refl c

/-- What a tick leaves: of the registers all but TW_SEQ, time, Saddler, and what waits of a handover. -/
structure Core.Ticks (c d : Core) : Prop where
  regs : ∀ (r : Reg) (i : Nat), r.id < 512 → R.TW_SEQ.id ≠ r.id → d.reg r i = c.reg r i
  time : d.time = c.time
  sad : d.sad = c.sad
  handover : d.twin.handover = c.twin.handover
  release : d.twin.release = c.twin.release
  copies : d.twin.copies = c.twin.copies
  firstSeq : d.twin.firstSeq = c.twin.firstSeq
theorem Core.Ticks.get {c d : Core} (h : c.Ticks d) (f : Fld) (hf : (Decidable.decide (f.reg.id < 512) && Decidable.decide (R.TW_SEQ.id ≠ f.reg.id)) = true) : d.get f 0 = c.get f 0 := by
  simp only [Bool.and_eq_true, decide_eq_true_eq] at hf
  exact Core.get_of_reg (h.regs _ _ hf.1 hf.2)
/-- A tick takes the next SEQ (R366). -/
def Core.tick (c : Core) : Core := c.addWrap F.TW_SEQ_SEQ 0 1
theorem Core.ticks_tick (c : Core) : c.Ticks c.tick := ⟨fun _ _ hr other => Core.reg_setReg_of_id c _ (by decide) hr other, rfl, rfl, rfl, rfl, rfl, rfl⟩
theorem Core.Ticks.gathers {c d e : Core} (h : c.Ticks d) (k : d.Gathers e) : c.Ticks e := by
  obtain ⟨_, _, rfl⟩ := k
  exact ⟨h.regs, h.time, h.sad, h.handover, h.release, h.copies, h.firstSeq⟩
theorem Core.ticks_tickRecords (c : Core) : c.Ticks c.tick.tickRecords := c.ticks_tick.gathers c.tick.gathers_tickRecords
/-- Gathering records keeps the tick's SEQ. -/
theorem Core.seq_tickRecords (c : Core) : c.tickRecords.reg R.TW_SEQ 0 = c.reg R.TW_SEQ 0 := by
  obtain ⟨_, _, h⟩ := c.gathers_tickRecords
  rw [h]; rfl

/-! ### The heartbeat that leaves (R367) -/

/-- ROLE of a heartbeat, with HANDOVER_SEEN and STUCK. -/
def Core.beatRole (c : Core) : Nat := c.get F.TW_ROLE_ROLE 0 + (if c.twin.handover.isSome then 64 else 0) + (if c.get F.RST_STUCK_BUTTON_STUCK 0 + c.get F.RST_STUCK_PIN_STUCK 0 ≠ 0 then 128 else 0)
/-- A heartbeat with its ROLE. -/
def Core.beatBody (c : Core) (role : Nat) : List Nat := [role, (c.reg R.TW_INCARN 0).toNat, c.get F.MG_IMG_LINK_LINK_VER c.runBank, c.get F.TW_NOTREADY_CAUSES 0, (c.netNs % 2 ^ 32).toNat]
theorem Core.Ticks.beatRole {c d : Core} (h : c.Ticks d) : d.beatRole = c.beatRole := by
  rw [Core.beatRole, Core.beatRole, h.get F.TW_ROLE_ROLE (by decide), h.get F.RST_STUCK_BUTTON_STUCK (by decide), h.get F.RST_STUCK_PIN_STUCK (by decide), h.handover]
theorem Core.Ticks.runBank {c d : Core} (h : c.Ticks d) : d.runBank = c.runBank := by
  rw [Core.runBank, Core.runBank, Core.bit, Core.bit, h.get F.MG_IMG_STAT_TRIAL (by decide), h.get F.MG_IMG_STAT_BOOT (by decide), h.sad]
theorem Core.Ticks.beatBody {c d : Core} (h : c.Ticks d) (role : Nat) : d.beatBody role = c.beatBody role := by
  have version : d.get F.MG_IMG_LINK_LINK_VER d.runBank = c.get F.MG_IMG_LINK_LINK_VER c.runBank := by
    rw [h.runBank]
    exact Core.get_of_reg (h.regs _ _ (by decide) (by decide))
  rw [Core.beatBody, Core.beatBody, h.regs R.TW_INCARN 0 (by decide) (by decide), version, h.get F.TW_NOTREADY_CAUSES (by decide), Core.netNs, Core.netNs, h.time]
theorem Core.Ticks.link {c d : Core} (h : c.Ticks d) : d.link = c.link := h.get F.TW_ROLE_LINK (by decide)
theorem Core.Ticks.trained {c d : Core} (h : c.Ticks d) : d.trained = c.trained := by rw [Core.trained, Core.trained, h.link]
theorem Core.Ticks.isLead {c d : Core} (h : c.Ticks d) : d.isLead = c.isLead := congrArg (· == 1) (h.get F.TW_ROLE_ROLE (by decide))

/-! ### A tick (R363, R366, R375) -/

/-- A copy of a HANDOVER record with the SEQ of the first and the release instant is gathered; `n` are left after it. -/
def Core.addsCopy (c : Core) (n first : Nat) (at_ : Int) : Core :=
  { c with twin := { c.twin with copies := n, firstSeq := first } }.latigo 8 [0, first, (at_.fdiv 1000000000).toNat % 2 ^ 32, (at_.fmod 1000000000).toNat]
/-- The next copy, where `n` are left after it. -/
def Core.gathersCopy (c : Core) (n : Nat) : Core := c.addsCopy n (if n = 3 then (c.reg R.TW_SEQ 0).toNat else c.twin.firstSeq) (c.twin.release.getD 0 + c.time.stepSum)
theorem Core.gathersCopy_tick (c : Core) (n : Nat) :
    c.tick.tickRecords.gathersCopy n = c.tick.tickRecords.addsCopy n (if n = 3 then (c.tick.reg R.TW_SEQ 0).toNat else c.twin.firstSeq) (c.twin.release.getD 0 + c.time.stepSum) := by
  have ticks := c.ticks_tickRecords
  rw [Core.gathersCopy, ticks.release, ticks.time, ticks.firstSeq, Core.seq_tickRecords]
/-- A copy leaves while any is left. -/
def Core.nextCopy (c : Core) : Core := match c.twin.copies with | 0 => c | n + 1 => c.gathersCopy n
theorem Core.nextCopy_zero {c : Core} (h : c.twin.copies = 0) : c.nextCopy = c := by rw [Core.nextCopy, h]
theorem Core.nextCopy_succ {c : Core} {n : Nat} (h : c.twin.copies = n + 1) : c.nextCopy = c.gathersCopy n := by rw [Core.nextCopy, h]
theorem execLatigoTick_trained {s : State} (runs : s.core.runs 0x23 = true) (trained : s.core.trained = true) : execLatigoTick s =
    .next { s with core := s.core.tick.tickRecords.nextCopy.sendFrame (s.core.tick.tickRecords.nextCopy.beatBody s.core.tick.beatRole) } :=
  (next_core_congr (if_neg (by simp [runs]))).trans (next_core_congr (if_pos (s.core.ticks_tick.trained.trans trained)))
theorem execLatigoTick_none {s : State} (runs : s.core.runs 0x23 = true) (trained : s.core.trained = true) (none : s.core.twin.copies = 0) : execLatigoTick s =
    .next { s with core := s.core.tick.tickRecords.sendFrame (s.core.beatBody s.core.beatRole) } := by
  have ticks := s.core.ticks_tickRecords
  rw [execLatigoTick_trained runs trained, Core.nextCopy_zero (ticks.copies.trans none), s.core.ticks_tick.beatRole, ticks.beatBody]
theorem execLatigoTick_copy {s : State} {n : Nat} (runs : s.core.runs 0x23 = true) (trained : s.core.trained = true) (left : s.core.twin.copies = n + 1) : execLatigoTick s =
    .next { s with core := (s.core.tick.tickRecords.gathersCopy n).sendFrame (s.core.beatBody s.core.beatRole) } := by
  have ticks := s.core.ticks_tickRecords
  have body : (s.core.tick.tickRecords.gathersCopy n).beatBody s.core.beatRole = s.core.beatBody s.core.beatRole := ticks.beatBody s.core.beatRole
  rw [execLatigoTick_trained runs trained, Core.nextCopy_succ (ticks.copies.trans left), s.core.ticks_tick.beatRole, body]
theorem execLatigoTick_training {s : State} (runs : s.core.runs 0x23 = true) (training : s.core.link = 3) : execLatigoTick s = .next { s with core := s.core.tick.emit (.ordered 0x30) } := by
  have untrained : ¬s.core.tick.trained = true := by rw [s.core.ticks_tick.trained, Core.trained, training]; decide
  exact (next_core_congr (if_neg (by simp [runs]))).trans (next_core_congr ((if_neg untrained).trans (if_pos (s.core.ticks_tick.link.trans training))))
theorem execLatigoTick_down {s : State} (runs : s.core.runs 0x23 = true) (untrained : s.core.trained = false) (idle : s.core.link ≠ 3) : execLatigoTick s =
    .next { s with core := if (s.core.tick.reg R.TW_SEQ 0).toNat % 10 = 0 then s.core.tick.emit (.ordered (if s.core.isLead then 0x22 else 0x21)) else s.core.tick } := by
  have ticks := s.core.ticks_tick
  have down : ¬s.core.tick.trained = true := by rw [ticks.trained, untrained]; decide
  rw [← ticks.isLead]
  exact (next_core_congr (if_neg (by simp [runs]))).trans (next_core_congr ((if_neg down).trans (if_neg fun h => idle (ticks.link.symm.trans h))))
/-- A frame holds the heartbeat and the records that fit (R366, R367). -/
theorem Core.sendFrame_clean {c : Core} (clean : c.twin.txPoison = false) (beat : List Nat) :
    let records := c.twin.txq.map (fun x => recordBytes x.1 x.2)
    let n := recordsFit 254 4970 records
    (c.sendFrame beat).out = c.out ++ [.latigo (latigoFrame (c.reg R.TW_SEQ 0).toNat (recordBytes 1 beat :: records.take n)), .ordered 0x10] ∧ (c.sendFrame beat).twin.txq = c.twin.txq.drop n := by
  simp [Core.sendFrame, Core.emit, clean]

/-! ### Ordered sets (R363, R379) -/

theorem Core.trainNow_starts {c : Core} (down : c.link < 3 ∨ 6 < c.link) (free : c.relinkRuns = false) : c.trainNow = (c.setLink 3).emit (.ordered 0x30) := by
  refine if_neg ?_
  simp only [free, Bool.false_or, Bool.and_eq_true, decide_eq_true_eq]
  omega
theorem Core.trainNow_waits {c : Core} (waits : c.relinkRuns = true) : c.trainNow = c := if_pos (by simp [waits])
theorem execBeacon_runs {s : State} (runs : s.core.runs 0x23 = true) : execBeacon s = .next { s with core := s.core.sawPartner.trainNow } := next_core_congr (if_pos runs)
theorem execTrain_runs {s : State} (runs : s.core.runs 0x23 = true) : execTrain s = .next { s with core := s.core.sawPartner.trainNow } := next_core_congr (if_pos runs)
theorem execLeadPresent_runs {s : State} (runs : s.core.runs 0x23 = true) : execLeadPresent s = .next { s with core := s.core.sawPartner.followLead } := next_core_congr (if_pos runs)

/-! ### Becoming Standby (R363) -/

theorem Core.role_becomeStandby (c : Core) : c.becomeStandby.get F.TW_ROLE_ROLE 0 = 2 ∧ c.becomeStandby.bridle.own = 0 := by
  let shown := ({ c with twin := { c.twin with won := false } } : Core).releaseClaims.set F.TW_ROLE_ROLE 0 2
  have own : shown.bridle.own = 0 := by
    obtain ⟨_, _, _, _, _, _, h⟩ := Core.releaseClaims_frame { c with twin := { c.twin with won := false } }
    show (Core.releaseClaims _).bridle.own = 0
    rw [h]
  have kept : KeepsRole shown c.becomeStandby := ((Keeps.refl shown).canGo.xb2).judge roleFlds_steady
  exact ⟨(kept.flds F.TW_ROLE_ROLE (by decide) 0).trans (Core.get_set _ F.TW_ROLE_ROLE 0 2 (by decide)), (congrArg Bridle.own kept.bridle :).trans own⟩

/-! ### The partner's heartbeat (R363, R364, R372) -/

/-- A new STUCK of the partner is logged, and shown. -/
def Core.hearsStuck (c : Core) (r : HeartbeatRec) : Core := (if r.stuck && !c.twin.partnerStuck then c.logFrom 0x23 0x0108 noSrc 0 else c).setBit F.RST_STAT_PARTNER_STUCK 0 r.stuck
theorem Core.twin_hearsStuck (c : Core) (r : HeartbeatRec) : (c.hearsStuck r).twin = c.twin := by
  unfold Core.hearsStuck
  rw [Core.setBit_twin]
  split
  · obtain ⟨⟨_, _, _, _, frame⟩, -⟩ := c.logFrom_frame 0x23 0x0108 noSrc 0
    rw [frame]
  · rfl
/-- What a heartbeat says of the link's state is kept in the module's record `t` of its partner, and PARTNER_READY shown by a Lead. -/
def Core.keepsBeat (c : Core) (t : Twin) (r : HeartbeatRec) : Core :=
  let ok := match t.release with | some i => r.handoverSeen && Decidable.decide (c.profNs + 10000 ≤ i) | none => false
  let c : Core := { c with twin := { t with seen := true, partnerLinkVer := r.linkVer, partnerStuck := r.stuck, partnerDigest := some r.digest, incarnBad := false, handoverSeen := t.handoverSeen || ok } }
  if c.isLead then c.setBit F.TW_ROLE_PARTNER_READY 0 r.ready else c
/-- A STARTING module follows a partner that leads. -/
def Core.followsBeat (c : Core) (r : HeartbeatRec) : Core := if r.role = 1 && c.get F.TW_ROLE_ROLE 0 = 0 then c.becomeStandby else c
/-- Of two Leads the one in position B gives way. -/
def Core.yieldsTo (c : Core) (r : HeartbeatRec) : Core := if r.role = 1 && c.isLead && c.position = 1 then c.giveWay else c
/-- A Lead's link follows what its Standby shows. -/
def Core.linksWith (c : Core) (r : HeartbeatRec) : Core :=
  if r.role = 2 && c.isLead then (if c.link = 5 && !r.notReady.testBit 0 then c.linkUp else if c.link = 6 && r.notReady.testBit 0 then c.startResync else c) else c
theorem Core.followsBeat_eq (c : Core) (r : HeartbeatRec) : (if r.role = 1 then c.followLead else c) = c.followsBeat r := by
  unfold Core.followLead Core.followsBeat
  by_cases role : r.role = 1 <;> simp [role]
theorem Core.linksWith_eq (c : Core) (r : HeartbeatRec) : (if r.role = 2 then c.followResync (r.notReady.testBit 0) else c) = c.linksWith r := by
  unfold Core.followResync Core.linksWith
  by_cases role : r.role = 2 <;> cases lead : c.isLead <;> simp [role]
/-- What a heartbeat of the same incarnation does, with the twin's record `t` before it. -/
def Core.beats (c : Core) (t : Twin) (r : HeartbeatRec) : Core := ((((c.keepsBeat t r).followsBeat r).yieldsTo r).linksWith r).judge
theorem Core.beats_eq (c : Core) (t : Twin) (r : HeartbeatRec) :
    (let d := (if r.role = 1 then (c.keepsBeat t r).followLead else c.keepsBeat t r).yieldsTo r
     (if r.role = 2 then d.followResync (r.notReady.testBit 0) else d).judge) = c.beats t r := by
  dsimp only
  rw [Core.followsBeat_eq, Core.linksWith_eq, Core.beats]
theorem execHeartbeat_kept {s : State} {r : HeartbeatRec} (trained : s.core.trained = true) (same : r.incarn = s.core.reg R.TW_PINCARN 0) :
    execHeartbeat s r = .next { s with core := (s.core.hearsStuck r).beats s.core.twin r } :=
  (next_core_congr (if_neg (by simp [trained]))).trans ((next_core_congr (if_neg (not_not_intro same))).trans
    (next_core_congr (((s.core.hearsStuck r).beats_eq (s.core.hearsStuck r).twin r).trans (congrArg (fun t => (s.core.hearsStuck r).beats t r) (s.core.twin_hearsStuck r)))))
theorem execHeartbeat_other {s : State} {r : HeartbeatRec} (trained : s.core.trained = true) (other : r.incarn ≠ s.core.reg R.TW_PINCARN 0) :
    execHeartbeat s r = .next { s with core := ({ s.core with twin := { s.core.twin with incarnBad := true } }.judge).linkLost true } :=
  (next_core_congr (if_neg (by simp [trained]))).trans (next_core_congr (if_pos other))

/-! ### Frames in error (R382) -/

theorem Core.isStandby_badFrame (c : Core) : (c.addSat F.TW_ERR_CRC_ERR 0 1).isStandby = c.isStandby := congrArg (· == 2) (Core.get_set_of_apart (by decide) c 0 0 _)
theorem Core.link_badFrame (c : Core) : (c.addSat F.TW_ERR_CRC_ERR 0 1).link = c.link := Core.get_set_of_apart (by decide) c 0 0 _
theorem execLatigoBadFrame_other {s : State} {seq : Word} (trained : s.core.trained = true) (other : s.core.isStandby = false) : execLatigoBadFrame s seq = .next { s with core := s.core.addSat F.TW_ERR_CRC_ERR 0 1 } :=
  (next_core_congr (if_neg (by simp [trained]))).trans (next_core_congr (if_pos (by rw [Core.isStandby_badFrame, other]; rfl)))
theorem execLatigoBadFrame_first {s : State} {seq : Word} (trained : s.core.trained = true) (standby : s.core.isStandby = true) (new : s.core.twin.nak ≠ some seq) :
    execLatigoBadFrame s seq = .next { s with core := { s.core.addSat F.TW_ERR_CRC_ERR 0 1 with twin := { s.core.twin with nak := some seq } }.latigo 7 [seq.toNat] } :=
  (next_core_congr (if_neg (by simp [trained]))).trans (next_core_congr ((if_neg (by rw [Core.isStandby_badFrame, standby]; decide)).trans (if_neg new)))
theorem execLatigoBadFrame_again {s : State} {seq : Word} (trained : s.core.trained = true) (standby : s.core.isStandby = true) (asked : s.core.twin.nak = some seq) (up : s.core.link = 6) : execLatigoBadFrame s seq = .next { s with core :=
    (({ s.core.addSat F.TW_ERR_CRC_ERR 0 1 with twin := { s.core.twin with recLost := true, nak := none } }.addSat F.TW_ERR_LOST 0 1).judge).startResync } := by
  have counted := s.core.isStandby_badFrame
  refine (next_core_congr (if_neg (by simp [trained]))).trans (next_core_congr ((if_neg (by rw [counted, standby]; decide)).trans ((if_pos asked).trans (if_neg ?_))))
  rw [counted, standby, Core.link_badFrame, up]
  decide
theorem execNakRecord_known {s : State} {seq : Word} {f : Nat × List Byte} (lead : s.core.isLead = true) (trained : s.core.trained = true) (kept : s.core.twin.sent.find? (fun f => f.1 == seq.toNat) = some f) :
    execNakRecord s seq = .next { s with core := ({ s.core with twin := { s.core.twin with sent := s.core.twin.sent.filter (fun x => x.1 ≠ seq.toNat) } } : Core).emit (.latigo f.2) } := by
  simp only [execNakRecord, onCore_eq, kept, lead, trained, Bool.and_self, if_true]
theorem execNakRecord_unknown {s : State} {seq : Word} (gone : s.core.twin.sent.find? (fun f => f.1 == seq.toNat) = none) : execNakRecord s seq = .next s := by
  simp only [execNakRecord, onCore_eq, gone]

/-! ### Timers (R363, R379) -/

theorem execRelinkExpiry_unseen {s : State} (runs : s.core.relinkRuns = true) (unseen : s.core.twin.seenAt = none) :
    execRelinkExpiry s = .next { s with core := { s.core with twin := { s.core.twin with relinkAt := s.core.profNs + 2000000000 } } } := by
  refine (next_core_congr (if_neg (by simp [runs]))).trans (next_core_congr (if_neg ?_))
  rw [unseen]
  exact Bool.false_ne_true
theorem execRelinkExpiry_seen {s : State} {t : Int} (runs : s.core.relinkRuns = true) (seen : s.core.twin.seenAt = some t) :
    let c : Core := { s.core with twin := { s.core.twin with relinkAt := s.core.profNs + 2000000000 } }
    execRelinkExpiry s = .next { s with core := if s.core.profNs - t ≤ 200000 ∧ c.trained = false then (c.setLink 3).emit (.ordered 0x30) else c } := by
  refine (next_core_congr (if_neg (by simp [runs]))).trans (next_core_congr (if_congr ?_ rfl rfl))
  rw [seen]
  simp only [Bool.and_eq_true, decide_eq_true_eq, Bool.not_eq_true']
theorem execRelinkExpiry_idle {s : State} (idle : s.core.relinkRuns = false) : execRelinkExpiry s = .next s := next_core_congr (d := s.core) (if_pos (by rw [idle]; rfl))
theorem execSoloWaitExpiry_alone {s : State} (starting : s.core.get F.TW_ROLE_ROLE 0 = 0) (alone : s.core.twin.partnerSeen = false) (unclaimed : s.core.bridle.pown = 0) (valid : s.core.pat.valid = true)
    (pattern : s.core.bit F.PT_BOOT_NO_PATTERN 0 = false) (saved : s.core.bit F.RST_STAT_INCARN_UNSAVED 0 = false) :
    execSoloWaitExpiry s = .next { s with core := if s.core.loading then { s.core with twin := { s.core.twin with won := true } } else s.core.becomeLead } := by
  refine (next_core_congr (if_pos (by simp [starting, alone, unclaimed, valid]))).trans (next_core_congr ?_)
  rw [Core.leadWhenLoaded, if_neg (by simp [starting, pattern, saved]), valid]
  cases s.core.loading <;> rfl
theorem execSoloWaitExpiry_seen {s : State} (seen : s.core.twin.partnerSeen = true) : execSoloWaitExpiry s = .next s := next_core_congr (d := s.core) (if_neg (by simp [seen]))

/-- Settles O49: a tick's heartbeat shows what held before it (`Core.Ticks.beatBody`), a STANDBY has no claims (`Core.role_becomeStandby`), and each command is its definition in the case given. -/
theorem theLatigoLink : Obligations.TheLatigoLink := by
  unfold Obligations.TheLatigoLink
  intro s r pos serial seq tw seen tick sq role beat wait gone
  refine ⟨fun runs => ⟨execLatigoTick_none runs, fun n trained left => ?_, execLatigoTick_training runs, execLatigoTick_down runs, fun down free => ?_, fun waits => ?_, fun starting => ?_, fun running => ?_⟩,
    Core.role_becomeStandby, fun c h clean => Core.sendFrame_clean clean h, fun _ _ => rfl, fun untrained => ?_, fun trained => ⟨execHeartbeat_other trained, execHeartbeat_kept trained, ?_, ?_, execLatigoBadFrame_other trained,
      execLatigoBadFrame_first trained, execLatigoBadFrame_again trained, fun f lead => execNakRecord_known lead trained⟩, execNakRecord_unknown, fun training => ⟨?_, ?_⟩, fun image => ?_,
    fun runs => ⟨execRelinkExpiry_unseen runs, fun t => execRelinkExpiry_seen runs⟩, execRelinkExpiry_idle, execSoloWaitExpiry_alone, execSoloWaitExpiry_seen⟩
  · exact (execLatigoTick_copy runs trained left).trans (next_core_congr (congrArg (fun d : Core => d.sendFrame beat) (s.core.gathersCopy_tick n)))
  · have train := Core.trainNow_starts (c := seen) down free
    exact ⟨(execBeacon_runs runs).trans (next_core_congr train), (execTrain_runs runs).trans (next_core_congr train)⟩
  · have stays := Core.trainNow_waits (c := seen) waits
    exact ⟨(execBeacon_runs runs).trans (next_core_congr stays), (execTrain_runs runs).trans (next_core_congr stays)⟩
  · exact (execLeadPresent_runs runs).trans (next_core_congr (if_pos starting))
  · exact (execLeadPresent_runs runs).trans (next_core_congr (if_neg running))
  · have off : (!s.core.trained) = true := by rw [untrained]; rfl
    exact ⟨next_core_congr (d := s.core) (if_pos off), next_core_congr (d := s.core) (if_neg (by rw [untrained]; decide)), next_core_congr (d := s.core) (if_pos off), next_core_congr (d := s.core) (if_pos off)⟩
  · exact next_core_congr (if_pos trained)
  · exact next_core_congr (if_neg (by rw [trained]; decide))
  · exact next_core_congr (if_neg (not_not_intro training))
  · exact next_core_congr (if_pos training)
  · exact next_core_congr (if_pos image)

end Sys2Proof.Machine
end

section
/-! SUPPORT. The commands of the pattern loader: what a refusal and the end of a command leave, and what an island reset keeps of PT_STAT; then the statement about the commands. -/
namespace Sys2Proof.Machine

/-! ### Words that an island reset keeps (R9, R107) -/

theorem Tab.mem_insert {α : Type} {t : List (Nat × α)} {n : Nat} {v : α} {e : Nat × α} (h : e ∈ Tab.insert n v t) : e = (n, v) ∨ e ∈ t := by
  induction t with
  | nil => exact .inl (List.mem_singleton.1 h)
  | cons x t ih =>
    obtain ⟨k, w⟩ := x
    by_cases hk : k < n
    · rw [Tab.insert, if_pos hk] at h
      rcases List.mem_cons.1 h with h | h
      · exact .inr (h ▸ List.mem_cons_self ..)
      · exact (ih h).imp_right (List.mem_cons_of_mem _)
    · rw [Tab.insert, if_neg hk] at h
      exact List.mem_cons.1 h
/-- The entries of a key that was set have the value set. -/
theorem Tab.value_of_mem_set {α : Type} [DecidableEq α] {d : α} {t : List (Nat × α)} {n : Nat} {v : α} {e : Nat × α} (h : e ∈ Tab.set d t n v) (key : e.1 = n) : e.2 = v := by
  unfold Tab.set at h
  split at h
  · exact absurd key (Tab.erase_ne t n e h)
  · rcases Tab.mem_insert h with rfl | h
    · rfl
    · exact absurd key (Tab.erase_ne t n e h)

/-- A register's number is its place in the register map. -/
theorem allRegs_numbered : allRegs.map Reg.id = List.range allRegs.length := by decide +kernel
theorem id_of_allRegs {n : Nat} {r : Reg} (h : allRegs[n]? = some r) : r.id = n := by
  have place : (allRegs.map Reg.id)[n]? = some r.id := by rw [List.getElem?_map, h, Option.map_some]
  rw [allRegs_numbered] at place
  obtain ⟨_, eq⟩ := List.getElem?_eq_some_iff.1 place
  rw [List.getElem_range] at eq
  exact eq.symm
theorem Reg.accMask_none (r : Reg) : r.accMask (fun _ => false) = 0 := by
  unfold Reg.accMask
  rw [List.filter_eq_nil_iff.2 (fun _ _ => Bool.false_ne_true)]
  rfl
/-- What losing fields does of one stored word. -/
def Core.loseEntry (lost : Reg → Nat → FldDesc → Bool) (c : Core) (e : Nat × Word) : Core :=
  match allRegs[e.1 % 512]? with
  | none => c
  | some r => c.setReg r (e.1 / 512) ((e.2 &&& ~~~r.accMask (lost r (e.1 / 512))) ||| (r.resetAt (e.1 / 512) &&& r.accMask (lost r (e.1 / 512))))
theorem Core.loseFields_eq (c : Core) (lost : Reg → Nat → FldDesc → Bool) : c.loseFields lost = c.regs.foldl (Core.loseEntry lost) c := rfl
/-- A word whose fields are kept is stored again. -/
theorem Core.loseEntry_kept {lost : Reg → Nat → FldDesc → Bool} {r : Reg} {i : Nat} (known : allRegs[r.id]? = some r) (hr : r.id < 512) (kept : lost r i = fun _ => false) (c : Core) (w : Word) :
    c.loseEntry lost (r.key i, w) = c.setReg r i w := by
  have reg : r.key i % 512 = r.id := by rw [Reg.key]; omega
  have inst : r.key i / 512 = i := by rw [Reg.key]; omega
  have none : (w &&& ~~~(0 : Word)) ||| (r.resetAt i &&& 0) = w := by
    show (w &&& ~~~0#32) ||| (r.resetAt i &&& 0#32) = w
    rw [BitVec.not_zero, BitVec.and_allOnes, BitVec.and_zero, BitVec.or_zero]
  simp only [Core.loseEntry, reg, inst, known, kept, Reg.accMask_none, none]
/-- The other places are left. -/
theorem Core.loseEntry_other {lost : Reg → Nat → FldDesc → Bool} {r : Reg} {i : Nat} (c : Core) {e : Nat × Word} (other : e.1 ≠ r.key i) : (c.loseEntry lost e).reg r i = c.reg r i := by
  unfold Core.loseEntry
  split
  · rfl
  · next q hq =>
    have number : q.key (e.1 / 512) = e.1 := by rw [Reg.key, id_of_allRegs hq]; omega
    exact Core.reg_setReg_ne c _ (by rw [number]; exact other)
theorem Core.loseEntry_frame (lost : Reg → Nat → FldDesc → Bool) (c : Core) (e : Nat × Word) : ∃ a, c.loseEntry lost e = { c with regs := a } := by
  unfold Core.loseEntry
  split <;> exact ⟨_, rfl⟩
/-- Of a core whose entries of a register's place all have one value, losing other fields keeps that value. -/
theorem Core.reg_loseFields (c : Core) {lost : Reg → Nat → FldDesc → Bool} {r : Reg} {i : Nat} (known : allRegs[r.id]? = some r) (hr : r.id < 512) (kept : lost r i = fun _ => false)
    (one : ∀ e ∈ c.regs, e.1 = r.key i → e.2 = c.reg r i) : (c.loseFields lost).reg r i = c.reg r i := by
  have fold (l : List (Nat × Word)) (d : Core) (hl : ∀ e ∈ l, e.1 = r.key i → e.2 = c.reg r i) (hd : d.reg r i = c.reg r i) : (l.foldl (Core.loseEntry lost) d).reg r i = c.reg r i := by
    induction l generalizing d with
    | nil => exact hd
    | cons e l ih =>
      refine ih _ (fun x hx => hl x (List.mem_cons_of_mem _ hx)) ?_
      by_cases same : e.1 = r.key i
      · have stored : e = (r.key i, c.reg r i) := Prod.ext same (hl e (List.mem_cons_self ..) same)
        rw [stored, Core.loseEntry_kept known hr kept, Core.reg_setReg_self]
      · exact (d.loseEntry_other same).trans hd
  rw [Core.loseFields_eq]
  exact fold c.regs c one rfl
/-- Losing fields changes registers only. -/
theorem Core.loseFields_frame (c : Core) (lost : Reg → Nat → FldDesc → Bool) : ∃ a, c.loseFields lost = { c with regs := a } := by
  have fold (l : List (Nat × Word)) (d : Core) (h : ∃ a, d = { c with regs := a }) : ∃ a, l.foldl (Core.loseEntry lost) d = { c with regs := a } := by
    induction l generalizing d with
    | nil => exact h
    | cons e l ih =>
      obtain ⟨_, rfl⟩ := h
      obtain ⟨a, entry⟩ := Core.loseEntry_frame lost { c with regs := _ } e
      exact ih _ ⟨a, entry⟩
  rw [Core.loseFields_eq]
  exact fold c.regs c ⟨_, rfl⟩

/-! ### PHASE and the loader's state -/

/-- PHASE and the loader's state are as they were. -/
structure Core.LoadsAs (c d : Core) : Prop where
  phase : d.get F.PT_STAT_PHASE 0 = c.get F.PT_STAT_PHASE 0
  loader : d.loader = c.loader

namespace Core.LoadsAs

variable {c d e : Core}

theorem refl (c : Core) : c.LoadsAs c := ⟨rfl, rfl⟩
theorem trans (h : c.LoadsAs d) (k : d.LoadsAs e) : c.LoadsAs e := ⟨k.phase.trans h.phase, k.loader.trans h.loader⟩
theorem fold {f : Core → Nat → Core} (h : c.LoadsAs d) (ns : List Nat) (hf : ∀ (b : Core) (n : Nat), b.LoadsAs (f b n)) : c.LoadsAs (foldN ns d f) :=
  foldN_keeps (fun b => c.LoadsAs b) f ns d h fun b n hb => hb.trans (hf b n)
theorem set (h : c.LoadsAs d) (f : Fld) (i v : Nat) (apart : f.apart F.PT_STAT_PHASE = true) : c.LoadsAs (d.set f i v) := h.trans ⟨Core.get_set_of_apart apart d i 0 v, rfl⟩
theorem setBit (h : c.LoadsAs d) (f : Fld) (i : Nat) (b : Bool) (apart : f.apart F.PT_STAT_PHASE = true) : c.LoadsAs (d.setBit f i b) := h.set f i _ apart
theorem setLane (h : c.LoadsAs d) (l : Nat) (v : Lane) : c.LoadsAs (d.setLane l v) := h.trans ⟨rfl, rfl⟩
theorem setBg (h : c.LoadsAs d) (g : Nat) (v : BGroup) : c.LoadsAs (d.setBg g v) := h.trans ⟨rfl, rfl⟩
theorem setIsl (h : c.LoadsAs d) (n v : Nat) : c.LoadsAs (d.setIsl n v) := by
  refine h.trans ⟨Core.get_of_reg ?_, ?_⟩
  · rw [Core.reg, Core.reg, Core.setIsl_regs]
  · rw [Core.setIsl_loader]
theorem judge (h : c.LoadsAs d) : c.LoadsAs d.judge := by
  refine h.trans ⟨d.get_judge F.PT_STAT_PHASE 0 (by decide) (by decide), ?_⟩
  obtain ⟨⟨_, _, _, _, frame⟩, -⟩ := d.judge_frame
  rw [frame]
theorem cancelRelease (h : c.LoadsAs d) (g : Nat) : c.LoadsAs (d.cancelRelease g) := by
  unfold Core.cancelRelease
  dsimp only
  split
  · split
    · exact (h.setBg _ _).set F.LG_REL_RESULT_RESULT 0 4 (by decide)
    · exact h.setBg _ _
  · exact h
theorem fullLoadStart (h : c.LoadsAs d) : c.LoadsAs d.fullLoadStart := h.fold _ fun b g => (refl b).cancelRelease g
theorem laneIslandReset (h : c.LoadsAs d) (g : Nat) : c.LoadsAs (d.laneIslandReset g) :=
  ((h.fold _ fun b l => (refl b).setLane l _).fold _ fun b l => (refl b).setBit F.LN_STAT_FAULT_N_LIVE l _ (by decide)).setBg _ _

end Core.LoadsAs

/-! ### The reset of the target of a re-lace (R54, R108) -/

/-- A register set last has one value in every entry. -/
theorem Core.entries_setReg (c : Core) (r : Reg) (i : Nat) (w : Word) : ∀ e ∈ (c.setReg r i w).regs, e.1 = r.key i → e.2 = (c.setReg r i w).reg r i := fun _ he key =>
  (Tab.value_of_mem_set he key).trans (c.reg_setReg_self r i w).symm
/-- The fields that the reset of an island loses: its V-class ones (R9). -/
def Core.losesIn (c : Core) (isl : Nat) (r : Reg) (i : Nat) (f : FldDesc) : Bool := f.cls = .V && c.holder r i = isl
/-- PT_STAT is in the application island. -/
theorem Core.losesIn_ptStat (c : Core) {isl : Nat} (scope : isl < 0x20) : c.losesIn isl R.PT_STAT 0 = fun _ => false := by
  have elsewhere : c.holder R.PT_STAT 0 ≠ isl := by show 0x25 ≠ isl; omega
  funext f
  rw [Core.losesIn, decide_eq_false elsewhere, Bool.and_false]
/-- The reset of a stitch or lane island keeps PHASE, where PT_STAT has one entry, and the loader's state. -/
theorem Core.loadsAs_islandReset {c : Core} {isl : Nat} (scope : isl < 0x20) (one : ∀ e ∈ c.regs, e.1 = R.PT_STAT.key 0 → e.2 = c.reg R.PT_STAT 0) : c.LoadsAs (c.islandReset isl) := by
  have lost : c.LoadsAs (c.loseFields (c.losesIn isl)) := by
    refine ⟨Core.get_of_reg (c.reg_loseFields rfl (by decide) (c.losesIn_ptStat scope) one), ?_⟩
    obtain ⟨_, frame⟩ := c.loseFields_frame (c.losesIn isl)
    rw [frame]
  refine Core.LoadsAs.setIsl ?_ isl 3
  split
  · exact lost.laneIslandReset _
  · exact lost
theorem Core.islState_islandReset (c : Core) {isl : Nat} (scope : isl < 0x20) : (c.islandReset isl).islState isl = 3 := Core.islState_setIsl _ 3 (by omega)

/-! ### The start and the end of a command (R48, R50) -/

/-- What a command that ends shows. -/
def Core.ends (c : Core) (code record phase : Nat) : Core :=
  let c := ((c.set F.PT_STAT_RESULT 0 code).set F.PT_STAT_RECORD 0 record).set F.PT_STAT_PHASE 0 phase
  { (c.set F.PT_CTRL_CMD 0 0) with loader := { c.loader with cmd := 0, relace := false, handover := false, handedOver := false, moved := [], ready := false, aborted := false, image := [], newPat := {}, oldImage := [], oldPat := {} } }
/-- Where no cold takeover waits, it ends so. -/
theorem Core.loaderEnd_eq {c : Core} (free : c.twin.coldPend = false) (code record phase : Nat) : c.loaderEnd code record phase = (c.ends code record phase).judge :=
  congrArg Core.judge (if_neg (by
    show ¬(c.twin.coldPend && Decidable.decide ((c.ends code record phase).bridle.pown = 0)) = true
    rw [free, Bool.false_and]
    exact Bool.false_ne_true))
theorem Core.get_withLoader (c : Core) (l : Loader) (f : Fld) (i : Nat) : ({ c with loader := l } : Core).get f i = c.get f i := rfl
theorem Core.get_ends (c : Core) (code record phase : Nat) (f : Fld) :
    (c.ends code record phase).get f 0 = ((((c.set F.PT_STAT_RESULT 0 code).set F.PT_STAT_RECORD 0 record).set F.PT_STAT_PHASE 0 phase).set F.PT_CTRL_CMD 0 0).get f 0 := Core.get_withLoader _ _ f 0
theorem Core.get_loaderEnd {c : Core} (free : c.twin.coldPend = false) (code record phase : Nat) {f : Fld} (hf : f.reg.id < 512) (hj : judged f.reg = false) : (c.loaderEnd code record phase).get f 0 = (c.ends code record phase).get f 0 := by
  rw [Core.loaderEnd_eq free]
  exact Core.get_judge _ f 0 hf hj
theorem Core.phase_loaderEnd {c : Core} (free : c.twin.coldPend = false) (code record : Nat) {phase : Nat} (hp : phase < 8) : (c.loaderEnd code record phase).get F.PT_STAT_PHASE 0 = phase :=
  (Core.get_loaderEnd free code record phase (by decide) (by decide)).trans ((Core.get_ends c code record phase _).trans ((Core.get_set_of_apart (by decide) _ 0 0 0).trans ((Core.get_set _ _ 0 phase (by decide)).trans (Nat.mod_eq_of_lt hp))))
theorem Core.record_loaderEnd {c : Core} (free : c.twin.coldPend = false) (code phase : Nat) {record : Nat} (hr : record < 65536) : (c.loaderEnd code record phase).get F.PT_STAT_RECORD 0 = record :=
  (Core.get_loaderEnd free code record phase (by decide) (by decide)).trans ((Core.get_ends c code record phase _).trans ((Core.get_set_of_apart (by decide) _ 0 0 0).trans ((Core.get_set_of_apart (by decide) _ 0 0 phase).trans ((Core.get_set _ _ 0 record (by decide)).trans (Nat.mod_eq_of_lt hr)))))
theorem Core.result_loaderEnd {c : Core} (free : c.twin.coldPend = false) (record phase : Nat) {code : Nat} (hc : code < 32) : (c.loaderEnd code record phase).get F.PT_STAT_RESULT 0 = code :=
  (Core.get_loaderEnd free code record phase (by decide) (by decide)).trans ((Core.get_ends c code record phase _).trans ((Core.get_set_of_apart (by decide) _ 0 0 0).trans ((Core.get_set_of_apart (by decide) _ 0 0 phase).trans ((Core.get_set_of_apart (by decide) _ 0 0 record).trans
    ((Core.get_set _ _ 0 code (by decide)).trans (Nat.mod_eq_of_lt (Nat.lt_of_lt_of_le hc (by decide))))))))
theorem Core.unverified_loaderEnd {c : Core} (free : c.twin.coldPend = false) (unverified : c.bit F.PT_STAT_VERIFIED 0 = false) (code record phase : Nat) : (c.loaderEnd code record phase).bit F.PT_STAT_VERIFIED 0 = false := by
  refine (congrArg (· == 1) ?_).trans unverified
  rw [Core.get_loaderEnd free code record phase (by decide) (by decide), Core.get_ends, Core.get_set_of_apart (by decide), Core.get_set_of_apart (by decide), Core.get_set_of_apart (by decide), Core.get_set_of_apart (by decide)]
theorem Core.cmd_loaderEnd {c : Core} (free : c.twin.coldPend = false) (code record phase : Nat) : (c.loaderEnd code record phase).get F.PT_CTRL_CMD 0 = 0 :=
  (Core.get_loaderEnd free code record phase (by decide) (by decide)).trans ((Core.get_ends c code record phase _).trans (Core.get_set _ F.PT_CTRL_CMD 0 0 (by decide)))
theorem Core.loader_loaderEnd {c : Core} (free : c.twin.coldPend = false) (code record phase : Nat) : (c.loaderEnd code record phase).loader = (c.ends code record phase).loader := by
  rw [Core.loaderEnd_eq free]
  obtain ⟨⟨_, _, _, _, frame⟩, -⟩ := (c.ends code record phase).judge_frame
  rw [frame]
theorem Core.phase_loaderStart (c : Core) (cmd : Nat) {phase : Nat} (hp : phase < 8) : (c.loaderStart cmd phase).get F.PT_STAT_PHASE 0 = phase :=
  (Core.get_withLoader _ _ F.PT_STAT_PHASE 0).trans ((Core.get_set _ F.PT_STAT_PHASE 0 phase (by decide)).trans (Nat.mod_eq_of_lt hp))

/-! ### Refusals (R48, Table 2.9) -/

/-- The codes are those of Table 2.9. -/
theorem Core.ptRefusal_lt (c : Core) (ram : Ram) (cmd isl : Nat) : c.ptRefusal ram cmd isl < 32 := by
  unfold Core.ptRefusal
  dsimp only
  iterate 10 (split; · decide)
  decide
/-- A re-lace that is not refused has a stitch or lane island as its target. -/
theorem Core.scope_of_ptRefusal {c : Core} {ram : Ram} {isl : Nat} (free : c.ptRefusal ram 4 isl = 0) : isl < 0x20 := by
  have scope : scopeOk (bankImage ram 15) (bankImage ram 14) isl = true := by
    by_contra h
    refine absurd free ?_
    unfold Core.ptRefusal
    dsimp only
    iterate 4 (split; · decide)
    rw [if_neg (not_not_intro rfl)]
    split
    · decide
    · rw [if_pos (by simpa using h)]
      decide
  unfold scopeOk at scope
  simp only [Bool.and_eq_true, decide_eq_true_eq] at scope
  obtain ⟨⟨⟨⟨inScope, -⟩, -⟩, -⟩, -⟩ := scope
  exact inScope
theorem Core.ptCommand_refused {c : Core} {ram : Ram} {cmd isl : Nat} (h1 : 1 ≤ cmd) (h7 : cmd ≤ 7) (refused : c.ptRefusal ram cmd isl ≠ 0) (bank : Nat) (setBoot : Bool) :
    c.ptCommand ram cmd bank isl setBoot = (c.set F.PT_STAT_RESULT 0 (c.ptRefusal ram cmd isl)).logRefusal (c.ptRefusal ram cmd isl) 0xFFFF (if cmd = 4 then isl else noSrc) :=
  (if_neg (by simp; omega)).trans (if_pos refused)

/-- A refusal leaves what logging leaves, and shows its code. -/
theorem Core.refused_frame (c : Core) {r : Nat} (hr : r < 32) (src : Nat) :
    let d := (c.set F.PT_STAT_RESULT 0 r).logRefusal r 0xFFFF src
    d.get F.PT_STAT_RESULT 0 = r ∧ d.get F.PT_STAT_PHASE 0 = c.get F.PT_STAT_PHASE 0 ∧ d.bit F.PT_STAT_VERIFIED 0 = c.bit F.PT_STAT_VERIFIED 0 ∧
      d.reg R.PT_BOOT 0 = c.reg R.PT_BOOT 0 ∧ d.memq = c.memq ∧ d.patFlash = c.patFlash ∧ d.pat = c.pat ∧ d.loader = c.loader := by
  intro d
  have logged := (c.set F.PT_STAT_RESULT 0 r).logFrom_frame 0x25 0x0302 src (r * 65536 + 0xFFFF)
  have get (f : Fld) (hf : logFlds.all (·.apart f) = true) : d.get f 0 = (c.set F.PT_STAT_RESULT 0 r).get f 0 := Core.get_logFrom hf _ _ _ _ _ 0
  obtain ⟨⟨_, _, _, _, frame⟩, regs⟩ := logged
  have frame : d = _ := frame
  refine ⟨?_, (get _ (by decide)).trans (Core.get_set_of_apart (by decide) c 0 0 r), ?_, ?_, ?_, ?_, ?_, ?_⟩
  · exact (get _ (by decide)).trans ((Core.get_set c _ 0 r (by decide)).trans (Nat.mod_eq_of_lt (Nat.lt_of_lt_of_le hr (by decide))))
  · exact congrArg (· == 1) ((get _ (by decide)).trans (Core.get_set_of_apart (by decide) c 0 0 r))
  · exact (regs R.PT_BOOT 0 (by decide) (by decide) (by decide) (by decide) (by decide)).trans (Core.reg_setReg_of_id c _ (by decide) (by decide) (by decide))
  all_goals
    rw [frame]
    rfl

/-! ### Commands that run (R49–R55) -/

/-- ACTIVATE takes the staged image (R51). -/
def Core.activates (c : Core) (img : List Byte) : Core := { c with loader := { c.loader with image := img, newPat := patternOf img } }.loaderStart 3 4
/-- COMMIT takes the staged image for the bank that is not the boot bank (R52). -/
def Core.commits (c : Core) (img : List Byte) (setBoot : Bool) : Core :=
  ({ c with loader := { c.loader with image := img, setBoot := setBoot, source := 1 - c.get F.PT_BOOT_BANK 0 }, patFlash := Tab.set [] c.patFlash (1 - c.get F.PT_BOOT_BANK 0) [] } : Core).loaderStart 5 5
/-- LOAD_FLASH takes a bank (R51). -/
def Core.flashes (c : Core) (bank : Nat) : Core := { c with loader := { c.loader with source := bank } }.loaderStart 7 2
/-- A re-lace takes the staged image, its target and the active image (R54). -/
def Core.relaces (c : Core) (new old : List Byte) (isl : Nat) : Core :=
  { c with loader := { c.loader with relace := true, handover := c.byHandover isl, target := isl, image := new, newPat := patternOf new, oldImage := old, oldPat := c.pat, handedOver := false, moved := [], ready := false, aborted := false } }.loaderStart 4 4

section
variable {c : Core} {ram : Ram} {isl : Nat} (bank : Nat) (setBoot : Bool)

theorem Core.ptCommand_stageOpen (free : c.ptRefusal ram 1 isl = 0) : c.ptCommand ram 1 bank isl setBoot = ({ c with loader := { c.loader with digests := [] } }.setBit F.PT_STAT_VERIFIED 0 false).loaderEnd 0 0xFFFF 1 :=
  (if_neg (by decide)).trans (if_neg (not_not_intro free))
theorem Core.ptCommand_verify (free : c.ptRefusal ram 2 isl = 0) : c.ptCommand ram 2 bank isl setBoot = c.loaderStart 2 2 := (if_neg (by decide)).trans (if_neg (not_not_intro free))
theorem Core.ptCommand_activate (free : c.ptRefusal ram 3 isl = 0) : c.ptCommand ram 3 bank isl setBoot = (c.activates (bankImage ram 14)).fullLoadStart.judge := (if_neg (by decide)).trans (if_neg (not_not_intro free))
theorem Core.ptCommand_relace (free : c.ptRefusal ram 4 isl = 0) :
    c.ptCommand ram 4 bank isl setBoot = (if c.byHandover isl then c.relaces (bankImage ram 14) (bankImage ram 15) isl else (c.relaces (bankImage ram 14) (bankImage ram 15) isl).islandReset isl).judge :=
  (if_neg (by decide)).trans (if_neg (not_not_intro free))
theorem Core.ptCommand_commit (free : c.ptRefusal ram 5 isl = 0) : c.ptCommand ram 5 bank isl setBoot = c.commits (bankImage ram 14) setBoot := (if_neg (by decide)).trans (if_neg (not_not_intro free))
theorem Core.ptCommand_stageClose (free : c.ptRefusal ram 6 isl = 0) : c.ptCommand ram 6 bank isl setBoot = c.loaderEnd 0 0xFFFF 0 := (if_neg (by decide)).trans (if_neg (not_not_intro free))
theorem Core.ptCommand_loadFlash (free : c.ptRefusal ram 7 isl = 0) : c.ptCommand ram 7 bank isl setBoot = (c.flashes bank).fullLoadStart.judge := (if_neg (by decide)).trans (if_neg (not_not_intro free))

end

/-- PT_STAT has one entry once a command has started. -/
theorem Core.ptStat_relaces (c : Core) (new old : List Byte) (isl : Nat) : ∀ e ∈ (c.relaces new old isl).regs, e.1 = R.PT_STAT.key 0 → e.2 = (c.relaces new old isl).reg R.PT_STAT 0 := Core.entries_setReg _ R.PT_STAT 0 _
/-- A re-lace keeps PHASE and the loader's state as it starts, and without HANDOVER its target is in reset. -/
theorem Core.loadsAs_relace (c : Core) (new old : List Byte) {isl : Nat} (scope : isl < 0x20) : (c.relaces new old isl).LoadsAs (if c.byHandover isl then c.relaces new old isl else (c.relaces new old isl).islandReset isl).judge := by
  refine Core.LoadsAs.judge ?_
  split
  · exact .refl _
  · exact Core.loadsAs_islandReset scope (c.ptStat_relaces new old isl)
theorem Core.islState_judge (c : Core) (isl : Nat) : c.judge.islState isl = c.islState isl := by
  obtain ⟨⟨_, _, _, _, frame⟩, -⟩ := c.judge_frame
  rw [frame]
  rfl

/-! ### What a command takes (R49–R55) -/

section
variable {c : Core} {ram : Ram} {isl : Nat} (bank : Nat) (setBoot : Bool)

theorem Core.stageOpen_takes (unpended : c.twin.coldPend = false) (free : c.ptRefusal ram 1 isl = 0) :
    let d := c.ptCommand ram 1 bank isl setBoot
    d.get F.PT_STAT_PHASE 0 = 1 ∧ d.bit F.PT_STAT_VERIFIED 0 = false ∧ d.loader.digests = [] := by
  dsimp only
  rw [Core.ptCommand_stageOpen bank setBoot free]
  have opened : ({ c with loader := { c.loader with digests := [] } }.setBit F.PT_STAT_VERIFIED 0 false).twin.coldPend = false := unpended
  refine ⟨Core.phase_loaderEnd opened 0 0xFFFF (by decide), Core.unverified_loaderEnd opened ?_ 0 0xFFFF 1, ?_⟩
  · exact congrArg (· == 1) (Core.get_set _ F.PT_STAT_VERIFIED 0 0 (by decide))
  · rw [Core.loader_loaderEnd opened]
    rfl
theorem Core.verify_takes (free : c.ptRefusal ram 2 isl = 0) :
    let d := c.ptCommand ram 2 bank isl setBoot
    d.get F.PT_STAT_PHASE 0 = 2 ∧ d.loader.cmd = 2 := by
  dsimp only
  rw [Core.ptCommand_verify bank setBoot free]
  exact ⟨c.phase_loaderStart 2 (by decide), rfl⟩
theorem Core.activate_takes (free : c.ptRefusal ram 3 isl = 0) :
    let d := c.ptCommand ram 3 bank isl setBoot
    d.get F.PT_STAT_PHASE 0 = 4 ∧ d.loader.cmd = 3 ∧ d.loader.image = bankImage ram 14 := by
  dsimp only
  rw [Core.ptCommand_activate bank setBoot free]
  have loads := (Core.LoadsAs.refl (c.activates (bankImage ram 14))).fullLoadStart.judge
  rw [loads.loader, loads.phase]
  exact ⟨Core.phase_loaderStart _ 3 (by decide), rfl, rfl⟩
theorem Core.relace_takes (free : c.ptRefusal ram 4 isl = 0) :
    let d := c.ptCommand ram 4 bank isl setBoot
    d.get F.PT_STAT_PHASE 0 = 4 ∧ d.loader.relace = true ∧ d.loader.target = isl ∧ d.loader.image = bankImage ram 14 ∧ (c.byHandover isl = false → d.islState isl = 3) := by
  dsimp only
  rw [Core.ptCommand_relace bank setBoot free]
  have scope := Core.scope_of_ptRefusal free
  have loads := c.loadsAs_relace (bankImage ram 14) (bankImage ram 15) scope
  rw [loads.loader, loads.phase, Core.islState_judge]
  refine ⟨Core.phase_loaderStart _ 4 (by decide), rfl, rfl, rfl, fun direct => ?_⟩
  rw [if_neg (by rw [direct]; decide)]
  exact Core.islState_islandReset _ scope
theorem Core.commit_takes (free : c.ptRefusal ram 5 isl = 0) :
    let d := c.ptCommand ram 5 bank isl setBoot
    d.get F.PT_STAT_PHASE 0 = 5 ∧ d.loader.image = bankImage ram 14 ∧ d.loader.setBoot = setBoot ∧ d.loader.source = 1 - c.get F.PT_BOOT_BANK 0 := by
  dsimp only
  rw [Core.ptCommand_commit bank setBoot free]
  exact ⟨Core.phase_loaderStart _ 5 (by decide), rfl, rfl, rfl⟩
theorem Core.stageClose_takes (unpended : c.twin.coldPend = false) (free : c.ptRefusal ram 6 isl = 0) :
    let d := c.ptCommand ram 6 bank isl setBoot
    d.get F.PT_STAT_PHASE 0 = 0 ∧ d.get F.PT_STAT_RESULT 0 = 0 := by
  dsimp only
  rw [Core.ptCommand_stageClose bank setBoot free]
  exact ⟨Core.phase_loaderEnd unpended 0 0xFFFF (by decide), Core.result_loaderEnd unpended 0xFFFF 0 (by decide)⟩
theorem Core.loadFlash_takes (free : c.ptRefusal ram 7 isl = 0) :
    let d := c.ptCommand ram 7 bank isl setBoot
    d.get F.PT_STAT_PHASE 0 = 2 ∧ d.loader.cmd = 7 ∧ d.loader.source = bank := by
  dsimp only
  rw [Core.ptCommand_loadFlash bank setBoot free]
  have loads := (Core.LoadsAs.refl (c.flashes bank)).fullLoadStart.judge
  rw [loads.loader, loads.phase]
  exact ⟨Core.phase_loaderStart _ 7 (by decide), rfl, rfl⟩

end

/-! ### A write of PT_CTRL (R48) -/

theorem sysHandlers_ptCtrl : sysHandlers.find? (fun x => x.1.id == R.PT_CTRL.id) = some (R.PT_CTRL, fun c ram _ w act =>
     let c := ((c.set F.PT_CTRL_ISLAND 0 (F.PT_CTRL_ISLAND.read w)).set F.PT_CTRL_SET_BOOT 0 (F.PT_CTRL_SET_BOOT.read w)).set F.PT_CTRL_BANK 0 (F.PT_CTRL_BANK.read w)
     c.ptCommand (c.view ram) (F.PT_CTRL_CMD.read act) (F.PT_CTRL_BANK.read w) (F.PT_CTRL_ISLAND.read w) (F.PT_CTRL_SET_BOOT.read w = 1)) := rfl
/-- A served command of PT_CTRL. -/
theorem Core.request_ptCtrl {c : Core} {p : Path} (h : Writes c p ⟨R.PT_CTRL, 0⟩) {n : Nat} (hn : n < 16) (v : Word) (ram : Ram) :
    c.request ram p (⟨R.PT_CTRL, 0⟩ : Loc).addr (some (F.PT_CTRL_CMD.write v n)) none =
      c.wrote ram p R.PT_CTRL 0 (F.PT_CTRL_CMD.write v n) (fun d => d.loaderCommand ram (d.taken p R.PT_CTRL 0 (F.PT_CTRL_CMD.write v n)) n) := by
  rw [Core.request_sysHandler h (by decide +kernel) (by decide) (by decide) (by decide) (by decide) sysHandlers_ptCtrl (by decide)]
  refine Core.wrote_congr ?_ ram
  have cmd : F.PT_CTRL_CMD.read (F.PT_CTRL_CMD.write v n &&& (R.PT_CTRL.accMask FldDesc.stored ||| R.PT_CTRL.actMask)) = n := by
    rw [Fld.read_and (by decide), Fld.read_write _ _ _ (by decide)]
    exact Nat.mod_eq_of_lt hn
  dsimp only
  rw [cmd, Core.taken, h.stores_sent (by decide) (by decide)]
  rfl
/-- A command of PT_CTRL, written by a served path. -/
theorem ptWrite_served {s : State} {p : Path} (h : Writes s.core p ⟨R.PT_CTRL, 0⟩) {n : Nat} (hn : n < 16) (f : Word → Word) : ptWrite s p n f =
    .next (s.after (s.core.wrote s.ram p R.PT_CTRL 0 (F.PT_CTRL_CMD.write (f (s.core.reg R.PT_CTRL 0)) n) (fun d => d.loaderCommand s.ram (d.taken p R.PT_CTRL 0 (F.PT_CTRL_CMD.write (f (s.core.reg R.PT_CTRL 0)) n)) n))) :=
  next_after_congr (Core.request_ptCtrl h hn _ s.ram)
theorem execRelace_served {s : State} {p : Path} (h : Writes s.core p ⟨R.PT_CTRL, 0⟩) {isl : Nat} (hisl : isl < 0x100) : execRelace s p isl =
    .next (s.after (s.core.wrote s.ram p R.PT_CTRL 0 (F.PT_CTRL_CMD.write (F.PT_CTRL_ISLAND.write (s.core.reg R.PT_CTRL 0) isl) 4) (fun d => d.loaderCommand s.ram (d.taken p R.PT_CTRL 0 (F.PT_CTRL_CMD.write (F.PT_CTRL_ISLAND.write (s.core.reg R.PT_CTRL 0) isl) 4)) 4))) := by
  rw [execRelace, inRange_of_lt _ _ hisl]
  exact ptWrite_served h (by decide) (fun w => F.PT_CTRL_ISLAND.write w isl)

/-- Settles O19: a served write reaches the loader (`ptWrite_served`), a refusal leaves what logging leaves, and a command that runs keeps its PHASE (`Core.LoadsAs`). -/
theorem loaderCommands : Obligations.LoaderCommands := by
  unfold Obligations.LoaderCommands
  refine ⟨fun s p bank setBoot isl h hisl => ?_, fun c ram cmd bank isl setBoot h1 h7 refused => ?_, fun c ram bank isl setBoot unpended => ?_⟩
  · have served (n : Nat) (hn : n < 16) (f : Word → Word) := ptWrite_served h hn f
    exact ⟨served 1 (by decide) id, served 2 (by decide) id, served 3 (by decide) id, execRelace_served h hisl,
      served 5 (by decide) (fun w => F.PT_CTRL_SET_BOOT.write w (bitOf setBoot)), served 6 (by decide) id, served 7 (by decide) (fun w => F.PT_CTRL_BANK.write w (bitOf bank))⟩
  · dsimp only
    rw [Core.ptCommand_refused h1 h7 refused]
    exact c.refused_frame (c.ptRefusal_lt ram cmd isl) _
  · refine ⟨fun free => ?_, fun free => ?_, fun free => ?_, fun free => ?_, fun free => ?_, fun free => ?_, fun free => ?_⟩
    · exact Core.stageOpen_takes bank setBoot unpended free
    · exact Core.verify_takes bank setBoot free
    · exact Core.activate_takes bank setBoot free
    · exact Core.relace_takes bank setBoot free
    · exact Core.commit_takes bank setBoot free
    · exact Core.stageClose_takes bank setBoot unpended free
    · exact Core.loadFlash_takes bank setBoot free

end Sys2Proof.Machine
end

section
/-! SUPPORT. The ends of the loader's work and the steps of a re-lace; then the statement about them. -/
namespace Sys2Proof.Machine

/-! ### The end of a check (R47, R50) -/

/-- The staged image's check ends with a code and a record. -/
def Core.verifies (c : Core) (img : List Byte) (check : Nat × Nat) : Core :=
  if check.1 = 0 then ({ c with loader := { c.loader with digests := islandDigests img } }.setBit F.PT_STAT_VERIFIED 0 true).loaderEnd 0 0xFFFF 3
  else (({ c with loader := { c.loader with digests := [] } }.setBit F.PT_STAT_VERIFIED 0 false).logRefusal check.1 check.2 noSrc).loaderEnd check.1 check.2 0
/-- The poisoned words of the staged image. -/
def stagedPoison (ram : Ram) : List Nat := ram.poison.filter (fun a => 14 * 0x400000 ≤ a && a < 14 * 0x400000 + (bankImage ram 14).length)
/-- A check that meets no poisoned word is made on the core as it is. -/
theorem stagedCheck_eq (c : Core) (bad : List Nat) (img : List Byte) :
    (if !bad.isEmpty then (0x07, 0xFFFF) else (foldN bad c Core.poisonRead).checkPattern img) = if bad = [] then c.checkPattern img else (0x07, 0xFFFF) := by
  cases bad <;> rfl
theorem execVerifyComplete_staged {s : State} (phase : s.core.get F.PT_STAT_PHASE 0 = 2) (staged : s.core.loader.cmd ≠ 7) (reads : Bool) : execVerifyComplete s reads = .next (s.after
    ((foldN (stagedPoison s.ram) s.core Core.poisonRead).verifies (bankImage s.ram 14) (if stagedPoison s.ram = [] then s.core.checkPattern (bankImage s.ram 14) else (0x07, 0xFFFF)))) := by
  rw [← stagedCheck_eq]
  exact next_after_congr ((if_neg (not_not_intro phase)).trans (if_neg staged))
theorem execVerifyComplete_flash {s : State} (phase : s.core.get F.PT_STAT_PHASE 0 = 2) (flash : s.core.loader.cmd = 7) (reads : Bool) : execVerifyComplete s reads = .next (s.after (s.core.flashVerified reads)) :=
  next_after_congr ((if_neg (not_not_intro phase)).trans (if_pos flash))

/-! ### The end of a load (R51) -/

/-- A full load that runs ends. -/
def Core.endsLoad (c : Core) (ram : Ram) : Core := if c.get F.PT_STAT_PHASE 0 = 4 && (c.loader.cmd = 3 || c.loader.cmd = 7) then (c.fullLoad ram c.loader.image true).loaderEnd 0 0xFFFF 0 else c
/-- A full load that copies its image, step by step. -/
theorem Core.fullLoad_copying (c : Core) (ram : Ram) (img : List Byte) : c.fullLoad ram img true =
    let p := patternOf img
    let built := foldN (List.range 16) ((c.store (15 * 0x400000) (img.take (totalLen img))).buildAll p) (fun c g => c.set F.SF_GRP_CAUSE g 0)
    let written := built.fieldStart.writePreloads ram p (fun _ _ => true)
    let shown := ((foldN written.usedSlots written Core.commitNow).refreshLimits.publishPattern img p).setBit F.PT_BOOT_NO_PATTERN 0 false
    let placed := (shown.log 0x0300 noSrc p.ver).placeFenced.reneed
    let claimed := if placed.isLead then placed.claim else placed
    if claimed.twin.won then claimed.leadWhenLoaded else claimed := by
  rw [Core.fullLoad, if_pos rfl]
  dsimp only
  rw [if_pos rfl]
theorem execFullLoadComplete_loading {s : State} (phase : s.core.get F.PT_STAT_PHASE 0 = 4) (cmd : s.core.loader.cmd = 3 ∨ s.core.loader.cmd = 7) (unlocked : s.core.rstLock = false) :
    execFullLoadComplete s = .next (s.after ((s.core.fullLoad s.ram s.core.loader.image true).loaderEnd 0 0xFFFF 0)) := by
  have checked : (if s.core.get F.PT_STAT_PHASE 0 = 2 && s.core.loader.cmd = 7 then s.core.flashVerified true else s.core) = s.core := if_neg (by simp [phase])
  have ends : s.core.endsLoad s.ram = (s.core.fullLoad s.ram s.core.loader.image true).loaderEnd 0 0xFFFF 0 := if_pos (by simp [phase, cmd])
  exact next_after_congr ((if_neg (by rw [unlocked]; decide)).trans ((congrArg (fun c : Core => c.endsLoad s.ram) checked).trans ends))

/-! ### The end of a COMMIT (R52) -/

theorem execCommitComplete_committing {s : State} (phase : s.core.get F.PT_STAT_PHASE 0 = 5) :
    let c := { s.core with patFlash := Tab.set [] s.core.patFlash s.core.loader.source s.core.loader.image }
    execCommitComplete s true = .next { s with core := (if s.core.loader.setBoot then c.set F.PT_BOOT_BANK 0 (1 - c.get F.PT_BOOT_BANK 0) else c).loaderEnd 0 0xFFFF 0 } ∧
      execCommitComplete s false = .next { s with core := (s.core.logRefusal 0x19 0xFFFF noSrc).loaderEnd 0x19 0xFFFF 0 } :=
  ⟨next_core_congr (if_neg (not_not_intro phase)), next_core_congr (if_neg (not_not_intro phase))⟩

/-! ### The steps of a re-lace (R54–R58, Table 2.10) -/

/-- What the handoff does where the target is not fenced, with the contexts that found no place. -/
def Core.handsOff (c : Core) (moved : Core × List Nat) : Core :=
  if c.loader.aborted = true ∨ (∃ k ∈ moved.2, (c.pat.slot k).cls = 1) then { c with loader := { c.loader with handedOver := true, aborted := true, moved := [] } }
  else
    let d := foldN moved.2 (foldN moved.2 moved.1 (fun c k => c.unplace k)) (fun d k => d.takeOff k c.loader.target)
    ({ d with loader := { d.loader with handedOver := true, moved := (c.engAt c.loader.target).ctx } }.islandReset c.loader.target).reneed.judge
theorem execRelaceHandoff_due {s : State} (relace : s.core.loader.relace = true) (unlocked : s.core.rstLock = false) (handover : s.core.loader.handover = true) (due : s.core.loader.handedOver = false) :
    execRelaceHandoff s = .next { s with core := if s.core.islState s.core.loader.target = 4 then s.core.relaceAborted else s.core.handsOff (s.core.moveOut s.core.loader.target) } := by
  refine (next_core_congr (if_neg (by simp [relace, unlocked, handover, due]))).trans (next_core_congr (if_congr Iff.rfl rfl ?_))
  refine if_congr ?_ rfl rfl
  simp only [Bool.or_eq_true, List.any_eq_true, decide_eq_true_eq]
  exact Iff.rfl

/-- The pattern's slots and the target of a re-lace as its rebuilding begins. -/
def Core.rebuildBase (c : Core) (img : List Byte) (p : Pattern) (slots : Tab SlotRecP) : Core := ({ c.rewriteTarget img c.loader.target with pat := { p with slots := slots } }.leaveReset c.loader.target).setIsl c.loader.target 0
/-- The preloads that the rebuilding of a target writes. -/
def Loader.preloads (l : Loader) (isl a : Nat) : Bool := isl = l.target && !(axAddr a && l.moved.contains ((a - 0x40100000) / 0x100))
/-- What the rebuilding does then, with the loader's state and the pattern before it. -/
def Core.rebuildRest (c : Core) (ram : Ram) (canary : Bool) (l : Loader) (old : Pattern) (img : List Byte) (p : Pattern) : Core :=
  let c := if 0x10 ≤ l.target then c.groupStart (l.target - 0x10) else c
  let ks := (c.engAt l.target).ctx
  let c := if l.target < 0x10 then foldN ks c (fun c k => ((c.set F.AX_STAT_CLASS k (c.pat.slot k).cls).set F.AX_STAT_ENGINE k l.target)) else c
  let c := c.writePreloads ram p l.preloads
  let c := if l.target < 0x10 then (foldN ks c Core.commitNow).presetChanged old ks else c
  if canary || 0x10 ≤ l.target then { c with loader := { c.loader with ready := true } }.reneed.judge
  else
    let c := if l.aborted then c else c.publishPattern img p
    (c.fence l.target).relaceAborted
/-- A rebuilt lane island. -/
theorem Core.rebuildRest_lane (c : Core) (ram : Ram) (canary : Bool) {l : Loader} (old : Pattern) (img : List Byte) (p : Pattern) (lane : 0x10 ≤ l.target) : c.rebuildRest ram canary l old img p =
    let d := (c.groupStart (l.target - 0x10)).writePreloads ram p l.preloads
    { d with loader := { d.loader with ready := true } }.reneed.judge := by
  have other : ¬l.target < 0x10 := Nat.not_lt.2 lane
  have any : (canary || Decidable.decide (0x10 ≤ l.target)) = true := by rw [decide_eq_true lane, Bool.or_true]
  rw [Core.rebuildRest, if_pos lane]
  dsimp only
  rw [if_neg other, if_neg other, if_pos any]
/-- The slots of a rebuilt stitch island, with their preloads. -/
def Core.stitched (c : Core) (ram : Ram) (l : Loader) (old p : Pattern) : Core :=
  let ks := (c.engAt l.target).ctx
  (foldN ks ((foldN ks c (fun c k => (c.set F.AX_STAT_CLASS k (c.pat.slot k).cls).set F.AX_STAT_ENGINE k l.target)).writePreloads ram p l.preloads) Core.commitNow).presetChanged old ks
theorem Core.rebuildRest_stitch (c : Core) (ram : Ram) (canary : Bool) {l : Loader} (old : Pattern) (img : List Byte) (p : Pattern) (stitch : l.target < 0x10) : c.rebuildRest ram canary l old img p =
    let d := c.stitched ram l old p
    if canary then { d with loader := { d.loader with ready := true } }.reneed.judge else ((if l.aborted then d else d.publishPattern img p).fence l.target).relaceAborted := by
  have other : ¬0x10 ≤ l.target := Nat.not_le.2 stitch
  have any : (canary || Decidable.decide (0x10 ≤ l.target)) = canary := by rw [decide_eq_false other, Bool.or_false]
  rw [Core.rebuildRest, if_neg other]
  dsimp only
  rw [if_pos stitch, if_pos stitch, any]
  rfl
/-- A rebuilding that is due (R57). -/
theorem Core.relaceRebuild_due {c : Core} (relace : c.loader.relace = true) (unlocked : c.rstLock = false) (new : c.loader.ready = false) (off : c.loader.handover = true → c.loader.handedOver = true) (ram : Ram) (canary : Bool) :
    let img := if c.loader.aborted then c.loader.oldImage else c.loader.image
    let p := if c.loader.aborted then c.loader.oldPat else c.loader.newPat
    c.relaceRebuild ram canary = (c.rebuildBase img p (c.loader.moved.foldl (fun (t : Tab SlotRecP) k => Tab.set {} t k (c.loader.oldPat.slot k)) p.slots)).rebuildRest ram canary c.loader c.pat img p := by
  have due : ¬(!c.loader.relace || c.loader.ready || (c.loader.handover && !c.loader.handedOver) || c.rstLock) = true := by
    cases h : c.loader.handover
    · simp [relace, unlocked, new]
    · simp [relace, unlocked, new, off h]
  intro img p
  have held : (c.loader.moved.map (fun k => (k, c.loader.oldPat.slot k))).foldl (fun (t : Tab SlotRecP) (e : Nat × SlotRecP) => Tab.set {} t e.1 e.2) p.slots =
      c.loader.moved.foldl (fun (t : Tab SlotRecP) k => Tab.set {} t k (c.loader.oldPat.slot k)) p.slots := List.foldl_map
  rw [← held]
  exact if_neg due

/-- What the return of the contexts ends with, with the loader's state and the pattern before it. -/
def Core.returnRest (c : Core) (l : Loader) (old : Pattern) : Core :=
  let c := if l.aborted then c else c.presetChanged old l.moved
  let c := { c with loader := { c.loader with handedOver := false, moved := [] } }.reneed
  if l.aborted then c.relaceAborted else c
theorem execRelaceReturn_due {s : State} (relace : s.core.loader.relace = true) (unlocked : s.core.rstLock = false) (off : s.core.loader.handedOver = true) (ready : s.core.loader.ready = true) :
    let l := s.core.loader
    let p := if l.aborted then l.oldPat else l.newPat
    let c := foldN l.moved { s.core with pat := p } (fun c k => c.returnCtx p l.target k)
    execRelaceReturn s = .next (s.after ((foldN l.moved (c.writePreloads s.ram p (fun isl a => isl = l.target && axAddr a && l.moved.contains ((a - 0x40100000) / 0x100))) Core.commitNow).returnRest l s.core.pat)) :=
  next_after_congr (if_neg (by simp [relace, unlocked, off, ready]))
theorem Core.returnRest_whole (c : Core) {l : Loader} (whole : l.aborted = false) (old : Pattern) :
    c.returnRest l old = { c.presetChanged old l.moved with loader := { (c.presetChanged old l.moved).loader with handedOver := false, moved := [] } }.reneed := by
  have no : ¬l.aborted = true := by rw [whole]; decide
  rw [Core.returnRest, if_neg no]
  dsimp only
  rw [if_neg no]
theorem Core.returnRest_aborted (c : Core) {l : Loader} (aborted : l.aborted = true) (old : Pattern) : c.returnRest l old = { c with loader := { c.loader with handedOver := false, moved := [] } }.reneed.relaceAborted := by
  rw [Core.returnRest, if_pos aborted]
  dsimp only
  rw [if_pos aborted]
theorem execRelaceDone_due {s : State} (relace : s.core.loader.relace = true) (unlocked : s.core.rstLock = false) (ready : s.core.loader.ready = true) (back : s.core.loader.handedOver = false) :
    let l := s.core.loader
    execRelaceDone s = .next { s with core := if l.aborted then s.core.relaceAborted else (((s.core.publishPattern l.image l.newPat).addSat F.PT_RELACE_CNT_COUNT 0 1).log 0x0301 l.target l.newPat.ver).loaderEnd 0 0xFFFF 0 } :=
  next_core_congr (if_neg (by simp [relace, unlocked, ready, back]))

/-- Settles O20: each end of loader work is its definition in the case given; a rebuilding is told by its target (`Core.rebuildRest_lane`, `Core.rebuildRest_stitch`). -/
theorem loaderWork : Obligations.LoaderWork := by
  unfold Obligations.LoaderWork
  refine ⟨fun s reads => ⟨fun phase staged => execVerifyComplete_staged phase staged reads, fun phase flash => ⟨execVerifyComplete_flash phase flash false, execVerifyComplete_flash phase flash true⟩⟩,
    fun s phase cmd unlocked => (execFullLoadComplete_loading phase cmd unlocked).trans (next_after_congr (congrArg (fun d : Core => d.loaderEnd 0 0xFFFF 0) (s.core.fullLoad_copying s.ram s.core.loader.image))), fun s phase => execCommitComplete_committing phase, fun c code record phase free hc hr hp => ?_, fun s relace unlocked => ?_⟩
  · refine ⟨Core.result_loaderEnd free record phase hc, Core.record_loaderEnd free code phase hr, Core.phase_loaderEnd free code record hp, Core.cmd_loaderEnd free code record phase, ?_⟩
    rw [Core.loader_loaderEnd free]
    exact ⟨rfl, rfl⟩
  · refine ⟨execRelaceHandoff_due relace unlocked, fun new off => ⟨fun lane canary => ?_, fun stitch => ⟨?_, ?_⟩⟩, fun off ready => ⟨fun whole => ?_, fun aborted => ?_⟩, fun ready back => ⟨fun whole => ?_, fun aborted => ?_⟩⟩
    · refine next_after_congr (congrArg (fun d : Core => d.goOn s.ram) ?_)
      exact (Core.relaceRebuild_due relace unlocked new off s.ram canary).trans (Core.rebuildRest_lane _ _ _ _ _ _ lane)
    · refine next_after_congr (congrArg (fun d : Core => d.goOn s.ram) ?_)
      exact (Core.relaceRebuild_due relace unlocked new off s.ram true).trans (Core.rebuildRest_stitch _ _ _ _ _ _ stitch)
    · refine next_after_congr (congrArg (fun d : Core => d.goOn s.ram) ?_)
      exact (Core.relaceRebuild_due relace unlocked new off s.ram false).trans (Core.rebuildRest_stitch _ _ _ _ _ _ stitch)
    · exact (execRelaceReturn_due relace unlocked off ready).trans (next_after_congr (Core.returnRest_whole _ whole s.core.pat))
    · exact (execRelaceReturn_due relace unlocked off ready).trans (next_after_congr (Core.returnRest_aborted _ aborted s.core.pat))
    · exact (execRelaceDone_due relace unlocked ready back).trans (next_core_congr (if_neg (by rw [whole]; decide)))
    · exact (execRelaceDone_due relace unlocked ready back).trans (next_core_congr (if_pos aborted))

end Sys2Proof.Machine
end

section
/-! SUPPORT. The clock of a grid as its frames start, and an engine's frame; then the statement about frames and engines. -/
namespace Sys2Proof.Machine

/-! ### What the flush of owed ring entries leaves (R276, R286) -/

/-- The role, the grids and time are as they were. -/
structure Core.KeepsGrids (c d : Core) : Prop where
  role : d.get F.TW_ROLE_ROLE 0 = c.get F.TW_ROLE_ROLE 0
  grids : d.grids = c.grids
  time : d.time = c.time

namespace Core.KeepsGrids

variable {c d e : Core}

theorem refl (c : Core) : c.KeepsGrids c := ⟨rfl, rfl, rfl⟩
theorem trans (h : c.KeepsGrids d) (k : d.KeepsGrids e) : c.KeepsGrids e := ⟨k.role.trans h.role, k.grids.trans h.grids, k.time.trans h.time⟩
theorem fold {f : Core → Nat → Core} (h : c.KeepsGrids d) (ns : List Nat) (hf : ∀ (b : Core) (n : Nat), b.KeepsGrids (f b n)) : c.KeepsGrids (foldN ns d f) :=
  foldN_keeps (fun b => c.KeepsGrids b) f ns d h fun b n hb => hb.trans (hf b n)
theorem setReg (h : c.KeepsGrids d) (r : Reg) (i : Nat) (w : Word) (hr : r.id < 512) (other : r.id ≠ R.TW_ROLE.id) : c.KeepsGrids (d.setReg r i w) :=
  h.trans ⟨Core.get_of_reg (Core.reg_setReg_of_id d w hr (by decide) other), rfl, rfl⟩
theorem set (h : c.KeepsGrids d) (f : Fld) (i v : Nat) (apart : f.apart F.TW_ROLE_ROLE = true) : c.KeepsGrids (d.set f i v) := h.trans ⟨Core.get_set_of_apart apart d i 0 v, rfl, rfl⟩
theorem setBit (h : c.KeepsGrids d) (f : Fld) (i : Nat) (b : Bool) (apart : f.apart F.TW_ROLE_ROLE = true) : c.KeepsGrids (d.setBit f i b) := h.set f i _ apart
theorem setPort (h : c.KeepsGrids d) (q : Nat) (v : Port) : c.KeepsGrids (d.setPort q v) := h.trans ⟨rfl, rfl, rfl⟩
theorem tryQuery (h : c.KeepsGrids d) (ram : Ram) : c.KeepsGrids (d.tryQuery ram) := by
  unfold Core.tryQuery
  split
  · exact h
  · split
    · exact h
    · next r _ =>
      have ended : c.KeepsGrids { d with query := none } := h.trans ⟨rfl, rfl, rfl⟩
      have shown := ((ended.setBit F.CP_Q_STAT_BUSY 0 false (by decide)).set F.CP_Q_STAT_RESULT 0 r.code (by decide)).setBit F.CP_Q_STAT_APPROX 0 r.approx (by decide)
      dsimp only
      split
      · exact (shown.setReg R.CP_Q_POS_LO 0 _ (by decide) (by decide)).setReg R.CP_Q_POS_HI 0 _ (by decide) (by decide)
      · exact shown
theorem ringPort (h : c.KeepsGrids d) (ram : Ram) (k : Nat) : c.KeepsGrids (d.ringPort ram k) := by
  unfold Core.ringPort Core.ringWrite
  dsimp only
  have stored (b : Core) (hb : c.KeepsGrids b) (a : Nat) (bs : List Byte) (v : Ring) (head fill : Nat) : c.KeepsGrids ((((b.store a bs).setRing k v).set F.CP_HEAD_HEAD k head).set F.CP_HEAD_FILL k fill) := by
    have written : c.KeepsGrids ((b.store a bs).setRing k v) := hb.trans ⟨rfl, rfl, rfl⟩
    exact (written.set F.CP_HEAD_HEAD k head (by decide)).set F.CP_HEAD_FILL k fill (by decide)
  split
  · split
    · exact (stored d h _ _ _ _ _).tryQuery ram
    · exact stored d h _ _ _ _ _
  · exact stored d h _ _ _ _ _
theorem flushOwed (h : c.KeepsGrids d) (ram : Ram) (p : Nat) : c.KeepsGrids (d.flushOwed ram p) := by
  refine h.fold _ fun b k => fold ?_ _ fun b q => (refl b).setPort q _
  split
  · exact (refl b).ringPort ram k
  · exact refl b
theorem isStandby (h : c.KeepsGrids d) : d.isStandby = c.isStandby := congrArg (· == 2) h.role
theorem frameAt (h : c.KeepsGrids d) (p : Nat) (t : Int) : d.frameAt p t = c.frameAt p t := by
  have grid : d.gridAt p = c.gridAt p := by rw [Core.gridAt, Core.gridAt, h.grids]
  rw [Core.frameAt, Core.frameAt, Core.losesSchedule, Core.losesSchedule, grid, h.time]

end Core.KeepsGrids

/-! ### What a grid's clock keeps (R276–R280) -/

/-- The registers of a grid's clock: its frame counter, debt and shift. -/
def clockRegs : List Reg := [R.BS_FCNT, R.BS_DEBT, R.BS_SHIFT]
/-- A register is none of a grid's clock. -/
def Reg.offClock (r : Reg) : Bool := decide (r.id < 512) && clockRegs.all (fun q => decide (r.id ≠ q.id))
/-- The grids and their clocks' registers are as they were. -/
structure Core.KeepsClock (c d : Core) : Prop where
  grids : d.grids = c.grids
  regs : ∀ r ∈ clockRegs, ∀ i, d.reg r i = c.reg r i

theorem clockRegs_known : ∀ r ∈ clockRegs, r.id < 512 := by decide

namespace Core.KeepsClock

variable {c d e : Core}

theorem refl (c : Core) : c.KeepsClock c := ⟨rfl, fun _ _ _ => rfl⟩
theorem trans (h : c.KeepsClock d) (k : d.KeepsClock e) : c.KeepsClock e := ⟨k.grids.trans h.grids, fun r hr i => (k.regs r hr i).trans (h.regs r hr i)⟩
theorem fold {f : Core → Nat → Core} (h : c.KeepsClock d) (ns : List Nat) (hf : ∀ (b : Core) (n : Nat), b.KeepsClock (f b n)) : c.KeepsClock (foldN ns d f) :=
  foldN_keeps (fun b => c.KeepsClock b) f ns d h fun b n hb => hb.trans (hf b n)
theorem setReg (h : c.KeepsClock d) (r : Reg) (i : Nat) (w : Word) (off : r.offClock = true) : c.KeepsClock (d.setReg r i w) := by
  simp only [Reg.offClock, Bool.and_eq_true, List.all_eq_true, decide_eq_true_eq] at off
  exact h.trans ⟨rfl, fun q hq _ => Core.reg_setReg_of_id d w off.1 (clockRegs_known q hq) (off.2 q hq)⟩
theorem set (h : c.KeepsClock d) (f : Fld) (i v : Nat) (off : f.reg.offClock = true) : c.KeepsClock (d.set f i v) := h.setReg f.reg i _ off
theorem setBit (h : c.KeepsClock d) (f : Fld) (i : Nat) (b : Bool) (off : f.reg.offClock = true) : c.KeepsClock (d.setBit f i b) := h.set f i _ off
theorem addSat (h : c.KeepsClock d) (f : Fld) (i n : Nat) (off : f.reg.offClock = true) : c.KeepsClock (d.addSat f i n) := h.set f i _ off
theorem setEng (h : c.KeepsClock d) (e : Nat) (v : Engine) : c.KeepsClock (d.setEng e v) := h.trans ⟨rfl, fun _ _ _ => rfl⟩
theorem setCross (h : c.KeepsClock d) (k : Nat) (v : Crossing) : c.KeepsClock (d.setCross k v) := h.trans ⟨rfl, fun _ _ _ => rfl⟩
theorem log (h : c.KeepsClock d) (o n s a : Nat) : c.KeepsClock (d.logFrom o n s a) := by
  obtain ⟨⟨_, _, _, _, frame⟩, regs⟩ := d.logFrom_frame o n s a
  refine h.trans ⟨by rw [frame], fun r hr i => ?_⟩
  have off : r.id ≠ R.MG_HEALTH.id ∧ r.id ≠ R.MG_LOG_DROPPED.id ∧ r.id ≠ R.EN_STRAP_STAT.id ∧ r.id ≠ R.EN_EV_DROPPED.id := by
    revert r
    decide
  exact regs r i (clockRegs_known r hr) off.1 off.2.1 off.2.2.1 off.2.2.2
theorem count (h : c.KeepsClock d) (src : Nat) (f : Fld) (i n : Nat) (off : f.reg.offClock = true) : c.KeepsClock (d.count src f i n) := by
  unfold Core.count
  dsimp only
  split
  · exact h.addSat f i n off
  · exact (h.setCross _ _).addSat f i _ off
theorem flag (h : c.KeepsClock d) (src : Nat) (f : Fld) (i : Nat) (off : f.reg.offClock = true) : c.KeepsClock (d.flag src f i) := by
  unfold Core.flag
  dsimp only
  split
  · exact h.setBit f i true off
  · split
    · exact h.setCross _ _
    · exact (h.setCross _ _).setBit f i true off
theorem changeOp (h : c.KeepsClock d) (e op : Nat) : c.KeepsClock (d.changeOp e op) := by
  have ordered := (h.set F.BS_ENG_STAT_OP_SET e op (by decide)).setBit F.ST_CLK_CHANGING e (op ≠ d.get F.ST_CLK_OP e) (by decide)
  unfold Core.changeOp
  dsimp only
  split
  · exact ordered.set F.ST_CLK_OP e op (by decide)
  · exact ordered
theorem orderOp (h : c.KeepsClock d) (e op : Nat) : c.KeepsClock (d.orderOp e op) := by
  have next := h.setEng e { d.engAt e with opNext := op }
  unfold Core.orderOp
  dsimp only
  split
  · exact next.changeOp e op
  · split
    · split
      · exact next.changeOp e op
      · exact next
    · exact next.set F.BS_ENG_STAT_OP_SET e op (by decide)
theorem reneed (h : c.KeepsClock d) : c.KeepsClock d.reneed := by
  refine h.fold _ fun b e => ?_
  have ordered (n : Nat) : b.KeepsClock (if !(b.set F.BS_ENG_NEED_NEED e n).engRuns e then b.set F.BS_ENG_NEED_NEED e n else (b.set F.BS_ENG_NEED_NEED e n).orderOp e ((b.set F.BS_ENG_NEED_NEED e n).opFor e n)) := by
    have needed := (refl b).set F.BS_ENG_NEED_NEED e n (by decide)
    split
    · exact needed
    · exact needed.orderOp e _
  exact ordered _
theorem reorder (h : c.KeepsClock d) (es : List Nat) : c.KeepsClock (d.reorder es) := by
  refine h.fold _ fun b e => ?_
  split
  · exact refl b
  · exact (refl b).orderOp e _
theorem gridAt (h : c.KeepsClock d) (p : Nat) : d.gridAt p = c.gridAt p := by rw [Core.gridAt, Core.gridAt, h.grids]

end Core.KeepsClock

/-! ### Late frames and lost schedules (R276, R279) -/

/-- The counters and marks of a late frame. -/
def Core.countsLate (c : Core) (p : Nat) (planned t : Int) : Core :=
  let ext := (t - planned).toNat
  let c := c.count 0x22 F.BS_LATE_CNT_COUNT p 1
  let c := if (c.reg R.BS_OVR_MAX p).toNat < ext then c.setReg R.BS_OVR_MAX p (BitVec.ofNat 32 ext) else c
  let missed := (c.gridEngines p).filter (fun e => c.engRuns e && (!(c.engAt e).done || Decidable.decide (planned - 1000 < (c.engAt e).doneAt)))
  foldN missed c (fun c e => foldN (c.engAt e).ctx (c.count e F.BS_ENG_OVR_COUNT e 1) (fun c k => if c.slotSto k then c else c.setBit F.AX_STAT_LATE k true))
theorem Core.keepsClock_countsLate (c : Core) (p : Nat) (planned t : Int) : c.KeepsClock (c.countsLate p planned t) := by
  have counted := (Core.KeepsClock.refl c).count 0x22 F.BS_LATE_CNT_COUNT p 1 (by decide)
  refine Core.KeepsClock.fold ?_ _ fun b e => Core.KeepsClock.fold ((Core.KeepsClock.refl b).count e F.BS_ENG_OVR_COUNT e 1 (by decide)) _ fun b k => ?_
  · split
    · exact counted.setReg R.BS_OVR_MAX p _ (by decide)
    · exact counted
  · split
    · exact .refl b
    · exact (Core.KeepsClock.refl b).setBit F.AX_STAT_LATE k true (by decide)
theorem Core.markLate_eq (c : Core) (p : Nat) (planned t : Int) : c.markLate p planned t =
    let d := c.countsLate p planned t
    if (d.gridAt p).lateAt.any (fun t0 => Decidable.decide (t - t0 < 1000000000)) then d else (d.setGrid p { d.gridAt p with lateAt := some t }).logFrom 0x26 0x0200 p (t - planned).toNat := rfl
/-- A grid runs, and its clock's registers are as they were. -/
structure Core.StaysOpen (p : Nat) (c d : Core) : Prop where
  running : (d.gridAt p).running = (c.gridAt p).running
  regs : ∀ r ∈ clockRegs, ∀ i, d.reg r i = c.reg r i
theorem Core.KeepsClock.staysOpen {c d : Core} (h : c.KeepsClock d) (p : Nat) : Core.StaysOpen p c d := ⟨by rw [h.gridAt p], h.regs⟩
theorem Core.StaysOpen.trans {p : Nat} {c d e : Core} (h : Core.StaysOpen p c d) (k : Core.StaysOpen p d e) : Core.StaysOpen p c e := ⟨k.running.trans h.running, fun r hr i => (k.regs r hr i).trans (h.regs r hr i)⟩
theorem Core.staysOpen_markLate (c : Core) (p : Nat) (planned t : Int) : Core.StaysOpen p c (c.markLate p planned t) := by
  have counted := (c.keepsClock_countsLate p planned t).staysOpen p
  rw [Core.markLate_eq]
  dsimp only
  split
  · exact counted
  · generalize c.countsLate p planned t = d at counted ⊢
    have marked : Core.StaysOpen p d (d.setGrid p { d.gridAt p with lateAt := some t }) := ⟨by rw [Core.gridAt_setGrid], fun _ _ _ => rfl⟩
    exact counted.trans (marked.trans (((Core.KeepsClock.refl _).log 0x26 0x0200 p (t - planned).toNat).staysOpen p))

/-- What a lost schedule counts, before its shift. -/
def Core.countsLost (c : Core) (p : Nat) : Core := (c.count 0x22 F.BS_LOST_CNT_COUNT p 1).flag 0x22 F.BS_STAT_SCHED_LOST 0
theorem Core.keepsClock_countsLost (c : Core) (p : Nat) : c.KeepsClock (c.countsLost p) := ((Core.KeepsClock.refl c).count 0x22 F.BS_LOST_CNT_COUNT p 1 (by decide)).flag 0x22 F.BS_STAT_SCHED_LOST 0 (by decide)
/-- What a lost schedule does once its shift is shown: it is logged, and the engines are forced up. -/
def Core.forcesUp (c : Core) (p : Nat) : Core :=
  let c := c.logFrom 0x26 0x0201 p 0
  let es := (c.gridEngines p).filter (fun e => c.engRuns e)
  let c := if es.any (fun e => c.get F.ST_CLK_OP e = 7) then c.set F.BS_STAT_LEVEL 0 (Min.min 6 (c.get F.BS_STAT_LEVEL 0 + 1)) else c
  let c := foldN (es.filter (fun e => c.get F.ST_CLK_OP e < 7)) c (fun c e =>
    (c.setEng e { c.engAt e with forced := c.get F.BS_CFG_HOLD 0, forcedOp := c.get F.ST_CLK_OP e + 1 }).setBit F.BS_ENG_STAT_FORCED e true)
  c.reneed
theorem Core.keepsClock_forcesUp (c : Core) (p : Nat) : c.KeepsClock (c.forcesUp p) := by
  have logged := (Core.KeepsClock.refl c).log 0x26 0x0201 p 0
  refine Core.KeepsClock.reneed (Core.KeepsClock.fold ?_ _ fun b e => ((Core.KeepsClock.refl b).setEng e _).setBit F.BS_ENG_STAT_FORCED e true (by decide))
  split
  · exact logged.set F.BS_STAT_LEVEL 0 _ (by decide)
  · exact logged
theorem Core.scheduleLost_eq (c : Core) (p : Nat) (t : Int) : c.scheduleLost p t = ((c.countsLost p).setReg R.BS_SHIFT p (BitVec.ofInt 32 (t.fmod (periodNs p)))).forcesUp p := rfl
/-- A lost schedule shows its shift. -/
theorem Core.shift_scheduleLost (c : Core) (p : Nat) (t : Int) : (c.scheduleLost p t).reg R.BS_SHIFT p = BitVec.ofInt 32 (t.fmod (periodNs p)) := by
  rw [Core.scheduleLost_eq]
  exact ((Core.keepsClock_forcesUp _ p).regs R.BS_SHIFT (by decide) p).trans (Core.reg_setReg_self ..)
theorem Core.fcnt_scheduleLost (c : Core) (p : Nat) (t : Int) : (c.scheduleLost p t).reg R.BS_FCNT p = c.reg R.BS_FCNT p := by
  rw [Core.scheduleLost_eq]
  exact ((Core.keepsClock_forcesUp _ p).regs R.BS_FCNT (by decide) p).trans ((Core.reg_setReg_of_id _ _ (by decide) (by decide) (by decide)).trans ((c.keepsClock_countsLost p).regs R.BS_FCNT (by decide) p))
theorem Core.gridAt_scheduleLost (c : Core) (p : Nat) (t : Int) : (c.scheduleLost p t).gridAt p = c.gridAt p := by
  rw [Core.scheduleLost_eq]
  exact ((Core.keepsClock_forcesUp _ p).gridAt p).trans ((c.keepsClock_countsLost p).gridAt p)

/-! ### The grid's advance (R276–R280, R291) -/

/-- The frame counter counts, from 0 at the first frame after a reset. -/
def Core.counts (c : Core) (p : Nat) : Core :=
  let first := !(c.gridAt p).running && c.reg R.BS_FCNT p = 0 && c.get F.BS_FEPOCH_WRAPS p = 0
  let f := if first then 0 else c.reg R.BS_FCNT p + 1
  if f = 0 && !first then (c.setReg R.BS_FCNT p f).addWrap F.BS_FEPOCH_WRAPS p 1 else c.setReg R.BS_FCNT p f
/-- A grid opens its first frame. -/
def Core.opensFirst (c : Core) (p : Nat) (g : Grid) (t : Int) : Core :=
  let c := (c.setReg R.BS_SHIFT p 0).setReg R.BS_DEBT p 0
  c.setGrid p { g with running := true, start := t, nominal := t, len := periodNs p, prevPlan := periodNs p, prevLen := periodNs p, level := c.get F.BS_STAT_LEVEL 0 }
/-- A late frame, and a lost schedule, before the grid's plan. -/
def Core.judgesLate (c : Core) (p : Nat) (g : Grid) (t : Int) (lost : Bool) : Core :=
  let planned := g.start + g.len.ceil
  let c := if planned < t then c.markLate p planned t else c
  if lost then c.scheduleLost p t else c
/-- A grid's plan for its next frame. -/
def Core.plans (c : Core) (p : Nat) (g : Grid) (t : Int) (lost : Bool) (debt : Nat) : Core :=
  let c := c.setReg R.BS_DEBT p (BitVec.ofNat 32 debt)
  (c.setGrid p { c.gridAt p with start := t, nominal := (if lost then t else g.nominal + periodNs p), len := frameLength (periodNs p) debt, prevPlan := g.len, prevLen := (t - g.start).toNat, level := c.get F.BS_STAT_LEVEL 0 }).reorder (c.gridEngines p)
/-- The debt of a frame that starts at `t`. -/
def Grid.debtAt (g : Grid) (p : Nat) (t : Int) (lost : Bool) : Nat := if lost then 0 else (t - (g.nominal + periodNs p)).toNat
theorem Core.gridAdvance_eq (c : Core) (p : Nat) (due : Int) : c.gridAdvance p due =
    if !(c.gridAt p).running then (c.counts p).opensFirst p (c.gridAt p) (c.frameAt p due)
    else ((c.counts p).judgesLate p (c.gridAt p) (c.frameAt p due) (c.losesSchedule p due)).plans p (c.gridAt p) (c.frameAt p due) (c.losesSchedule p due) ((c.gridAt p).debtAt p (c.frameAt p due) (c.losesSchedule p due)) := rfl

theorem Core.gridAt_counts (c : Core) (p : Nat) : (c.counts p).gridAt p = c.gridAt p := by
  have counted (f : Word) (wraps : Bool) : (if wraps then (c.setReg R.BS_FCNT p f).addWrap F.BS_FEPOCH_WRAPS p 1 else c.setReg R.BS_FCNT p f).gridAt p = c.gridAt p := by cases wraps <;> rfl
  exact counted _ _
theorem Core.fcnt_counts {c : Core} {p : Nat} (running : (c.gridAt p).running = true) : (c.counts p).reg R.BS_FCNT p = c.reg R.BS_FCNT p + 1 := by
  unfold Core.counts
  simp only [running, Bool.not_true, Bool.false_and, Bool.false_eq_true, if_false]
  split
  · exact (Core.reg_setReg_of_id _ _ (by decide) (by decide) (by decide)).trans (Core.reg_setReg_self ..)
  · exact Core.reg_setReg_self ..
theorem Core.staysOpen_late (c : Core) (p : Nat) (g : Grid) (t : Int) : Core.StaysOpen p c (if g.start + g.len.ceil < t then c.markLate p (g.start + g.len.ceil) t else c) := by
  split
  · exact c.staysOpen_markLate p _ t
  · exact ⟨rfl, fun _ _ _ => rfl⟩
/-- Lateness keeps that the grid runs, and its frame counter; a lost schedule shows its shift. -/
theorem Core.judgesLate_spec (c : Core) (p : Nat) (g : Grid) (t : Int) (lost : Bool) :
    ((c.judgesLate p g t lost).gridAt p).running = (c.gridAt p).running ∧ (c.judgesLate p g t lost).reg R.BS_FCNT p = c.reg R.BS_FCNT p ∧
      (lost = true → (c.judgesLate p g t lost).reg R.BS_SHIFT p = BitVec.ofInt 32 (t.fmod (periodNs p))) := by
  have late := c.staysOpen_late p g t
  unfold Core.judgesLate
  dsimp only
  generalize (if g.start + g.len.ceil < t then c.markLate p (g.start + g.len.ceil) t else c) = d at late ⊢
  cases lost
  · exact ⟨late.running, late.regs R.BS_FCNT (by decide) p, fun h => absurd h Bool.false_ne_true⟩
  · exact ⟨(congrArg Grid.running (d.gridAt_scheduleLost p t)).trans late.running, (d.fcnt_scheduleLost p t).trans (late.regs R.BS_FCNT (by decide) p), fun _ => d.shift_scheduleLost p t⟩
/-- The plan of a grid's next frame. -/
theorem Core.plans_spec (c : Core) (p : Nat) (g : Grid) (t : Int) (lost : Bool) (debt : Nat) :
    let d := c.plans p g t lost debt
    (d.gridAt p).running = (c.gridAt p).running ∧ (d.gridAt p).start = t ∧ (d.gridAt p).nominal = (if lost then t else g.nominal + periodNs p) ∧ (d.gridAt p).len = frameLength (periodNs p) debt ∧
      d.reg R.BS_FCNT p = c.reg R.BS_FCNT p ∧ d.reg R.BS_DEBT p = BitVec.ofNat 32 debt ∧ d.reg R.BS_SHIFT p = c.reg R.BS_SHIFT p := by
  intro d
  let owed := c.setReg R.BS_DEBT p (BitVec.ofNat 32 debt)
  let plan : Grid := { owed.gridAt p with start := t, nominal := (if lost then t else g.nominal + periodNs p), len := frameLength (periodNs p) debt, prevPlan := g.len, prevLen := (t - g.start).toNat, level := owed.get F.BS_STAT_LEVEL 0 }
  have kept : (owed.setGrid p plan).KeepsClock d := (Core.KeepsClock.refl _).reorder _
  have grid : d.gridAt p = plan := (kept.gridAt p).trans (Core.gridAt_setGrid ..)
  rw [grid]
  refine ⟨rfl, rfl, rfl, rfl, (kept.regs R.BS_FCNT (by decide) p).trans ?_, (kept.regs R.BS_DEBT (by decide) p).trans ?_, (kept.regs R.BS_SHIFT (by decide) p).trans ?_⟩
  · exact Core.reg_setReg_of_id c _ (by decide) (by decide) (by decide)
  · exact Core.reg_setReg_self ..
  · exact Core.reg_setReg_of_id c _ (by decide) (by decide) (by decide)

section
variable {c : Core} {p : Nat} {t : Int}

theorem Core.gridAdvance_idle (idle : (c.gridAt p).running = false) : c.gridAdvance p t = (c.counts p).opensFirst p (c.gridAt p) t := by
  have keeps : c.frameAt p t = t := if_neg (by simp [Core.losesSchedule, idle])
  rw [Core.gridAdvance_eq, if_pos (by rw [idle]; rfl), keeps]
theorem Core.gridAdvance_running (running : (c.gridAt p).running = true) : c.gridAdvance p t =
    ((c.counts p).judgesLate p (c.gridAt p) (c.frameAt p t) (c.losesSchedule p t)).plans p (c.gridAt p) (c.frameAt p t) (c.losesSchedule p t) ((c.gridAt p).debtAt p (c.frameAt p t) (c.losesSchedule p t)) := by
  rw [Core.gridAdvance_eq, if_neg (by rw [running]; decide)]
/-- A running grid's next frame (R276–R279). -/
theorem Core.gridAdvance_spec (running : (c.gridAt p).running = true) {lost : Bool} (schedule : c.losesSchedule p t = lost) :
    let d := c.gridAdvance p t
    let debt := (c.gridAt p).debtAt p (c.frameAt p t) lost
    (d.gridAt p).running = true ∧ (d.gridAt p).start = c.frameAt p t ∧ (d.gridAt p).nominal = (if lost then c.frameAt p t else (c.gridAt p).nominal + periodNs p) ∧ (d.gridAt p).len = frameLength (periodNs p) debt ∧
      d.reg R.BS_FCNT p = c.reg R.BS_FCNT p + 1 ∧ d.reg R.BS_DEBT p = BitVec.ofNat 32 debt ∧ (lost = true → d.reg R.BS_SHIFT p = BitVec.ofInt 32 ((c.frameAt p t).fmod (periodNs p))) := by
  dsimp only
  rw [Core.gridAdvance_running running, schedule]
  obtain ⟨kept, counted, shift⟩ := (c.counts p).judgesLate_spec p (c.gridAt p) (c.frameAt p t) lost
  generalize (c.counts p).judgesLate p (c.gridAt p) (c.frameAt p t) lost = e at kept counted shift ⊢
  obtain ⟨runs, start, nominal, len, fcnt, debt, shifted⟩ := e.plans_spec p (c.gridAt p) (c.frameAt p t) lost ((c.gridAt p).debtAt p (c.frameAt p t) lost)
  exact ⟨runs.trans (kept.trans ((congrArg Grid.running (c.gridAt_counts p)).trans running)), start, nominal, len, fcnt.trans (counted.trans (Core.fcnt_counts running)), debt, fun h => shifted.trans (shift h)⟩
theorem Core.gridAdvance_first (idle : (c.gridAt p).running = false) :
    let d := c.gridAdvance p t
    (d.gridAt p).running = true ∧ (d.gridAt p).start = t ∧ (d.gridAt p).nominal = t ∧ d.reg R.BS_DEBT p = 0 ∧ d.reg R.BS_SHIFT p = 0 := by
  dsimp only
  rw [Core.gridAdvance_idle idle, Core.opensFirst]
  rw [Core.gridAt_setGrid]
  refine ⟨rfl, rfl, rfl, ?_, ?_⟩
  · exact Core.reg_setReg_self ((c.counts p).setReg R.BS_SHIFT p 0) R.BS_DEBT p 0
  · exact (Core.reg_setReg_of_id ((c.counts p).setReg R.BS_SHIFT p 0) (r := R.BS_DEBT) (q := R.BS_SHIFT) (i := p) (j := p) 0 (by decide) (by decide) (by decide)).trans ((c.counts p).reg_setReg_self R.BS_SHIFT p 0)

end

theorem periodNs_pos (p : Nat) : 0 < periodNs p := by unfold periodNs; split <;> decide
/-- A frame without debt has the whole period. -/
theorem frameLength_zero {n : Nat} (hn : 0 < n) : frameLength n 0 = n := by
  rw [frameLength, if_pos (by omega)]
  simp
/-- A start more than four periods late loses the schedule (R279). -/
theorem Core.losesSchedule_late {c : Core} {p : Nat} {t : Int} (running : (c.gridAt p).running = true) (late : (c.gridAt p).nominal + periodNs p + 4 * periodNs p < t) : c.losesSchedule p t = true := by
  simp only [Core.losesSchedule, running, Bool.true_and, decide_eq_true_eq]
  omega
theorem Core.losesSchedule_near {c : Core} {p : Nat} {t : Int} (near : t ≤ (c.gridAt p).nominal + periodNs p + 4 * periodNs p) : c.losesSchedule p t = false := by
  simp only [Core.losesSchedule, Bool.and_eq_false_iff, decide_eq_false_iff_not]
  exact .inr (by omega)

/-! ### A frame's start (Table 1.5) -/

/-- The steps of a frame start, once what the frame before owed is written, with the stamp of the frame that opens. -/
def Core.framesAt (c : Core) (ram : Ram) (p : Nat) (xs : List LaneInput) (due t : Int) : Core :=
  let c := if c.isStandby then c else c.gridAdvance p due
  let c := c.setGrid p { c.gridAt p with stampT := t, stampNet := t + c.time.stepSum, stampEpoch := c.get F.NT_STAT_EPOCH 0 }
  let g := c.gridAt p
  let all := (List.range 96).filter (fun l => (c.gridGroups p).contains (laneGroup l))
  let d := foldN all c (fun c l => c.laneRearm l)
  let words := (xs.filter (fun x => (c.gridGroups p).contains (laneGroup x.lane))).map d.laneWords
  let d := words.foldl (fun c x => match c.laneSlot x.lane with | some k => c.sendWords (0x10 + laneGroup x.lane) (c.hostEngine k) [x.u ++ x.v, x.w ++ x.dc] | none => c) d
  let ran (l : Nat) := periodLens (d.pat.group (laneGroup l)).pwmDiv (periodNs p) g.prevPlan g.prevLen
  let d := words.foldl (fun c x => c.laneSample (ran x.lane).1 (ran x.lane).2 x) d
  let d := (foldN (all.filter (fun l => isSLane l && l % 4 = 0)) d (fun c l => c.spillHolds l (ran l).1)).samplePorts ram p t
  let ks := d.gridSlots p
  let d := foldN ks d (fun c k => ((c.latchParams k).applyCommit k).trackActual k t)
  let d := foldN (c.gridGroups p) d (fun c q => c.groupFrame q t)
  let d := foldN ks d (fun c k => ((c.estFrame k (periodNs p / 2)).refreshHold k t).trackActual k t)
  let d := foldN ks (foldN (c.gridLanes p) d (fun c l => ((c.laneMiss l).loadDuties l).placeEdges l g.len)) Core.snapshot
  let d := foldN (d.gridEngines p) d (fun c e => (c.sendPulse 0x26 e 0).setEng e { c.engAt e with done := false })
  ((d.canCyclic p).frameRecords p).tryQuery ram
theorem Core.frameStart_eq (c : Core) (ram : Ram) (p : Nat) (xs : List LaneInput) (due : Int) :
    c.frameStart ram p xs due = (c.flushOwed ram p).framesAt ram p xs due (if c.isStandby then due else c.frameAt p due) := by
  have kept := (Core.KeepsGrids.refl c).flushOwed ram p
  rw [← kept.isStandby, ← kept.frameAt p due]
  rfl
theorem execFrameStart_opens {s : State} {p : Nat} (hp : p < 6) (used : s.core.gridUsed p = true) (time : s.core.runs 0x22 = true) (sched : s.core.runs 0x26 = true ∨ s.core.islState 0x26 = 5) (valid : s.core.pat.valid = true)
    (follows : s.core.isStandby = false ∨ (s.core.gridAt p).running = true) (opens : s.core.mayOpen p s.core.profNs = true) (xs : List LaneInput) :
    execFrameStart s p xs = .next (s.after (s.core.frameStart s.ram p xs (s.core.openAt p))) := by
  have runs : s.core.framesRun = true := by
    rcases sched with h | h <;> simp [Core.framesRun, time, h]
  refine (inRange_of_lt _ _ hp).trans (next_after_congr (if_neg ?_))
  rcases follows with h | h <;> simp [used, runs, valid, opens, h]
theorem execFrameStart_stays {s : State} {p : Nat} (hp : p < 6) (stays : s.core.gridUsed p = false ∨ s.core.mayOpen p s.core.profNs = false) (xs : List LaneInput) : execFrameStart s p xs = .next (s.after s.core) := by
  refine (inRange_of_lt _ _ hp).trans (next_after_congr (if_pos ?_))
  rcases stays with h | h <;> simp [h]

/-! ### An engine's frame (R180, R181, R272) -/

/-- An engine may be dispatched. -/
structure Core.MayDispatch (c : Core) (e : Nat) : Prop where
  runs : c.engRuns e = true
  ready : Tab.get 0 c.woken e = 0
  opened : (c.engAt e).done = false
  fresh : ∀ k ∈ (c.engAt e).ctx, c.contextWaits k = false
/-- What a frame's contexts leave. -/
def Core.contextsRun (c : Core) (ram : Ram) (e p : Nat) : Core := (if c.dispatches then c.dispatchOrder e else []).foldl (fun c x => c.dispatch ram p x.1 x.2) c
/-- The end of an engine's frame. -/
def Core.endsFrame (c ran : Core) (e p busy : Nat) : Core :=
  let d := foldN (((if c.dispatches then c.dispatchOrder e else []).filter (fun x => c.runsNow p x.1 x.2)).map (·.2)) (ran.addSat F.ST_CHECK_PASSES e 1) (fun c k => c.setCtx k { c.ctxAt k with copyB := !(c.ctxAt k).copyB })
  let d := d.set F.BS_ENG_STAT_BUSY e (Min.min 0xFFFF (busy * 1000 / ran.engFrame e))
  (d.setEng e { d.engAt e with done := true, doneAt := d.profNs + busy }).orderLower e
/-- What follows the opening canary. -/
def Core.dispatchBody (c : Core) (ram : Ram) (e p busy : Nat) (injected : Bool) (canary : Canary) : Core :=
  if injected then (c.logFrom 0x26 0x0204 e 0).checkFail ram e p 1
  else if canary = .openFail then c.checkFail ram e p 1
  else
    let ran := c.contextsRun ram e p
    match canary with
    | .closeFail => ran.checkFail ram e p 2
    | .contextEcc => ran.checkFail ram e p 3
    | _ => c.endsFrame ran e p busy
theorem execEngineDispatch_due {s : State} {e : Nat} (he : e < 16) (due : s.core.MayDispatch e) (canary : Canary) (busy : Nat) : execEngineDispatch s e canary busy =
    .next (s.after ((s.core.setBit F.ST_CHECK_INJECT e false).dispatchBody s.ram e (s.core.get F.BS_ENG_STAT_PERIOD e) busy (s.core.bit F.ST_CHECK_INJECT e) canary)) := by
  obtain ⟨runs, ready, opened, fresh⟩ := due
  refine (inRange_of_lt _ _ he).trans (next_after_congr (if_neg ?_))
  have none : (s.core.engAt e).ctx.any s.core.contextWaits = false := List.any_eq_false.2 fun k hk => by rw [fresh k hk]; decide
  simp [runs, ready, opened, none]
theorem Core.dispatchBody_injected (c : Core) (ram : Ram) (e p busy : Nat) (canary : Canary) : c.dispatchBody ram e p busy true canary = (c.logFrom 0x26 0x0204 e 0).checkFail ram e p 1 := if_pos rfl
theorem execEngineHang_hangs {s : State} {e : Nat} (he : e < 16) (runs : s.core.engRuns e = true) (opened : (s.core.engAt e).done = false) : execEngineHang s e = .next { s with core := (s.core.setBit F.BS_ENG_STAT_HANG e true).fence e } :=
  (inRange_of_lt _ _ he).trans (next_core_congr (if_neg (by simp [runs, opened])))

/-! ### INJECT (R180) -/

theorem stCheck_handled : R.ST_CHECK.Handled (fun c _ e _ act => if acts F.ST_CHECK_INJECT act then c.inject e else c) := by
  constructor
  case handler => rfl
  all_goals decide +kernel
theorem Core.request_inject {c : Core} {p : Path} {e : Nat} (he : e < 16) (h : Writes c p ⟨R.ST_CHECK, e⟩) (ram : Ram) :
    c.request ram p (⟨R.ST_CHECK, e⟩ : Loc).addr (some (fieldWord F.ST_CHECK_INJECT 1)) none = c.wrote ram p R.ST_CHECK e (fieldWord F.ST_CHECK_INJECT 1) (fun d => d.inject e) := by
  have hstores : c.stores p R.ST_CHECK e = R.ST_CHECK.accMask FldDesc.stored := Core.stores_expert (h.expert (by decide)) (by decide)
  rw [Core.request_handled stCheck_handled he (by simp [Core.unusedSlotReg, R.ST_CHECK]) h (.inl (by rw [hstores]; decide))]
  have hact : acts F.ST_CHECK_INJECT (fieldWord F.ST_CHECK_INJECT 1 &&& (c.stores p R.ST_CHECK e ||| R.ST_CHECK.actMask)) = true := by rw [hstores]; decide
  simp only [hact, if_true]
theorem execInject_served {s : State} {p : Path} {e : Nat} (he : e < 16) (h : Writes s.core p ⟨R.ST_CHECK, e⟩) :
    execInject s p e = .next (s.after (s.core.wrote s.ram p R.ST_CHECK e (fieldWord F.ST_CHECK_INJECT 1) (fun d => d.setBit F.ST_CHECK_INJECT e true))) :=
  (inRange_of_lt _ _ he).trans (next_after_congr (Core.request_inject he h s.ram))

/-- Settles O30: a frame start is told by the core before what it flushes (`Core.frameStart_eq`), a grid's advance by its cases (`Core.gridAdvance_first`, `Core.gridAdvance_spec`), and an engine's frame by its canaries (`Core.dispatchBody`). -/
theorem framesAndEngines : Obligations.FramesAndEngines := by
  unfold Obligations.FramesAndEngines
  refine ⟨fun s p xs hp => ⟨fun used time sched valid follows opens => ?_, fun stays => execFrameStart_stays hp stays xs⟩, fun c p t hp => ⟨?_, fun idle => ?_, fun running => ?_, fun running late => ?_, fun running near => ?_⟩,
    fun s e busy path he => ⟨fun runs ready _ opened fresh => ?_, fun runs opened => execEngineHang_hangs he runs opened, fun h => execInject_served he h⟩⟩
  · exact (execFrameStart_opens hp used time sched valid follows opens xs).trans (next_after_congr (s.core.frameStart_eq s.ram p xs (s.core.openAt p)))
  · cases running : (c.gridAt p).running
    · obtain ⟨runs, -⟩ := Core.gridAdvance_first (t := t) running
      exact runs
    · obtain ⟨runs, -⟩ := Core.gridAdvance_spec (t := t) running rfl
      exact runs
  · obtain ⟨-, first⟩ := Core.gridAdvance_first (t := t) idle
    exact first
  · obtain ⟨-, -, -, -, fcnt, -⟩ := Core.gridAdvance_spec (t := t) running rfl
    exact fcnt
  · have lost := Core.losesSchedule_late running late
    have anchor : c.frameAt p t = ((t - 1000 + c.time.stepSum) / 1000 + 1) * 1000 - c.time.stepSum := if_pos lost
    obtain ⟨-, start, nominal, len, -, debt, shift⟩ := Core.gridAdvance_spec running lost
    rw [anchor] at start nominal shift
    exact ⟨start, nominal, debt, shift rfl, len.trans (frameLength_zero (periodNs_pos p))⟩
  · have kept := Core.losesSchedule_near near
    have onTime : c.frameAt p t = t := if_neg (by rw [kept]; decide)
    obtain ⟨-, start, nominal, len, -, debt, -⟩ := Core.gridAdvance_spec running kept
    rw [onTime] at start len debt
    refine ⟨start, nominal, ?_, len⟩
    rw [debt]
    exact BitVec.toNat_ofNat ..
  · have due := execEngineDispatch_due he ⟨runs, ready, opened, fresh⟩
    refine ⟨fun injected canary => (due canary busy).trans ?_, fun clean => ⟨(due _ busy).trans ?_, (due _ busy).trans ?_, (due _ busy).trans ?_, (due _ busy).trans ?_⟩⟩
    · rw [injected]
      exact next_after_congr (Core.dispatchBody_injected ..)
    all_goals
      rw [clean]
      rfl

end Sys2Proof.Machine
end
